-- ==== Sys2Proof/Word.lean ====
section
/-! DEFINITION. The plain word types of the SAE-2640 and the canonical table type every block of the part is kept in. -/

namespace Sys2Proof

/-- One byte of common memory, or the 8 data bits of one character on a reader line (R151, R202). -/
abbrev Byte := BitVec 8

/-- One 16-bit word of the host bus (R177, R202). -/
abbrev Word := BitVec 16

/-- A table keyed by number: pairs in strictly rising order of key. A key that is not listed is
vacant (a tenant entry, a credential, a unit), or stands at its power-on value (a byte of common
memory, a portal channel). -/
abbrev Table (α : Type) := List (Nat × α)

end Sys2Proof
end

