-- ==== Sys2Proof/Config.lean ====
section
/-! DEFINITION. The numbers that the SAE-2640 fixes: capacities, the memory map, register codes and the defaults of the settings. -/

namespace Sys2Proof.Config

/-- Section 4.2: the last site minute the clock can hold. -/
def lastMinute : Nat := 4294967295

/-- Section 4.2: the last day number. -/
def lastDay : Nat := 2982616

/-- Section 4.2: minutes of a day. -/
def dayMinutes : Nat := 1440

/-- Section 4.2: minutes of a week. -/
def weekMinutes : Nat := 10080

/-- R1: entries of the tenant table. -/
def tenants : Nat := 4096

/-- R3: records of the credential index. -/
def credentials : Nat := 8192

/-- R4: entries of the unit table. -/
def units : Nat := 4096

/-- R69: visits of the register. -/
def visits : Nat := 512

/-- R103: portal channels. -/
def portals : Nat := 48

/-- R134: car channels. -/
def cars : Nat := 4

/-- R148: node records. -/
def nodes : Nat := 120

/-- R183: slips of the rack. -/
def slips : Nat := 64

/-- R193: journal pages. -/
def pages : Nat := 32

/-- R46: reads the read queue holds. -/
def reads : Nat := 8

/-- R197: alarm entries the holdover holds. -/
def holdover : Nat := 8

/-- R193: entries of one journal page. -/
def pageEntries : Nat := 63

/-- R180, R183: the address of slip 0. -/
def rackBase : Nat := 0x0400

/-- R177: the address of journal page 0. -/
def pagesBase : Nat := 0x2400

/-- R177: the address of the bulk area. -/
def bulkBase : Nat := 0xA400

/-- R177: the first address above common memory. -/
def memoryEnd : Nat := 0x10000

/-- R204: the address of the first register. -/
def registerBase : Nat := 0x10000

/-- R204: the part code of block 0. -/
def partCode : Nat := 0x2640

/-- R29: seconds of the cooldown timer. -/
def cooldownSeconds : Nat := 5

/-- R29: seconds of the probe interval. -/
def probeSeconds : Nat := 2

/-- R29: seconds of the line recovery check. -/
def recoverySeconds : Nat := 2

/-- R169: periods of the 32.768 kHz crystal in the half second of the FIRE filter. -/
def holdPeriods : Nat := 16384

end Sys2Proof.Config
end

