-- ==== Sys2Proof/Syntax.lean ====
section
/-! DEFINITION. The commands of the SAE-2640: one constructor for each row of spec/opcode_table.json, in the table's order.
A command is a write of the host, a step of the slip unit, an event of the clock or of a timer, an event on the FIRE
input, or an event on a reader line. The rows of the slip kinds carry no operand of their own: their fields are the ones
that SLIP_TAKE copied from the slip rack (R186), and the command serves the slip in service from that copy.
DESIGN CHOICE (assumption 2). -/

namespace Sys2Proof

/-- The six registers of the register window (R181, R204). -/
inductive Register where
  | control
  | status
  | post
  | cause
  | clear
  | mask
  deriving DecidableEq, Repr

/-- The two registers that refuse every write (R181). -/
inductive ReadOnlyRegister where
  | status
  | cause
  deriving DecidableEq, Repr

/-- The order of two consumers of a minute event that R28 leaves unordered. DESIGN CHOICE (assumption 7). -/
inductive MinuteOrder where
  | registerFirst
  | portalsFirst
  deriving DecidableEq, Repr

/-- The order of the two blocks told of a mode change, which R174 leaves unordered. DESIGN CHOICE (assumption 7). -/
inductive ModeOrder where
  | portalsFirst
  | carsFirst
  deriving DecidableEq, Repr

/-- One character on a reader line (R151): its 8 data bits, its mark bit, and whether its stop bit stands at
mark, as it does in every character the controller sends. -/
structure LineChar where
  data   : Byte
  mark   : Bool
  stopOk : Bool
  deriving DecidableEq, Repr

/-- The commands. Portals are numbered 0..47, cars 0..3, reader lines 0..3 (section 4.3). -/
inductive Instr where
  /-- R190: power is applied. -/
  | powerOn
  /-- R190: RUN is written to CONTROL. -/
  | run
  /-- R190: HALT is written to CONTROL. -/
  | halt
  /-- R191: RESET is written to CONTROL. -/
  | reset
  /-- R181: a value other than RUN, HALT and RESET is written to CONTROL. -/
  | controlBad (value : Word)
  /-- R185: a value is written to POST. -/
  | post (value : Word)
  /-- R182: a value is written to CLEAR. -/
  | clear (bits : Word)
  /-- R181: a value is written to MASK. -/
  | mask (bits : Word)
  /-- R181: a value is written to STATUS or CAUSE. -/
  | registerReadOnly (register : ReadOnlyRegister) (value : Word)
  /-- R180: the host writes `value` to the word of common memory at byte address `2 * word`. -/
  | hostMemoryWrite (word : BitVec 15) (value : Word)
  /-- R186: the slip unit takes the head of the post queue. -/
  | slipTake
  /-- R186: the slip unit writes the answer of the served slip. -/
  | slipAnswer
  /-- R186: the taken slip's kind code names no slip kind. -/
  | badKind
  /-- R11. -/
  | tenantPut
  /-- R12, R13. -/
  | tenantDrop
  /-- R14. -/
  | credPut
  /-- R15. -/
  | credDrop
  /-- R16, R17. -/
  | grantSet
  /-- R18. -/
  | standingSet
  /-- R19, R20. -/
  | unitPut
  /-- R21. -/
  | unitDrop
  /-- R22. -/
  | tenantRead
  /-- R23. -/
  | loadTenants
  /-- R24. -/
  | loadCredentials
  /-- R23, R24: the next record of the list in service is applied or refused. -/
  | loadRecordApply
  /-- R31. -/
  | clockSet
  /-- R35. -/
  | profilePut
  /-- R36. -/
  | holidaySet
  /-- R72. -/
  | zonePut
  /-- R73. -/
  | zoneRead
  /-- R83. -/
  | visitExtend
  /-- R84. -/
  | visitEnd
  /-- R85. -/
  | visitList
  /-- R85: the next visit of the walk in service is copied. -/
  | visitImageCopy
  /-- R96. -/
  | unitClear
  /-- R105, R106. -/
  | portalPut
  /-- R108. -/
  | portalDrop
  /-- R120. -/
  | portalPulse
  /-- R123. -/
  | portalHold
  /-- R123. -/
  | portalSecure
  /-- R128. -/
  | portalReset
  /-- R135, R136. -/
  | carPut
  /-- R137. -/
  | carDrop
  /-- R147. -/
  | linePut
  /-- R149. -/
  | nodePut
  /-- R150. -/
  | nodeDrop
  /-- R172. -/
  | lockdown (order : ModeOrder)
  /-- R172. -/
  | evacuate (order : ModeOrder)
  /-- R173. -/
  | resume (order : ModeOrder)
  /-- R189. -/
  | sitePut
  /-- R200. -/
  | journalMark
  /-- R27: the clock advances by one second. -/
  | secondEvent
  /-- R28: the minute event of the new minute is delivered. -/
  | minuteEvent (order : MinuteOrder)
  /-- R113. -/
  | passageTimerExpiry (portal : Nat)
  /-- R118. -/
  | holdTimerExpiry (portal : Nat)
  /-- R125. -/
  | cooldownExpiry (portal : Nat)
  /-- R126. -/
  | probeIntervalExpiry (portal : Nat)
  /-- R139: the expiry timer of the tenant's entry in the car's release list. -/
  | releaseExpiry (car : Nat) (tenant : Nat)
  /-- R196. -/
  | flushTimerExpiry
  /-- R198: the stalled journal's re-examination at a second event. -/
  | journalRecovery
  /-- R169: the panel contact now stands closed or open. -/
  | fireInputChange (closed : Bool)
  /-- R171. -/
  | fireActive (order : ModeOrder)
  /-- R171. -/
  | fireClear
  /-- R48. -/
  | decision
  /-- R155. -/
  | poll (line : Nat)
  /-- R154. -/
  | idleCycleEnd (line : Nat)
  /-- R157: the characters that came back to the poll in progress. -/
  | reply (line : Nat) (frame : List LineChar)
  /-- R155. -/
  | replyWindowExpiry (line : Nat)
  /-- R155. -/
  | quietWaitEnd (line : Nat)
  /-- R162. -/
  | lineBreak (line : Nat)
  /-- R162. -/
  | noQuiet (line : Nat)
  /-- R163: `idle` says whether the line stands, and has stood for 2 character times, at mark. -/
  | recoveryCheckExpiry (line : Nat) (idle : Bool)
  /-- R155. -/
  | collision (line : Nat)
  /-- R155. -/
  | gapLimitExpiry (line : Nat)
  deriving DecidableEq, Repr

end Sys2Proof
end

