-- ==== Sys2Proof/Decode.lean ====
section
/-! DEFINITION. The command that a write of the host on the bus gives (R180, R181, R204), and the command that a word spells:
spec/opcode_table.json gives no row any bits, so no word spells a command. DESIGN CHOICE (assumption 36). -/

namespace Sys2Proof

/-! ## Writes on the bus (R177, R181, R204) -/

/-- R204: the number n of a register. -/
def Register.number : Register → Nat
  | .control => 0
  | .status => 1
  | .post => 2
  | .cause => 3
  | .clear => 4
  | .mask => 5

/-- R204: the registers stand at 0x10000 + 2 n. -/
def Register.address (r : Register) : Nat :=
  Config.registerBase + 2 * r.number

/-- R204: the register at an address of the bus; none where no register stands. -/
def registerAt (address : Nat) : Option Register :=
  [Register.control, .status, .post, .cause, .clear, .mask].find? (fun r => r.address == address)

/-- R190, R191, R204: the values that CONTROL acts on: RUN 1, HALT 2, RESET 3. -/
def controlCommand (value : Word) : Option Instr :=
  match value.toNat with
  | 1 => some .run
  | 2 => some .halt
  | 3 => some .reset
  | _ => none

/-- R181: the command that a write to a register is. -/
def registerCommand (value : Word) : Register → Instr
  | .control => (controlCommand value).getD (.controlBad value)
  | .status => .registerReadOnly .status value
  | .post => .post value
  | .cause => .registerReadOnly .cause value
  | .clear => .clear value
  | .mask => .mask value

/-- R177, R180, R181, R204: the command that a host write of a 16-bit word at a byte address is: a word of common memory,
below 0x10000, or a register. None where neither stands: an odd address, or one above the registers. -/
def commandOfWrite (address : Nat) (value : Word) : Option Instr :=
  if address < Config.memoryEnd then
    if address % 2 = 0 then some (.hostMemoryWrite (BitVec.ofNat 15 (address / 2)) value) else none
  else (registerAt address).map (registerCommand value)

/-! ## Words of the opcode table -/

/-- No row of the table gives bits: every word is refused. -/
def decodeTableWord (_nbits _w : Nat) : Option Instr :=
  none

end Sys2Proof
end

