-- ==== Sys2Proof/Machine/State.lean ====
section
/-! DEFINITION. The state of the SAE-2640 as plain data, block by block (section 2.1), the reasons a step can stop, and the
state right after power-on. Fields marked MODEL'S are the model's own; every other field is named by the rule cited. -/

namespace Sys2Proof.Machine

/-! ## Tenant directory (chapter 1) -/

/-- R1. -/
inductive TenantState where
  | active
  | blocked
  deriving DecidableEq, Repr

/-- R3. -/
inductive CredentialState where
  | active
  | suspended
  deriving DecidableEq, Repr

/-- R7. -/
inductive Standing where
  | current
  | grace
  | overdue
  | lockedOut
  deriving DecidableEq, Repr

/-- R3, R203: a credential key as the formats chapter lays it: the kind byte (CARD 0, PIN 1), the bit
length or digit count, and the value (a PIN one digit per 4 bits). A read may present a key that is
no key of R3. -/
structure Key where
  kind   : Nat
  length : Nat
  value  : Nat
  deriving DecidableEq, Repr

/-- R3. -/
structure Credential where
  key    : Key
  tenant : Nat
  state  : CredentialState
  expiry : Option Nat
  deriving DecidableEq, Repr

/-- R1. `transit` is the pending-passage link. `mask` has bit n for zone n. -/
structure Tenant where
  state     : TenantState
  staff     : Bool
  profile   : Nat
  paid      : Option Nat
  grants    : List Nat
  mask      : Word
  credCount : Nat
  visit     : Option Nat
  transit   : Option Nat
  deriving DecidableEq, Repr

/-! ## Unit monitor (chapter 5) -/

/-- R90. -/
inductive ArmState where
  | armed
  | disarmed
  | leftOpen
  | intrusion
  deriving DecidableEq, Repr

/-- R90, R103: a door as last reported. -/
inductive DoorState where
  | closed
  | opened
  | unknown
  deriving DecidableEq, Repr

/-- Section 4.3: a node is named by its line and address. -/
structure NodeId where
  line    : Nat
  address : Nat
  deriving DecidableEq, Repr

/-- R4: the sense input that watches a unit's door. -/
structure Contact where
  node  : NodeId
  input : Nat
  deriving DecidableEq, Repr

/-- R4 (zone, contact, grantee count) and R90 (arm state, contact state, holder count). `fresh` is the
record that R94's flag FIRST_REPORT needs: no report has reached the unit since its contact was given
or changed. -/
structure UnitRecord where
  zone     : Nat
  contact  : Option Contact
  grantees : Nat
  arm      : ArmState
  door     : DoorState
  holders  : Nat
  fresh    : Bool
  deriving DecidableEq, Repr

/-! ## Site clock and hours (chapter 2) -/

/-- R26. `minuteDue` is the minute event that a second event carries and that MINUTE_EVENT has not yet
delivered (R27, R28). DESIGN CHOICE (assumption 35). -/
structure Clock where
  second     : Nat
  minute     : Nat
  weekOffset : Nat
  isSet      : Bool
  minuteDue  : Bool
  deriving DecidableEq, Repr

/-- R34: a start mow and an end mow. -/
structure Interval where
  start  : Nat
  finish : Nat
  deriving DecidableEq, Repr

/-- R34. -/
structure Profile where
  intervals : List Interval
  honours   : Bool
  deriving DecidableEq, Repr

/-- R34: a profile after power-on. -/
def Profile.blank : Profile := { intervals := [], honours := false }

/-- R29: a block timer. `due` stands between the n-th second event and the expiry event it causes.
DESIGN CHOICE (assumption 3). -/
inductive Timer where
  | stopped
  | running (left : Nat)
  | due
  deriving DecidableEq, Repr

/-- R168, R189. -/
inductive FirePolarity where
  | normallyOpen
  | normallyClosed
  deriving DecidableEq, Repr

/-- R189: the nine site settings. -/
structure Settings where
  grace      : Nat
  overdue    : Nat
  maxVisit   : Nat
  exitGrace  : Nat
  warnLead   : Nat
  faultLimit : Nat
  flush      : Nat
  window     : Nat
  polarity   : FirePolarity
  deriving DecidableEq, Repr

/-- R189: the defaults. -/
def Settings.defaults : Settings :=
  { grace := 5, overdue := 14, maxVisit := 240, exitGrace := 15, warnLead := 10, faultLimit := 4,
    flush := 10, window := 20, polarity := .normallyOpen }

/-! ## Decision unit (chapter 3) -/

/-- R45: the reader at a node. -/
inductive Head where
  | a
  | b
  | car
  deriving DecidableEq, Repr

/-- Section 3.6, in the order of its table. -/
inductive Verdict where
  | grant
  | grantSoft
  | grantStaff
  | unknownCredential
  | credentialSuspended
  | credentialExpired
  | tenantBlocked
  | inTransit
  | evacuation
  | lockdown
  | clockUnset
  | lockedOut
  | outsideHours
  | zoneNotPermitted
  | passback
  | notOnSite
  | zoneFull
  | registerFull
  | portalFault
  | portalBusy
  | noFloors
  deriving DecidableEq, Repr

/-- R47. -/
inductive LastVerdict where
  | none
  | pending
  | given (v : Verdict)
  deriving DecidableEq, Repr

/-- R45. `orphan` is set when the read's node has left the node table since the read was queued (R49). -/
structure Read where
  node       : NodeId
  head       : Head
  key        : Key
  companions : Nat
  clamped    : Bool
  tag        : Nat
  orphan     : Bool
  deriving DecidableEq, Repr

/-! ## Visit register (chapter 4) -/

/-- R68. -/
inductive VisitState where
  | active
  | warned
  | overstay
  deriving DecidableEq, Repr

/-- R68. -/
structure Visit where
  slot        : Nat
  tenant      : Nat
  credential  : Option Key
  party       : Nat
  zone        : Nat
  entry       : Nat
  deadline    : Option Nat
  warning     : Option Nat
  standing    : Standing
  state       : VisitState
  unconfirmed : Bool
  deriving DecidableEq, Repr

/-- R71: a zone record with its person count and reservations. -/
structure Zone where
  limit    : Nat
  common   : Bool
  floor    : Option Nat
  count    : Nat
  reserved : Nat
  deriving DecidableEq, Repr

/-- R88: a zone record after power-on. -/
def Zone.blank : Zone := { limit := 250, common := false, floor := none, count := 0, reserved := 0 }

/-- R69 (visits, oldest first), R70 (creating), R71 (zones), R85 (walk: the place in the list of the
next visit that a VISIT_LIST in service copies). -/
structure Register where
  visits   : List Visit
  creating : Nat
  zones    : Table Zone
  walk     : Option Nat
  deriving DecidableEq, Repr

/-! ## Portals (chapter 6) -/

/-- R109, in the order of its table. -/
inductive PortalState where
  | unconfigured
  | waiting
  | secure
  | released
  | opened
  | held
  | forced
  | heldUnlocked
  | cooldown
  | faultDriver
  | faultOffline
  deriving DecidableEq, Repr

/-- R104. -/
inductive Passback where
  | strict
  | soft
  deriving DecidableEq, Repr

/-- R104. -/
inductive Polarity where
  | powerToLock
  | powerToRelease
  deriving DecidableEq, Repr

/-- R110. -/
inductive LockCommand where
  | locked
  | released
  deriving DecidableEq, Repr

/-- R55. -/
inductive PassageKind where
  | create
  | move
  | finish
  deriving DecidableEq, Repr

/-- R58, R103. `key` becomes absent when the key leaves the credential index (R77). -/
structure Passage where
  tenant   : Nat
  kind     : PassageKind
  party    : Nat
  target   : Nat
  soft     : Bool
  standing : Standing
  key      : Option Key
  head     : Head
  deriving DecidableEq, Repr

/-- R104. -/
structure PortalConfig where
  node     : NodeId
  outer    : Nat
  inner    : Nat
  headB    : Bool
  passback : Passback
  unlock   : Nat
  hold     : Nat
  polarity : Polarity
  egress   : Bool
  free     : Option Nat
  deriving DecidableEq, Repr

/-- R103. `probeElapsed`: the probe interval has expired and the probe waits for an OK report (R126).
`command`: the lock command last handed to the line controller (R110). -/
structure Portal where
  state        : PortalState
  config       : Option PortalConfig
  deferred     : Option PortalConfig
  passages     : List Passage
  door         : DoorState
  rex          : Option Nat
  passageTimer : Timer
  holdTimer    : Timer
  cooldown     : Timer
  probe        : Timer
  probeElapsed : Bool
  openSeconds  : Nat
  openCounting : Bool
  faults       : Nat
  probePending : Bool
  egressMemory : Bool
  hostHold     : Bool
  window       : Bool
  command      : LockCommand
  deriving DecidableEq, Repr

/-- R103: a channel in UNCONFIGURED. -/
def Portal.blank : Portal :=
  { state := .unconfigured, config := none, deferred := none, passages := [], door := .unknown,
    rex := none, passageTimer := .stopped, holdTimer := .stopped, cooldown := .stopped,
    probe := .stopped, probeElapsed := false, openSeconds := 0, openCounting := false, faults := 0,
    probePending := false, egressMemory := false, hostHold := false, window := false,
    command := .locked }

/-! ## Lift cars (chapter 7) -/

/-- R134. -/
inductive CarState where
  | inService
  | inRecall
  | offline
  | unconfigured
  deriving DecidableEq, Repr

/-- R134: sets of floors have bit n for floor n. -/
structure CarConfig where
  node       : NodeId
  served     : Word
  pub        : Word
  needsVisit : Bool
  deriving DecidableEq, Repr

/-- R134. -/
structure Release where
  tenant : Nat
  floors : Word
  timer  : Timer
  deriving DecidableEq, Repr

/-- R134. -/
structure Car where
  state      : CarState
  config     : Option CarConfig
  deferred   : Option CarConfig
  releases   : List Release
  recallDone : Bool
  deriving DecidableEq, Repr

/-- R134: a channel in UNCONFIGURED. -/
def Car.blank : Car :=
  { state := .unconfigured, config := none, deferred := none, releases := [], recallDone := false }

/-! ## Reader lines (chapter 8) -/

/-- R146. -/
inductive LineRate where
  | r19200
  | r38400
  | r57600
  | r115200
  deriving DecidableEq, Repr

/-- R146. -/
inductive LineState where
  | stopped
  | running
  | fault
  deriving DecidableEq, Repr

/-- R155: the exchange in progress. `polled`: the poll `frame` has been sent to `address` at `rate` and its
reply is not yet judged. `quietWait`: the wait after a bad reply or an abandoned exchange.
DESIGN CHOICE (assumption 13). -/
inductive Exchange where
  | idle
  | polled (address : Nat) (rate : LineRate) (frame : List LineChar)
  | quietWait
  deriving DecidableEq, Repr

/-- R146. -/
structure LineRecord where
  enabled : Bool
  rate    : LineRate
  deriving DecidableEq, Repr

/-- R146, R154. `due`: the addresses still to be polled in the cycle, in their order. -/
structure Line where
  record   : Option LineRecord
  state    : LineState
  cycle    : Nat
  check    : Timer
  exchange : Exchange
  due      : List Nat
  deriving DecidableEq, Repr

/-- R165: a line after power-on. -/
def Line.blank : Line :=
  { record := none, state := .stopped, cycle := 0, check := .stopped, exchange := .idle, due := [] }

/-- R148. -/
inductive NodeKind where
  | portal
  | car
  | unit
  deriving DecidableEq, Repr

/-- R148. -/
inductive NodeState where
  | unknown
  | online
  | offline
  deriving DecidableEq, Repr

/-- R156, in the order of its table. -/
inductive BadReply where
  | silent
  | collision
  | framing
  | wrongAddress
  | badLength
  | cutShort
  | tooLong
  | check
  | badContent
  deriving DecidableEq, Repr

/-- R148. The taken tags and last verdicts (R47) of heads a node's kind lacks stay none. `lock`,
`polarity`, `floors` and `recallOn` are the desired outputs. `tamper` is the tamper state of a UNIT node
(R97). -/
structure Node where
  kind     : NodeKind
  state    : NodeState
  faults   : Nat
  restore  : Nat
  tagA     : Option Nat
  tagB     : Option Nat
  tagCar   : Option Nat
  lastBad  : Option BadReply
  verdictA : LastVerdict
  verdictB : LastVerdict
  lock     : LockCommand
  polarity : Polarity
  floors   : Word
  recallOn : Bool
  tamper   : Bool
  deriving DecidableEq, Repr

/-! ## Mode unit (chapter 9) -/

/-- R168. -/
inductive SiteMode where
  | normal
  | lockdown
  | evacuate
  deriving DecidableEq, Repr

/-- R168. -/
inductive EvacuationSource where
  | fire
  | host
  deriving DecidableEq, Repr

/-- R168, R169: `held` counts the periods of the 32.768 kHz crystal that the new reading has held. -/
inductive HoldMeasurement where
  | stopped
  | running (held : Nat)
  deriving DecidableEq, Repr

/-- R168. `contactClosed` is the level of the FIRE input; the FIRE reading is formed from it and the
polarity. `fireActive` is the FIRE state. -/
structure ModeUnit where
  mode          : SiteMode
  source        : Option EvacuationSource
  contactClosed : Bool
  fireActive    : Bool
  hold          : HoldMeasurement
  deriving DecidableEq, Repr

/-! ## Bus port and slip unit (chapter 10) -/

/-- R190. -/
inductive RunState where
  | halt
  | run
  deriving DecidableEq, Repr

/-- R180, R181, R185, numbered as R204 lays down. -/
inductive RefusalCode where
  | none
  | writeMirror
  | slipQueued
  | slipState
  | slipTaken
  | pageState
  | pageBody
  | controlBad
  | registerReadOnly
  | postBadNumber
  | postNotPosted
  | postQueued
  deriving DecidableEq, Repr

/-- R181: the run state, CAUSE, MASK and the last refusal code of STATUS. -/
structure BusPort where
  run         : RunState
  cause       : BitVec 7
  mask        : BitVec 7
  lastRefusal : RefusalCode
  deriving DecidableEq, Repr

/-- R187, DONE first and then in the order of its table. -/
inductive ResultCode where
  | done
  | badKind
  | badField
  | bulkRange
  | notFound
  | exists_
  | tableFull
  | unitSharedFull
  | onSite
  | inUse
  | busy
  | notApplicable
  | conditionActive
  | wrongMode
  | aborted
  deriving DecidableEq, Repr

/-- R187: what a slip is answered with. -/
structure Answer where
  result   : ResultCode
  clamped  : Bool
  deferred : Bool
  more     : Bool
  detail   : List Byte
  deriving DecidableEq, Repr

/-- R186: how far the slip in service has come. `taken`: not yet served. `loading`: a LOAD_TENANTS or
LOAD_CREDENTIALS whose next record is number `next` (R23, R24). `listing`: a VISIT_LIST that has
written `written` images (R85). `served`: its owner has given the result. -/
inductive Stage where
  | taken
  | loading (next applied refused : Nat) (first : Option (Nat × ResultCode))
  | listing (written : Nat)
  | served (answer : Answer)
  deriving DecidableEq, Repr

/-- R186: the slip in service with the copies made at its take. -/
structure Service where
  slip  : Nat
  copy  : List Byte
  bulk  : List Byte
  stage : Stage
  deriving DecidableEq, Repr

/-- R185, R186. -/
structure SlipUnit where
  queue   : List Nat
  serving : Option Service
  deriving DecidableEq, Repr

/-! ## Journal (chapter 11) -/

/-- Section 11.3, in the order of its table. -/
inductive EntryKind where
  | powerUp
  | restart
  | hostMark
  | journalGap
  | clockSet
  | accessGranted
  | accessDenied
  | visitWarn
  | visitExtend
  | visitEnd
  | visitOverstay
  | unitDisarmed
  | unitArmed
  | unitHeldInAlarm
  | unitCleared
  | nodeTamperClear
  | unitLeftOpen
  | unitIntrusion
  | nodeTamper
  | passage
  | grantUnused
  | doorClosed
  | egress
  | portalPulse
  | portalUnlocked
  | portalRelocked
  | driverRestored
  | openedInFault
  | portalReset
  | doorHeld
  | doorForced
  | driverShort
  | doorUnsecured
  | driverFault
  | liftReleaseEnd
  | liftRecallComplete
  | nodeRestored
  | lineRestored
  | nodeOffline
  | lineFault
  | fireClear
  | fireActive
  | modeChange
  deriving DecidableEq, Repr

/-- R194. The sequence number is given at writing (R195) and stands in the page header (R208). -/
structure Entry where
  minute  : Nat
  second  : Nat
  kind    : EntryKind
  subject : Option Nat
  tenant  : Option Nat
  detail  : List Byte
  deriving DecidableEq, Repr

/-- R193 to R198. The page states, first sequences and entry counts stand in common memory (R199).
`reexamine`: the stalled journal has found the page it waits for EMPTY at the last second event, and its recovery
is due (R198). DESIGN CHOICE (assumption 43). -/
structure Journal where
  page           : Nat
  stalled        : Bool
  sequence       : BitVec 32
  holdover       : List Entry
  routineDropped : Nat
  alarmDropped   : Nat
  flush          : Timer
  reexamine      : Bool
  deriving DecidableEq, Repr

/-! ## The machine -/

/-- The whole state. `creds` is keyed by `Key.code`, in key order (R3); `nodes` by `NodeId.code`, in
ascending order of line and address; the other tables by the numbers of section 4.3. `revision` is the
part's own revision number (R179), which no command changes. `pending` is the queue of commands that wait.
DESIGN CHOICE (assumption 9, the revision's value). DESIGN CHOICE (assumption 36, the queue). -/
structure State where
  mem      : List Host.Cell
  bus      : BusPort
  settings : Settings
  slips    : SlipUnit
  tenants  : Table Tenant
  creds    : Table Credential
  units    : Table UnitRecord
  clock    : Clock
  profiles : Table Profile
  holidays : List Nat
  reads    : List Read
  register : Register
  portals  : Table Portal
  cars     : Table Car
  lines    : Table Line
  nodes    : Table Node
  mode     : ModeUnit
  journal  : Journal
  revision : Word
  pending  : List Instr
  deriving DecidableEq, Repr

/-- No command of this part ends in a fault: the type has no constructor. Every refusal the spec
describes (of a write, of a slip, of a read) is an effect on State. -/
inductive Fault where
  deriving DecidableEq, Repr

/-- The one refusal. -/
inductive Refusal where
  /-- Raised by exec's arm for a row whose meaning is not yet written; safe, since it stops the run. -/
  | notModelled (mnemonic : String)
  deriving DecidableEq, Repr

/-- Common memory after power-on (R190, R204, R207): block 0 with the part code, the capacities of
R179, evacuation source absent and site minute 0; page 0 FILLING with first sequence 0 and one entry, POWER_UP
with no subject and no tenant; every other byte 0. DEDUCED (assumption 11). DEDUCED (assumption 12). -/
def resetMemory : List Host.Cell :=
  [(0, 0x40), (1, 0x26), (7, 0x10), (9, 0x20), (11, 0x10), (13, 0x02), (14, 48), (16, 4), (18, 120),
   (20, 64), (22, 32), (26, 0xFF), (0x2400, 1), (0x2406, 1), (0x2407, 0xFF), (0x2415, 1),
   (0x2416, 0xFF), (0x2417, 0xFF), (0x2418, 0xFF), (0x2419, 0xFF)]

/-- The state right after power-on, with the POWER_UP entry written (R190, R201): run state HALT, CAUSE
holding RESTART alone, every table empty, the clock UNSET at minute 0, the site mode NORMAL, the FIRE
contact at rest, sequence counter 1 and the flush timer started by the entry.
DESIGN CHOICE (assumption 10). DEDUCED (assumption 12). -/
def State.reset : State :=
  { mem := resetMemory
    bus := { run := .halt, cause := 0x40, mask := 0, lastRefusal := .none }
    settings := Settings.defaults
    slips := { queue := [], serving := none }
    tenants := []
    creds := []
    units := []
    clock := { second := 0, minute := 0, weekOffset := 0, isSet := false, minuteDue := false }
    profiles := []
    holidays := []
    reads := []
    register := { visits := [], creating := 0, zones := [], walk := none }
    portals := []
    cars := []
    lines := []
    nodes := []
    mode := { mode := .normal, source := none, contactClosed := false, fireActive := false,
              hold := .stopped }
    journal := { page := 0, stalled := false, sequence := 1, holdover := [], routineDropped := 0,
                 alarmDropped := 0, flush := .running 10, reexamine := false }
    revision := 0
    pending := [] }

end Sys2Proof.Machine
end

