-- ==== Sys2Proof/Machine/Tables.lean ====
section
/-! DEFINITION. The operations on tables kept in rising order of key, and the little-endian bytes of a number. -/

namespace Sys2Proof

/-- The value listed at a key. -/
def Table.find {α : Type} (k : Nat) : Table α → Option α
  | [] => none
  | (k', v) :: t => if k' = k then some v else Table.find k t

/-- The table with `v` at key `k`, every other key as it was, in rising order. -/
def Table.insert {α : Type} (k : Nat) (v : α) : Table α → Table α
  | [] => [(k, v)]
  | (k', v') :: t =>
    if k < k' then (k, v) :: (k', v') :: t
    else if k = k' then (k, v) :: t
    else (k', v') :: Table.insert k v t

/-- The table without key `k`. -/
def Table.erase {α : Type} (k : Nat) (t : Table α) : Table α :=
  t.filter (fun e => e.1 != k)

/-- What stands at a key of a table whose unlisted keys hold `d`. -/
def Table.read {α : Type} (d : α) (k : Nat) (t : Table α) : α :=
  (Table.find k t).getD d

/-- A write to a table whose unlisted keys hold `d`: writing `d` removes the entry. -/
def Table.write {α : Type} [DecidableEq α] (d : α) (k : Nat) (v : α) (t : Table α) : Table α :=
  if v = d then Table.erase k t else Table.insert k v t

/-- Every listed value changed by `f`, the keys as they were. -/
def Table.mapValues {α : Type} (f : α → α) (t : Table α) : Table α :=
  t.map (fun e => (e.1, f e.2))

/-- The listed keys, ascending. -/
def Table.keys {α : Type} (t : Table α) : List Nat :=
  t.map (fun e => e.1)

/-- The least key whose value satisfies `p`. -/
def Table.findKey {α : Type} (p : α → Bool) (t : Table α) : Option Nat :=
  (t.find? (fun e => p e.2)).map (fun e => e.1)

/-- The keys rise strictly. -/
abbrev Table.Sorted {α : Type} (t : Table α) : Prop :=
  t.Pairwise (fun x y => x.1 < y.1)

/-- R202: a number as `width` bytes, low byte first. R202 gives the order of a word and of a 32-bit value; in a field that is
no aligned word the lowest byte stands first too. DESIGN CHOICE (assumption 57). -/
def bytesOf : Nat → Nat → List Byte
  | 0, _ => []
  | width + 1, n => BitVec.ofNat 8 n :: bytesOf width (n / 256)

/-- R202: the number that bytes stand for, low byte first, whatever the field's width and place.
DESIGN CHOICE (assumption 57). -/
def numberOf : List Byte → Nat
  | [] => 0
  | b :: bs => b.toNat + 256 * numberOf bs

/-- R203: absence is all-ones across the field's width. DEDUCED (assumption 20). -/
def bytesOfOption (width : Nat) : Option Nat → List Byte
  | some n => bytesOf width n
  | none => List.replicate width 0xFF

/-- R203: the value of a field of `width` bytes for which all-ones means absent. -/
def optionOf (width n : Nat) : Option Nat :=
  if n = 256 ^ width - 1 then none else some n

/-- R203: a flag is one byte. -/
def flagByte (b : Bool) : List Byte :=
  [if b then 1 else 0]

/-- `bytes` cut or padded with `fill` to `width`. -/
def padTo (width : Nat) (fill : Byte) (bytes : List Byte) : List Byte :=
  bytes.take width ++ List.replicate (width - bytes.length) fill

end Sys2Proof
end

