-- ==== Sys2Proof/Machine/Codes.lean ====
section
/-! DEFINITION. The codes of named values (R203: from 0 in the order in which the rule or table that gives the values first
lists them) and the order of credential keys and nodes. -/

namespace Sys2Proof.Machine

/-- R1. -/
def TenantState.code : TenantState → Nat
  | .active => 0
  | .blocked => 1

/-- R3. -/
def CredentialState.code : CredentialState → Nat
  | .active => 0
  | .suspended => 1

/-- R203. -/
def Standing.code : Standing → Nat
  | .current => 0
  | .grace => 1
  | .overdue => 2
  | .lockedOut => 3

/-- R90. -/
def ArmState.code : ArmState → Nat
  | .armed => 0
  | .disarmed => 1
  | .leftOpen => 2
  | .intrusion => 3

/-- R90. -/
def DoorState.code : DoorState → Nat
  | .closed => 0
  | .opened => 1
  | .unknown => 2

/-- R168. -/
def FirePolarity.code : FirePolarity → Nat
  | .normallyOpen => 0
  | .normallyClosed => 1

/-- R45, R208. -/
def Head.code : Head → Nat
  | .a => 0
  | .b => 1
  | .car => 2

/-- R205: 0..20 in the order of the table of section 3.6. -/
def Verdict.code : Verdict → Nat
  | .grant => 0
  | .grantSoft => 1
  | .grantStaff => 2
  | .unknownCredential => 3
  | .credentialSuspended => 4
  | .credentialExpired => 5
  | .tenantBlocked => 6
  | .inTransit => 7
  | .evacuation => 8
  | .lockdown => 9
  | .clockUnset => 10
  | .lockedOut => 11
  | .outsideHours => 12
  | .zoneNotPermitted => 13
  | .passback => 14
  | .notOnSite => 15
  | .zoneFull => 16
  | .registerFull => 17
  | .portalFault => 18
  | .portalBusy => 19
  | .noFloors => 20

/-- Section 3.6: the grant forms. -/
def Verdict.isGrant : Verdict → Bool
  | .grant | .grantSoft | .grantStaff => true
  | _ => false

/-- R68. -/
def VisitState.code : VisitState → Nat
  | .active => 0
  | .warned => 1
  | .overstay => 2

/-- R109: the order of the table fixes the codes. -/
def PortalState.code : PortalState → Nat
  | .unconfigured => 0
  | .waiting => 1
  | .secure => 2
  | .released => 3
  | .opened => 4
  | .held => 5
  | .forced => 6
  | .heldUnlocked => 7
  | .cooldown => 8
  | .faultDriver => 9
  | .faultOffline => 10

/-- R109: the in-service states. -/
def PortalState.inService : PortalState → Bool
  | .secure | .released | .opened | .held | .forced | .heldUnlocked => true
  | _ => false

/-- R209. -/
def Polarity.code : Polarity → Nat
  | .powerToLock => 0
  | .powerToRelease => 1

/-- R209. -/
def LockCommand.code : LockCommand → Nat
  | .locked => 0
  | .released => 1

/-- R55. -/
def PassageKind.code : PassageKind → Nat
  | .create => 0
  | .move => 1
  | .finish => 2

/-- R134. DEDUCED (assumption 22). -/
def CarState.code : CarState → Nat
  | .inService => 0
  | .inRecall => 1
  | .offline => 2
  | .unconfigured => 3

/-- R146. -/
def LineState.code : LineState → Nat
  | .stopped => 0
  | .running => 1
  | .fault => 2

/-- R203: PORTAL 0, CAR 1, UNIT 2. -/
def NodeKind.code : NodeKind → Nat
  | .portal => 0
  | .car => 1
  | .unit => 2

/-- R148. -/
def NodeState.code : NodeState → Nat
  | .unknown => 0
  | .online => 1
  | .offline => 2

/-- R208: the bad-reply kinds in the order of R156; LINE_FAULT follows them as 9. -/
def BadReply.code : BadReply → Nat
  | .silent => 0
  | .collision => 1
  | .framing => 2
  | .wrongAddress => 3
  | .badLength => 4
  | .cutShort => 5
  | .tooLong => 6
  | .check => 7
  | .badContent => 8

/-- R168, R204. -/
def SiteMode.code : SiteMode → Nat
  | .normal => 0
  | .lockdown => 1
  | .evacuate => 2

/-- R168. -/
def EvacuationSource.code : EvacuationSource → Nat
  | .fire => 0
  | .host => 1

/-- R204. -/
def RunState.code : RunState → Nat
  | .halt => 0
  | .run => 1

/-- R204. -/
def RefusalCode.code : RefusalCode → Nat
  | .none => 0
  | .writeMirror => 1
  | .slipQueued => 2
  | .slipState => 3
  | .slipTaken => 4
  | .pageState => 5
  | .pageBody => 6
  | .controlBad => 7
  | .registerReadOnly => 8
  | .postBadNumber => 9
  | .postNotPosted => 10
  | .postQueued => 11

/-- R205: DONE 0, then 1..14 in the order of the table of R187. -/
def ResultCode.code : ResultCode → Nat
  | .done => 0
  | .badKind => 1
  | .badField => 2
  | .bulkRange => 3
  | .notFound => 4
  | .exists_ => 5
  | .tableFull => 6
  | .unitSharedFull => 7
  | .onSite => 8
  | .inUse => 9
  | .busy => 10
  | .notApplicable => 11
  | .conditionActive => 12
  | .wrongMode => 13
  | .aborted => 14

/-- R207: 1..43 in the order of the table of section 11.3. -/
def EntryKind.code : EntryKind → Nat
  | .powerUp => 1
  | .restart => 2
  | .hostMark => 3
  | .journalGap => 4
  | .clockSet => 5
  | .accessGranted => 6
  | .accessDenied => 7
  | .visitWarn => 8
  | .visitExtend => 9
  | .visitEnd => 10
  | .visitOverstay => 11
  | .unitDisarmed => 12
  | .unitArmed => 13
  | .unitHeldInAlarm => 14
  | .unitCleared => 15
  | .nodeTamperClear => 16
  | .unitLeftOpen => 17
  | .unitIntrusion => 18
  | .nodeTamper => 19
  | .passage => 20
  | .grantUnused => 21
  | .doorClosed => 22
  | .egress => 23
  | .portalPulse => 24
  | .portalUnlocked => 25
  | .portalRelocked => 26
  | .driverRestored => 27
  | .openedInFault => 28
  | .portalReset => 29
  | .doorHeld => 30
  | .doorForced => 31
  | .driverShort => 32
  | .doorUnsecured => 33
  | .driverFault => 34
  | .liftReleaseEnd => 35
  | .liftRecallComplete => 36
  | .nodeRestored => 37
  | .lineRestored => 38
  | .nodeOffline => 39
  | .lineFault => 40
  | .fireClear => 41
  | .fireActive => 42
  | .modeChange => 43

/-- R194, section 11.3: the entries of ALARM class. -/
def EntryKind.alarm : EntryKind → Bool
  | .restart | .journalGap | .visitOverstay | .unitLeftOpen | .unitIntrusion | .nodeTamper
  | .doorHeld | .doorForced | .driverShort | .doorUnsecured | .driverFault | .nodeOffline
  | .lineFault | .fireActive | .modeChange => true
  | _ => false

/-- R183, R205: the slip kinds with their codes 1..36. -/
inductive SlipKind where
  | tenantPut | tenantDrop | credPut | credDrop | grantSet | standingSet | unitPut | unitDrop
  | tenantRead | loadTenants | loadCredentials | clockSet | profilePut | holidaySet | zonePut
  | zoneRead | visitExtend | visitEnd | visitList | unitClear | portalPut | portalDrop
  | portalPulse | portalHold | portalSecure | portalReset | carPut | carDrop | linePut | nodePut
  | nodeDrop | lockdown | evacuate | resume | sitePut | journalMark
  deriving DecidableEq, Repr

/-- R205. -/
def SlipKind.code : SlipKind → Nat
  | .tenantPut => 1
  | .tenantDrop => 2
  | .credPut => 3
  | .credDrop => 4
  | .grantSet => 5
  | .standingSet => 6
  | .unitPut => 7
  | .unitDrop => 8
  | .tenantRead => 9
  | .loadTenants => 10
  | .loadCredentials => 11
  | .clockSet => 12
  | .profilePut => 13
  | .holidaySet => 14
  | .zonePut => 15
  | .zoneRead => 16
  | .visitExtend => 17
  | .visitEnd => 18
  | .visitList => 19
  | .unitClear => 20
  | .portalPut => 21
  | .portalDrop => 22
  | .portalPulse => 23
  | .portalHold => 24
  | .portalSecure => 25
  | .portalReset => 26
  | .carPut => 27
  | .carDrop => 28
  | .linePut => 29
  | .nodePut => 30
  | .nodeDrop => 31
  | .lockdown => 32
  | .evacuate => 33
  | .resume => 34
  | .sitePut => 35
  | .journalMark => 36

/-- R3: the place of a key in the order of the index: every CARD before every PIN, then by length,
then by value. A PIN's digits, one per 4 bits, order as its decimal number does. -/
def Key.code (k : Key) : Nat :=
  (k.kind * 256 + k.length) * 4294967296 + k.value

/-- R203: the 6 bytes of a key. -/
def Key.bytes (k : Key) : List Byte :=
  bytesOf 1 k.kind ++ bytesOf 1 k.length ++ bytesOf 4 k.value

/-- The `n` lowest 4-bit groups of `v` each hold a decimal digit. -/
def digitsOk : Nat → Nat → Bool
  | 0, _ => true
  | n + 1, v => v % 16 ≤ 9 && digitsOk n (v / 16)

/-- R14, R203: the key checks. -/
def Key.valid (k : Key) : Bool :=
  if k.kind = 0 then 1 ≤ k.length && k.length ≤ 32 && k.value < 2 ^ k.length
  else if k.kind = 1 then
    4 ≤ k.length && k.length ≤ 8 && k.value < 16 ^ k.length && digitsOk k.length k.value
  else false

/-- Nodes in ascending order of line and address. -/
def NodeId.code (n : NodeId) : Nat :=
  n.line * 32 + n.address

/-- R207: the subject that names a node: the line in the high byte, the address in the low byte. -/
def NodeId.subject (n : NodeId) : Nat :=
  n.line * 256 + n.address

/-- Bit n of a set of zones or floors (R203). -/
def inSet (n : Nat) (set : Word) : Bool :=
  set.getLsbD n

/-- The set of zones or floors holding `n` alone. -/
def only (n : Nat) : Word :=
  1#16 <<< n

end Sys2Proof.Machine
end

