-- ==== Sys2Proof/Machine/Flags.lean ====
section
/-! DEFINITION. The causes, the two output pins, the six registers as the host reads them, and the flags of an answer
(R181, R182, R187, R204, R205). -/

namespace Sys2Proof.Machine

/-- R182: the seven causes. -/
inductive Cause where
  | answer
  | page
  | alarm
  | stall
  | refused
  | mode
  | restart
  deriving DecidableEq, Repr

/-- R204: the bit of a cause in CAUSE, CLEAR and MASK. -/
def Cause.bit : Cause → Nat
  | .answer => 0
  | .page => 1
  | .alarm => 2
  | .stall => 3
  | .refused => 4
  | .mode => 5
  | .restart => 6

/-- R182: whether a cause is set. -/
def State.cause (c : Cause) (s : State) : Bool :=
  s.bus.cause.getLsbD c.bit

/-- R182: a block raises a cause; a cause already set stays set. -/
def State.raise (c : Cause) (s : State) : State :=
  { s with bus := { s.bus with cause := s.bus.cause ||| (1#7 <<< c.bit) } }

/-- R182: each cause written as one to CLEAR is cleared. -/
def State.clearCauses (bits : Word) (s : State) : State :=
  { s with bus := { s.bus with cause := s.bus.cause &&& ~~~(bits.truncate 7) } }

/-- R181: MASK stores the seven enables; the unused bits are ignored. -/
def State.setMask (bits : Word) (s : State) : State :=
  { s with bus := { s.bus with mask := bits.truncate 7 } }

/-- R180, R181, R185: a refused host access raises REFUSED and records its code; nothing else changes. -/
def State.refuse (code : RefusalCode) (s : State) : State :=
  State.raise .refused { s with bus := { s.bus with lastRefusal := code } }

/-- R182: IRQ is asserted while any cause is set whose enable is set. DESIGN CHOICE (assumption 34). -/
def State.irq (s : State) : Bool :=
  s.bus.cause &&& s.bus.mask != 0#7

/-- R182: ALERT is asserted while ALARM is set, whatever MASK holds. DESIGN CHOICE (assumption 34). -/
def State.alert (s : State) : Bool :=
  s.cause .alarm

/-- R181, R204: STATUS as the host reads it. -/
def State.statusRegister (s : State) : Word :=
  BitVec.ofNat 16 (s.bus.run.code + 2 * s.mode.mode.code + (if s.clock.isSet then 8 else 0)
    + 16 * s.slips.queue.length + 2048 * s.bus.lastRefusal.code)

/-- R181, R204: what the host reads at 0x10000 + 2 n; a read changes nothing. Bits 7 to 15 of CAUSE read 0, as R181 has
those of MASK do. DESIGN CHOICE (assumption 34). DESIGN CHOICE (assumption 50). -/
def State.registerRead (n : Nat) (s : State) : Word :=
  match n with
  | 1 => s.statusRegister
  | 3 => s.bus.cause.setWidth 16
  | 5 => s.bus.mask.setWidth 16
  | _ => 0

/-- R205: the answer flags, bit 0 CLAMPED, 1 DEFERRED, 2 MORE. -/
def Answer.flags (a : Answer) : Nat :=
  (if a.clamped then 1 else 0) + (if a.deferred then 2 else 0) + (if a.more then 4 else 0)

end Sys2Proof.Machine
end

