-- ==== Sys2Proof/Machine/Ops.lean ====
section
/-! DEFINITION. The named operations over common memory and over each block's records. -/

namespace Sys2Proof.Machine

/-! ## Common memory (R177, R178, R202) -/

/-- What an address of common memory reads as where nothing has been written since power-on (R190).
DEDUCED (assumption 11). -/
def blankByte : Byte := 0

/-- The form common memory is kept in: addresses strictly rising, and no entry equal to what an
unlisted address reads as. DEDUCED (assumption 11). -/
abbrev Memory.wf (m : List Host.Cell) : Prop :=
  Table.Sorted m ∧ ∀ c ∈ m, c.2 ≠ blankByte

/-- One byte of common memory. DESIGN CHOICE (assumption 34). -/
def State.byteAt (a : Nat) (s : State) : Byte :=
  Table.read blankByte a s.mem

/-- One byte is written. -/
def State.pokeByte (a : Nat) (b : Byte) (s : State) : State :=
  { s with mem := Table.write blankByte a b s.mem }

/-- Consecutive bytes are written from address `a` on. -/
def State.pokeBytes (a : Nat) : List Byte → State → State
  | [], s => s
  | b :: bs, s => State.pokeBytes (a + 1) bs (s.pokeByte a b)

/-- R178: one access to one 16-bit word: the address of the first byte it writes, and the bytes of that one word that it
writes, two or one. -/
abbrev Access := Nat × List Byte

/-- R178: the part writes bytes that span several words word by word, the lowest word first.
DESIGN CHOICE (assumption 28). -/
def accessesOf (a : Nat) : List Byte → List Access
  | [] => []
  | [b] => [(a, [b])]
  | b :: c :: bs =>
    if a % 2 = 0 then (a, [b, c]) :: accessesOf (a + 2) bs
    else (a, [b]) :: accessesOf (a + 1) (c :: bs)

/-- R178: the arbiter passes accesses to common memory one after the other. -/
def State.pass (l : List Access) (s : State) : State :=
  l.foldl (fun s x => s.pokeBytes x.1 x.2) s

/-- R178: common memory while a record is being written: `k` of the record's accesses have been passed and the others
have not. A host read is never refused; one that comes between two accesses finds this. DESIGN CHOICE (assumption 28). -/
def State.during (k : Nat) (l : List Access) (s : State) : State :=
  s.pass (l.take k)

/-- Consecutive bytes are written from address `a` on, through the arbiter. DESIGN CHOICE (assumption 28). -/
def State.poke (a : Nat) (bs : List Byte) (s : State) : State :=
  s.pass (accessesOf a bs)

/-- `n` consecutive bytes from address `a` on. -/
def State.peek (a n : Nat) (s : State) : List Byte :=
  (List.range n).map (fun i => s.byteAt (a + i))

/-- R202: the 16-bit word at a byte address. -/
def State.wordAt (a : Nat) (s : State) : Nat :=
  numberOf (s.peek a 2)

/-- R202: a 16-bit word is written. -/
def State.pokeWord (a n : Nat) (s : State) : State :=
  s.poke a (bytesOf 2 n)

/-! ## Block 0 (R179, R204) -/

/-- R179: the update count. -/
def State.updateCount (s : State) : Nat :=
  s.wordAt 4

/-- R178, R179: the accesses that write a handed value at `a`: the update count is raised, the value is written, and the
count is raised again. The count wraps from 65,535 to 0. -/
def State.mirrorAccesses (a : Nat) (value : List Byte) (s : State) : List Access :=
  let n := s.updateCount
  accessesOf 4 (bytesOf 2 ((n + 1) % 65536)) ++ accessesOf a value ++ accessesOf 4 (bytesOf 2 ((n + 2) % 65536))

/-- R179: a handed value is written at `a`, between two raises of the update count. DESIGN CHOICE (assumption 24). -/
def State.mirror (a : Nat) (value : List Byte) (s : State) : State :=
  s.pass (s.mirrorAccesses a value)

/-- R190: the run state is handed to the mirror. DESIGN CHOICE (assumption 24). -/
def State.mirrorRun (s : State) : State :=
  s.mirror 24 (bytesOf 1 s.bus.run.code)

/-- R174: the site mode and the evacuation source are handed to the mirror. DESIGN CHOICE (assumption 24). -/
def State.mirrorMode (s : State) : State :=
  s.mirror 25 (bytesOf 1 s.mode.mode.code ++ bytesOfOption 1 (s.mode.source.map EvacuationSource.code))

/-- R28, R31: the clock state and the site minute are handed to the mirror. DESIGN CHOICE (assumption 24). -/
def State.mirrorClock (s : State) : State :=
  s.mirror 27 (flagByte s.clock.isSet ++ bytesOf 4 s.clock.minute)

/-- R87: the length of the visit list is handed to the mirror. DESIGN CHOICE (assumption 24). -/
def State.mirrorVisits (s : State) : State :=
  s.mirror 32 (bytesOf 2 s.register.visits.length)

/-- R193, R197, R198: the current page and the two dropped counts are handed to the mirror.
DESIGN CHOICE (assumption 24). -/
def State.mirrorJournal (s : State) : State :=
  s.mirror 34 (bytesOf 1 s.journal.page ++ bytesOf 2 s.journal.routineDropped
    ++ bytesOf 2 s.journal.alarmDropped)

/-! ## Timers (R29) -/

/-- A timer set to `n` seconds. DESIGN CHOICE (assumption 3). -/
def Timer.set (n : Nat) : Timer :=
  if n = 0 then .due else .running n

/-- One second event reaches the timer. DESIGN CHOICE (assumption 3). -/
def Timer.tick : Timer → Timer
  | .stopped => .stopped
  | .running n => if n ≤ 1 then .due else .running (n - 1)
  | .due => .due

/-- The timer is started and not yet expired. -/
def Timer.isRunning (t : Timer) : Bool :=
  t != .stopped

/-! ## Records by number -/

/-- R1: a tenant entry. -/
def State.tenant (i : Nat) (s : State) : Option Tenant :=
  Table.find i s.tenants

/-- A tenant record is written. -/
def State.setTenant (i : Nat) (t : Tenant) (s : State) : State :=
  { s with tenants := Table.insert i t s.tenants }

/-- A tenant record, where there is one, is changed. -/
def State.updTenant (i : Nat) (f : Tenant → Tenant) (s : State) : State :=
  match s.tenant i with
  | some t => s.setTenant i (f t)
  | none => s

/-- R4: a unit entry. -/
def State.unit (i : Nat) (s : State) : Option UnitRecord :=
  Table.find i s.units

/-- A unit record is written. -/
def State.setUnit (i : Nat) (u : UnitRecord) (s : State) : State :=
  { s with units := Table.insert i u s.units }

/-- A unit record, where there is one, is changed. -/
def State.updUnit (i : Nat) (f : UnitRecord → UnitRecord) (s : State) : State :=
  match s.unit i with
  | some u => s.setUnit i (f u)
  | none => s

/-- R34: an access profile. Profile 0 has no intervals and honours no holiday. -/
def State.profile (i : Nat) (s : State) : Profile :=
  Table.read Profile.blank i s.profiles

/-- R71: a zone record. -/
def State.zone (z : Nat) (s : State) : Zone :=
  Table.read Zone.blank z s.register.zones

/-- R71: the record of a zone 1..15 is changed; zone 0 has none. -/
def State.updZone (z : Nat) (f : Zone → Zone) (s : State) : State :=
  if 1 ≤ z ∧ z ≤ 15 then
    { s with register := { s.register with
        zones := Table.write Zone.blank z (f (s.zone z)) s.register.zones } }
  else s

/-- R103: a portal channel. -/
def State.portal (p : Nat) (s : State) : Portal :=
  Table.read Portal.blank p s.portals

/-- A portal channel is written. -/
def State.setPortal (p : Nat) (c : Portal) (s : State) : State :=
  { s with portals := Table.write Portal.blank p c s.portals }

/-- A portal channel is changed. -/
def State.updPortal (p : Nat) (f : Portal → Portal) (s : State) : State :=
  s.setPortal p (f (s.portal p))

/-- R134: a car channel. -/
def State.car (c : Nat) (s : State) : Car :=
  Table.read Car.blank c s.cars

/-- A car channel is written. -/
def State.setCar (c : Nat) (r : Car) (s : State) : State :=
  { s with cars := Table.write Car.blank c r s.cars }

/-- A car channel is changed. -/
def State.updCar (c : Nat) (f : Car → Car) (s : State) : State :=
  s.setCar c (f (s.car c))

/-- R146: a reader line. -/
def State.line (l : Nat) (s : State) : Line :=
  Table.read Line.blank l s.lines

/-- A reader line is written. -/
def State.setLine (l : Nat) (r : Line) (s : State) : State :=
  { s with lines := Table.write Line.blank l r s.lines }

/-- A reader line is changed. -/
def State.updLine (l : Nat) (f : Line → Line) (s : State) : State :=
  s.setLine l (f (s.line l))

/-- R148: a node record. -/
def State.node (n : NodeId) (s : State) : Option Node :=
  Table.find n.code s.nodes

/-- A node record is written. -/
def State.setNode (n : NodeId) (r : Node) (s : State) : State :=
  { s with nodes := Table.insert n.code r s.nodes }

/-- A node record, where there is one, is changed. -/
def State.updNode (n : NodeId) (f : Node → Node) (s : State) : State :=
  match s.node n with
  | some r => s.setNode n (f r)
  | none => s

/-- R148: the addresses 1..30 of a line at which a record stands, ascending. DESIGN CHOICE (assumption 8). -/
def State.lineAddresses (l : Nat) (s : State) : List Nat :=
  (List.range 31).filter (fun a => a != 0 && (s.node ⟨l, a⟩).isSome)

/-- The configured portals, ascending. DESIGN CHOICE (assumption 8). -/
def State.portalNumbers (s : State) : List Nat :=
  (List.range Config.portals).filter (fun p => (s.portal p).config.isSome)

/-- The configured cars, ascending. DESIGN CHOICE (assumption 8). -/
def State.carNumbers (s : State) : List Nat :=
  (List.range Config.cars).filter (fun c => (s.car c).config.isSome)

/-- R160: the portal whose configuration in force names a node. -/
def State.portalOf (n : NodeId) (s : State) : Option Nat :=
  s.portalNumbers.find? (fun p => (s.portal p).config.any (fun c => c.node == n))

/-- R160: the car whose configuration in force names a node. -/
def State.carOf (n : NodeId) (s : State) : Option Nat :=
  s.carNumbers.find? (fun c => (s.car c).config.any (fun g => g.node == n))

/-- One event for each object of a list, in the list's order. DESIGN CHOICE (assumption 8). -/
def State.forEach {α : Type} (xs : List α) (f : α → State → State) (s : State) : State :=
  xs.foldl (fun s x => f x s) s

end Sys2Proof.Machine
end

