-- ==== Sys2Proof/Machine/Journal.lean ====
section
/-! DEFINITION. The event journal (chapter 11): pages, entries, closing, stall and recovery. -/

namespace Sys2Proof.Machine

/-- R177: the address of a page. -/
def pageAddress (p : Nat) : Nat :=
  Config.pagesBase + 1024 * p

/-- R207: page states EMPTY 0, FILLING 1, FULL 2. -/
def pageEmpty : Nat := 0

/-- R207. -/
def pageFilling : Nat := 1

/-- R207. -/
def pageFull : Nat := 2

/-- R193: the close reasons. -/
inductive CloseReason where
  | full
  | flush
  | reset
  deriving DecidableEq, Repr

/-- R207. -/
def CloseReason.code : CloseReason → Nat
  | .full => 0
  | .flush => 1
  | .reset => 2

/-- R199: the page state word in common memory is the journal's own page state. -/
def State.pageState (p : Nat) (s : State) : Nat :=
  s.wordAt (pageAddress p)

/-- R207: the entry count of a page. -/
def State.entryCount (p : Nat) (s : State) : Nat :=
  (s.byteAt (pageAddress p + 6)).toNat

/-- R207, R208: the 16 bytes of an entry. -/
def Entry.bytes (e : Entry) : List Byte :=
  bytesOf 4 e.minute ++ bytesOf 1 e.second ++ bytesOf 1 e.kind.code ++ bytesOfOption 2 e.subject
    ++ bytesOfOption 2 e.tenant ++ padTo 6 0 e.detail

/-- R178, R193: the accesses that take a page: first sequence absent, entry count 0 and close reason absent, then the
state FILLING. -/
def takeAccesses (p : Nat) : List Access :=
  accessesOf (pageAddress p + 2) (List.replicate 4 0xFF ++ [0, 0xFF])
    ++ accessesOf (pageAddress p) (bytesOf 2 pageFilling)

/-- R193: the journal takes a page. -/
def State.takePage (p : Nat) (s : State) : State :=
  { s.pass (takeAccesses p) with
    journal := { s.journal with page := p, stalled := false, reexamine := false } }

/-- R178, R193: the accesses that close a page, whose entries and header stand: the close reason, and the state FULL
last. -/
def fullAccesses (r : CloseReason) (p : Nat) : List Access :=
  accessesOf (pageAddress p + 7) (bytesOf 1 r.code) ++ accessesOf (pageAddress p) (bytesOf 2 pageFull)

/-- R193, R196: the current page becomes FULL with its close reason, the flush timer is stopped and PAGE is raised. -/
def State.markFull (r : CloseReason) (s : State) : State :=
  State.raise .page
    { s.pass (fullAccesses r s.journal.page) with journal := { s.journal with flush := .stopped } }

/-- R196, R197: the journal stalls on a page, and STALL is raised. -/
def State.stallOn (q : Nat) (s : State) : State :=
  State.raise .stall
    { s with journal := { s.journal with page := q, stalled := true, reexamine := false } }

/-- R196: the current page is closed, and the next page in cyclic order is taken, or the journal stalls on it. The
current page is handed to the mirror. -/
def State.closePage (r : CloseReason) (s : State) : State :=
  let q := (s.journal.page + 1) % Config.pages
  if (s.markFull r).pageState q = pageEmpty then ((s.markFull r).takePage q).mirrorJournal
  else ((s.markFull r).stallOn q).mirrorJournal

/-- R178, R193: the accesses that write an entry: its 16 bytes at the place after the last entry of the current page, the
page's first sequence with the first entry, and the entry count. -/
def State.entryAccesses (e : Entry) (s : State) : List Access :=
  let p := s.journal.page
  let n := s.entryCount p
  accessesOf (pageAddress p + 16 + 16 * n) e.bytes
    ++ (if n = 0 then accessesOf (pageAddress p + 2) (bytesOf 4 s.journal.sequence.toNat) else [])
    ++ accessesOf (pageAddress p + 6) (bytesOf 1 (n + 1))

/-- R193: the first entry of the current page starts the flush timer. -/
def State.beginPage (s : State) : State :=
  { s with journal := { s.journal with flush := Timer.set s.settings.flush } }

/-- R193, R195: an entry takes the place after the last entry of the current page and the sequence counter's
value, and the entry count and the counter rise by one. -/
def State.placeEntry (e : Entry) (s : State) : State :=
  let t := s.pass (s.entryAccesses e)
  let t := if s.entryCount s.journal.page = 0 then t.beginPage else t
  { t with journal := { t.journal with sequence := t.journal.sequence + 1 } }

/-- R193 to R196: an entry is written to the current page; an alarm entry raises ALARM; the 63rd entry closes the
page. -/
def State.writeEntry (e : Entry) (s : State) : State :=
  let n := s.entryCount s.journal.page
  let s := s.placeEntry e
  let s := if e.kind.alarm then s.raise .alarm else s
  if n + 1 = Config.pageEntries then s.closePage .full else s

/-- R26, R194: an entry with the time of this moment. -/
def State.entry (kind : EntryKind) (subject tenant : Option Nat) (detail : List Byte) (s : State) :
    Entry :=
  { minute := s.clock.minute, second := s.clock.second, kind := kind, subject := subject,
    tenant := tenant, detail := detail }

/-- R198, steps 1 to 3: the stalled journal takes the awaited page and writes the holdover, then a
JOURNAL_GAP, which names no tenant, where a dropped count is above 0. DESIGN CHOICE (assumption 48). -/
def State.recover (s : State) : State :=
  let held := s.journal.holdover
  let s := s.takePage s.journal.page
  let s := State.forEach held State.writeEntry
    { s with journal := { s.journal with holdover := [] } }
  if s.journal.routineDropped = 0 ∧ s.journal.alarmDropped = 0 then s
  else
    let s := s.writeEntry (s.entry .journalGap (some s.journal.alarmDropped) none
      (bytesOf 2 s.journal.routineDropped))
    State.mirrorJournal
      { s with journal := { s.journal with routineDropped := 0, alarmDropped := 0 } }

/-- R197: a routine entry is dropped; the routine dropped count rises by one, saturating at 65,535. -/
def State.dropRoutine (s : State) : State :=
  if s.journal.routineDropped < 65535 then
    State.mirrorJournal
      { s with journal := { s.journal with routineDropped := s.journal.routineDropped + 1 } }
  else s

/-- R197: an alarm entry is dropped; the alarm dropped count rises by one, saturating at 65,535. -/
def State.dropAlarm (s : State) : State :=
  if s.journal.alarmDropped < 65535 then
    State.mirrorJournal
      { s with journal := { s.journal with alarmDropped := s.journal.alarmDropped + 1 } }
  else s

/-- R197: an entry submitted to a journal that stays stalled: a routine entry is dropped and counted; an
alarm entry raises ALARM and is held, or dropped and counted where the holdover is full. -/
def State.holdEntry (e : Entry) (s : State) : State :=
  if e.kind.alarm then
    let s := s.raise .alarm
    if s.journal.holdover.length < Config.holdover then
      { s with journal := { s.journal with holdover := s.journal.holdover ++ [e] } }
    else s.dropAlarm
  else s.dropRoutine

/-- R195, R197, R198: one submission is one event at the journal. -/
def State.submit (e : Entry) (s : State) : State :=
  if !s.journal.stalled then s.writeEntry e
  else if s.pageState s.journal.page = pageEmpty then s.recover.writeEntry e
  else s.holdEntry e

/-- An entry of this moment is submitted. -/
def State.log (kind : EntryKind) (subject tenant : Option Nat) (detail : List Byte) (s : State) :
    State :=
  s.submit (s.entry kind subject tenant detail)

/-- R196: the expiry of the flush timer closes the current page, which holds 1..62 entries.
DESIGN CHOICE (assumption 1). -/
def State.flushExpiry (s : State) : State :=
  if s.journal.flush = .due ∧ s.journal.stalled = false then s.closePage .flush else s

/-- R198: the recovery that a second event has found due. DESIGN CHOICE (assumption 1).
DESIGN CHOICE (assumption 43). -/
def State.reexaminePage (s : State) : State :=
  if s.journal.stalled ∧ s.journal.reexamine then
    if s.pageState s.journal.page = pageEmpty then s.recover
    else { s with journal := { s.journal with reexamine := false } }
  else s

/-- R196: FLUSH_TIMER_EXPIRY. -/
def execFlushTimerExpiry (s : State) : Host.Outcome State Fault Refusal :=
  .next s.flushExpiry

/-- R198: JOURNAL_RECOVERY. -/
def execJournalRecovery (s : State) : Host.Outcome State Fault Refusal :=
  .next s.reexaminePage

/-- R201: at a soft reset a FILLING page that holds entries is closed RESET, and the alarm RESTART entry
is submitted. DESIGN CHOICE (assumption 44). -/
def State.journalReset (s : State) : State :=
  let s :=
    if s.journal.stalled = false ∧ s.entryCount s.journal.page ≠ 0 then s.closePage .reset else s
  s.log .restart none none []

end Sys2Proof.Machine
end

