-- ==== Sys2Proof/Machine/Operands.lean ====
section
/-! DEFINITION. The operand forms: how the fields of a slip body and of a bulk image are read, how an extent is checked, and
how an answer is made (R187, R188, R203, R205, R206). -/

namespace Sys2Proof.Machine

/-! ## Fields (R203) -/

/-- The number in `width` bytes from byte `at_` on; bytes beyond the end read 0. -/
def field (at_ width : Nat) (bytes : List Byte) : Nat :=
  numberOf ((bytes.drop at_).take width)

/-- R205: a field of a slip body, which begins at byte 32 of the slip. -/
def Service.body (at_ width : Nat) (v : Service) : Nat :=
  field (32 + at_) width v.copy

/-- R205: the kind code of the copied header. -/
def Service.kind (v : Service) : Nat :=
  field 2 2 v.copy

/-- R205: the tag of the copied header. -/
def Service.tag (v : Service) : Nat :=
  field 4 2 v.copy

/-- R205: the extent's start address in the copied header. -/
def Service.start (v : Service) : Nat :=
  field 12 2 v.copy

/-- R205: the extent's length in the copied header. -/
def Service.length (v : Service) : Nat :=
  field 14 2 v.copy

/-- R203: a credential key of 6 bytes. -/
def keyAt (at_ : Nat) (bytes : List Byte) : Key :=
  { kind := field at_ 1 bytes, length := field (at_ + 1) 1 bytes, value := field (at_ + 2) 4 bytes }

/-- R203: a counted list of items of `width` bytes. -/
def itemsAt (at_ width count : Nat) (bytes : List Byte) : List Nat :=
  (List.range count).map (fun i => field (at_ + width * i) width bytes)

/-- R203: a day that is present lies in the range of day numbers. -/
def dayOk (day : Option Nat) : Bool :=
  day.all (fun d => d ≤ Config.lastDay)

/-- R203: a flag byte holds 0 or 1. -/
def flagOk (n : Nat) : Bool :=
  n ≤ 1

/-- R1, R203. -/
def tenantStateOf (n : Nat) : TenantState :=
  if n = 1 then .blocked else .active

/-- R3, R203. -/
def credentialStateOf (n : Nat) : CredentialState :=
  if n = 1 then .suspended else .active

/-! ## Answers (R187, R205) -/

/-- DONE with a detail and no flag. -/
def Answer.done (detail : List Byte) : Answer :=
  { result := .done, clamped := false, deferred := false, more := false, detail := detail }

/-- A refusal with a detail. -/
def Answer.refusal (code : ResultCode) (detail : List Byte) : Answer :=
  { result := code, clamped := false, deferred := false, more := false, detail := detail }

/-- R10, R187: BAD_FIELD with the number of the failing field. DEDUCED (assumption 19). -/
def Answer.badField (n : Nat) : Answer :=
  .refusal .badField (bytesOf 1 n)

/-- R10: a refusal that concerns one position of a list: the field's number, then the position.
DEDUCED (assumption 19). -/
def Answer.atPosition (code : ResultCode) (n position : Nat) : Answer :=
  .refusal code (bytesOf 1 n ++ bytesOf 1 position)

/-- R10: NOT_FOUND with the number of the field that names what is absent. DEDUCED (assumption 19). -/
def Answer.notFound (n : Nat) : Answer :=
  .refusal .notFound (bytesOf 1 n)

/-- R203: the detail codes CREATED 0 and REPLACED 1 (R11). DEDUCED (assumption 22). -/
def createdCode : List Byte := bytesOf 1 0

/-- R11. DEDUCED (assumption 22). -/
def replacedCode : List Byte := bytesOf 1 1

/-- R188: the checks of an extent, in their order; the extent is field 0. DEDUCED (assumption 19). -/
def Service.extentProblem (v : Service) : Option Answer :=
  if v.start % 2 = 1 ∨ v.length % 2 = 1 then some (.badField 0)
  else if v.start < Config.bulkBase ∨ v.start + v.length > Config.memoryEnd then
    some (.refusal .bulkRange (bytesOf 1 0))
  else none

/-- R188: the extent is in range. -/
def Service.extentOk (v : Service) : Bool :=
  v.extentProblem.isNone

/-- R10, R187: the first check that fails gives the result. Where several fields of a slip are bad, the lists of
checks take them in the order of their numbers. DESIGN CHOICE (assumption 46). -/
def firstProblem (checks : List (Option Answer)) : Option Answer :=
  checks.findSome? id

/-- A check that refuses with an answer where its condition fails. -/
def require (ok : Bool) (otherwise : Answer) : Option Answer :=
  if ok then none else some otherwise

/-! ## The slip in service (R186) -/

/-- R186: the owner has given its result. -/
def State.finishService (stage : Stage) (s : State) : State :=
  { s with slips := { s.slips with serving := s.slips.serving.map (fun v => { v with stage := stage }) } }

/-- R186: the slip in service, where it is taken, not yet served, and of this kind. -/
def State.taken (kind : SlipKind) (s : State) : Option Service :=
  s.slips.serving.filter (fun v => v.stage == .taken && v.kind == kind.code)

/-- R186: the taken slip of this kind is checked and carried out by its owner, which gives the stage the
service then stands at. Without such a slip there is nothing to serve.
DESIGN CHOICE (assumption 1). DESIGN CHOICE (assumption 2). -/
def State.serve (kind : SlipKind) (owner : Service → State → State × Stage) (s : State) : State :=
  match s.taken kind with
  | some v => (owner v s).1.finishService (owner v s).2
  | none => s

/-- An owner that refuses where a check fails and otherwise makes its change. -/
def checked (problem : Option Answer) (work : State × Answer) (s : State) : State × Stage :=
  match problem with
  | some a => (s, .served a)
  | none => (work.1, .served work.2)

end Sys2Proof.Machine
end

