-- ==== Sys2Proof/Machine/Hours.lean ====
section
/-! DEFINITION. Site clock and hours (chapter 2): the derived quantities, the window test, the remaining window and the
deadline, and lease standing (R7). -/

namespace Sys2Proof.Machine

/-- R26. -/
def Clock.today (c : Clock) : Nat :=
  c.minute / Config.dayMinutes

/-- R26. -/
def Clock.minuteOfDay (c : Clock) : Nat :=
  c.minute % Config.dayMinutes

/-- R26: 0 is Monday. -/
def Clock.dayOfWeek (c : Clock) : Nat :=
  (c.today + c.weekOffset) % 7

/-- R26: the minute of week. -/
def Clock.mow (c : Clock) : Nat :=
  c.dayOfWeek * Config.dayMinutes + c.minuteOfDay

/-- R34: the interval contains a mow; the end minute is never contained. -/
def Interval.contains (i : Interval) (m : Nat) : Bool :=
  if i.start < i.finish then i.start ≤ m && m < i.finish
  else i.finish < i.start && (i.start ≤ m || m < i.finish)

/-- R37: the profile honours holidays and today is one. -/
def State.closedToday (p : Profile) (s : State) : Bool :=
  p.honours && s.holidays.contains s.clock.today

/-- R30, R37: the window test on a profile. -/
def State.windowTest (profile : Nat) (s : State) : Bool :=
  let p := s.profile profile
  if profile = 0 then true
  else s.clock.isSet && p.intervals.any (fun i => i.contains s.clock.mow) && !s.closedToday p

/-- Section 2.6: minutes forward from `a` to `b` around the week. -/
def weekDist (a b : Nat) : Nat :=
  (b + Config.weekMinutes - a) % Config.weekMinutes

/-- R38, R39: the largest distance to the end among the intervals that contain `m`. -/
def longestFrom (m : Nat) (intervals : List Interval) : Option Nat :=
  ((intervals.filter (fun i => i.contains m)).map (fun i => weekDist m i.finish)).max?

/-- R39: the window is followed forward, at most `steps` times; `m` is the current mow and `r` the window found so far. -/
def followWindow (intervals : List Interval) (m : Nat) : Nat → Nat → Nat
  | 0, r => r
  | steps + 1, r =>
    match longestFrom ((m + r) % Config.weekMinutes) intervals with
    | some d => followWindow intervals m steps (r + d)
    | none => r

/-- R40: a bounded window is capped at the next holiday where the profile honours holidays. -/
def State.capAtHoliday (p : Profile) (r : Nat) (s : State) : Nat :=
  match s.holidays.find? (fun h => s.clock.today < h) with
  | some h =>
    if p.honours then
      min r ((h - s.clock.today) * Config.dayMinutes - s.clock.minuteOfDay)
    else r
  | none => r

/-- R38 to R40: the remaining window; absent means unbounded. -/
def State.remainingWindow (staff : Bool) (profile : Nat) (s : State) : Option Nat :=
  let p := s.profile profile
  if staff || profile == 0 then none
  else if !s.clock.isSet then some 0
  else if s.closedToday p then some 0
  else
    match longestFrom s.clock.mow p.intervals with
    | none => some 0
    | some first =>
      let r := followWindow p.intervals s.clock.mow 6 first
      if Config.weekMinutes ≤ r then none else some (s.capAtHoliday p r)

/-- R41: the deadline of a visit created now. -/
def State.deadlineFor (staff : Bool) (profile : Nat) (s : State) : Option Nat :=
  let stay :=
    match s.remainingWindow staff profile with
    | some r =>
      let whole := r + s.settings.exitGrace
      some (if s.settings.maxVisit = 0 then whole else min s.settings.maxVisit whole)
    | none => if s.settings.maxVisit = 0 then none else some s.settings.maxVisit
  stay.map (fun n => min Config.lastMinute (s.clock.minute + n))

/-- R42: the warning minute of a deadline set now. -/
def State.warningFor (deadline : Option Nat) (s : State) : Option Nat :=
  if s.settings.warnLead = 0 then none
  else deadline.map (fun d => max s.clock.minute (d - s.settings.warnLead))

/-- R7: the standing of a tenant with paid-through day `paid`; none is given while the clock is UNSET. -/
def State.standing (paid : Option Nat) (s : State) : Option Standing :=
  if !s.clock.isSet then none
  else
    match paid with
    | none => some .current
    | some p =>
      let t := s.clock.today
      if t ≤ p then some .current
      else if t ≤ p + s.settings.grace then some .grace
      else if t ≤ p + s.settings.grace + s.settings.overdue then some .overdue
      else some .lockedOut

/-- A visit entered CURRENT or GRACE holds units (R8, R76). -/
def Standing.holds : Standing → Bool
  | .current | .grace => true
  | .overdue | .lockedOut => false

/-- R36: a day is put into an ascending list that holds no day twice. -/
def insertDay (d : Nat) : List Nat → List Nat
  | [] => [d]
  | e :: es => if d < e then d :: e :: es else if d = e then e :: es else e :: insertDay d es

/-- R36: days sorted ascending with repeats merged. -/
def sortDays (days : List Nat) : List Nat :=
  days.foldr insertDay []

/-! ## PROFILE_PUT and HOLIDAY_SET -/

/-- R34, R35: an interval with both mows in the week and start different from end. -/
def Interval.ok (i : Interval) : Bool :=
  i.start < Config.weekMinutes && i.finish < Config.weekMinutes && i.start != i.finish

/-- R203: the intervals of a PROFILE_PUT body. -/
def Service.intervals (v : Service) : List Interval :=
  (List.range (v.body 1 1)).map (fun i => { start := v.body (2 + 4 * i) 2, finish := v.body (4 + 4 * i) 2 })

/-- R35: PROFILE_PUT carries a profile number (field 1), a count (2), the intervals (3) and the
honours-holidays flag (4). DEDUCED (assumption 18). DESIGN CHOICE (assumption 46). -/
def profilePut (v : Service) (s : State) : State × Stage :=
  let number := v.body 0 1
  let count := v.body 1 1
  let honours := v.body (2 + 4 * count) 1
  let problem := firstProblem
    [ require (1 ≤ number && number ≤ 31) (.badField 1),
      require (count ≤ 6) (.badField 2),
      (v.intervals.findIdx? (fun i => !i.ok)).map (fun i => .atPosition .badField 3 i),
      require (flagOk honours) (.badField 4) ]
  checked problem
    ({ s with profiles := Table.insert number { intervals := v.intervals, honours := honours == 1 } s.profiles },
     .done []) s

/-- R36: HOLIDAY_SET carries a count (field 1) and the days (2). DEDUCED (assumption 18).
DESIGN CHOICE (assumption 46). DESIGN CHOICE (assumption 47). -/
def holidaySet (v : Service) (s : State) : State × Stage :=
  let count := v.body 0 1
  let days := itemsAt 33 3 count v.copy
  let sorted := sortDays days
  let problem := firstProblem
    [ require (count ≤ 24) (.badField 1),
      (days.findIdx? (fun d => Config.lastDay < d)).map (fun i => .atPosition .badField 2 i) ]
  checked problem ({ s with holidays := sorted }, .done (bytesOf 1 sorted.length)) s

/-- R35: PROFILE_PUT. -/
def execProfilePut (s : State) : Host.Outcome State Fault Refusal :=
  .next (s.serve .profilePut profilePut)

/-- R36: HOLIDAY_SET. -/
def execHolidaySet (s : State) : Host.Outcome State Fault Refusal :=
  .next (s.serve .holidaySet holidaySet)

end Sys2Proof.Machine
end

