-- ==== Sys2Proof/Machine/Units.lean ====
section
/-! DEFINITION. Unit door monitoring (chapter 5): holds, contact reports, tamper, outages and UNIT_CLEAR. -/

namespace Sys2Proof.Machine

/-- R101: the reasons of UNIT_ARMED. -/
inductive ArmReason where
  | holdsEnded
  | closed
  | contactRemoved
  deriving DecidableEq, Repr

/-- R101. -/
def ArmReason.code : ArmReason → Nat
  | .holdsEnded => 0
  | .closed => 1
  | .contactRemoved => 2

/-- R94: how an opening, a closing or a tamper was seen. -/
inductive SeenFlag where
  | seen
  | firstReport
  | duringOutage
  deriving DecidableEq, Repr

/-- R94. -/
def SeenFlag.code : SeenFlag → Nat
  | .seen => 0
  | .firstReport => 1
  | .duringOutage => 2

/-- R157: what a good reply that is handed on did to its node's state. -/
inductive ReplyStanding where
  | fromUnknown
  | online
  | restoring
  deriving DecidableEq, Repr

/-- R94, R97: the flag a report gives. -/
def ReplyStanding.flag : ReplyStanding → SeenFlag
  | .fromUnknown => .firstReport
  | .online => .seen
  | .restoring => .duringOutage

/-- R101: a routine UNIT_ARMED entry. The flag is absent where no report brought the change.
DEDUCED (assumption 21). -/
def State.logArmed (u : Nat) (tenant : Option Nat) (reason : ArmReason) (flag : Option SeenFlag)
    (s : State) : State :=
  s.log .unitArmed (some u) tenant
    (bytesOf 1 reason.code ++ bytesOfOption 1 (flag.map SeenFlag.code))

/-- R92: the holder count has come above 0. DEDUCED (assumption 21). -/
def State.holdBegins (u : Nat) (tenant : Option Nat) (s : State) : State :=
  match s.unit u with
  | none => s
  | some r =>
    match r.arm with
    | .armed | .leftOpen =>
      (s.setUnit u { r with arm := .disarmed }).log .unitDisarmed (some u) tenant (bytesOf 1 r.holders)
    | .intrusion => s.log .unitHeldInAlarm (some u) tenant (bytesOf 1 r.holders)
    | .disarmed => s

/-- R92: the holder count has come to 0. An unknown contact is taken as closed. DEDUCED (assumption 21). -/
def State.holdEnds (u : Nat) (tenant : Option Nat) (s : State) : State :=
  match s.unit u with
  | none => s
  | some r =>
    match r.arm, r.door with
    | .disarmed, .opened =>
      (s.setUnit u { r with arm := .leftOpen }).log .unitLeftOpen (some u) tenant []
    | .disarmed, _ =>
      (s.setUnit u { r with arm := .armed }).logArmed u tenant .holdsEnded none
    | _, _ => s

/-- R91, R92: one change of a unit's holder count, which acts on the arm state where it crosses zero. -/
def State.setHolders (u n : Nat) (tenant : Option Nat) (s : State) : State :=
  match s.unit u with
  | none => s
  | some r =>
    let s := s.setUnit u { r with holders := n }
    if r.holders = 0 ∧ n ≠ 0 then s.holdBegins u tenant
    else if r.holders ≠ 0 ∧ n = 0 then s.holdEnds u tenant
    else s

/-- R91: a gain of one hold. -/
def State.gainHold (u tenant : Nat) (s : State) : State :=
  match s.unit u with
  | none => s
  | some r => s.setHolders u (r.holders + 1) (some tenant)

/-- R91: a loss of one hold. -/
def State.loseHold (u tenant : Nat) (s : State) : State :=
  match s.unit u with
  | none => s
  | some r => s.setHolders u (r.holders - 1) (some tenant)

/-- R93: the unit whose contact is this input of this node. -/
def State.unitAt (n : NodeId) (input : Nat) (s : State) : Option Nat :=
  Table.findKey (fun u => u.contact == some { node := n, input := input }) s.units

/-- R94: a unit's contact state changes to the one reported. A UNIT_ARMED with reason CLOSED names no tenant (R101).
DEDUCED (assumption 21). DEDUCED (assumption 31). DESIGN CHOICE (assumption 52). -/
def State.contactReport (u : Nat) (opened : Bool) (how : ReplyStanding) (s : State) : State :=
  match s.unit u with
  | none => s
  | some r =>
    let door : DoorState := if opened then .opened else .closed
    if r.door = door then s
    else
      let flag := if r.fresh then SeenFlag.firstReport else how.flag
      let r' := { r with door := door, fresh := false }
      match r.arm, opened with
      | .armed, true =>
        (s.setUnit u { r' with arm := .intrusion }).log .unitIntrusion (some u) none (bytesOf 1 flag.code)
      | .leftOpen, false =>
        (s.setUnit u { r' with arm := .armed }).logArmed u none .closed (some flag)
      | _, _ => s.setUnit u r'

/-- R97: the tamper flag of a status block. DEDUCED (assumption 21). -/
def State.tamperReport (n : NodeId) (tamper : Bool) (how : ReplyStanding) (s : State) : State :=
  match s.node n with
  | none => s
  | some r =>
    if r.tamper = tamper then s
    else
      let s := s.setNode n { r with tamper := tamper }
      if tamper then s.log .nodeTamper (some n.subject) none (bytesOf 1 how.flag.code)
      else s.log .nodeTamperClear (some n.subject) none []

/-- R93, R209: input `i` of a UNIT node's status block, which is open where bit i of `inputs` is set; `inputs` is the number
that the block's four characters spell, the low one first. DESIGN CHOICE (assumption 56). -/
def State.inputReport (n : NodeId) (inputs : Nat) (how : ReplyStanding) (i : Nat) (s : State) : State :=
  match s.unitAt n i with
  | some u => s.contactReport u (inputs.testBit i) how
  | none => s

/-- R93: a UNIT node's status block, in ascending order of input number and then the tamper flag. -/
def State.unitReport (n : NodeId) (inputs : Nat) (tamper : Bool) (how : ReplyStanding) (s : State) :
    State :=
  (s.forEach (List.range 32) (State.inputReport n inputs how)).tamperReport n tamper how

/-- R98: the contact state of every unit whose contact names the node becomes UNKNOWN. -/
def State.contactsUnknown (n : NodeId) (s : State) : State :=
  let lose (u : UnitRecord) : UnitRecord :=
    if u.contact.any (fun c => c.node == n) then { u with door := .unknown } else u
  { s with units := Table.mapValues lose s.units }

/-- R95: a UNIT_PUT has replaced a unit's contact with `contact`, another one. A UNIT_ARMED with reason CONTACT_REMOVED
names no tenant (R101). DEDUCED (assumption 31). DESIGN CHOICE (assumption 52). -/
def State.contactChange (u : Nat) (contact : Option Contact) (s : State) : State :=
  match s.unit u with
  | none => s
  | some r =>
    let r' := { r with contact := contact, door := .unknown, fresh := contact.isSome }
    if contact.isNone ∧ r.arm = .leftOpen then
      (s.setUnit u { r' with arm := .armed }).logArmed u none .contactRemoved none
    else s.setUnit u r'

/-- R96: the detail of a UNIT_CLEAR answer. -/
def UnitRecord.monitorBytes (r : UnitRecord) : List Byte :=
  bytesOf 1 r.arm.code ++ bytesOf 1 r.door.code ++ bytesOf 1 r.holders

/-- R96: the arm state a unit leaves INTRUSION for. -/
def UnitRecord.clearedArm (r : UnitRecord) : ArmState :=
  if r.holders ≠ 0 then .disarmed else if r.door = .opened then .leftOpen else .armed

/-- R96: UNIT_CLEAR carries a unit number (field 1). Its UNIT_LEFT_OPEN names no tenant (R101).
DEDUCED (assumption 21). DESIGN CHOICE (assumption 52). -/
def unitClear (v : Service) (s : State) : State × Stage :=
  let number := v.body 0 2
  if Config.units ≤ number then (s, .served (.badField 1))
  else
    match s.unit number with
    | none => (s, .served (.notFound 1))
    | some r =>
      if r.arm ≠ .intrusion then (s, .served (.refusal .notApplicable r.monitorBytes))
      else
        let r' := { r with arm := r.clearedArm }
        let s := (s.setUnit number r').log .unitCleared (some number) none (bytesOf 1 r'.arm.code)
        let s := if r'.arm = .leftOpen then s.log .unitLeftOpen (some number) none [] else s
        (s, .served (.done r'.monitorBytes))

/-- R102: a soft reset brings every unit to ARMED with contact UNKNOWN and no holder. -/
def UnitRecord.softReset (r : UnitRecord) : UnitRecord :=
  { r with arm := .armed, door := .unknown, holders := 0 }

/-- R96: UNIT_CLEAR. -/
def execUnitClear (s : State) : Host.Outcome State Fault Refusal :=
  .next (s.serve .unitClear unitClear)

end Sys2Proof.Machine
end

