-- ==== Sys2Proof/Machine/Visits.lean ====
section
/-! DEFINITION. Visit register and occupancy (chapter 4): reservations, the application of passages, the end of visits, the
tests of a minute event, the shift of CLOCK_SET, and the slips the register serves without another block. -/

namespace Sys2Proof.Machine

/-! ## Finding visits and slots -/

/-- R69: the tenant's visit. -/
def State.visitOf (tenant : Nat) (s : State) : Option Visit :=
  s.register.visits.find? (fun v => v.tenant == tenant)

/-- R69: the lowest slot number that no visit holds. -/
def State.freeSlot (s : State) : Option Nat :=
  (List.range Config.visits).find? (fun n => s.register.visits.all (fun v => v.slot != n))

/-- A tenant's visit is changed in its place in the list. -/
def State.updVisit (tenant : Nat) (f : Visit → Visit) (s : State) : State :=
  { s with register := { s.register with
      visits := s.register.visits.map (fun v => if v.tenant = tenant then f v else v) } }

/-- R71: the person count of a zone rises. -/
def State.enterZone (z party : Nat) (s : State) : State :=
  s.updZone z (fun r => { r with count := r.count + party })

/-- R71: the person count of a zone falls. -/
def State.leaveZone (z party : Nat) (s : State) : State :=
  s.updZone z (fun r => { r with count := r.count - party })

/-! ## Reservations (R74, R75) -/

/-- R74: a passage placed in a pending list reserves. -/
def State.reserve (p : Passage) (s : State) : State :=
  match p.kind with
  | .create =>
    let s := s.updZone p.target (fun r => { r with reserved := r.reserved + p.party })
    { s with register := { s.register with creating := s.register.creating + 1 } }
  | .move => s.updZone p.target (fun r => { r with reserved := r.reserved + p.party })
  | .finish => s

/-- R75, R77, R78: the reservation of a passage that leaves a pending list is undone. -/
def State.unreserve (p : Passage) (s : State) : State :=
  match p.kind with
  | .create =>
    let s := s.updZone p.target (fun r => { r with reserved := r.reserved - p.party })
    { s with register := { s.register with creating := s.register.creating - 1 } }
  | .move => s.updZone p.target (fun r => { r with reserved := r.reserved - p.party })
  | .finish => s

/-! ## Holds of a visit -/

/-- The units of a list that stand in a zone, in the list's order. -/
def State.unitsIn (z : Nat) (grants : List Nat) (s : State) : List Nat :=
  grants.filter (fun u => (s.unit u).any (fun r => r.zone == z))

/-- The tenant's grant list as it stands now. -/
def State.grantsOf (tenant : Nat) (s : State) : List Nat :=
  ((s.tenant tenant).map (fun t => t.grants)).getD []

/-- R77, R78: one gain of hold for each unit of the tenant's grant list whose zone is `z`. -/
def State.gainHolds (tenant z : Nat) (s : State) : State :=
  s.forEach (s.unitsIn z (s.grantsOf tenant)) (fun u s => s.gainHold u tenant)

/-- R78, R79: one loss of hold for each unit of the tenant's grant list whose zone is `z`. -/
def State.loseHolds (tenant z : Nat) (s : State) : State :=
  s.forEach (s.unitsIn z (s.grantsOf tenant)) (fun u s => s.loseHold u tenant)

/-! ## Ending a visit (R79) -/

/-- R79: the reasons of VISIT_END. -/
inductive EndReason where
  | passage
  | host
  | removed
  deriving DecidableEq, Repr

/-- R79. -/
def EndReason.code : EndReason → Nat
  | .passage => 0
  | .host => 1
  | .removed => 2

/-- R79: minutes on site, saturating at 65,535. -/
def State.minutesOnSite (v : Visit) (s : State) : Nat :=
  min 65535 (s.clock.minute - v.entry)

/-- R79: overstay minutes, saturating at 65,535. -/
def State.overstayMinutes (v : Visit) (s : State) : Nat :=
  match v.deadline with
  | some d => min 65535 (s.clock.minute - d)
  | none => 0

/-- R208: the packed detail of VISIT_END. -/
def State.visitEndDetail (v : Visit) (reason : EndReason) (s : State) : List Byte :=
  bytesOf 1 (reason.code + 16 * v.party)
    ++ bytesOf 1 (v.zone + 16 * v.state.code + (if v.unconfirmed then 64 else 0))
    ++ bytesOf 2 (s.minutesOnSite v) ++ bytesOf 2 (s.overstayMinutes v)

/-- R85: a visit that leaves the list ahead of a walk's position closes the list up. DESIGN CHOICE (assumption 27). -/
def Register.removeVisit (tenant : Nat) (r : Register) : Register :=
  let place := r.visits.findIdx (fun v => v.tenant == tenant)
  { r with
    visits := r.visits.filter (fun v => v.tenant != tenant)
    walk := r.walk.map (fun w => if place < w then w - 1 else w) }

/-- R79: the tenant's visit, where there is one, is ended. -/
def State.endVisit (tenant : Nat) (reason : EndReason) (s : State) : State :=
  match s.visitOf tenant with
  | none => s
  | some v =>
    let s := s.leaveZone v.zone v.party
    let s := if v.standing.holds then s.loseHolds tenant v.zone else s
    let s := { s with register := s.register.removeVisit tenant }
    let s := s.updTenant tenant (fun t => { t with visit := none })
    let s := s.log .visitEnd (some v.slot) (some tenant) (s.visitEndDetail v reason)
    s.mirrorVisits

/-! ## Applying passages (R76 to R80) -/

/-- R77: the visit that a CREATE forms in a slot. -/
def State.newVisit (p : Passage) (slot : Nat) (s : State) : Visit :=
  let t := s.tenant p.tenant
  let deadline := s.deadlineFor (t.any (fun t => t.staff)) ((t.map (fun t => t.profile)).getD 0)
  { slot := slot, tenant := p.tenant, credential := p.key, party := p.party, zone := p.target,
    entry := s.clock.minute, deadline := deadline, warning := s.warningFor deadline,
    standing := p.standing, state := .active, unconfirmed := p.soft }

/-- R77, steps 2 to 5. DESIGN CHOICE (assumption 33). -/
def State.applyCreate (p : Passage) (s : State) : State :=
  match s.freeSlot with
  | none => s
  | some slot =>
    let v := s.newVisit p slot
    let s := { s with register := { s.register with visits := s.register.visits ++ [v] } }
    let s := s.updTenant p.tenant (fun t => { t with visit := some slot })
    let s := s.enterZone p.target p.party
    let s := if p.standing.holds then s.gainHolds p.tenant p.target else s
    s.mirrorVisits

/-- R78, steps 2 to 4. -/
def State.applyMove (p : Passage) (s : State) : State :=
  match s.visitOf p.tenant with
  | none => s
  | some v =>
    let s := (s.leaveZone v.zone v.party).enterZone p.target v.party
    let s := s.updVisit p.tenant (fun v => { v with zone := p.target })
    let s :=
      if v.standing.holds ∧ v.zone ≠ p.target then
        (s.loseHolds p.tenant v.zone).gainHolds p.tenant p.target
      else s
    if p.soft then s else s.updVisit p.tenant (fun v => { v with unconfirmed := false })

/-- R76: the slot the register returns before it completes the application; absent for an exit with no
visit (R80). -/
def State.slotFor (p : Passage) (s : State) : Option Nat :=
  match p.kind with
  | .create => s.freeSlot
  | .move | .finish => (s.visitOf p.tenant).map (fun v => v.slot)

/-- R76: the register completes the application of a passage. An END for a tenant with no visit changes
nothing (R80). -/
def State.completePassage (p : Passage) (s : State) : State :=
  match p.kind with
  | .create => s.applyCreate p
  | .move => s.applyMove p
  | .finish => s.endVisit p.tenant .passage

/-! ## Minute event and clock shift (R81, R32) -/

/-- R81, test 1. -/
def Visit.warnDue (minute : Nat) (v : Visit) : Bool :=
  v.state == .active && v.warning.any (fun w => w ≤ minute)

/-- R81, test 2, made after test 1. -/
def Visit.overstayDue (minute : Nat) (v : Visit) : Bool :=
  v.state != .overstay && v.deadline.any (fun d => d ≤ minute)

/-- R81: the visit after both tests. -/
def Visit.afterMinute (minute : Nat) (v : Visit) : Visit :=
  if v.overstayDue minute then { v with state := .overstay }
  else if v.warnDue minute then { v with state := .warned }
  else v

/-- R81: the entries of one visit at a minute event, VISIT_WARN ahead of VISIT_OVERSTAY. -/
def State.minuteEntries (v : Visit) (s : State) : State :=
  let now := s.clock.minute
  let s :=
    if v.warnDue now then
      s.log .visitWarn (some v.slot) (some v.tenant) (bytesOfOption 4 v.deadline)
    else s
  if v.overstayDue now then
    s.log .visitOverstay (some v.slot) (some v.tenant) (bytesOf 1 v.zone ++ bytesOf 1 v.party)
  else s

/-- R81: the register's part of a minute event, from the head of the list to its tail. -/
def State.visitMinute (s : State) : State :=
  State.forEach s.register.visits State.minuteEntries
    { s with register := { s.register with
        visits := s.register.visits.map (Visit.afterMinute s.clock.minute) } }

/-- R32: a minute shifted from site minute `old` to `new`, saturating. -/
def shiftMinute (old new m : Nat) : Nat :=
  min Config.lastMinute (m + new - old)

/-- R32: a visit's deadline and warning minute are shifted. -/
def Visit.shift (old new : Nat) (v : Visit) : Visit :=
  { v with deadline := v.deadline.map (shiftMinute old new)
           warning := v.warning.map (shiftMinute old new) }

/-- R32: every visit is shifted. -/
def State.shiftVisits (old new : Nat) (s : State) : State :=
  { s with register := { s.register with visits := s.register.visits.map (Visit.shift old new) } }

/-! ## Images (R206) -/

/-- R206: the visit image, 32 bytes. -/
def Visit.image (v : Visit) : List Byte :=
  bytesOf 2 v.slot ++ bytesOf 2 v.tenant
    ++ (v.credential.map Key.bytes).getD (List.replicate 6 0xFF)
    ++ bytesOf 1 v.party ++ bytesOf 1 v.zone
    ++ bytesOf 1 ((if v.deadline.isSome then 1 else 0) + (if v.warning.isSome then 2 else 0))
    ++ bytesOf 1 v.standing.code ++ bytesOf 1 v.state.code ++ flagByte v.unconfirmed
    ++ bytesOf 4 v.entry ++ bytesOfOption 4 v.deadline ++ bytesOfOption 4 v.warning
    ++ List.replicate 4 0

/-- R206: the zone image, 8 bytes. -/
def State.zoneImage (z : Nat) (s : State) : List Byte :=
  let r := s.zone z
  bytesOf 1 z ++ bytesOf 1 r.limit ++ flagByte r.common ++ bytesOfOption 1 r.floor
    ++ bytesOf 2 r.count ++ bytesOf 2 r.reserved

/-- R73: the 124 bytes that ZONE_READ writes. -/
def State.zoneImages (s : State) : List Byte :=
  (List.range 15).flatMap (fun i => s.zoneImage (i + 1))
    ++ bytesOf 2 s.register.visits.length ++ bytesOf 2 s.register.creating

/-! ## ZONE_READ, VISIT_EXTEND, VISIT_LIST -/

/-- R73: ZONE_READ carries an extent (field 0). DESIGN CHOICE (assumption 28). -/
def zoneRead (v : Service) (s : State) : State × Stage :=
  checked (firstProblem [v.extentProblem, require (124 ≤ v.length) (.badField 0)])
    (s.poke v.start s.zoneImages, .done []) s

/-- R83: the minutes of a VISIT_EXTEND, taken as 720 where above it. -/
def Service.extension (v : Service) : Nat :=
  min 720 (v.body 2 2)

/-- R83: VISIT_EXTEND carries a tenant index (field 1) and a number of minutes (2).
DEDUCED (assumption 20). DESIGN CHOICE (assumption 38). DESIGN CHOICE (assumption 46). -/
def visitExtend (v : Service) (s : State) : State × Stage :=
  let tenant := v.body 0 2
  let minutes := v.body 2 2
  if Config.tenants ≤ tenant then (s, .served (.badField 1))
  else if minutes = 0 then (s, .served (.badField 2))
  else
    match s.tenant tenant, s.visitOf tenant with
    | some _, some visit =>
      let deadline := min Config.lastMinute (s.clock.minute + v.extension)
      let warning := s.warningFor (some deadline)
      let s := s.updVisit tenant
        (fun w => { w with deadline := some deadline, warning := warning, state := .active })
      let s := s.log .visitExtend (some visit.slot) (some tenant) (bytesOf 4 deadline)
      (s, .served { Answer.done (bytesOf 2 visit.slot ++ bytesOf 4 deadline ++ bytesOfOption 4 warning) with
                    clamped := 720 < minutes })
    | _, _ => (s, .served (.notFound 1))

/-- R85: the number of visit images that fit the extent. -/
def Service.imageRoom (v : Service) : Nat :=
  v.length / 32

/-- R85: the answer of a VISIT_LIST that has written `written` images. -/
def listAnswer (written : Nat) (more : Bool) : Stage :=
  .served { Answer.done (bytesOf 2 written) with more := more }

/-- R85: VISIT_LIST carries a skip count (field 1) and an extent (0). It passes over the first visits of
the list; VISIT_IMAGE_COPY copies the others one by one. -/
def visitList (v : Service) (s : State) : State × Stage :=
  let skip := v.body 0 2
  match firstProblem
      [require (skip ≤ 511) (.badField 1), v.extentProblem, require (32 ≤ v.length) (.badField 0)] with
  | some a => (s, .served a)
  | none =>
    if s.register.visits.length ≤ skip then (s, listAnswer 0 false)
    else ({ s with register := { s.register with walk := some skip } }, .listing 0)

/-- The walk of a VISIT_LIST is over. -/
def State.endWalk (written : Nat) (more : Bool) (s : State) : State :=
  State.finishService (listAnswer written more)
    { s with register := { s.register with walk := none } }

/-- R85: one visit image is copied, as one event at the register; the walk ends where the list ends or the
extent is full. DESIGN CHOICE (assumption 27). -/
def State.copyVisitImage (s : State) : State :=
  match s.slips.serving, s.register.walk with
  | some v, some place =>
    match v.stage with
    | .listing written =>
      match s.register.visits[place]? with
      | none => s.endWalk written false
      | some visit =>
        let s := s.poke (v.start + 32 * written) visit.image
        let more := place + 1 < s.register.visits.length
        if more && written + 1 < v.imageRoom then
          State.finishService (.listing (written + 1))
            { s with register := { s.register with walk := some (place + 1) } }
        else s.endWalk (written + 1) more
    | _ => s
  | _, _ => s

/-- R73: ZONE_READ. -/
def execZoneRead (s : State) : Host.Outcome State Fault Refusal :=
  .next (s.serve .zoneRead zoneRead)

/-- R83: VISIT_EXTEND. -/
def execVisitExtend (s : State) : Host.Outcome State Fault Refusal :=
  .next (s.serve .visitExtend visitExtend)

/-- R85: VISIT_LIST. -/
def execVisitList (s : State) : Host.Outcome State Fault Refusal :=
  .next (s.serve .visitList visitList)

/-- R85: VISIT_IMAGE_COPY. -/
def execVisitImageCopy (s : State) : Host.Outcome State Fault Refusal :=
  .next s.copyVisitImage

end Sys2Proof.Machine
end

