-- ==== Sys2Proof/Machine/Portals.lean ====
section
/-! DEFINITION. Portals (chapter 6): the lock command, the held-unlocked sources, configurations, pending passages, the door,
egress, the lock driver, outages and the portal slips. -/

namespace Sys2Proof.Machine

/-! ## Codes of the portal entries (R114, R117, R118, R130, R132) -/

/-- R114. -/
inductive CancelReason where
  | expired
  | driverShort
  | driverFault
  | nodeLost
  | nodeReset
  | host
  | removed
  deriving DecidableEq, Repr

/-- R114. -/
def CancelReason.code : CancelReason → Nat
  | .expired => 0
  | .driverShort => 1
  | .driverFault => 2
  | .nodeLost => 3
  | .nodeReset => 4
  | .host => 5
  | .removed => 6

/-- R117: the marks of DOOR_CLOSED, NORMAL 0, HELD 1, FORCED 2, by the state that is left. -/
def closedMark : PortalState → Nat
  | .held => 1
  | .forced => 2
  | _ => 0

/-- R118: the mark HOLD_EXPIRED of DOOR_HELD. DEDUCED (assumption 22). -/
def markHoldExpired : Nat := 0

/-- R130: the marks AT_RESTORE and AT_FIRST_REPORT of DOOR_HELD, by the state that is left. -/
def returnMark : PortalState → Nat
  | .faultOffline => 1
  | _ => 2

/-- R132: the reasons SHORTS and OPEN_LOAD of DRIVER_FAULT. -/
def reasonShorts : Nat := 0

/-- R132. -/
def reasonOpenLoad : Nat := 1

/-- R132: the marks PRESS and REMEMBERED of EGRESS. -/
def markPress : Nat := 0

/-- R132. -/
def markRemembered : Nat := 1

/-! ## Sources and lock command (R110, R121) -/

/-- R110: the evacuation override holds at a portal. -/
def State.overridden (c : PortalConfig) (s : State) : Bool :=
  s.mode.mode == .evacuate && c.egress

/-- R121: the held-unlocked sources present, bit 0 EVACUATION, 1 HOST, 2 FREE_ACCESS (R203). -/
def State.sources (p : Portal) (s : State) : Nat :=
  match p.config with
  | none => 0
  | some c =>
    (if s.overridden c then 1 else 0) + (if p.hostHold then 2 else 0)
      + (if p.window && s.mode.mode == .normal then 4 else 0)

/-- R110: the lock command that de-energises the output under a polarity. -/
def Polarity.deEnergised : Polarity → LockCommand
  | .powerToLock => .released
  | .powerToRelease => .locked

/-- R110: whether a lock command energises the output. -/
def Polarity.energises (pol : Polarity) (c : LockCommand) : Bool :=
  c != pol.deEnergised

/-- R110: the lock command of a configured portal. -/
def State.lockCommand (p : Portal) (c : PortalConfig) (s : State) : LockCommand :=
  if s.overridden c then .released
  else
    match p.state with
    | .released | .heldUnlocked => .released
    | .cooldown | .faultDriver => c.polarity.deEnergised
    | .waiting | .faultOffline => if s.sources p ≠ 0 then .released else .locked
    | .unconfigured | .secure | .opened | .held | .forced => .locked

/-- R126: the probe interval runs while probe pending is set and the command is energising. What counts is the command before
an event and the one that the event hands on at its end. DESIGN CHOICE (assumption 39). -/
def Portal.withCommand (p : Portal) (pol : Polarity) (c : LockCommand) : Portal :=
  let on := p.probePending && pol.energises c
  { p with
    command := c
    probe :=
      if !on then .stopped
      else if p.probe = .stopped ∧ !p.probeElapsed then .running Config.probeSeconds
      else p.probe
    probeElapsed := p.probeElapsed && on }

/-- R110: the lock command of a portal is formed anew and handed to the line controller for its node. -/
def State.handLock (p : Nat) (s : State) : State :=
  match (s.portal p).config with
  | none => s
  | some c =>
    let command := s.lockCommand (s.portal p) c
    (s.updPortal p (fun r => r.withCommand c.polarity command)).updNode c.node
      (fun n => { n with lock := command, polarity := c.polarity })

/-- R148: a PORTAL node that no portal names is held at LOCKED with polarity POWER_TO_RELEASE. -/
def State.releaseLockNode (n : NodeId) (s : State) : State :=
  s.updNode n (fun r => { r with lock := .locked, polarity := .powerToRelease })

/-! ## Changes of state -/

/-- A portal takes a state: the passage timer is stopped by a change to any state but RELEASED and
HELD_UNLOCKED (R113), the hold timer by every change out of OPEN (R118). DEDUCED (assumption 29). -/
def Portal.enter (st : PortalState) (p : Portal) : Portal :=
  { p with
    state := st
    passageTimer := if st = .released ∨ st = .heldUnlocked then p.passageTimer else .stopped
    holdTimer := if st = .opened then p.holdTimer else .stopped }

/-- R113: the passage timer is started or restarted to the unlock seconds in force. -/
def Portal.startPassage (p : Portal) : Portal :=
  { p with passageTimer := Timer.set ((p.config.map (fun c => c.unlock)).getD 0) }

/-- R118: the hold timer is started or restarted to the hold seconds in force. -/
def Portal.startHold (p : Portal) : Portal :=
  { p with holdTimer := Timer.set ((p.config.map (fun c => c.hold)).getD 0) }

/-- R116: the open-duration count is set to 0 and counts. -/
def Portal.startCount (p : Portal) : Portal :=
  { p with openSeconds := 0, openCounting := true }

/-- R122: OPEN timed from this moment. -/
def Portal.openTimed (p : Portal) : Portal :=
  (p.enter .opened).startHold.startCount

/-- R122: the portal goes to HELD_UNLOCKED with a routine PORTAL_UNLOCKED naming the sources present. -/
def State.holdUnlocked (p : Nat) (s : State) : State :=
  let s := s.updPortal p (fun r => { r.enter .heldUnlocked with openCounting := false })
  (s.log .portalUnlocked (some p) none (bytesOf 1 (s.sources (s.portal p)))).handLock p

/-- R107: the free-access window of a configuration, closed where the profile is absent. -/
def State.windowOf (c : PortalConfig) (s : State) : Bool :=
  match c.free with
  | some n => s.windowTest n
  | none => false

/-- R107: a configuration is applied to a portal in SECURE or WAITING, and its free-access window is found anew. The lock
command is formed and handed on once, at the end: where the event has brought the portal to SECURE and the record takes it on
to HELD_UNLOCKED or WAITING, the command LOCKED of SECURE is not handed on meanwhile, and a probe interval (R126) that runs
under a command RELEASED before and after runs on. DESIGN CHOICE (assumption 30). DESIGN CHOICE (assumption 39).
DESIGN CHOICE (assumption 40). -/
def State.applyConfig (p : Nat) (c : PortalConfig) (s : State) : State :=
  let old := (s.portal p).config
  let s := s.updPortal p
    (fun r => { r with config := some c, deferred := none, window := s.windowOf c })
  if old.any (fun o => o.node != c.node) then
    let s := match old with
      | some o => s.releaseLockNode o.node
      | none => s
    (s.updPortal p (fun r => r.enter .waiting)).handLock p
  else if (s.portal p).state = .secure ∧ s.sources (s.portal p) ≠ 0 then s.holdUnlocked p
  else s.handLock p

/-- R107: a portal that has entered SECURE or WAITING applies its deferred configuration, as part of the event that brings it
there. DESIGN CHOICE (assumption 39). -/
def State.applyDeferred (p : Nat) (s : State) : State :=
  match (s.portal p).deferred with
  | some c => s.applyConfig p c
  | none => s.handLock p

/-- A portal enters SECURE. With a deferred record the lock command is handed on after that record is applied, and not for
SECURE before it. DESIGN CHOICE (assumption 39). -/
def State.enterSecure (p : Nat) (s : State) : State :=
  (s.updPortal p (fun r => r.enter .secure)).applyDeferred p

/-- R122: the last source has gone from a portal in HELD_UNLOCKED. A relock that passes through SECURE to HELD_UNLOCKED under
a deferred record hands on the one command RELEASED. DESIGN CHOICE (assumption 39). -/
def State.relock (p : Nat) (s : State) : State :=
  let r := s.portal p
  let after : PortalState :=
    if r.door = .opened then .opened
    else if r.passages ≠ [] ∨ r.passageTimer ≠ .stopped then .released
    else .secure
  let s := s.log .portalRelocked (some p) none (bytesOf 1 after.code)
  match after with
  | .opened => (s.updPortal p (fun r => r.openTimed)).handLock p
  | .released => (s.updPortal p (fun r => r.enter .released)).handLock p
  | _ => s.enterSecure p

/-- R121, R122: the held-unlocked sources of a configured portal are evaluated. -/
def State.evaluateSources (p : Nat) (s : State) : State :=
  let r := s.portal p
  match r.state with
  | .secure | .released | .opened | .held | .forced =>
    if s.sources r ≠ 0 then s.holdUnlocked p else s.handLock p
  | .heldUnlocked => if s.sources r = 0 then s.relock p else s.handLock p
  | .unconfigured | .waiting | .cooldown | .faultDriver | .faultOffline => s.handLock p

/-- R121: the free-access window of one portal is found anew and the sources are evaluated. -/
def State.refreshWindow (p : Nat) (s : State) : State :=
  match (s.portal p).config with
  | none => s
  | some c =>
    if c.free.isNone then s
    else (s.updPortal p (fun r => { r with window := s.windowOf c })).evaluateSources p

/-- R28, R31: each portal with a free-access profile re-evaluates its window. -/
def State.refreshWindows (s : State) : State :=
  s.forEach s.portalNumbers State.refreshWindow

/-- R174: the sources of every configured portal are evaluated. -/
def State.evaluateAll (s : State) : State :=
  s.forEach s.portalNumbers State.evaluateSources

/-! ## Pending passages (R111 to R114) -/

/-- The passage leaves the pending list and the tenant's pending-passage link is cleared (R2). -/
def State.unlist (p : Nat) (g : Passage) (s : State) : State :=
  (s.updPortal p (fun r => { r with passages := r.passages.filter (fun h => h.tenant != g.tenant) })).updTenant
    g.tenant (fun t => { t with transit := none })

/-- R114: a pending passage is cancelled. -/
def State.cancelPassage (p : Nat) (reason : CancelReason) (g : Passage) (s : State) : State :=
  ((s.unlist p g).unreserve g).log .grantUnused (some p) (some g.tenant)
    (bytesOf 1 g.kind.code ++ bytesOf 1 g.party ++ bytesOf 1 g.target ++ bytesOf 1 reason.code)

/-- R114: every pending passage of a portal is cancelled, in list order. -/
def State.cancelAll (p : Nat) (reason : CancelReason) (s : State) : State :=
  s.forEach (s.portal p).passages (State.cancelPassage p reason)

/-- R13, R84: the tenant's pending passage at the portal its link names is cancelled. -/
def State.cancelTransit (tenant : Nat) (reason : CancelReason) (s : State) : State :=
  match (s.tenant tenant).bind (fun t => t.transit) with
  | none => s
  | some p =>
    match (s.portal p).passages.find? (fun g => g.tenant == tenant) with
    | some g => s.cancelPassage p reason g
    | none => s.updTenant tenant (fun t => { t with transit := none })

/-- R112, R208: the routine PASSAGE entry with the slot the register returns. -/
def State.logPassage (p : Nat) (atOnce : Bool) (g : Passage) (s : State) : State :=
  s.log .passage (some p) (some g.tenant)
    (bytesOf 1 g.kind.code ++ bytesOf 1 g.party ++ bytesOf 1 g.target
      ++ bytesOf 1 (g.head.code + (if g.soft then 2 else 0) + (if atOnce then 4 else 0))
      ++ bytesOfOption 2 (s.slotFor g))

/-- R111: a passage applied at once in an open door. -/
def State.applyAtOnce (p : Nat) (g : Passage) (s : State) : State :=
  (s.logPassage p true g).completePassage g

/-- R112: a pending passage applied at a door opening. -/
def State.applyPending (p : Nat) (g : Passage) (s : State) : State :=
  (((s.unlist p g).unreserve g).logPassage p false g).completePassage g

/-- R112: a door opening applies every pending passage in list order. -/
def State.applyAll (p : Nat) (s : State) : State :=
  s.forEach (s.portal p).passages (State.applyPending p)

/-- R111: a passage joins the pending list; the tenant's link is set and the register reserves (R74). -/
def State.appendPassage (p : Nat) (g : Passage) (s : State) : State :=
  ((s.updPortal p (fun r => { r with passages := r.passages ++ [g] }.startPassage)).updTenant
    g.tenant (fun t => { t with transit := some p })).reserve g

/-- R111: a grant is placed by the portal's state and door. -/
def State.placePassage (p : Nat) (g : Passage) (s : State) : State :=
  let r := s.portal p
  match r.state with
  | .secure => ((s.updPortal p (fun r => r.enter .released)).appendPassage p g).handLock p
  | .released => s.appendPassage p g
  | .heldUnlocked => if r.door = .opened then s.applyAtOnce p g else s.appendPassage p g
  | .opened => (s.updPortal p (fun r => r.startHold)).applyAtOnce p g
  | .held | .forced => s.applyAtOnce p g
  | .unconfigured | .waiting | .cooldown | .faultDriver | .faultOffline => s

/-- R51, R111: a repeat grant restarts the passage timer and changes nothing else. -/
def State.repeatGrant (p : Nat) (s : State) : State :=
  s.updPortal p (fun r => r.startPassage)

/-- R113: the passage timer expires. DESIGN CHOICE (assumption 1). -/
def State.passageExpiry (p : Nat) (s : State) : State :=
  if (s.portal p).passageTimer = .due then
    let s := (s.updPortal p (fun r => { r with passageTimer := .stopped })).cancelAll p .expired
    if (s.portal p).state = .released then s.enterSecure p else s
  else s

/-- R118: the hold timer expires. DESIGN CHOICE (assumption 1). -/
def State.holdExpiry (p : Nat) (s : State) : State :=
  let r := s.portal p
  if r.holdTimer = .due ∧ r.state = .opened then
    ((s.updPortal p (fun r => r.enter .held)).log .doorHeld (some p) none
      (bytesOf 2 r.openSeconds ++ bytesOf 1 markHoldExpired)).handLock p
  else s

/-! ## The door and the egress button (R116, R117, R119) -/

/-- R116: a door opening, the contact recorded. -/
def State.doorOpens (p : Nat) (s : State) : State :=
  let r := s.portal p
  match r.state with
  | .released =>
    let s := s.updPortal p (fun r => { r.openTimed with passageTimer := .stopped })
    (s.applyAll p).handLock p
  | .secure =>
    ((s.updPortal p (fun r => (r.enter .forced).startCount)).log .doorForced (some p) none
      (bytesOf 1 PortalState.secure.code)).handLock p
  | .heldUnlocked =>
    (s.updPortal p (fun r => { r with passageTimer := .stopped })).applyAll p
  | .cooldown | .faultDriver => s.log .openedInFault (some p) none (bytesOf 1 r.state.code)
  | .unconfigured | .waiting | .opened | .held | .forced | .faultOffline => s

/-- R117: a door closing, the contact recorded. -/
def State.doorCloses (p : Nat) (s : State) : State :=
  let r := s.portal p
  let s := s.updPortal p (fun r => { r with openCounting := false, holdTimer := .stopped })
  match r.state with
  | .opened | .held | .forced =>
    (s.log .doorClosed (some p) none (bytesOf 2 r.openSeconds ++ bytesOf 1 (closedMark r.state))).enterSecure p
  | .unconfigured | .waiting | .secure | .released | .heldUnlocked | .cooldown | .faultDriver
  | .faultOffline => s

/-- R115, part 2: the door contact of a status block. -/
def State.doorReport (p : Nat) (opened : Bool) (s : State) : State :=
  let door : DoorState := if opened then .opened else .closed
  if (s.portal p).door = door then s
  else
    let s := s.updPortal p (fun r => { r with door := door })
    if opened then s.doorOpens p else s.doorCloses p

/-- R119: an egress press. -/
def State.egressPress (p : Nat) (s : State) : State :=
  match (s.portal p).state with
  | .secure =>
    ((s.updPortal p (fun r => (r.enter .released).startPassage)).log .egress (some p) none
      (bytesOf 1 markPress)).handLock p
  | .released => s.updPortal p (fun r => r.startPassage)
  | .cooldown => s.updPortal p (fun r => { r with egressMemory := true })
  | .unconfigured | .waiting | .opened | .held | .forced | .heldUnlocked | .faultDriver
  | .faultOffline => s

/-- R115, part 3: the REX count of a status block. -/
def State.rexReport (p rex : Nat) (s : State) : State :=
  if (s.portal p).rex = some rex then s
  else (s.updPortal p (fun r => { r with rex := some rex })).egressPress p

/-! ## Lock driver protection (R124 to R128) -/

/-- R115, R209: the driver state of a status block. -/
inductive Driver where
  | ok
  | short
  | openLoad
  deriving DecidableEq, Repr

/-- R124, R127: under POWER_TO_LOCK a de-energised lock stands open. -/
def State.logUnsecured (p : Nat) (s : State) : State :=
  if (s.portal p).config.any (fun c => c.polarity == .powerToLock) then
    s.log .doorUnsecured (some p) none []
  else s

/-- R124: a driver failure by a short. -/
def State.shortFailure (p : Nat) (s : State) : State :=
  let s := s.cancelAll p .driverShort
  let s := s.updPortal p (fun r =>
    { r.enter .cooldown with
      openCounting := false, probe := .stopped, probeElapsed := false, probePending := false
      egressMemory := false, faults := min 3 (r.faults + 1)
      cooldown := .running Config.cooldownSeconds })
  ((s.log .driverShort (some p) none (bytesOf 1 (s.portal p).faults)).logUnsecured p).handLock p

/-- R127: an open load latches the driver fault. DEDUCED (assumption 29). -/
def State.openLoadFailure (p : Nat) (s : State) : State :=
  let s := s.cancelAll p .driverFault
  let s := s.updPortal p (fun r =>
    { r.enter .faultDriver with
      cooldown := .stopped, probe := .stopped, probeElapsed := false, probePending := false
      egressMemory := false, faults := 3 })
  ((s.log .driverFault (some p) none (bytesOf 1 reasonOpenLoad)).logUnsecured p).handLock p

/-- R126: the probe is complete. -/
def State.probeComplete (p : Nat) (s : State) : State :=
  (s.updPortal p (fun r =>
    { r with probePending := false, probe := .stopped, probeElapsed := false, faults := 0 })).log
    .driverRestored (some p) none []

/-- R126: the interval has expired and the command is still energising. -/
def Portal.probeReady (r : Portal) : Bool :=
  r.probePending && r.probeElapsed && r.config.any (fun c => c.polarity.energises r.command)

/-- R115, part 1: the driver state of a status block. -/
def State.driverReport (p : Nat) (d : Driver) (s : State) : State :=
  let r := s.portal p
  match d with
  | .short => if r.state.inService then s.shortFailure p else s
  | .openLoad => if r.state.inService || r.state == .cooldown then s.openLoadFailure p else s
  | .ok => if r.probeReady then s.probeComplete p else s

/-- R125: the cooldown timer expires. DESIGN CHOICE (assumption 1). -/
def State.cooldownExpiry (p : Nat) (s : State) : State :=
  let r := s.portal p
  if r.cooldown = .due ∧ r.state = .cooldown then
    let s := s.updPortal p (fun r => { r with cooldown := .stopped, egressMemory := false })
    if r.faults = 3 then
      ((s.updPortal p (fun r => r.enter .faultDriver)).log .driverFault (some p) none
        (bytesOf 1 reasonShorts)).handLock p
    else
      let s := s.updPortal p (fun r => { r with probePending := true })
      if s.sources r ≠ 0 then s.holdUnlocked p
      else if r.door = .opened then (s.updPortal p (fun r => r.openTimed)).handLock p
      else if r.egressMemory then
        ((s.updPortal p (fun r => (r.enter .released).startPassage)).log .egress (some p) none
          (bytesOf 1 markRemembered)).handLock p
      else s.enterSecure p
  else s

/-- R126: the probe interval expires. DESIGN CHOICE (assumption 1). -/
def State.probeExpiry (p : Nat) (s : State) : State :=
  if (s.portal p).probe = .due then
    s.updPortal p (fun r => { r with probe := .stopped, probeElapsed := true })
  else s

/-! ## Outage and return (R129, R130) -/

/-- R129: what an outage, or the node's entry to UNKNOWN, clears. -/
def Portal.lost (st : PortalState) (r : Portal) : Portal :=
  { r.enter st with
    passageTimer := .stopped, cooldown := .stopped, probe := .stopped, probeElapsed := false
    openCounting := false, egressMemory := false, probePending := false, door := .unknown
    rex := none }

/-- R129: the passages are cancelled, the portal takes the state, and a portal that leaves COOLDOWN with
driver-fault count 3 records the latch. -/
def State.losePortal (p : Nat) (st : PortalState) (reason : CancelReason) (s : State) : State :=
  let r := s.portal p
  let s := (s.cancelAll p reason).updPortal p (Portal.lost st)
  if r.state = .cooldown ∧ r.faults = 3 then
    s.log .driverFault (some p) none (bytesOf 1 reasonShorts)
  else s

/-- R129: the portal's node has gone OFFLINE. -/
def State.portalOffline (p : Nat) (s : State) : State :=
  match (s.portal p).state with
  | .unconfigured | .waiting => s
  | _ => (s.losePortal p .faultOffline .nodeLost).handLock p

/-- R129: the portal's node has entered UNKNOWN. -/
def State.portalUnknown (p : Nat) (s : State) : State :=
  if (s.portal p).config.isNone then s
  else (s.losePortal p .waiting .nodeReset).applyDeferred p

/-- R130: a status block returns a portal in WAITING or FAULT_OFFLINE to service. -/
def State.portalReturn (p : Nat) (opened : Bool) (rex : Nat) (d : Driver) (s : State) : State :=
  let was := (s.portal p).state
  let s := s.updPortal p (fun r => { r with door := if opened then .opened else .closed, rex := some rex })
  let r := s.portal p
  if r.faults = 3 then (s.updPortal p (fun r => r.enter .faultDriver)).handLock p
  else if d = .openLoad then s.openLoadFailure p
  else if d = .short then s.shortFailure p
  else if s.sources r ≠ 0 then s.holdUnlocked p
  else if !opened then s.enterSecure p
  else
    ((s.updPortal p (fun r => (r.enter .held).startCount)).log .doorHeld (some p) none
      (bytesOf 2 0 ++ bytesOf 1 (returnMark was))).handLock p

/-- R115: the status block of a portal's node. -/
def State.portalStatus (p : Nat) (opened : Bool) (rex : Nat) (d : Driver) (s : State) : State :=
  match (s.portal p).state with
  | .unconfigured => s
  | .waiting | .faultOffline => s.portalReturn p opened rex d
  | _ => ((s.driverReport p d).doorReport p opened).rexReport p rex

/-- R133: a portal channel after a soft reset, its deferred configuration applied.
DESIGN CHOICE (assumption 40). -/
def State.resetPortal (p : Nat) (s : State) : State :=
  let r := s.portal p
  match r.config with
  | none => s
  | some old =>
    let c := r.deferred.getD old
    let s := if c.node ≠ old.node then s.releaseLockNode old.node else s
    let s := s.updPortal p (fun r =>
      { r.lost .waiting with
        config := some c, deferred := none, passages := [], faults := 0, hostHold := false
        window := if r.deferred.isSome then s.windowOf c else r.window })
    s.handLock p

/-- R29, R116: a second event reaches the portal's timers and its open-duration count. -/
def Portal.tick (r : Portal) : Portal :=
  { r with
    passageTimer := r.passageTimer.tick
    holdTimer := r.holdTimer.tick
    cooldown := r.cooldown.tick
    probe := r.probe.tick
    openSeconds := if r.openCounting then min 65535 (r.openSeconds + 1) else r.openSeconds }

/-! ## Portal slips -/

/-- R105: a timing value, the default where absent, brought into its range. -/
def timing (width lo hi default n : Nat) : Nat :=
  if n = 256 ^ width - 1 then default else max lo (min hi n)

/-- R105: a timing value was brought into its range. -/
def timingClamped (width lo hi n : Nat) : Bool :=
  n != 256 ^ width - 1 && (n < lo || hi < n)

/-- R104: the node of a configuration record at a byte of the body. -/
def Service.nodeAt (at_ : Nat) (v : Service) : NodeId :=
  { line := v.body at_ 1, address := v.body (at_ + 1) 1 }

/-- R104, R105: the configuration record of a PORTAL_PUT. DESIGN CHOICE (assumption 17). -/
def Service.portalConfig (v : Service) : PortalConfig :=
  { node := v.nodeAt 1
    outer := v.body 3 1
    inner := v.body 4 1
    headB := v.body 5 1 == 0
    passback := if v.body 6 1 = 0 then .strict else .soft
    unlock := timing 1 1 60 5 (v.body 7 1)
    hold := timing 2 5 600 30 (v.body 8 2)
    polarity := if v.body 10 1 = 0 then .powerToLock else .powerToRelease
    egress := v.body 11 1 == 1
    free := optionOf 1 (v.body 12 1) }

/-- R105: CLAMPED. -/
def Service.timingsClamped (v : Service) : Bool :=
  timingClamped 1 1 60 (v.body 7 1) || timingClamped 2 5 600 (v.body 8 2)

/-- Section 4.3: a line and an address in range. -/
def NodeId.ok (n : NodeId) : Bool :=
  n.line ≤ 3 && 1 ≤ n.address && n.address ≤ 30

/-- A node in range stands in the node table with this kind. -/
def State.nodeIs (n : NodeId) (kind : NodeKind) (s : State) : Bool :=
  n.ok && (s.node n).any (fun r => r.kind == kind)

/-- R105, R149, R150: the configuration in force or the deferred one names the node. -/
def Portal.names (n : NodeId) (r : Portal) : Bool :=
  r.config.any (fun c => c.node == n) || r.deferred.any (fun c => c.node == n)

/-- R105: another portal whose configuration in force or deferred names the node. -/
def State.portalClaim (n : NodeId) (besides : Option Nat) (s : State) : Option Nat :=
  (List.range Config.portals).find? (fun q => some q != besides && (s.portal q).names n)

/-- R105: the checks of PORTAL_PUT. Field 1 is the portal number; fields 2 to 11 are those of the
configuration record in the order of R104. DEDUCED (assumption 18). DESIGN CHOICE (assumption 41).
DESIGN CHOICE (assumption 46). -/
def portalPutProblem (v : Service) (s : State) : Option Answer :=
  let c := v.portalConfig
  firstProblem
    [ require (v.body 0 1 < Config.portals) (.badField 1),
      require (s.nodeIs c.node .portal) (.badField 2),
      require (c.outer ≤ 15) (.badField 3),
      require (1 ≤ c.inner && c.inner ≤ 15 && c.outer != c.inner) (.badField 4),
      require (v.body 5 1 ≤ 1) (.badField 5),
      require (v.body 6 1 ≤ 1) (.badField 6),
      require (v.body 10 1 ≤ 1) (.badField 9),
      require (flagOk (v.body 11 1)) (.badField 10),
      require (c.free.all (fun n => n ≤ 31)) (.badField 11),
      (s.portalClaim c.node (some (v.body 0 1))).map (fun q => .refusal .inUse (bytesOf 1 q)) ]

/-- R106: the two records differ in timing fields at most. -/
def PortalConfig.sameButTiming (c d : PortalConfig) : Bool :=
  { c with unlock := d.unlock, hold := d.hold } == d

/-- R105, R106: PORTAL_PUT. A refusal, BAD_FIELD or IN_USE, carries no CLAMPED, also where a timing value lies outside its
range. DESIGN CHOICE (assumption 23). DESIGN CHOICE (assumption 38). -/
def portalPut (v : Service) (s : State) : State × Stage :=
  let p := v.body 0 1
  let c := v.portalConfig
  match portalPutProblem v s with
  | some a => (s, .served a)
  | none =>
    let r := s.portal p
    match r.config with
    | none =>
      let s := s.updPortal p
        (fun r => { r with state := .waiting, config := some c, window := s.windowOf c })
      (s.handLock p, .served { Answer.done createdCode with clamped := v.timingsClamped })
    | some old =>
      if c.sameButTiming old then
        (s.updPortal p (fun r => { r with config := some c, deferred := none }),
          .served { Answer.done replacedCode with clamped := v.timingsClamped })
      else if r.state = .secure ∨ r.state = .waiting then
        (s.applyConfig p c, .served { Answer.done replacedCode with clamped := v.timingsClamped })
      else
        (s.updPortal p (fun r => { r with deferred := some c }),
          .served { Answer.done [] with deferred := true, clamped := v.timingsClamped })

/-- A slip that carries a portal number alone (field 1): refused BAD_FIELD above 47 and NOT_FOUND where the
portal is UNCONFIGURED (R108, R120, R123, R128). -/
def withPortal (v : Service) (s : State) (work : Nat → Portal → State × Answer) : State × Stage :=
  let p := v.body 0 1
  if Config.portals ≤ p then (s, .served (.badField 1))
  else if (s.portal p).config.isNone then (s, .served (.notFound 1))
  else ((work p (s.portal p)).1, .served (work p (s.portal p)).2)

/-- R108: PORTAL_DROP. -/
def portalDrop (v : Service) (s : State) : State × Stage :=
  withPortal v s (fun p r =>
    if r.passages ≠ [] then (s, .refusal .busy (bytesOf 1 r.passages.length))
    else
      let s := match r.config with
        | some c => s.releaseLockNode c.node
        | none => s
      (s.setPortal p Portal.blank, .done (bytesOf 1 r.state.code)))

/-- R120: PORTAL_PULSE. -/
def portalPulse (v : Service) (s : State) : State × Stage :=
  withPortal v s (fun p r =>
    match r.state with
    | .secure =>
      (((s.updPortal p (fun r => (r.enter .released).startPassage)).log .portalPulse (some p) none
        (bytesOf 1 r.state.code)).handLock p, .done (bytesOf 1 PortalState.released.code))
    | .released =>
      ((s.updPortal p (fun r => r.startPassage)).log .portalPulse (some p) none (bytesOf 1 r.state.code),
        .done (bytesOf 1 PortalState.released.code))
    | .heldUnlocked => (s, .done (bytesOf 1 r.state.code))
    | _ => (s, .refusal .notApplicable (bytesOf 1 r.state.code)))

/-- R123: the host hold is set or cleared and the sources are evaluated. -/
def State.setHostHold (p : Nat) (hold : Bool) (s : State) : State :=
  (s.updPortal p (fun r => { r with hostHold := hold })).evaluateSources p

/-- R123: the detail of PORTAL_HOLD and PORTAL_SECURE: the state after the slip and the sources present. -/
def State.holdDetail (p : Nat) (s : State) : List Byte :=
  bytesOf 1 (s.portal p).state.code ++ bytesOf 1 (s.sources (s.portal p))

/-- R123: PORTAL_HOLD. -/
def portalHold (v : Service) (s : State) : State × Stage :=
  withPortal v s (fun p _ => (s.setHostHold p true, .done ((s.setHostHold p true).holdDetail p)))

/-- R123: PORTAL_SECURE. -/
def portalSecure (v : Service) (s : State) : State × Stage :=
  withPortal v s (fun p _ => (s.setHostHold p false, .done ((s.setHostHold p false).holdDetail p)))

/-- R128: the state a portal in FAULT_DRIVER goes to at PORTAL_RESET, before a deferred configuration. -/
def State.afterReset (r : Portal) (s : State) : PortalState :=
  if s.sources r ≠ 0 then .heldUnlocked
  else if r.door = .opened then .opened else .secure

/-- R128: a portal leaves FAULT_DRIVER. The entry carries the state before a deferred configuration is applied.
DESIGN CHOICE (assumption 53). -/
def State.resetDriver (p : Nat) (s : State) : State :=
  let after := s.afterReset (s.portal p)
  let s := s.updPortal p
    (fun r => { r with faults := 0, probePending := false, probe := .stopped, probeElapsed := false })
  let s := s.log .portalReset (some p) none (bytesOf 1 after.code)
  match after with
  | .heldUnlocked => s.holdUnlocked p
  | .opened => (s.updPortal p (fun r => r.openTimed)).handLock p
  | _ => s.enterSecure p

/-- R128: PORTAL_RESET. The answer carries the state after a deferred configuration is applied.
DESIGN CHOICE (assumption 53). -/
def portalReset (v : Service) (s : State) : State × Stage :=
  withPortal v s (fun p r =>
    if r.state ≠ .faultDriver then (s, .refusal .notApplicable (bytesOf 1 r.state.code))
    else (s.resetDriver p, .done (bytesOf 1 ((s.resetDriver p).portal p).state.code)))

/-! ## Meanings -/

/-- R105: PORTAL_PUT. -/
def execPortalPut (s : State) : Host.Outcome State Fault Refusal :=
  .next (s.serve .portalPut portalPut)

/-- R108: PORTAL_DROP. -/
def execPortalDrop (s : State) : Host.Outcome State Fault Refusal :=
  .next (s.serve .portalDrop portalDrop)

/-- R120: PORTAL_PULSE. -/
def execPortalPulse (s : State) : Host.Outcome State Fault Refusal :=
  .next (s.serve .portalPulse portalPulse)

/-- R123: PORTAL_HOLD. -/
def execPortalHold (s : State) : Host.Outcome State Fault Refusal :=
  .next (s.serve .portalHold portalHold)

/-- R123: PORTAL_SECURE. -/
def execPortalSecure (s : State) : Host.Outcome State Fault Refusal :=
  .next (s.serve .portalSecure portalSecure)

/-- R128: PORTAL_RESET. -/
def execPortalReset (s : State) : Host.Outcome State Fault Refusal :=
  .next (s.serve .portalReset portalReset)

/-- R113: PASSAGE_TIMER_EXPIRY. -/
def execPassageTimerExpiry (portal : Nat) (s : State) : Host.Outcome State Fault Refusal :=
  .next (s.passageExpiry portal)

/-- R118: HOLD_TIMER_EXPIRY. -/
def execHoldTimerExpiry (portal : Nat) (s : State) : Host.Outcome State Fault Refusal :=
  .next (s.holdExpiry portal)

/-- R125: COOLDOWN_EXPIRY. -/
def execCooldownExpiry (portal : Nat) (s : State) : Host.Outcome State Fault Refusal :=
  .next (s.cooldownExpiry portal)

/-- R126: PROBE_INTERVAL_EXPIRY. -/
def execProbeIntervalExpiry (portal : Nat) (s : State) : Host.Outcome State Fault Refusal :=
  .next (s.probeExpiry portal)

end Sys2Proof.Machine
end

