-- ==== Sys2Proof/Machine/Cars.lean ====
section
/-! DEFINITION. Lift car release (chapter 7): the outputs, configurations, the release list, site modes, outages and the car
slips. -/

namespace Sys2Proof.Machine

/-- R144: the reasons of LIFT_RELEASE_END. -/
inductive ReleaseReason where
  | expired
  | displaced
  | removed
  | lockdown
  | evacuation
  | nodeLost
  | nodeReset
  deriving DecidableEq, Repr

/-- R144. -/
def ReleaseReason.code : ReleaseReason → Nat
  | .expired => 0
  | .displaced => 1
  | .removed => 2
  | .lockdown => 3
  | .evacuation => 4
  | .nodeLost => 5
  | .nodeReset => 6

/-! ## Outputs (R140) -/

/-- The floors of every entry in a release list. -/
def entryFloors (releases : List Release) : Word :=
  releases.foldr (fun e acc => e.floors ||| acc) 0

/-- R140: the floor-release output of a configured car under a site mode. -/
def Car.floorOutput (mode : SiteMode) (r : Car) (c : CarConfig) : Word :=
  match mode with
  | .normal => (c.pub ||| entryFloors r.releases) &&& c.served
  | .lockdown => entryFloors r.releases &&& c.served
  | .evacuate => 0

/-- R140: the recall output under a site mode. -/
def recallOutput (mode : SiteMode) : Bool :=
  mode == .evacuate

/-- R140: the outputs of a car are formed anew and handed to the line controller for its node. -/
def State.handFloors (c : Nat) (s : State) : State :=
  match (s.car c).config with
  | none => s
  | some g =>
    s.updNode g.node (fun n =>
      { n with floors := (s.car c).floorOutput s.mode.mode g, recallOn := recallOutput s.mode.mode })

/-- R140: a node named by no car is sent floors empty and recall off. -/
def State.releaseCarNode (n : NodeId) (s : State) : State :=
  s.updNode n (fun r => { r with floors := 0, recallOn := false })

/-! ## Configuration (R135, R136) -/

/-- R142, R145: the state of a configured car whose node is not OFFLINE. -/
def State.carStateByMode (s : State) : CarState :=
  if s.mode.mode = .evacuate then .inRecall else .inService

/-- R135: the state a car takes from its node and the site mode. DESIGN CHOICE (assumption 32). -/
def State.carStateFor (n : NodeId) (s : State) : CarState :=
  if (s.node n).any (fun r => r.state == .offline) then .offline else s.carStateByMode

/-- R136: a record replaces a car's configuration in force. DESIGN CHOICE (assumption 32). -/
def State.applyCar (c : Nat) (g : CarConfig) (s : State) : State :=
  let old := (s.car c).config
  let s := s.updCar c (fun r => { r with config := some g, deferred := none })
  match old with
  | some o =>
    if o.node = g.node then s.handFloors c
    else
      ((s.releaseCarNode o.node).updCar c
        (fun r => { r with state := s.carStateFor g.node, recallDone := false })).handFloors c
  | none => s.handFloors c

/-- R136, R139: an event that leaves the release list empty applies the deferred configuration; the outputs
are formed anew in every case. -/
def State.settleCar (c : Nat) (s : State) : State :=
  match (s.car c).deferred with
  | some g => if (s.car c).releases = [] then s.applyCar c g else s.handFloors c
  | none => s.handFloors c

/-! ## The release list (R138, R139) -/

/-- R144: a routine LIFT_RELEASE_END. -/
def State.logRelease (c : Nat) (reason : ReleaseReason) (e : Release) (s : State) : State :=
  s.log .liftReleaseEnd (some c) (some e.tenant) (bytesOf 1 reason.code ++ bytesOf 2 e.floors.toNat)

/-- R139: the tenant's entry, where the list holds one, leaves it. -/
def State.removeRelease (c tenant : Nat) (reason : ReleaseReason) (s : State) : State :=
  match (s.car c).releases.find? (fun e => e.tenant == tenant) with
  | none => s
  | some e =>
    ((s.updCar c (fun r => { r with releases := r.releases.filter (fun e => e.tenant != tenant) })).logRelease
      c reason e).settleCar c

/-- R139: every entry leaves the list, one LIFT_RELEASE_END for each, oldest first. -/
def State.emptyReleases (c : Nat) (reason : ReleaseReason) (s : State) : State :=
  (State.forEach (s.car c).releases (State.logRelease c reason)
    (s.updCar c (fun r => { r with releases := [] }))).settleCar c

/-- R138: a car grant is placed: refreshed, displacing the oldest, or appended. -/
def State.placeRelease (c tenant : Nat) (floors : Word) (s : State) : State :=
  let new : Release := { tenant := tenant, floors := floors, timer := Timer.set s.settings.window }
  let list := (s.car c).releases
  let others := list.filter (fun e => e.tenant != tenant)
  if list.any (fun e => e.tenant == tenant) then
    (s.updCar c (fun r => { r with releases := others ++ [new] })).handFloors c
  else if 4 ≤ list.length then
    let s := s.updCar c (fun r => { r with releases := list.tail ++ [new] })
    let s := match list.head? with
      | some e => s.logRelease c .displaced e
      | none => s
    s.handFloors c
  else (s.updCar c (fun r => { r with releases := list ++ [new] })).handFloors c

/-- R139: an entry's expiry timer expires. DESIGN CHOICE (assumption 1). -/
def State.releaseExpiry (c tenant : Nat) (s : State) : State :=
  if (s.car c).releases.any (fun e => e.tenant == tenant && e.timer == .due) then
    s.removeRelease c tenant .expired
  else s

/-- R12, R13: a dropped tenant's entries are removed from each car's list. -/
def State.removeReleases (tenant : Nat) (s : State) : State :=
  s.forEach (List.range Config.cars) (fun c s => s.removeRelease c tenant .removed)

/-- R29: a second event reaches the expiry timers of a car's entries. -/
def Car.tick (r : Car) : Car :=
  { r with releases := r.releases.map (fun e => { e with timer := e.timer.tick }) }

/-! ## Site modes and outages (R141, R142, R145) -/

/-- R141: one configured car acts on a change of the site mode, the new mode in force. -/
def State.carMode (c : Nat) (s : State) : State :=
  match (s.car c).state with
  | .unconfigured => s
  | .offline => s.handFloors c
  | .inService | .inRecall =>
    match s.mode.mode with
    | .normal =>
      if (s.car c).state = .inRecall then
        (s.updCar c (fun r => { r with state := .inService, recallDone := false })).handFloors c
      else s.handFloors c
    | .lockdown => s.emptyReleases c .lockdown
    | .evacuate =>
      let s := s.emptyReleases c .evacuation
      (s.updCar c (fun r =>
        { r with state := if r.state = .inService then .inRecall else r.state, recallDone := false })).handFloors c

/-- R174: the car release unit is told of a change of the site mode. -/
def State.carModeAll (s : State) : State :=
  s.forEach s.carNumbers State.carMode

/-- R142: the car's node has gone OFFLINE. -/
def State.carOffline (c : Nat) (s : State) : State :=
  (s.updCar c (fun r => { r with state := .offline, recallDone := false })).emptyReleases c .nodeLost

/-- R142: the car's node has been restored to ONLINE. -/
def State.carRestored (c : Nat) (s : State) : State :=
  (s.updCar c (fun r => { r with state := s.carStateByMode })).handFloors c

/-- R142: the car's node has entered UNKNOWN. -/
def State.carUnknown (c : Nat) (s : State) : State :=
  (s.updCar c (fun r =>
    { r with
      state := if r.state = .offline then s.carStateByMode else r.state
      recallDone := false })).emptyReleases c .nodeReset

/-- R142: the status block of a car's node. -/
def State.carStatus (c : Nat) (complete : Bool) (s : State) : State :=
  let r := s.car c
  if r.state = .inRecall ∧ complete ∧ !r.recallDone then
    (s.updCar c (fun r => { r with recallDone := true })).log .liftRecallComplete (some c) none []
  else s

/-- R145: a car channel after a soft reset, its deferred configuration applied. -/
def State.resetCar (c : Nat) (s : State) : State :=
  let r := s.car c
  match r.config with
  | none => s
  | some old =>
    let g := r.deferred.getD old
    let s := if g.node ≠ old.node then s.releaseCarNode old.node else s
    (s.setCar c { state := s.carStateByMode, config := some g, deferred := none, releases := [],
                  recallDone := false }).handFloors c

/-! ## Car slips -/

/-- R134, R135: the configuration record of a CAR_PUT. DESIGN CHOICE (assumption 17). -/
def Service.carConfig (v : Service) : CarConfig :=
  { node := v.nodeAt 1
    served := BitVec.ofNat 16 (v.body 3 2)
    pub := BitVec.ofNat 16 (v.body 5 2)
    needsVisit := v.body 7 1 == 1 }

/-- R135, R149, R150: the configuration in force or the deferred one names the node. -/
def Car.names (n : NodeId) (r : Car) : Bool :=
  r.config.any (fun c => c.node == n) || r.deferred.any (fun c => c.node == n)

/-- R135: another car whose configuration in force or deferred names the node. -/
def State.carClaim (n : NodeId) (besides : Option Nat) (s : State) : Option Nat :=
  (List.range Config.cars).find? (fun c => some c != besides && (s.car c).names n)

/-- R135: the checks of CAR_PUT. Field 1 is the car number; fields 2 to 5 are those of the configuration
record in the order of R134. DEDUCED (assumption 18). DESIGN CHOICE (assumption 46). -/
def carPutProblem (v : Service) (s : State) : Option Answer :=
  let g := v.carConfig
  firstProblem
    [ require (v.body 0 1 < Config.cars) (.badField 1),
      require (s.nodeIs g.node .car) (.badField 2),
      require (v.body 3 2 < 4096) (.badField 3),
      require (v.body 5 2 < 4096 && g.pub &&& ~~~g.served == 0#16) (.badField 4),
      require (flagOk (v.body 7 1)) (.badField 5),
      (s.carClaim g.node (some (v.body 0 1))).map (fun q => .refusal .inUse (bytesOf 1 q)) ]

/-- R135, R136: CAR_PUT. DESIGN CHOICE (assumption 23). -/
def carPut (v : Service) (s : State) : State × Stage :=
  let c := v.body 0 1
  let g := v.carConfig
  match carPutProblem v s with
  | some a => (s, .served a)
  | none =>
    let r := s.car c
    match r.config with
    | none =>
      ((s.setCar c { state := s.carStateFor g.node, config := some g, deferred := none,
                     releases := [], recallDone := false }).handFloors c, .served (.done createdCode))
    | some old =>
      if { g with needsVisit := old.needsVisit } = old then
        (s.updCar c (fun r => { r with config := some g, deferred := none }), .served (.done replacedCode))
      else if r.releases = [] then (s.applyCar c g, .served (.done replacedCode))
      else
        (s.updCar c (fun r => { r with deferred := some g }),
          .served { Answer.done [] with deferred := true })

/-- R137: CAR_DROP carries a car number (field 1). -/
def carDrop (v : Service) (s : State) : State × Stage :=
  let c := v.body 0 1
  if Config.cars ≤ c then (s, .served (.badField 1))
  else
    match (s.car c).config with
    | none => (s, .served (.notFound 1))
    | some g =>
      let r := s.car c
      if r.releases ≠ [] then (s, .served (.refusal .busy (bytesOf 1 r.releases.length)))
      else ((s.releaseCarNode g.node).setCar c Car.blank, .served (.done (bytesOf 1 r.state.code)))

/-- R135: CAR_PUT. -/
def execCarPut (s : State) : Host.Outcome State Fault Refusal :=
  .next (s.serve .carPut carPut)

/-- R137: CAR_DROP. -/
def execCarDrop (s : State) : Host.Outcome State Fault Refusal :=
  .next (s.serve .carDrop carDrop)

/-- R139: RELEASE_EXPIRY. -/
def execReleaseExpiry (car tenant : Nat) (s : State) : Host.Outcome State Fault Refusal :=
  .next (s.releaseExpiry car tenant)

end Sys2Proof.Machine
end

