-- ==== Sys2Proof/Machine/Lines.lean ====
section
/-! DEFINITION. Reader lines (chapter 8): polls and replies, the judgment of a reply, contact and outage, read tags, line
faults, and the line and node slips. -/

namespace Sys2Proof.Machine

/-! ## Last verdicts and the read queue (R46, R47) -/

/-- R47: a head of a PORTAL node gets a last verdict; a car head has none. -/
def Node.withVerdict (h : Head) (v : LastVerdict) (r : Node) : Node :=
  match h with
  | .a => if r.kind = .portal then { r with verdictA := v } else r
  | .b => if r.kind = .portal then { r with verdictB := v } else r
  | .car => r

/-- R47: both heads' last verdicts become none. -/
def Node.noVerdicts (r : Node) : Node :=
  { r with verdictA := .none, verdictB := .none }

/-- R148: every taken tag becomes none. -/
def Node.noTags (r : Node) : Node :=
  { r with tagA := none, tagB := none, tagCar := none }

/-- R147, R149: a node's reads waiting in the queue are discarded without a decision, those queued before a NODE_DROP of
the node among them. DESIGN CHOICE (assumption 49). -/
def State.discardReads (n : NodeId) (s : State) : State :=
  { s with reads := s.reads.filter (fun r => r.node != n) }

/-! ## Owners (R158, R160, R164) -/

/-- R158: the owners are told that a node has gone OFFLINE. -/
def State.ownersOffline (n : NodeId) (kind : NodeKind) (s : State) : State :=
  match kind with
  | .portal => match s.portalOf n with
    | some p => s.portalOffline p
    | none => s
  | .car => match s.carOf n with
    | some c => s.carOffline c
    | none => s
  | .unit => s.contactsUnknown n

/-- R149, R164: the owners act on a node's entry into UNKNOWN. -/
def State.ownersUnknown (n : NodeId) (kind : NodeKind) (s : State) : State :=
  match kind with
  | .portal => match s.portalOf n with
    | some p => s.portalUnknown p
    | none => s
  | .car => match s.carOf n with
    | some c => s.carUnknown c
    | none => s
  | .unit => s.contactsUnknown n

/-- R164: a node of a stopped line enters UNKNOWN; its last bad reply and desired outputs are kept. -/
def State.nodeUnknown (n : NodeId) (s : State) : State :=
  match s.node n with
  | none => s
  | some r =>
    (s.setNode n { r.noTags with state := .unknown, faults := 0, restore := 0 }).ownersUnknown n r.kind

/-- R158: a node goes OFFLINE. `cause` is a bad-reply code of R156, or 9 for LINE_FAULT (R208). The entry names no tenant.
DESIGN CHOICE (assumption 48). -/
def State.nodeOffline (n : NodeId) (cause : Nat) (s : State) : State :=
  match s.node n with
  | none => s
  | some r =>
    ((s.setNode n { r with state := .offline, restore := 0 }).log .nodeOffline (some n.subject) none
      (bytesOf 1 r.faults ++ bytesOf 1 cause)).ownersOffline n r.kind

/-! ## Cycles and exchanges (R154, R155) -/

/-- R154: the nodes due in a cycle, in ascending order of address. -/
def State.dueNodes (l : Nat) (cycle : Nat) (s : State) : List Nat :=
  (s.lineAddresses l).filter
    (fun a => (s.node ⟨l, a⟩).any (fun r => r.state != .offline || cycle == 0))

/-- R154: the cycle number rises by one and the next cycle's due nodes are fixed. -/
def State.nextCycle (l : Nat) (s : State) : State :=
  let cycle := ((s.line l).cycle + 1) % 8
  s.updLine l (fun r => { r with cycle := cycle, due := s.dueNodes l cycle })

/-- R154, R155: an exchange ends; after the last one of its cycle the next cycle starts. -/
def State.endExchange (l : Nat) (s : State) : State :=
  let s := s.updLine l (fun r => { r with exchange := .idle })
  if (s.line l).due = [] then s.nextCycle l else s

/-- R146, R154: a line enters RUNNING, and its cycle 0 starts with the nodes due in it. DEDUCED (assumption 14). -/
def Line.start (due : List Nat) (r : Line) : Line :=
  { r with state := .running, cycle := 0, check := .stopped, exchange := .idle, due := due }

/-- R146, R154: a line enters RUNNING on the node table as it stands. -/
def State.enterRunning (l : Nat) (s : State) : State :=
  s.updLine l (Line.start (s.dueNodes l 0))

/-- R147, R164: a line goes to STOPPED; the exchange in progress is abandoned and the recovery check timer
stopped. -/
def Line.stop (r : Line) : Line :=
  { r with state := .stopped, check := .stopped, exchange := .idle, due := [] }

/-! ## Polls (R152, R209) -/

/-- R153, R209: the check character: the sum of a frame's characters is 0 modulo 256. -/
def checkByte (frame : List Byte) : Byte :=
  0 - frame.foldl (fun acc b => acc + b) 0

/-- R209, R210: a taken tag in a poll; none is sent as 15. -/
def tagByte (t : Option Nat) : List Byte :=
  bytesOf 1 (t.getD 15)

/-- R47, R152, R209: the annunciator and verdict characters of a head. -/
def LastVerdict.bytes : LastVerdict → List Byte
  | .none => [0, 0xFF]
  | .pending => [1, 0xFF]
  | .given v => bytesOf 1 (if v.isGrant then 2 else 3) ++ bytesOf 1 v.code

/-- R152, R209: the poll of a node, without its check character. The recall character is 1 for on and 0 for off.
DESIGN CHOICE (assumption 54). Bit n of the two floor characters, the low one first, is floor n. DESIGN CHOICE (assumption 56). -/
def Node.pollBody (address : Nat) (r : Node) : List Byte :=
  match r.kind with
  | .portal =>
    bytesOf 1 address ++ [11, 0] ++ tagByte r.tagA ++ tagByte r.tagB
      ++ bytesOf 1 (r.lock.code + 2 * r.polarity.code) ++ r.verdictA.bytes ++ r.verdictB.bytes
  | .car =>
    bytesOf 1 address ++ [8, 1] ++ tagByte r.tagCar ++ bytesOf 2 r.floors.toNat ++ flagByte r.recallOn
  | .unit => bytesOf 1 address ++ [5, 2, 15]

/-- R151, R209: a frame as the controller sends it: the first character, which carries the address, is marked and
no other; every stop bit stands at mark. -/
def sentFrame : List Byte → List LineChar
  | [] => []
  | address :: rest =>
    { data := address, mark := true, stopOk := true }
      :: rest.map (fun b => { data := b, mark := false, stopOk := true })

/-- R152: the poll of a node. -/
def Node.poll (address : Nat) (r : Node) : List LineChar :=
  sentFrame (r.pollBody address ++ [checkByte (r.pollBody address)])

/-- R154, R155: a RUNNING line with no exchange in progress sends a poll to the next due node.
DESIGN CHOICE (assumption 1). DESIGN CHOICE (assumption 13). -/
def State.sendPoll (l : Nat) (s : State) : State :=
  let r := s.line l
  if r.state = .running ∧ r.exchange = .idle then
    match r.due with
    | [] => s
    | a :: rest =>
      match s.node ⟨l, a⟩, r.record with
      | some n, some g =>
        s.setLine l { r with due := rest, exchange := .polled a g.rate (n.poll a) }
      | _, _ => s.setLine l { r with due := rest }
  else s

/-- R154: an idle cycle has lasted 16 character times. DESIGN CHOICE (assumption 1). -/
def State.idleCycleEnd (l : Nat) (s : State) : State :=
  let r := s.line l
  if r.state = .running ∧ r.exchange = .idle ∧ r.due = [] then s.nextCycle l else s

/-- R155: the address of the node whose reply the line waits for. -/
def Line.polledNode (r : Line) : Option Nat :=
  match r.state, r.exchange with
  | .running, .polled a _ _ => some a
  | _, _ => none

/-! ## Replies (R153, R156, R209, R210) -/

/-- R153, R210: the valid reply lengths of a kind. -/
def NodeKind.lengthOk (kind : NodeKind) (n : Nat) : Bool :=
  match kind with
  | .portal | .car => n == 4 || n == 13
  | .unit => n == 8

/-- R156: a character after the first with its stop bit at space, or with the mark bit. DEDUCED (assumption 16). -/
def framingError (c : LineChar) : Bool :=
  !c.stopOk || c.mark

/-- R161: a read block. -/
structure ReadBlock where
  head       : Nat
  key        : Key
  companions : Nat
  tag        : Nat
  deriving DecidableEq, Repr

/-- R209: the read block of 9 characters from character 3 on, in a reply of 13. -/
def readBlockOf (bytes : List Byte) : Option ReadBlock :=
  if bytes.length = 13 then
    some { head := field 3 1 bytes, key := keyAt 4 bytes, companions := field 10 1 bytes,
           tag := field 11 1 bytes }
  else none

/-- R156, R210: the contents of a reply are within their codes. -/
def contentOk (kind : NodeKind) (bytes : List Byte) : Bool :=
  (kind != .portal || field 2 1 bytes / 2 % 4 != 3)
    && (readBlockOf bytes).all (fun b => b.head ≤ 2 && b.companions ≤ 9 && b.tag ≤ 14)

/-- R155, R156: the characters after the second, of which `left` are announced. DEDUCED (assumption 16). -/
def judgeRest (kind : NodeKind) (bytes : List Byte) : Nat → List LineChar → Option BadReply
  | 0, [] =>
    if bytes.foldl (fun acc b => acc + b) 0 ≠ 0 then some .check
    else if contentOk kind bytes then none
    else some .badContent
  | 0, _ :: _ => some .tooLong
  | _ + 1, [] => some .cutShort
  | left + 1, c :: cs => if framingError c then some .framing else judgeRest kind bytes left cs

/-- R155, R156: the judgment of a reply: the first fault found, or none where the reply is good.
DEDUCED (assumption 16). -/
def judge (kind : NodeKind) (address : Nat) (frame : List LineChar) : Option BadReply :=
  match frame with
  | [] => some .silent
  | c :: rest =>
    if !c.stopOk then some .framing
    else if !c.mark || c.data.toNat != address then some .wrongAddress
    else
      match rest with
      | [] => some .cutShort
      | n :: rest =>
        if framingError n then some .framing
        else if !kind.lengthOk n.data.toNat then some .badLength
        else judgeRest kind (frame.map (fun (c : LineChar) => c.data)) (n.data.toNat - 2) rest

/-! ## Reads (R45, R161) -/

/-- R161: the head a head character names. -/
def headOf (n : Nat) : Head :=
  if n = 0 then .a else if n = 1 then .b else .car

/-- R161: whether a node's kind has the head. -/
def Node.hasHead (h : Head) (r : Node) : Bool :=
  match r.kind, h with
  | .portal, .a | .portal, .b | .car, .car => true
  | _, _ => false

/-- R148: the taken tag of a head. -/
def Node.tag (h : Head) (r : Node) : Option Nat :=
  match h with
  | .a => r.tagA
  | .b => r.tagB
  | .car => r.tagCar

/-- R161: the head's taken tag becomes the read tag. -/
def Node.withTag (h : Head) (t : Nat) (r : Node) : Node :=
  match h with
  | .a => { r with tagA := some t }
  | .b => { r with tagB := some t }
  | .car => { r with tagCar := some t }

/-- R45: the read formed from a read block. -/
def ReadBlock.read (n : NodeId) (b : ReadBlock) : Read :=
  { node := n, head := headOf b.head, key := b.key, companions := min 3 b.companions,
    clamped := 3 < b.companions, tag := b.tag, orphan := false }

/-- R161: a read block of a reply handed on is a repeat, is taken, or is not taken for a full queue. -/
def State.takeRead (n : NodeId) (b : ReadBlock) (s : State) : State :=
  match s.node n with
  | none => s
  | some r =>
    let h := headOf b.head
    if r.hasHead h && r.tag h == some b.tag then s
    else if Config.reads ≤ s.reads.length then s
    else
      let s := { s with reads := s.reads ++ [b.read n] }
      if r.hasHead h then s.setNode n ((r.withTag h b.tag).withVerdict h .pending) else s

/-! ## Good and bad replies (R157 to R160) -/

/-- R209: the driver state in a portal's status character. -/
def driverOf (status : Nat) : Driver :=
  match status / 2 % 4 with
  | 0 => .ok
  | 1 => .short
  | _ => .openLoad

/-- R160, step 1: the status block goes to the node's owner. -/
def State.handStatus (n : NodeId) (kind : NodeKind) (how : ReplyStanding) (bytes : List Byte) (s : State) :
    State :=
  let status := field 2 1 bytes
  match kind with
  | .portal => match s.portalOf n with
    | some p => s.portalStatus p (status % 2 == 1) (status / 16) (driverOf status)
    | none => s
  | .car => match s.carOf n with
    | some c => s.carStatus c (status % 2 == 1)
    | none => s
  | .unit => s.unitReport n (field 2 4 bytes) (field 6 1 bytes % 2 == 1) how

/-- R160: a good reply is handed on, its status block first and then its read block. -/
def State.handOn (n : NodeId) (kind : NodeKind) (how : ReplyStanding) (bytes : List Byte) (s : State) :
    State :=
  let s := s.handStatus n kind how bytes
  match readBlockOf bytes with
  | some b => if kind = .unit then s else s.takeRead n b
  | none => s

/-- R159: a node is restored. The entry names no tenant. DESIGN CHOICE (assumption 48). -/
def State.restoreNode (n : NodeId) (r : Node) (s : State) : State :=
  let s := s.setNode n { r.noTags.noVerdicts with state := .online, faults := 0, restore := 0 }
  let s := s.log .nodeRestored (some n.subject) none []
  match r.kind with
  | .car => match s.carOf n with
    | some c => s.carRestored c
    | none => s
  | _ => s

/-- R157: a good reply. -/
def State.goodReply (n : NodeId) (bytes : List Byte) (s : State) : State :=
  match s.node n with
  | none => s
  | some r =>
    let r' := { r with faults := r.faults - 1 }
    match r.state with
    | .unknown => (s.setNode n { r' with state := .online }).handOn n r.kind .fromUnknown bytes
    | .online => (s.setNode n r').handOn n r.kind .online bytes
    | .offline =>
      if r.restore + 1 < 3 then s.setNode n { r' with restore := r.restore + 1 }
      else (s.restoreNode n r).handOn n r.kind .restoring bytes

/-- R157: a bad reply is counted against the polled node. -/
def State.badReply (n : NodeId) (kind : BadReply) (s : State) : State :=
  match s.node n with
  | none => s
  | some r =>
    let faults := min 15 (r.faults + 1)
    let r' := { r with faults := faults, lastBad := some kind }
    match r.state with
    | .offline => s.setNode n { r' with restore := 0 }
    | .unknown | .online =>
      if s.settings.faultLimit < faults then (s.setNode n r').nodeOffline n kind.code
      else s.setNode n r'

/-- R155, step 5: a bad reply to the poll in progress, after which the line waits for quiet.
DESIGN CHOICE (assumption 1). DESIGN CHOICE (assumption 13). -/
def State.exchangeBad (l : Nat) (kind : BadReply) (s : State) : State :=
  match (s.line l).polledNode with
  | none => s
  | some a => (s.badReply ⟨l, a⟩ kind).updLine l (fun r => { r with exchange := .quietWait })

/-- R155, R157: a reply to the poll in progress is judged.
DESIGN CHOICE (assumption 1). DESIGN CHOICE (assumption 13). -/
def State.judgeReply (l : Nat) (frame : List LineChar) (s : State) : State :=
  match (s.line l).polledNode with
  | none => s
  | some a =>
    match s.node ⟨l, a⟩ with
    | none => s
    | some r =>
      match judge r.kind a frame with
      | some kind => s.exchangeBad l kind
      | none => (s.goodReply ⟨l, a⟩ (frame.map (fun (c : LineChar) => c.data))).endExchange l

/-- R155: the line has stood at mark for 2 character times; the exchange ends. DESIGN CHOICE (assumption 1). -/
def State.quietWaitEnd (l : Nat) (s : State) : State :=
  if (s.line l).state = .running ∧ (s.line l).exchange = .quietWait then s.endExchange l else s

/-! ## Line faults (R162, R163) -/

/-- R162: the reasons of LINE_FAULT. -/
inductive FaultReason where
  | break_
  | noQuiet
  deriving DecidableEq, Repr

/-- R162. -/
def FaultReason.code : FaultReason → Nat
  | .break_ => 0
  | .noQuiet => 1

/-- R208: the cause LINE_FAULT of NODE_OFFLINE. -/
def causeLineFault : Nat := 9

/-- R162, step 3: the nodes of a line that a fault takes OFFLINE. -/
def State.contactNodes (l : Nat) (s : State) : List Nat :=
  (s.lineAddresses l).filter (fun a => (s.node ⟨l, a⟩).any (fun r => r.state != .offline))

/-- R162: what a line fault does to the node at an address: a node in contact goes OFFLINE, and the restore count
of every other is 0. -/
def State.faultNode (l : Nat) (lost : List Nat) (a : Nat) (s : State) : State :=
  if lost.contains a then s.nodeOffline ⟨l, a⟩ causeLineFault
  else s.updNode ⟨l, a⟩ (fun r => { r with restore := 0 })

/-- R162: the line enters FAULT. The entry names no tenant. DESIGN CHOICE (assumption 48). -/
def State.faultLine (l : Nat) (reason : FaultReason) (s : State) : State :=
  let lost := s.contactNodes l
  let s := s.updLine l (fun r =>
    { r with state := .fault, check := .running Config.recoverySeconds, exchange := .idle, due := [] })
  let s := s.log .lineFault (some l) none (bytesOf 1 reason.code ++ bytesOf 1 lost.length)
  s.forEach (s.lineAddresses l) (State.faultNode l lost)

/-- R162: the line is watched: it is RUNNING and no poll waits for its reply. DESIGN CHOICE (assumption 13). -/
def Line.watched (r : Line) : Bool :=
  r.state == .running && r.polledNode.isNone

/-- R162: a break on a watched line. DESIGN CHOICE (assumption 1). -/
def State.lineBreak (l : Nat) (s : State) : State :=
  if (s.line l).watched then s.faultLine l .break_ else s

/-- R162: the quiet wait has run 32 character times without quiet. DESIGN CHOICE (assumption 1). -/
def State.lineNoQuiet (l : Nat) (s : State) : State :=
  if (s.line l).state = .running ∧ (s.line l).exchange = .quietWait then s.faultLine l .noQuiet else s

/-- R163: the recovery check timer of a line in FAULT expires. The LINE_RESTORED entry names no tenant.
DESIGN CHOICE (assumption 1). DESIGN CHOICE (assumption 48). -/
def State.recoveryCheck (l : Nat) (idle : Bool) (s : State) : State :=
  let r := s.line l
  if r.state = .fault ∧ r.check = .due then
    if idle then (s.enterRunning l).log .lineRestored (some l) none []
    else s.setLine l { r with check := .running Config.recoverySeconds }
  else s

/-! ## Stopping and starting (R147, R164) -/

/-- R164: a line stops and each of its nodes enters UNKNOWN, in ascending order of address. -/
def State.stopLine (l : Nat) (s : State) : State :=
  let s := s.updLine l Line.stop
  s.forEach (s.lineAddresses l) (fun a s => s.nodeUnknown ⟨l, a⟩)

/-- R164: HALT stops every line. -/
def State.stopLines (s : State) : State :=
  s.forEach (List.range 4) State.stopLine

/-- R146: a line that is configured, enabled and STOPPED starts. -/
def State.startLine (l : Nat) (s : State) : State :=
  if (s.line l).state = .stopped ∧ (s.line l).record.any (fun g => g.enabled) then s.enterRunning l else s

/-- R164: RUN starts each configured and enabled line. -/
def State.startLines (s : State) : State :=
  s.forEach (List.range 4) State.startLine

/-- R67: HALT and soft reset empty the read queue without decisions and set every last verdict to none. -/
def State.flushReads (s : State) : State :=
  { s with reads := [], nodes := Table.mapValues Node.noVerdicts s.nodes }

/-- R165: a node record after a soft reset; the desired outputs are handed by the owners. A tamper state that returns from
SET to CLEAR writes no entry. DESIGN CHOICE (assumption 55). -/
def Node.softReset (r : Node) : Node :=
  { r.noTags.noVerdicts with state := .unknown, faults := 0, restore := 0, lastBad := none, tamper := false }

/-- R165: a line after a soft reset. -/
def Line.softReset (r : Line) : Line :=
  { r.stop with cycle := 0 }

/-! ## LINE_PUT, NODE_PUT, NODE_DROP -/

/-- R146, R203: the rates in their order. DESIGN CHOICE (assumption 17). -/
def rateOf (n : Nat) : LineRate :=
  match n with
  | 0 => .r19200
  | 1 => .r38400
  | 2 => .r57600
  | _ => .r115200

/-- R147: a RUNNING or FAULT line given enabled clear: its nodes' reads are discarded, and it stops. -/
def State.disableLine (l : Nat) (s : State) : State :=
  let s := s.stopLine l
  s.forEach (s.lineAddresses l)
    (fun a s => (s.discardReads ⟨l, a⟩).updNode ⟨l, a⟩ Node.noVerdicts)

/-- R147: the line state acts on the record given. -/
def State.settleLine (l : Nat) (enabled : Bool) (s : State) : State :=
  match (s.line l).state with
  | .stopped => if enabled && s.bus.run == .run then s.enterRunning l else s
  | .running | .fault => if enabled then s else s.disableLine l

/-- R147: LINE_PUT carries a line (field 1), an enabled value (2) and a rate (3).
DESIGN CHOICE (assumption 17). DEDUCED (assumption 18). DESIGN CHOICE (assumption 46). -/
def linePut (v : Service) (s : State) : State × Stage :=
  let l := v.body 0 1
  let enabled := v.body 1 1 == 1
  let problem := firstProblem
    [ require (l ≤ 3) (.badField 1), require (flagOk (v.body 1 1)) (.badField 2),
      require (v.body 2 1 ≤ 3) (.badField 3) ]
  let reads := if (s.line l).record.isNone then createdCode else replacedCode
  let s' := (s.updLine l
    (fun r => { r with record := some { enabled := enabled, rate := rateOf (v.body 2 1) } })).settleLine l enabled
  checked problem (s', .done (reads ++ bytesOf 1 (s'.line l).state.code)) s

/-- R149: a node record put at a vacant line and address, with the outputs of an unnamed node (R148). -/
def Node.fresh (kind : NodeKind) : Node :=
  { kind := kind, state := .unknown, faults := 0, restore := 0, tagA := none, tagB := none,
    tagCar := none, lastBad := none, verdictA := .none, verdictB := .none, lock := .locked,
    polarity := .powerToRelease, floors := 0, recallOn := false, tamper := false }

/-- R149: a standing record put anew; where the kind changes nothing names the node, and its outputs are
those of an unnamed node. A tamper state that returns from SET to CLEAR writes no entry. DESIGN CHOICE (assumption 55). -/
def Node.putAnew (kind : NodeKind) (r : Node) : Node :=
  if r.kind = kind then
    { r.noTags.noVerdicts with state := .unknown, faults := 0, restore := 0, lastBad := none, tamper := false }
  else Node.fresh kind

/-- R203. -/
def kindOf (n : Nat) : NodeKind :=
  if n = 0 then .portal else if n = 1 then .car else .unit

/-- R149, R150: what names a node: PORTAL 0, CAR 1, UNIT 2. -/
def State.claimant (n : NodeId) (s : State) : Option Nat :=
  if (s.portalClaim n none).isSome then some 0
  else if (s.carClaim n none).isSome then some 1
  else if s.units.any (fun u => u.2.contact.any (fun c => c.node == n)) then some 2
  else none

/-- R155: the exchange in progress with a node is abandoned; the line waits for quiet. -/
def State.abandonExchange (n : NodeId) (s : State) : State :=
  if (s.line n.line).polledNode = some n.address then
    s.updLine n.line (fun r => { r with exchange := .quietWait })
  else s

/-- R149: a standing record is put anew. DESIGN CHOICE (assumption 15). -/
def State.renewNode (n : NodeId) (r : Node) (kind : NodeKind) (s : State) : State :=
  (((s.abandonExchange n).setNode n (r.putAnew kind)).discardReads n).ownersUnknown n kind

/-- R149: NODE_PUT carries a line (field 1), an address (2) and a kind (3). DEDUCED (assumption 18).
DESIGN CHOICE (assumption 46). -/
def nodePut (v : Service) (s : State) : State × Stage :=
  let n := v.nodeAt 0
  let kind := kindOf (v.body 2 1)
  match firstProblem
      [ require (n.line ≤ 3) (.badField 1), require (1 ≤ n.address && n.address ≤ 30) (.badField 2),
        require (v.body 2 1 ≤ 2) (.badField 3) ] with
  | some a => (s, .served a)
  | none =>
    match s.node n with
    | none => (s.setNode n (Node.fresh kind), .served (.done createdCode))
    | some r =>
      match s.claimant n with
      | some who =>
        if r.kind = kind then
          (s.renewNode n r kind, .served (.done (replacedCode ++ bytesOf 1 r.state.code)))
        else (s, .served (.refusal .inUse (bytesOf 1 who)))
      | none => (s.renewNode n r kind, .served (.done (replacedCode ++ bytesOf 1 r.state.code)))

/-- R154: a dropped node is not polled; where it was the last node due and no exchange is in progress, the
cycle is over. DESIGN CHOICE (assumption 15). -/
def State.dropDue (n : NodeId) (s : State) : State :=
  let r := s.line n.line
  let due := r.due.filter (fun a => a != n.address)
  let s := s.setLine n.line { r with due := due }
  if r.due ≠ [] ∧ due = [] ∧ r.exchange = .idle then s.nextCycle n.line else s

/-- R150: a node record is removed; its reads in the queue stay to be decided, their verdicts not stored.
DEDUCED (assumption 25). -/
def State.removeNode (n : NodeId) (s : State) : State :=
  let s := s.abandonExchange n
  let s := { s with
    nodes := Table.erase n.code s.nodes
    reads := s.reads.map (fun (r : Read) => if r.node = n then { r with orphan := true } else r) }
  s.dropDue n

/-- R150: NODE_DROP carries a line (field 1) and an address (2). DEDUCED (assumption 18).
DESIGN CHOICE (assumption 46). -/
def nodeDrop (v : Service) (s : State) : State × Stage :=
  let n := v.nodeAt 0
  match firstProblem
      [ require (n.line ≤ 3) (.badField 1), require (1 ≤ n.address && n.address ≤ 30) (.badField 2) ] with
  | some a => (s, .served a)
  | none =>
    match s.node n with
    | none => (s, .served (.notFound 1))
    | some r =>
      match s.claimant n with
      | some who => (s, .served (.refusal .inUse (bytesOf 1 who)))
      | none => (s.removeNode n, .served (.done (bytesOf 1 r.state.code)))

/-! ## Meanings -/

/-- R147: LINE_PUT. -/
def execLinePut (s : State) : Host.Outcome State Fault Refusal :=
  .next (s.serve .linePut linePut)

/-- R149: NODE_PUT. -/
def execNodePut (s : State) : Host.Outcome State Fault Refusal :=
  .next (s.serve .nodePut nodePut)

/-- R150: NODE_DROP. -/
def execNodeDrop (s : State) : Host.Outcome State Fault Refusal :=
  .next (s.serve .nodeDrop nodeDrop)

/-- R155: POLL. -/
def execPoll (line : Nat) (s : State) : Host.Outcome State Fault Refusal :=
  .next (s.sendPoll line)

/-- R154: IDLE_CYCLE_END. -/
def execIdleCycleEnd (line : Nat) (s : State) : Host.Outcome State Fault Refusal :=
  .next (s.idleCycleEnd line)

/-- R157: REPLY. -/
def execReply (line : Nat) (frame : List LineChar) (s : State) : Host.Outcome State Fault Refusal :=
  .next (s.judgeReply line frame)

/-- R155: REPLY_WINDOW_EXPIRY: the reply is SILENT. -/
def execReplyWindowExpiry (line : Nat) (s : State) : Host.Outcome State Fault Refusal :=
  .next (s.exchangeBad line .silent)

/-- R155: QUIET_WAIT_END. -/
def execQuietWaitEnd (line : Nat) (s : State) : Host.Outcome State Fault Refusal :=
  .next (s.quietWaitEnd line)

/-- R162: LINE_BREAK. -/
def execLineBreak (line : Nat) (s : State) : Host.Outcome State Fault Refusal :=
  .next (s.lineBreak line)

/-- R162: NO_QUIET. -/
def execNoQuiet (line : Nat) (s : State) : Host.Outcome State Fault Refusal :=
  .next (s.lineNoQuiet line)

/-- R163: RECOVERY_CHECK_EXPIRY. -/
def execRecoveryCheckExpiry (line : Nat) (idle : Bool) (s : State) : Host.Outcome State Fault Refusal :=
  .next (s.recoveryCheck line idle)

/-- R155: COLLISION. -/
def execCollision (line : Nat) (s : State) : Host.Outcome State Fault Refusal :=
  .next (s.exchangeBad line .collision)

/-- R155: GAP_LIMIT_EXPIRY: the reply is CUT_SHORT. -/
def execGapLimitExpiry (line : Nat) (s : State) : Host.Outcome State Fault Refusal :=
  .next (s.exchangeBad line .cutShort)

end Sys2Proof.Machine
end

