-- ==== Sys2Proof/Machine/Decisions.lean ====
section
/-! DEFINITION. Access decisions (chapter 3): what a read's head asks for, the steps at portal heads and at car heads, the
journal entry, the placing of a grant and the last verdict. -/

namespace Sys2Proof.Machine

/-! ## What the head asks for (R49) -/

/-- R49. -/
inductive Asked where
  | portal (p : Nat) (c : PortalConfig)
  | car (c : Nat) (g : CarConfig)
  | nothing
  deriving DecidableEq, Repr

/-- R49: the portal or car that a read's head belongs to, by the configuration in force. -/
def State.asked (r : Read) (s : State) : Asked :=
  match s.portalOf r.node, s.carOf r.node with
  | some p, _ =>
    match (s.portal p).config, r.head with
    | some c, .a => .portal p c
    | some c, .b => if c.headB then .portal p c else .nothing
    | _, _ => .nothing
  | none, some c =>
    match (s.car c).config, r.head with
    | some g, .car => .car c g
    | _, _ => .nothing
  | none, none => .nothing

/-- R49: head A is the ENTRY head. -/
def Head.isEntry (h : Head) : Bool :=
  h == .a

/-- R49: the zone asked for. -/
def PortalConfig.target (h : Head) (c : PortalConfig) : Nat :=
  if h.isEntry then c.inner else c.outer

/-- R49: the zone the tenant must stand in. -/
def PortalConfig.origin (h : Head) (c : PortalConfig) : Nat :=
  if h.isEntry then c.outer else c.inner

/-! ## The credential and the tenant (R50) -/

/-- The first step that fails gives the verdict (sections 3.3 and 3.4). -/
def firstDenial (steps : List (Option Verdict)) : Option Verdict :=
  steps.findSome? id

/-- A step that denies where its condition holds. -/
def denyIf (fails : Bool) (v : Verdict) : Option Verdict :=
  if fails then some v else none

/-- R50: a read's credential, with the tenant it names. DESIGN CHOICE (assumption 33). -/
def State.presented (r : Read) (s : State) : Option (Credential × Tenant) :=
  match Table.find r.key.code s.creds with
  | some c => (s.tenant c.tenant).map (fun t => (c, t))
  | none => none

/-- R50: the steps on the credential's state, its expiry and the tenant's state. -/
def State.credentialDenial (c : Credential) (t : Tenant) (s : State) : Option Verdict :=
  firstDenial
    [ denyIf (c.state == .suspended) .credentialSuspended,
      denyIf (s.clock.isSet && c.expiry.any (fun d => d < s.clock.today)) .credentialExpired,
      denyIf (t.state == .blocked) .tenantBlocked ]

/-! ## Standing, hours and zones (R8, R53) -/

/-- R8: the common zones, taken from the zone records. -/
def State.commonZones (s : State) : Word :=
  (List.range 16).foldl (fun acc z => if (s.zone z).common then acc ||| only z else acc) 0

/-- R8: the permitted mask. -/
def State.permitted (t : Tenant) (st : Standing) (s : State) : Word :=
  match st with
  | .current | .grace => t.mask
  | .overdue => s.commonZones
  | .lockedOut => 0

/-- R53, R60: CLOCK_UNSET or LOCKED_OUT for a tenant who is not staff. -/
def State.standingDenial (t : Tenant) (s : State) : Option Verdict :=
  match s.standing t.paid with
  | none => some .clockUnset
  | some st => denyIf (st == .lockedOut) .lockedOut

/-- R53, R60: the window test on the tenant's profile. -/
def State.hoursDenial (t : Tenant) (s : State) : Option Verdict :=
  denyIf (!s.windowTest t.profile) .outsideHours

/-- R53: the standing that travels with a grant at a portal. -/
def State.grantStanding (t : Tenant) (s : State) : Standing :=
  if t.staff then .current else (s.standing t.paid).getD .current

/-! ## Portal heads (R51 to R58) -/

/-- R51: what the tenant's pending-passage link says of a read at a head of a portal. -/
inductive Transit where
  | free
  | again
  | elsewhere
  deriving DecidableEq, Repr

/-- R51. -/
def State.transitAt (p : Nat) (h : Head) (tenant : Nat) (t : Tenant) (s : State) : Transit :=
  match t.transit with
  | none => .free
  | some q =>
    if q = p ∧ (s.portal p).passages.any (fun g => g.tenant == tenant && g.head == h) then .again
    else .elsewhere

/-- R52: the site mode at an ENTRY head. -/
def State.modeDenial (h : Head) (t : Tenant) (s : State) : Option Verdict :=
  match s.mode.mode with
  | .normal => none
  | .lockdown => denyIf (h.isEntry && !t.staff) .lockdown
  | .evacuate => denyIf h.isEntry .evacuation

/-- R53: steps six to eight, at ENTRY heads and for tenants who are not staff. -/
def State.entryDenial (h : Head) (target : Nat) (t : Tenant) (s : State) : Option Verdict :=
  if h.isEntry && !t.staff then
    firstDenial
      [ s.standingDenial t, s.hoursDenial t,
        denyIf (!inSet target (s.permitted t ((s.standing t.paid).getD .lockedOut))) .zoneNotPermitted ]
  else none

/-- R54: the tenant's visit does not match the head's required origin. -/
def mismatch (visit : Option Visit) (origin : Nat) : Bool :=
  match visit with
  | some v => v.zone != origin
  | none => origin != 0

/-- R54: the denial on a mismatch at a STRICT portal for a tenant who is not staff. -/
def passbackDenial (visit : Option Visit) (origin : Nat) (c : PortalConfig) (t : Tenant) : Option Verdict :=
  denyIf (mismatch visit origin && c.passback == .strict && !t.staff)
    (if visit.isSome then .passback else .notOnSite)

/-- R55: the kind of passage. -/
def passageKind (visit : Option Visit) (target : Nat) : PassageKind :=
  if target = 0 then .finish else if visit.isSome then .move else .create

/-- R55: the party of the passage. -/
def passageParty (visit : Option Visit) (companions : Nat) : Nat :=
  match visit with
  | some v => v.party
  | none => 1 + companions

/-- R56: the zone limit, which an EXIT head does not test in EVACUATE. -/
def State.zoneDenial (h : Head) (visit : Option Visit) (target party : Nat) (t : Tenant) (s : State) :
    Option Verdict :=
  let z := s.zone target
  denyIf
    (target != 0 && !t.staff && !visit.any (fun v => v.zone == target)
      && !(s.mode.mode == .evacuate && !h.isEntry) && z.limit < z.count + z.reserved + party)
    .zoneFull

/-- R56: room in the register for a CREATE. -/
def State.registerDenial (kind : PassageKind) (s : State) : Option Verdict :=
  denyIf (kind == .create && Config.visits ≤ s.register.visits.length + s.register.creating) .registerFull

/-- R57: the portal's state and its pending list. -/
def Portal.denial (r : Portal) : Option Verdict :=
  if !r.state.inService then some .portalFault
  else denyIf (2 ≤ r.passages.length) .portalBusy

/-- R58: the form of a grant at a portal. -/
def grantForm (t : Tenant) (soft : Bool) : Verdict :=
  if t.staff then .grantStaff else if soft then .grantSoft else .grant

/-- What a read is given: a denial, a repeat grant (R51), a passage (R58) or floors (R62). -/
inductive Ruling where
  | deny (v : Verdict)
  | again
  | pass (v : Verdict) (g : Passage)
  | ride (v : Verdict) (floors : Word)
  deriving DecidableEq, Repr

/-- The verdict of a ruling. -/
def Ruling.verdict : Ruling → Verdict
  | .deny v | .pass v _ | .ride v _ => v
  | .again => .grant

/-- R58: the passage that a grant hands the portal controller. -/
def State.passageFor (r : Read) (c : PortalConfig) (tenant : Nat) (t : Tenant) (s : State) : Passage :=
  let visit := s.visitOf tenant
  let target := c.target r.head
  { tenant := tenant, kind := passageKind visit target, party := passageParty visit r.companions,
    target := target, soft := mismatch visit (c.origin r.head), standing := s.grantStanding t,
    key := some r.key, head := r.head }

/-- R52 to R57: steps five to eleven at a portal head. -/
def State.laterDenial (p : Nat) (r : Read) (c : PortalConfig) (tenant : Nat) (t : Tenant) (s : State) :
    Option Verdict :=
  let visit := s.visitOf tenant
  let target := c.target r.head
  firstDenial
    [ s.modeDenial r.head t,
      s.entryDenial r.head target t,
      passbackDenial visit (c.origin r.head) c t,
      s.zoneDenial r.head visit target (passageParty visit r.companions) t,
      s.registerDenial (passageKind visit target),
      (s.portal p).denial ]

/-- R50 to R58: a read at a portal head, its credential found. -/
def State.portalRuling (p : Nat) (r : Read) (c : PortalConfig) (cr : Credential) (t : Tenant) (s : State) :
    Ruling :=
  match s.credentialDenial cr t with
  | some v => .deny v
  | none =>
    match s.transitAt p r.head cr.tenant t with
    | .elsewhere => .deny .inTransit
    | .again => .again
    | .free =>
      match s.laterDenial p r c cr.tenant t with
      | some v => .deny v
      | none =>
        let g := s.passageFor r c cr.tenant t
        .pass (grantForm t g.soft) g

/-! ## Car heads (R60 to R62) -/

/-- R61: the floors of the zones in a mask whose record has a floor. -/
def State.floorsOf (zones : Word) (s : State) : Word :=
  (List.range 16).foldl
    (fun acc z =>
      match (s.zone z).floor with
      | some f => if inSet z zones then acc ||| only f else acc
      | none => acc) 0

/-- R61: the floors of a car grant. -/
def State.carFloors (g : CarConfig) (t : Tenant) (s : State) : Word :=
  let reach :=
    if t.staff then g.served
    else s.floorsOf (s.permitted t ((s.standing t.paid).getD .lockedOut)) &&& g.served
  if s.mode.mode = .normal then reach &&& ~~~g.pub else reach

/-- R60: the steps at a car head. -/
def State.carDenial (c : Nat) (g : CarConfig) (cr : Credential) (t : Tenant) (s : State) : Option Verdict :=
  firstDenial
    [ s.credentialDenial cr t,
      denyIf (s.mode.mode == .evacuate) .evacuation,
      denyIf (s.mode.mode == .lockdown && !t.staff) .lockdown,
      if t.staff then none else s.standingDenial t,
      if t.staff then none else s.hoursDenial t,
      denyIf (g.needsVisit && (s.visitOf cr.tenant).isNone) .notOnSite,
      denyIf (s.carFloors g t == 0#16) .noFloors,
      denyIf ((s.car c).state != .inService) .portalFault ]

/-- R60 to R62: a read at a car head, its credential found. -/
def State.carRuling (c : Nat) (g : CarConfig) (cr : Credential) (t : Tenant) (s : State) : Ruling :=
  match s.carDenial c g cr t with
  | some v => .deny v
  | none => .ride (if t.staff then .grantStaff else .grant) (s.carFloors g t)

/-! ## The decision (R48, R59) -/

/-- R48 to R62: what a read is given. -/
def State.ruling (r : Read) (s : State) : Ruling :=
  match s.asked r, s.presented r with
  | .nothing, _ => .deny .portalFault
  | .portal _ _, none | .car _ _, none => .deny .unknownCredential
  | .portal p c, some (cr, t) => s.portalRuling p r c cr t
  | .car c g, some (cr, t) => s.carRuling c g cr t

/-- R59: the class of the subject, PORTAL 0, CAR 1, NODE 2. -/
def Asked.classCode : Asked → Nat
  | .portal _ _ => 0
  | .car _ _ => 1
  | .nothing => 2

/-- R59: the subject of the entry. -/
def Asked.subject (n : NodeId) : Asked → Nat
  | .portal p _ => p
  | .car c _ => c
  | .nothing => n.subject

/-- R59: the detail of ACCESS_GRANTED and ACCESS_DENIED. -/
def accessDetail (r : Read) (a : Asked) (ruling : Ruling) : List Byte :=
  bytesOf 1 ruling.verdict.code ++ bytesOf 1 r.head.code ++ bytesOf 1 r.companions
    ++ flagByte (ruling == .again) ++ flagByte r.clamped ++ bytesOf 1 a.classCode

/-- R59: every decision is journalled. -/
def State.logAccess (r : Read) (ruling : Ruling) (s : State) : State :=
  s.log (if ruling.verdict.isGrant then .accessGranted else .accessDenied)
    (some ((s.asked r).subject r.node))
    ((Table.find r.key.code s.creds).map (fun c => c.tenant))
    (accessDetail r (s.asked r) ruling)

/-- R48: a grant is handed to the portal controller or the car release unit, which places it. -/
def State.placeGrant (a : Asked) (tenant : Option Nat) (ruling : Ruling) (s : State) : State :=
  match ruling, a, tenant with
  | .again, .portal p _, _ => s.repeatGrant p
  | .pass _ g, .portal p _, _ => s.placePassage p g
  | .ride _ floors, .car c _, some t => s.placeRelease c t floors
  | _, _, _ => s

/-- R47, R48: the last verdict of the head; PENDING again where another of its reads waits. A node that has left the
node table has no heads left (R49). DEDUCED (assumption 25). -/
def State.storeVerdict (r : Read) (v : Verdict) (s : State) : State :=
  if r.orphan then s
  else
    s.updNode r.node (fun n =>
      n.withVerdict r.head
        (if s.reads.any (fun q => q.node == r.node && q.head == r.head && !q.orphan) then .pending
         else .given v))

/-- R48: one read is decided. -/
def State.decide (r : Read) (s : State) : State :=
  let a := s.asked r
  let tenant := (s.presented r).map (fun c => c.1.tenant)
  let ruling := s.ruling r
  (((s.logAccess r ruling).placeGrant a tenant ruling).storeVerdict r ruling.verdict)

/-- R46, R48: the oldest read is taken from the queue and decided. -/
def State.decideNext (s : State) : State :=
  match s.reads with
  | [] => s
  | r :: rest => State.decide r { s with reads := rest }

/-- R48: DECISION. -/
def execDecision (s : State) : Host.Outcome State Fault Refusal :=
  .next s.decideNext

end Sys2Proof.Machine
end

