-- ==== Sys2Proof/Machine/Modes.lean ====
section
/-! DEFINITION. Site modes (chapter 9): the FIRE reading and its filter, mode changes and the three mode slips. -/

namespace Sys2Proof.Machine

/-! ## The FIRE input (R169, R170) -/

/-- R169: the FIRE reading is ACTIVE. -/
def State.fireReading (s : State) : Bool :=
  s.mode.contactClosed == (s.settings.polarity == .normallyOpen)

/-- R169, R170: the hold measurement starts from zero where the reading differs from the FIRE state, and is stopped
where it agrees. -/
def State.settleHold (s : State) : State :=
  { s with mode := { s.mode with
      hold := if s.fireReading = s.mode.fireActive then .stopped else .running 0 } }

/-- R169: the level of the FIRE input. A level the input already has is no change. -/
def State.fireInput (closed : Bool) (s : State) : State :=
  if s.mode.contactClosed = closed then s
  else State.settleHold { s with mode := { s.mode with contactClosed := closed } }

/-- R170: a changed polarity forms the reading anew; the FIRE state is kept. -/
def State.setPolarity (p : FirePolarity) (s : State) : State :=
  if s.settings.polarity = p then s
  else State.settleHold { s with settings := { s.settings with polarity := p } }

/-- R169: the measurement that runs while the reading differs from the FIRE state. DESIGN CHOICE (assumption 6). -/
def State.holdRuns (s : State) : Bool :=
  s.mode.hold != .stopped && s.fireReading != s.mode.fireActive

/-! ## Mode changes (R171, R174) -/

/-- R174: the triggers of MODE_CHANGE. -/
inductive Trigger where
  | fire
  | lockdown
  | evacuate
  | resume
  deriving DecidableEq, Repr

/-- R174. DEDUCED (assumption 22). -/
def Trigger.code : Trigger → Nat
  | .fire => 0
  | .lockdown => 1
  | .evacuate => 2
  | .resume => 3

/-- The mode and the evacuation source are set. -/
def State.setMode (mode : SiteMode) (source : Option EvacuationSource) (s : State) : State :=
  { s with mode := { s.mode with mode := mode, source := source } }

/-- R174, step 4: the portal controller and the car release unit are told, in either order.
DESIGN CHOICE (assumption 7). -/
def State.tellMode (order : ModeOrder) (s : State) : State :=
  match order with
  | .portalsFirst => s.evaluateAll.carModeAll
  | .carsFirst => s.carModeAll.evaluateAll

/-- R174: a change of the site mode. The MODE_CHANGE entry names no subject and no tenant.
DESIGN CHOICE (assumption 48). -/
def State.changeMode (mode : SiteMode) (source : Option EvacuationSource) (trigger : Trigger)
    (order : ModeOrder) (s : State) : State :=
  let before := s.mode.mode
  let s := (s.setMode mode source).log .modeChange none none
    (bytesOf 1 before.code ++ bytesOf 1 mode.code ++ bytesOfOption 1 (source.map EvacuationSource.code)
      ++ bytesOf 1 trigger.code)
  (State.mirrorMode (s.raise .mode)).tellMode order

/-- The FIRE state takes the reading and the measurement is stopped. -/
def State.setFire (active : Bool) (s : State) : State :=
  { s with mode := { s.mode with fireActive := active, hold := .stopped } }

/-- R171: the FIRE state becomes ACTIVE. The FIRE_ACTIVE entry names no subject and no tenant.
DESIGN CHOICE (assumption 48). -/
def State.fireBecomesActive (order : ModeOrder) (s : State) : State :=
  let s := (s.setFire true).log .fireActive none none []
  match s.mode.mode, s.mode.source with
  | .evacuate, some .fire => s
  | .evacuate, _ => (s.setMode .evacuate (some .fire)).mirrorMode
  | .normal, _ | .lockdown, _ => s.changeMode .evacuate (some .fire) .fire order

/-- R171: the FIRE state becomes CLEAR. The FIRE_CLEAR entry names no subject and no tenant.
DESIGN CHOICE (assumption 48). -/
def State.fireBecomesClear (s : State) : State :=
  (s.setFire false).log .fireClear none none []

/-! ## The mode slips (R172, R173) -/

/-- R172: the mode before and after the slip, and the source after it. DEDUCED (assumption 20). -/
def modeDetail (before after : State) : List Byte :=
  bytesOf 1 before.mode.mode.code ++ bytesOf 1 after.mode.mode.code
    ++ bytesOfOption 1 (after.mode.source.map EvacuationSource.code)

/-- R172: LOCKDOWN. DEDUCED (assumption 19). -/
def lockdown (order : ModeOrder) (_v : Service) (s : State) : State × Stage :=
  match s.mode.mode with
  | .normal =>
    let s' := s.changeMode .lockdown none .lockdown order
    (s', .served (.done (modeDetail s s')))
  | .lockdown => (s, .served (.done (modeDetail s s)))
  | .evacuate => (s, .served (.refusal .conditionActive (modeDetail s s)))

/-- R172: EVACUATE. DEDUCED (assumption 19). -/
def evacuate (order : ModeOrder) (_v : Service) (s : State) : State × Stage :=
  match s.mode.mode with
  | .normal | .lockdown =>
    let s' := s.changeMode .evacuate (some .host) .evacuate order
    (s', .served (.done (modeDetail s s')))
  | .evacuate => (s, .served (.done (modeDetail s s)))

/-- R173: the mode before and after, and the FIRE state, ACTIVE 0 and CLEAR 1 (R168, R203). DEDUCED (assumption 22). -/
def resumeDetail (before after : State) : List Byte :=
  bytesOf 1 before.mode.mode.code ++ bytesOf 1 after.mode.mode.code
    ++ bytesOf 1 (if after.mode.fireActive then 0 else 1)

/-- R173: RESUME. DEDUCED (assumption 19). -/
def resume (order : ModeOrder) (_v : Service) (s : State) : State × Stage :=
  let s' := s.changeMode .normal none .resume order
  match s.mode.mode with
  | .lockdown => (s', .served (.done (resumeDetail s s')))
  | .evacuate =>
    if s.mode.fireActive then (s, .served (.refusal .conditionActive (resumeDetail s s)))
    else (s', .served (.done (resumeDetail s s')))
  | .normal => (s, .served (.refusal .wrongMode (resumeDetail s s)))

/-! ## Meanings -/

/-- R172: LOCKDOWN. -/
def execLockdown (order : ModeOrder) (s : State) : Host.Outcome State Fault Refusal :=
  .next (s.serve .lockdown (lockdown order))

/-- R172: EVACUATE. -/
def execEvacuate (order : ModeOrder) (s : State) : Host.Outcome State Fault Refusal :=
  .next (s.serve .evacuate (evacuate order))

/-- R173: RESUME. -/
def execResume (order : ModeOrder) (s : State) : Host.Outcome State Fault Refusal :=
  .next (s.serve .resume (resume order))

/-- R169: FIRE_INPUT_CHANGE. -/
def execFireInputChange (closed : Bool) (s : State) : Host.Outcome State Fault Refusal :=
  .next (s.fireInput closed)

/-- R171: FIRE_ACTIVE, the measurement having reached 0.5 s with the reading ACTIVE.
DESIGN CHOICE (assumption 1). DESIGN CHOICE (assumption 6). -/
def execFireActive (order : ModeOrder) (s : State) : Host.Outcome State Fault Refusal :=
  .next (if s.holdRuns && s.fireReading then s.fireBecomesActive order else s)

/-- R171: FIRE_CLEAR, the measurement having reached 0.5 s with the reading QUIET.
DESIGN CHOICE (assumption 1). DESIGN CHOICE (assumption 6). -/
def execFireClear (s : State) : Host.Outcome State Fault Refusal :=
  .next (if s.holdRuns && !s.fireReading then s.fireBecomesClear else s)

end Sys2Proof.Machine
end

