-- ==== Sys2Proof/Machine/Directory.lean ====
section
/-! DEFINITION. The tenant directory's edits (chapter 1): tenants, credentials, grants and holds, units, images and lists,
with ZONE_PUT and VISIT_END, which act on the directory as well as on the register. -/

namespace Sys2Proof.Machine

/-! ## Zone masks (R6) -/

/-- R6: the zones of the units in a grant list together with the common zones. -/
def State.maskOf (grants : List Nat) (s : State) : Word :=
  grants.foldl
    (fun acc u =>
      match s.unit u with
      | some r => acc ||| only r.zone
      | none => acc) s.commonZones

/-- R6: the masks of the tenants that satisfy `p` are recomputed. -/
def State.remaskWhere (p : Tenant → Bool) (s : State) : State :=
  { s with tenants := Table.mapValues (fun t => if p t then { t with mask := s.maskOf t.grants } else t) s.tenants }

/-! ## TENANT_PUT and STANDING_SET (R11, R18) -/

/-- The fields that TENANT_PUT and a tenant image carry, as bytes lay them (R11, R206). -/
structure TenantFields where
  index   : Nat
  state   : Nat
  staff   : Nat
  profile : Nat
  paid    : Option Nat
  deriving DecidableEq, Repr

/-- R11, R206: the fields from byte `at_` on; a slip body and a tenant image lay them alike. -/
def tenantFieldsAt (at_ : Nat) (bytes : List Byte) : TenantFields :=
  { index := field at_ 2 bytes, state := field (at_ + 2) 1 bytes, staff := field (at_ + 3) 1 bytes,
    profile := field (at_ + 4) 1 bytes, paid := optionOf 3 (field (at_ + 5) 3 bytes) }

/-- R11: the field checks, fields 1 to 5. DESIGN CHOICE (assumption 46). -/
def TenantFields.problem (f : TenantFields) : Option Answer :=
  firstProblem
    [ require (f.index < Config.tenants) (.badField 1),
      require (f.state ≤ 1) (.badField 2),
      require (flagOk f.staff) (.badField 3),
      require (f.profile ≤ 31) (.badField 4),
      require (dayOk f.paid) (.badField 5) ]

/-- R1, R11: the record created. -/
def State.newTenant (f : TenantFields) (s : State) : Tenant :=
  { state := tenantStateOf f.state, staff := f.staff == 1, profile := f.profile, paid := f.paid,
    grants := [], mask := s.commonZones, credCount := 0, visit := none, transit := none }

/-- R11: a record is created, or its four fields are replaced. -/
def State.putTenant (f : TenantFields) (s : State) : State :=
  match s.tenant f.index with
  | none => s.setTenant f.index (s.newTenant f)
  | some t =>
    s.setTenant f.index
      { t with state := tenantStateOf f.state, staff := f.staff == 1, profile := f.profile, paid := f.paid }

/-- R11: TENANT_PUT carries a tenant index (field 1), a state (2), a staff flag (3), a profile (4) and a
paid-through day (5). -/
def tenantPut (v : Service) (s : State) : State × Stage :=
  let f := tenantFieldsAt 32 v.copy
  checked f.problem
    (s.putTenant f, .done (if (s.tenant f.index).isNone then createdCode else replacedCode)) s

/-- R18: STANDING_SET carries a tenant index (field 1) and a paid-through day (2). DESIGN CHOICE (assumption 46). -/
def standingSet (v : Service) (s : State) : State × Stage :=
  let index := v.body 0 2
  let paid := optionOf 3 (v.body 2 3)
  checked
    (firstProblem
      [ require (index < Config.tenants) (.badField 1), require (dayOk paid) (.badField 2),
        require (s.tenant index).isSome (.notFound 1) ])
    (s.updTenant index (fun t => { t with paid := paid }), .done []) s

/-! ## Grants and holds (R16, R17) -/

/-- The position of the first item that stands earlier in the list too. -/
def firstRepeat (items : List Nat) : Option Nat :=
  (List.range items.length).find? (fun i => (items.take i).contains (items.getD i 0))

/-- R16: the list's own field checks, field 2: its count, then the range of every item, then repeats.
DESIGN CHOICE (assumption 47). -/
def listProblem (count : Nat) (items : List Nat) : Option Answer :=
  firstProblem
    [ require (count ≤ 8) (.badField 2),
      (items.findIdx? (fun u => Config.units ≤ u)).map (.atPosition .badField 2),
      (firstRepeat items).map (.atPosition .badField 2) ]

/-- R16: the checks of a list against the unit table; `held` is the tenant's list as it stands. -/
def State.grantProblem (held items : List Nat) (s : State) : Option Answer :=
  firstProblem
    [ (items.findIdx? (fun u => (s.unit u).isNone)).map (.atPosition .notFound 2),
      (items.findIdx? (fun u => !held.contains u && (s.unit u).any (fun r => 4 ≤ r.grantees))).map
        (.atPosition .unitSharedFull 2) ]

/-- R4: the grantee count of a unit rises by one. -/
def State.addGrantee (u : Nat) (s : State) : State :=
  s.updUnit u (fun r => { r with grantees := r.grantees + 1 })

/-- R4: the grantee count of a unit falls by one. -/
def State.dropGrantee (u : Nat) (s : State) : State :=
  s.updUnit u (fun r => { r with grantees := r.grantees - 1 })

/-- R17: the hold changes of a tenant whose visit stands and holds. -/
def State.moveHolds (index : Nat) (left joined : List Nat) (s : State) : State :=
  match s.visitOf index with
  | none => s
  | some v =>
    if v.standing.holds then
      let s := s.forEach (s.unitsIn v.zone left) (fun u s => s.loseHold u index)
      s.forEach (s.unitsIn v.zone joined) (fun u s => s.gainHold u index)
    else s

/-- R16, R17: the grant list is replaced whole, grantee counts and the mask follow, and hold changes are handed
to the unit monitor. -/
def State.setGrants (index : Nat) (new : List Nat) (s : State) : State :=
  let old := s.grantsOf index
  let left := old.filter (fun u => !new.contains u)
  let joined := new.filter (fun u => !old.contains u)
  let s := (s.forEach left State.dropGrantee).forEach joined State.addGrantee
  let s := s.updTenant index (fun t => { t with grants := new, mask := s.maskOf new })
  s.moveHolds index left joined

/-- R16: GRANT_SET carries a tenant index (field 1) and a list of unit numbers (2). DEDUCED (assumption 18).
DESIGN CHOICE (assumption 46). DESIGN CHOICE (assumption 47). -/
def grantSet (v : Service) (s : State) : State × Stage :=
  let index := v.body 0 2
  let count := v.body 2 1
  let items := itemsAt 35 2 count v.copy
  checked
    (firstProblem
      [ require (index < Config.tenants) (.badField 1), listProblem count items,
        require (s.tenant index).isSome (.notFound 1), s.grantProblem (s.grantsOf index) items ])
    (s.setGrants index items, .done []) s

/-! ## Credentials (R14, R15) -/

/-- The fields that CRED_PUT and a credential image carry, as bytes lay them (R14, R206). -/
structure CredFields where
  key    : Key
  tenant : Nat
  state  : Nat
  expiry : Option Nat
  deriving DecidableEq, Repr

/-- R14, R206: the fields from byte `at_` on; a slip body and a credential image lay them alike. -/
def credFieldsAt (at_ : Nat) (bytes : List Byte) : CredFields :=
  { key := keyAt at_ bytes, tenant := field (at_ + 6) 2 bytes, state := field (at_ + 8) 1 bytes,
    expiry := optionOf 3 (field (at_ + 9) 3 bytes) }

/-- R14: the checks of CRED_PUT, in their order. DEDUCED (assumption 22). DESIGN CHOICE (assumption 46). -/
def State.credProblem (f : CredFields) (s : State) : Option Answer :=
  let standing := Table.find f.key.code s.creds
  firstProblem
    [ require f.key.valid (.badField 1),
      require (f.tenant < Config.tenants) (.badField 2),
      require (f.state ≤ 1) (.badField 3),
      require (dayOk f.expiry) (.badField 4),
      require (s.tenant f.tenant).isSome (.notFound 2),
      require (standing.all (fun c => c.tenant == f.tenant))
        (.refusal .exists_ (bytesOf 2 ((standing.map (fun c => c.tenant)).getD 0))),
      require (standing.isSome || s.creds.length < Config.credentials) (.refusal .tableFull (bytesOf 1 0)),
      require (standing.isSome || (s.tenant f.tenant).all (fun t => t.credCount < 4))
        (.refusal .tableFull (bytesOf 1 1)) ]

/-- R14: the record is inserted at its place in key order, or its state and expiry are replaced. -/
def State.putCredential (f : CredFields) (s : State) : State :=
  let isNew := (Table.find f.key.code s.creds).isNone
  let c : Credential :=
    { key := f.key, tenant := f.tenant, state := credentialStateOf f.state, expiry := f.expiry }
  let s := { s with creds := Table.insert f.key.code c s.creds }
  if isNew then s.updTenant f.tenant (fun t => { t with credCount := t.credCount + 1 }) else s

/-- R14: CRED_PUT carries a key (field 1), a tenant index (2), a state (3) and an expiry day (4). -/
def credPut (v : Service) (s : State) : State × Stage :=
  let f := credFieldsAt 32 v.copy
  checked (s.credProblem f)
    (s.putCredential f,
      .done (if (Table.find f.key.code s.creds).isNone then createdCode else replacedCode)) s

/-- R77: a passage granted on a key that leaves the index carries it no longer. DESIGN CHOICE (assumption 26). -/
def Passage.forget (k : Key) (g : Passage) : Passage :=
  if g.key = some k then { g with key := none } else g

/-- R15, R77: a key has left the index: no visit and no pending passage carries it as entry credential.
DESIGN CHOICE (assumption 26). -/
def State.forgetKey (k : Key) (s : State) : State :=
  let visits := s.register.visits.map
    (fun v => if v.credential = some k then { v with credential := none } else v)
  { s with
    register := { s.register with visits := visits }
    portals := Table.mapValues (fun r => { r with passages := r.passages.map (Passage.forget k) }) s.portals }

/-- R15: a credential is removed from the index. -/
def State.dropCredential (c : Credential) (s : State) : State :=
  let s := { s with creds := Table.erase c.key.code s.creds }
  (s.updTenant c.tenant (fun t => { t with credCount := t.credCount - 1 })).forgetKey c.key

/-- R15: CRED_DROP carries a key (field 1). -/
def credDrop (v : Service) (s : State) : State × Stage :=
  let key := keyAt 32 v.copy
  if key.valid then
    match Table.find key.code s.creds with
    | none => (s, .served (.notFound 1))
    | some c => (s.dropCredential c, .served (.done (bytesOf 2 c.tenant)))
  else (s, .served (.badField 1))

/-! ## TENANT_DROP (R12, R13) -/

/-- R12: the tenant's credentials leave the index. -/
def State.dropCredentials (index : Nat) (s : State) : State :=
  State.forEach (s.creds.filter (fun e => e.2.tenant == index)) (fun e s => s.dropCredential e.2) s

/-- R12, R13: passage, visit, release entries, credentials and grants go in this order, and the entry becomes
vacant. Without the two links the first two steps do nothing. -/
def State.dropTenant (index : Nat) (s : State) : State :=
  let s := ((s.cancelTransit index .removed).endVisit index .removed).removeReleases index
  let s := (s.dropCredentials index).forEach (s.grantsOf index) State.dropGrantee
  { s with tenants := Table.erase index s.tenants }

/-- R12: which of the two links is present, bit 0 the visit link and bit 1 the pending-passage link.
DEDUCED (assumption 22). -/
def Tenant.links (t : Tenant) : Nat :=
  (if t.visit.isSome then 1 else 0) + (if t.transit.isSome then 2 else 0)

/-- R12: TENANT_DROP carries a tenant index (field 1) and a FORCE flag (2). DESIGN CHOICE (assumption 46). -/
def tenantDrop (v : Service) (s : State) : State × Stage :=
  let index := v.body 0 2
  let force := v.body 2 1
  match firstProblem
      [ require (index < Config.tenants) (.badField 1), require (flagOk force) (.badField 2) ], s.tenant index with
  | some a, _ => (s, .served a)
  | none, none => (s, .served (.notFound 1))
  | none, some t =>
    if t.links ≠ 0 ∧ force = 0 then (s, .served (.refusal .onSite (bytesOf 1 t.links)))
    else
      (s.dropTenant index,
        .served (.done (bytesOf 1 t.credCount ++ bytesOf 1 t.grants.length
          ++ flagByte t.transit.isSome ++ flagByte t.visit.isSome)))

/-! ## Units (R19 to R21) -/

/-- R19, R203: the contact of a UNIT_PUT body, absent where its 3 bytes are all-ones. -/
def Service.contact (v : Service) : Option Contact :=
  if v.body 3 3 = 0xFFFFFF then none else some { node := v.nodeAt 3, input := v.body 5 1 }

/-- R19: another unit with the same contact. -/
def State.contactClaim (number : Nat) (c : Option Contact) (s : State) : Option Nat :=
  if c.isNone then none
  else (s.units.find? (fun e => e.1 != number && e.2.contact == c)).map (fun e => e.1)

/-- R19: the checks of UNIT_PUT; the unit number is field 1, the zone 2, the contact 3.
DESIGN CHOICE (assumption 46). -/
def State.unitProblem (number zone : Nat) (c : Option Contact) (s : State) : Option Answer :=
  firstProblem
    [ require (number < Config.units) (.badField 1),
      require (1 ≤ zone && zone ≤ 15) (.badField 2),
      require (c.all (fun c => s.nodeIs c.node .unit && c.input ≤ 31)) (.badField 3),
      (s.contactClaim number c).map (fun u => .refusal .inUse (bytesOf 2 u)) ]

/-- R20: the number of grantees of a unit whose visit stands in a zone and holds. -/
def State.holdersIn (number zone : Nat) (s : State) : Nat :=
  (s.register.visits.filter
    (fun v => v.zone == zone && v.standing.holds && (s.grantsOf v.tenant).contains number)).length

/-- R20: a unit's zone changes. -/
def State.moveUnit (number zone : Nat) (s : State) : State :=
  let s := s.updUnit number (fun r => { r with zone := zone })
  let s := s.remaskWhere (fun t => t.grants.contains number)
  s.setHolders number (s.holdersIn number zone) none

/-- R90: a new unit. -/
def UnitRecord.begin_ (zone : Nat) (c : Option Contact) : UnitRecord :=
  { zone := zone, contact := c, grantees := 0, arm := .armed, door := .unknown, holders := 0,
    fresh := c.isSome }

/-- R19, R20, R95: a unit is created, or its changed zone is handed on first and its changed contact second. -/
def State.putUnit (number zone : Nat) (c : Option Contact) (s : State) : State :=
  match s.unit number with
  | none => s.setUnit number (UnitRecord.begin_ zone c)
  | some r =>
    let s := if r.zone = zone then s else s.moveUnit number zone
    if r.contact = c then s else s.contactChange number c

/-- R19: UNIT_PUT. -/
def unitPut (v : Service) (s : State) : State × Stage :=
  let number := v.body 0 2
  let zone := v.body 2 1
  checked (s.unitProblem number zone v.contact)
    (s.putUnit number zone v.contact,
      .done (if (s.unit number).isNone then createdCode else replacedCode)) s

/-- R21: UNIT_DROP carries a unit number (field 1). -/
def unitDrop (v : Service) (s : State) : State × Stage :=
  let number := v.body 0 2
  if Config.units ≤ number then (s, .served (.badField 1))
  else
    match s.unit number with
    | none => (s, .served (.notFound 1))
    | some r =>
      if r.grantees ≠ 0 then (s, .served (.refusal .inUse (bytesOf 1 r.grantees)))
      else ({ s with units := Table.erase number s.units }, .served (.done []))

/-! ## Images and TENANT_READ (R22, R206) -/

/-- R206: the tenant image, 32 bytes, with the standing of this moment. -/
def State.tenantImage (index : Nat) (t : Tenant) (s : State) : List Byte :=
  bytesOf 2 index ++ bytesOf 1 t.state.code ++ flagByte t.staff ++ bytesOf 1 t.profile
    ++ bytesOfOption 3 t.paid ++ bytesOf 1 t.grants.length
    ++ padTo 16 0xFF (t.grants.flatMap (bytesOf 2)) ++ bytesOf 2 t.mask.toNat ++ bytesOf 1 t.credCount
    ++ bytesOfOption 2 t.visit ++ bytesOfOption 1 t.transit
    ++ bytesOfOption 1 ((s.standing t.paid).map Standing.code)

/-- R206: the credential image, 16 bytes. -/
def Credential.image (c : Credential) : List Byte :=
  c.key.bytes ++ bytesOf 2 c.tenant ++ bytesOf 1 c.state.code ++ bytesOfOption 3 c.expiry
    ++ List.replicate 4 0

/-- R22: a tenant's credentials, in key order. -/
def State.credentialsOf (index : Nat) (s : State) : List Credential :=
  (s.creds.map (fun e => e.2)).filter (fun c => c.tenant == index)

/-- R22: TENANT_READ carries a tenant index (field 1) and an extent (0). DESIGN CHOICE (assumption 28). -/
def tenantRead (v : Service) (s : State) : State × Stage :=
  let index := v.body 0 2
  match firstProblem [require (index < Config.tenants) (.badField 1), v.extentProblem], s.tenant index with
  | some a, _ => (s, .served a)
  | none, none => (s, .served (.notFound 1))
  | none, some t =>
    if v.length < 32 then (s, .served (.badField 0))
    else
      let all := s.credentialsOf index
      let fits := all.take ((v.length - 32) / 16)
      (s.poke v.start (s.tenantImage index t ++ fits.flatMap Credential.image),
        .served { Answer.done (bytesOf 1 fits.length) with more := fits.length < all.length })

/-! ## LOAD_TENANTS and LOAD_CREDENTIALS (R23, R24) -/

/-- R23: the width of an image of the list in service. -/
def Service.imageWidth (v : Service) : Nat :=
  if v.kind = SlipKind.loadTenants.code then 32 else 16

/-- R206: the ceiling of a record count. -/
def Service.recordCeiling (v : Service) : Nat :=
  (Config.memoryEnd - Config.bulkBase) / v.imageWidth

/-- R23, R24: a list slip carries a record count (field 1) and an extent (0). Its records are applied one by
one by LOAD_RECORD_APPLY. -/
def loadList (v : Service) (s : State) : State × Stage :=
  let count := v.body 0 2
  match firstProblem
      [ require (count ≤ v.recordCeiling) (.badField 1), v.extentProblem,
        require (v.imageWidth * count ≤ v.length) (.badField 0) ] with
  | some a => (s, .served a)
  | none =>
    if count = 0 then (s, .served (.done (bytesOf 2 0 ++ bytesOf 2 0))) else (s, .loading 0 0 0 none)

/-- R23: a tenant record: a TENANT_PUT and then a GRANT_SET, refused whole where either would be refused. -/
def applyTenantRecord (image : List Byte) (s : State) : State × ResultCode :=
  let f := tenantFieldsAt 0 image
  let count := field 8 1 image
  let items := itemsAt 9 2 count image
  match firstProblem [f.problem, listProblem count items, s.grantProblem (s.grantsOf f.index) items] with
  | some a => (s, a.result)
  | none => ((s.putTenant f).setGrants f.index items, .done)

/-- R24: a credential record, applied as a CRED_PUT. -/
def applyCredRecord (image : List Byte) (s : State) : State × ResultCode :=
  let f := credFieldsAt 0 image
  match s.credProblem f with
  | some a => (s, a.result)
  | none => (s.putCredential f, .done)

/-- R23, R24: the record at a position of the copied extent is applied, or refused with a code. -/
def Service.applyRecord (v : Service) (position : Nat) (s : State) : State × ResultCode :=
  let image := (v.bulk.drop (v.imageWidth * position)).take v.imageWidth
  if v.kind = SlipKind.loadTenants.code then applyTenantRecord image s else applyCredRecord image s

/-- R23: the applied count, the refused count and, where any record was refused, the first refused position
and its code. DEDUCED (assumption 19). -/
def loadDetail (applied refused : Nat) (first : Option (Nat × ResultCode)) : List Byte :=
  bytesOf 2 applied ++ bytesOf 2 refused
    ++ match first with
       | some (position, code) => bytesOf 2 position ++ bytesOf 1 code.code
       | none => []

/-- R23, R24: the stage after the record at `next` has been dealt with. -/
def loadStage (count next applied refused : Nat) (first : Option (Nat × ResultCode)) : Stage :=
  if next + 1 < count then .loading (next + 1) applied refused first
  else .served (.done (loadDetail applied refused first))

/-- R23, R24: the next record of the list in service is one event at the directory. -/
def State.applyNextRecord (s : State) : State :=
  match s.slips.serving with
  | none => s
  | some v =>
    match v.stage with
    | .loading next applied refused first =>
      let outcome := v.applyRecord next s
      let stage :=
        if outcome.2 = .done then loadStage (v.body 0 2) next (applied + 1) refused first
        else loadStage (v.body 0 2) next applied (refused + 1) (first.or (some (next, outcome.2)))
      outcome.1.finishService stage
    | .taken | .listing _ | .served _ => s

/-! ## ZONE_PUT and VISIT_END (R72, R84) -/

/-- R72: ZONE_PUT carries a zone number (field 1), a limit (2), a common flag (3) and a floor (4). A bad flag (R203) is
reported before a bad floor, and a refusal carries no CLAMPED. DESIGN CHOICE (assumption 38).
DESIGN CHOICE (assumption 46). -/
def zonePut (v : Service) (s : State) : State × Stage :=
  let z := v.body 0 1
  let limit := v.body 1 1
  let common := v.body 2 1
  let floor := optionOf 1 (v.body 3 1)
  let r := s.zone z
  let s' := s.updZone z (fun r => { r with limit := min 250 limit, common := common == 1, floor := floor })
  let s' := if r.common = (common == 1) then s' else s'.remaskWhere (fun _ => true)
  checked
    (firstProblem
      [ require (1 ≤ z && z ≤ 15) (.badField 1), require (flagOk common) (.badField 3),
        require (floor.all (fun f => f ≤ 11)) (.badField 4) ])
    (s', { Answer.done (bytesOf 2 r.count ++ bytesOf 2 r.reserved) with clamped := 250 < limit }) s

/-- R84: the detail of VISIT_END: the two flags and, where a visit was ended, its slot, minutes on site and
overstay minutes. DEDUCED (assumption 19). -/
def State.visitEndAnswer (t : Tenant) (visit : Option Visit) (s : State) : List Byte :=
  flagByte t.transit.isSome ++ flagByte t.visit.isSome
    ++ match visit with
       | some v => bytesOf 2 v.slot ++ bytesOf 2 (s.minutesOnSite v) ++ bytesOf 2 (s.overstayMinutes v)
       | none => []

/-- R84: VISIT_END carries a tenant index (field 1). -/
def visitEnd (v : Service) (s : State) : State × Stage :=
  let index := v.body 0 2
  if Config.tenants ≤ index then (s, .served (.badField 1))
  else
    match s.tenant index with
    | none => (s, .served (.notFound 1))
    | some t =>
      if t.links = 0 then (s, .served (.notFound 1))
      else
        ((s.cancelTransit index .host).endVisit index .host,
          .served (.done (s.visitEndAnswer t (s.visitOf index))))

/-! ## Meanings -/

/-- R11: TENANT_PUT. -/
def execTenantPut (s : State) : Host.Outcome State Fault Refusal :=
  .next (s.serve .tenantPut tenantPut)

/-- R12: TENANT_DROP. -/
def execTenantDrop (s : State) : Host.Outcome State Fault Refusal :=
  .next (s.serve .tenantDrop tenantDrop)

/-- R14: CRED_PUT. -/
def execCredPut (s : State) : Host.Outcome State Fault Refusal :=
  .next (s.serve .credPut credPut)

/-- R15: CRED_DROP. -/
def execCredDrop (s : State) : Host.Outcome State Fault Refusal :=
  .next (s.serve .credDrop credDrop)

/-- R16: GRANT_SET. -/
def execGrantSet (s : State) : Host.Outcome State Fault Refusal :=
  .next (s.serve .grantSet grantSet)

/-- R18: STANDING_SET. -/
def execStandingSet (s : State) : Host.Outcome State Fault Refusal :=
  .next (s.serve .standingSet standingSet)

/-- R19: UNIT_PUT. -/
def execUnitPut (s : State) : Host.Outcome State Fault Refusal :=
  .next (s.serve .unitPut unitPut)

/-- R21: UNIT_DROP. -/
def execUnitDrop (s : State) : Host.Outcome State Fault Refusal :=
  .next (s.serve .unitDrop unitDrop)

/-- R22: TENANT_READ. -/
def execTenantRead (s : State) : Host.Outcome State Fault Refusal :=
  .next (s.serve .tenantRead tenantRead)

/-- R23: LOAD_TENANTS. -/
def execLoadTenants (s : State) : Host.Outcome State Fault Refusal :=
  .next (s.serve .loadTenants loadList)

/-- R24: LOAD_CREDENTIALS. -/
def execLoadCredentials (s : State) : Host.Outcome State Fault Refusal :=
  .next (s.serve .loadCredentials loadList)

/-- R23, R24: LOAD_RECORD_APPLY. -/
def execLoadRecordApply (s : State) : Host.Outcome State Fault Refusal :=
  .next s.applyNextRecord

/-- R72: ZONE_PUT. -/
def execZonePut (s : State) : Host.Outcome State Fault Refusal :=
  .next (s.serve .zonePut zonePut)

/-- R84: VISIT_END. -/
def execVisitEnd (s : State) : Host.Outcome State Fault Refusal :=
  .next (s.serve .visitEnd visitEnd)

end Sys2Proof.Machine
end

