-- ==== Sys2Proof/Machine/Clock.lean ====
section
/-! DEFINITION. The running of the site clock (chapter 2): second events with the block timers they drive, minute events, and
CLOCK_SET. -/

namespace Sys2Proof.Machine

/-- R27: the clock after a second event. At the last site minute the minute is not advanced.
DESIGN CHOICE (assumption 4). -/
def Clock.tick (c : Clock) : Clock :=
  if c.second < 59 then { c with second := c.second + 1 }
  else
    { c with second := 0, minute := if c.minute < Config.lastMinute then c.minute + 1 else c.minute,
             minuteDue := true }

/-- R29, R198: a second event at the journal: the flush timer counts, and a stalled journal re-examines the page it
waits for, which is `returned` where it reads EMPTY: then its recovery is due. DESIGN CHOICE (assumption 43). -/
def Journal.tick (returned : Bool) (j : Journal) : Journal :=
  { j with flush := j.flush.tick, reexamine := j.stalled && returned }

/-- R29: a second event at the recovery check timer of a line. -/
def Line.tick (r : Line) : Line :=
  { r with check := r.check.tick }

/-- R27, R29, R198: a second event: the clock advances, every block timer counts it, and a stalled journal
re-examines its awaited page. DESIGN CHOICE (assumption 3). DESIGN CHOICE (assumption 43). -/
def State.second (s : State) : State :=
  { s with
    clock := s.clock.tick
    portals := Table.mapValues Portal.tick s.portals
    cars := Table.mapValues Car.tick s.cars
    lines := Table.mapValues Line.tick s.lines
    journal := s.journal.tick (s.pageState s.journal.page == pageEmpty) }

/-- R28: a minute event reaches the register and the free-access windows in either order, and the mirror.
DESIGN CHOICE (assumption 1). DESIGN CHOICE (assumption 4). DESIGN CHOICE (assumption 7). -/
def State.minute (order : MinuteOrder) (s : State) : State :=
  let s := { s with clock := { s.clock with minuteDue := false } }
  match order with
  | .registerFirst => s.visitMinute.refreshWindows.mirrorClock
  | .portalsFirst => s.refreshWindows.visitMinute.mirrorClock

/-- R31: the clock takes the three values and becomes SET. The CLOCK_SET entry names no subject and no tenant.
DESIGN CHOICE (assumption 35). DESIGN CHOICE (assumption 37). DESIGN CHOICE (assumption 48). -/
def State.setClock (minute second weekOffset : Nat) (s : State) : State :=
  let old := s.clock
  let s := { s with clock :=
    { old with minute := minute, second := second, weekOffset := weekOffset, isSet := true } }
  let s := if old.isSet then s.shiftVisits old.minute minute else s
  ((s.log .clockSet none none (bytesOf 4 old.minute)).mirrorClock).refreshWindows

/-- R31: CLOCK_SET carries a site minute (field 1), a second (2) and a week offset (3).
DESIGN CHOICE (assumption 45). DESIGN CHOICE (assumption 46). -/
def clockSet (v : Service) (s : State) : State × Stage :=
  checked
    (firstProblem [require (v.body 4 1 ≤ 59) (.badField 2), require (v.body 5 1 ≤ 6) (.badField 3)])
    (s.setClock (v.body 0 4) (v.body 4 1) (v.body 5 1), .done (bytesOf 4 s.clock.minute)) s

/-- R27: SECOND_EVENT. -/
def execSecondEvent (s : State) : Host.Outcome State Fault Refusal :=
  .next s.second

/-- R28: MINUTE_EVENT, which a second event carries. DESIGN CHOICE (assumption 4). -/
def execMinuteEvent (order : MinuteOrder) (s : State) : Host.Outcome State Fault Refusal :=
  .next (if s.clock.minuteDue then s.minute order else s)

/-- R31: CLOCK_SET. -/
def execClockSet (s : State) : Host.Outcome State Fault Refusal :=
  .next (s.serve .clockSet clockSet)

end Sys2Proof.Machine
end

