-- ==== Sys2Proof/Machine/Slips.lean ====
section
/-! DEFINITION. The bus port and the slip unit (chapter 10): host writes, the register window, the post queue, the take and the
answer of a slip, SITE_PUT, and the journal's own slip JOURNAL_MARK (R200). -/

namespace Sys2Proof.Machine

/-! ## Slips in the rack (R177, R184, R205) -/

/-- R177: the address of a slip. -/
def slipAddress (n : Nat) : Nat :=
  Config.rackBase + 128 * n

/-- R205: slip states FREE 0, POSTED 1, TAKEN 2, ANSWERED 3. -/
def slipFree : Nat := 0

/-- R205. -/
def slipPosted : Nat := 1

/-- R205. -/
def slipTaken : Nat := 2

/-- R205. -/
def slipAnswered : Nat := 3

/-- R184: the state word of a slip. -/
def State.slipState (n : Nat) (s : State) : Nat :=
  s.wordAt (slipAddress n)

/-- R184: the state word of a slip is written by the part. -/
def State.setSlipState (n st : Nat) (s : State) : State :=
  s.pokeWord (slipAddress n) st

/-! ## Host writes (R180) -/

/-- R180: the check of a write to a slip's state word. -/
def State.slipStateRefusal (n value : Nat) (s : State) : Option RefusalCode :=
  let now := s.slipState n
  if now = slipFree ∧ value = slipPosted then none
  else if now = slipAnswered ∧ value = slipFree then none
  else if now = slipPosted ∧ value = slipFree then
    if s.slips.queue.contains n then some .slipQueued else none
  else some .slipState

/-- R180: the check of a host write of `value` to the word at byte address `a`. -/
def State.writeRefusal (a value : Nat) (s : State) : Option RefusalCode :=
  if a < Config.rackBase then some .writeMirror
  else if a < Config.pagesBase then
    let n := (a - Config.rackBase) / 128
    if a = slipAddress n then s.slipStateRefusal n value
    else if s.slipState n = slipTaken then some .slipTaken else none
  else if a < Config.bulkBase then
    let p := (a - Config.pagesBase) / 1024
    if a = pageAddress p then
      if s.pageState p = pageFull ∧ value = pageEmpty then none else some .pageState
    else some .pageBody
  else none

/-- R180: a host write is stored or refused. -/
def State.hostWrite (a value : Nat) (s : State) : State :=
  match s.writeRefusal a value with
  | some code => s.refuse code
  | none => s.pokeWord a value

/-- R178, R188: a host write that the arbiter passes after `k` of the accesses of a record; the record's other accesses
follow it. DESIGN CHOICE (assumption 28). -/
def State.hostWriteDuring (k : Nat) (l : List Access) (a value : Nat) (s : State) : State :=
  State.pass (l.drop k) ((s.during k l).hostWrite a value)

/-! ## The bus (R177, R181, R204) -/

/-- R177, R181, R204: what a host read of a 16-bit word at a byte address finds: a word of common memory, below 0x10000, or
a register. None where neither stands. DESIGN CHOICE (assumption 34). -/
def State.busRead (address : Nat) (s : State) : Option Word :=
  if address < Config.memoryEnd then
    if address % 2 = 0 then some (BitVec.ofNat 16 (s.wordAt address)) else none
  else (registerAt address).map (fun r => s.registerRead r.number)

/-- R178, R180, R181: a host write on the bus: its command waits behind those that came before it. A write where nothing
stands gives none. DESIGN CHOICE (assumption 36). -/
def State.busWrite (address : Nat) (value : Word) (s : State) : State :=
  { s with pending := s.pending ++ (commandOfWrite address value).toList }

/-! ## The post queue (R185) -/

/-- R185: the check of a number written to POST. -/
def State.postRefusal (n : Nat) (s : State) : Option RefusalCode :=
  if Config.slips ≤ n then some .postBadNumber
  else if s.slipState n ≠ slipPosted then some .postNotPosted
  else if s.slips.queue.contains n then some .postQueued
  else none

/-- R185: a number written to POST is refused or queued. -/
def State.postSlip (n : Nat) (s : State) : State :=
  match s.postRefusal n with
  | some code => s.refuse code
  | none => { s with slips := { s.slips with queue := s.slips.queue ++ [n] } }

/-! ## Take and answer (R186) -/

/-- R186: the header and fields of a slip as they stand. -/
def State.slipCopy (n : Nat) (s : State) : List Byte :=
  s.peek (slipAddress n) 128

/-- R186, R188: a service begun on a copied slip; the extent of a LOAD slip is copied where it is in range. -/
def State.beginService (n : Nat) (s : State) : Service :=
  let v : Service := { slip := n, copy := s.slipCopy n, bulk := [], stage := .taken }
  if (v.kind = SlipKind.loadTenants.code ∨ v.kind = SlipKind.loadCredentials.code) ∧ v.extentOk then
    { v with bulk := s.peek v.start v.length }
  else v

/-- R186: the slip at the head of the queue is taken. -/
def State.takeSlip (s : State) : State :=
  match s.slips.serving, s.slips.queue with
  | none, n :: rest =>
    State.setSlipState n slipTaken { s with slips := { queue := rest, serving := some (s.beginService n) } }
  | _, _ => s

/-- R178, R186, R205: the accesses that write an answer: the result, the flags, the tag echo and the detail, and the state
word ANSWERED last. DEDUCED (assumption 19). -/
def answerAccesses (n tag : Nat) (a : Answer) : List Access :=
  accessesOf (slipAddress n + 6) (bytesOf 2 a.result.code ++ bytesOf 2 a.flags ++ bytesOf 2 tag)
    ++ accessesOf (slipAddress n + 16) (padTo 16 0 a.detail) ++ accessesOf (slipAddress n) (bytesOf 2 slipAnswered)

/-- R186: an answer is written, and ANSWER is raised. -/
def State.writeAnswer (n tag : Nat) (a : Answer) (s : State) : State :=
  (s.pass (answerAccesses n tag a)).raise .answer

/-- R186: the slip in service is answered once its owner has given the result. -/
def State.answerSlip (s : State) : State :=
  match s.slips.serving with
  | none => s
  | some v =>
    match v.stage with
    | .served a =>
      State.writeAnswer v.slip v.tag a { s with slips := { s.slips with serving := none } }
    | .taken | .loading _ _ _ _ | .listing _ => s

/-- R186, R205: no slip kind has the code. -/
def kindUnknown (code : Nat) : Bool :=
  code = 0 || 36 < code

/-- R186: a taken slip whose kind code names no slip kind is refused. -/
def State.refuseKind (s : State) : State :=
  match s.slips.serving with
  | none => s
  | some v =>
    if v.stage = .taken ∧ kindUnknown v.kind then s.finishService (.served (.refusal .badKind [])) else s

/-! ## SITE_PUT (R189) -/

/-- R189: a numeric setting: the value in force where absent, brought into its range where present. -/
def setting (width lo hi now n : Nat) : Nat :=
  if n = 256 ^ width - 1 then now else max lo (min hi n)

/-- R189: the settings after a SITE_PUT, the polarity apart. -/
def Service.settings (v : Service) (now : Settings) : Settings :=
  { now with
    grace := setting 1 0 30 now.grace (v.body 0 1)
    overdue := setting 1 0 60 now.overdue (v.body 1 1)
    maxVisit := setting 2 0 720 now.maxVisit (v.body 2 2)
    exitGrace := setting 1 0 60 now.exitGrace (v.body 4 1)
    warnLead := setting 1 0 30 now.warnLead (v.body 5 1)
    faultLimit := setting 1 1 15 now.faultLimit (v.body 6 1)
    flush := setting 1 1 60 now.flush (v.body 7 1)
    window := setting 1 5 60 now.window (v.body 8 1) }

/-- R189: the clamped marks, bit n for row n of the table. -/
def Service.clampMarks (v : Service) : List Bool :=
  [ timingClamped 1 0 30 (v.body 0 1), timingClamped 1 0 60 (v.body 1 1), timingClamped 2 0 720 (v.body 2 2),
    timingClamped 1 0 60 (v.body 4 1), timingClamped 1 0 30 (v.body 5 1), timingClamped 1 1 15 (v.body 6 1),
    timingClamped 1 1 60 (v.body 7 1), timingClamped 1 5 60 (v.body 8 1) ]

/-- The number whose bit n is mark n. -/
def numberOfMarks : List Bool → Nat
  | [] => 0
  | b :: bs => (if b then 1 else 0) + 2 * numberOfMarks bs

/-- R189: the nine settings in the order of the table. -/
def Settings.bytes (g : Settings) : List Byte :=
  bytesOf 1 g.grace ++ bytesOf 1 g.overdue ++ bytesOf 2 g.maxVisit ++ bytesOf 1 g.exitGrace
    ++ bytesOf 1 g.warnLead ++ bytesOf 1 g.faultLimit ++ bytesOf 1 g.flush ++ bytesOf 1 g.window
    ++ bytesOf 1 g.polarity.code

/-- R189: the polarity after a SITE_PUT. -/
def polarityOf (now : FirePolarity) (n : Nat) : FirePolarity :=
  if n = 0 then .normallyOpen else if n = 1 then .normallyClosed else now

/-- R170, R189: the settings are replaced; a changed polarity acts on the filter. -/
def State.putSettings (v : Service) (s : State) : State :=
  State.setPolarity (polarityOf s.settings.polarity (v.body 9 1))
    { s with settings := v.settings s.settings }

/-- R189: SITE_PUT carries the nine settings as fields 1 to 9. A refusal carries no CLAMPED.
DESIGN CHOICE (assumption 38). -/
def sitePut (v : Service) (s : State) : State × Stage :=
  let polarity := v.body 9 1
  let s' := s.putSettings v
  checked (require (polarity ≤ 1 || polarity == 255) (.badField 9))
    (s', { Answer.done (s'.settings.bytes ++ bytesOf 2 (numberOfMarks v.clampMarks)) with
           clamped := v.clampMarks.any id }) s

/-! ## JOURNAL_MARK (R200) -/

/-- R195, R198: an entry submitted now is written to a page. -/
def State.writesNow (s : State) : Bool :=
  !s.journal.stalled || s.pageState s.journal.page == pageEmpty

/-- R200: JOURNAL_MARK carries a value (field 1), whose all-ones is 65,535. The HOST_MARK entry names no tenant.
DEDUCED (assumption 20). DESIGN CHOICE (assumption 48). DESIGN CHOICE (assumption 51). -/
def journalMark (v : Service) (s : State) : State × Stage :=
  let s' := s.log .hostMark (some v.slip) none (bytesOf 2 (v.body 0 2))
  let detail :=
    if s.writesNow then flagByte true ++ bytesOf 4 (s'.journal.sequence - 1).toNat
    else flagByte false ++ List.replicate 4 0xFF
  (s', .served (.done detail))

/-! ## Meanings -/

/-- R181: CONTROL_BAD. RUN 1, HALT 2 and RESET 3 are the rows of their own and no bad value. -/
def execControlBad (value : Word) (s : State) : Host.Outcome State Fault Refusal :=
  .next (if (controlCommand value).isSome then s else s.refuse .controlBad)

/-- R185: POST. -/
def execPost (value : Word) (s : State) : Host.Outcome State Fault Refusal :=
  .next (s.postSlip value.toNat)

/-- R182: CLEAR. -/
def execClear (bits : Word) (s : State) : Host.Outcome State Fault Refusal :=
  .next (s.clearCauses bits)

/-- R181: MASK. -/
def execMask (bits : Word) (s : State) : Host.Outcome State Fault Refusal :=
  .next (s.setMask bits)

/-- R181: REGISTER_READ_ONLY. -/
def execRegisterReadOnly (_register : ReadOnlyRegister) (_value : Word) (s : State) :
    Host.Outcome State Fault Refusal :=
  .next (s.refuse .registerReadOnly)

/-- R180: HOST_MEMORY_WRITE. -/
def execHostMemoryWrite (word : BitVec 15) (value : Word) (s : State) : Host.Outcome State Fault Refusal :=
  .next (s.hostWrite (2 * word.toNat) value.toNat)

/-- R186: SLIP_TAKE. -/
def execSlipTake (s : State) : Host.Outcome State Fault Refusal :=
  .next s.takeSlip

/-- R186: SLIP_ANSWER. -/
def execSlipAnswer (s : State) : Host.Outcome State Fault Refusal :=
  .next s.answerSlip

/-- R186: BAD_KIND. -/
def execBadKind (s : State) : Host.Outcome State Fault Refusal :=
  .next s.refuseKind

/-- R189: SITE_PUT. -/
def execSitePut (s : State) : Host.Outcome State Fault Refusal :=
  .next (s.serve .sitePut sitePut)

/-- R200: JOURNAL_MARK. -/
def execJournalMark (s : State) : Host.Outcome State Fault Refusal :=
  .next (s.serve .journalMark journalMark)

end Sys2Proof.Machine
end

