-- ==== Sys2Proof/Machine/Resets.lean ====
section
/-! DEFINITION. Power-on, RUN and HALT, and the soft reset (R190 to R192, with the reset rules of every chapter). -/

namespace Sys2Proof.Machine

/-! ## Power-on (R190) -/

/-- R179: the capacities of block 0, in the order of the rule. -/
def capacities : List Nat :=
  [ Config.tenants, Config.credentials, Config.units, Config.visits, Config.portals, Config.cars,
    Config.nodes, Config.slips, Config.pages ]

/-- R190, R204: block 0 with its fixed fields, the update count 0 and the live values after power-on.
DESIGN CHOICE (assumption 9). DEDUCED (assumption 11). -/
def State.identityBlock (s : State) : List Byte :=
  bytesOf 2 Config.partCode ++ bytesOf 2 s.revision.toNat ++ bytesOf 2 0
    ++ capacities.flatMap (bytesOf 2)
    ++ bytesOf 1 s.bus.run.code ++ bytesOf 1 s.mode.mode.code
    ++ bytesOfOption 1 (s.mode.source.map EvacuationSource.code)
    ++ flagByte s.clock.isSet ++ bytesOf 4 s.clock.minute ++ bytesOf 2 s.register.visits.length
    ++ bytesOf 1 s.journal.page ++ bytesOf 2 s.journal.routineDropped ++ bytesOf 2 s.journal.alarmDropped

/-- R176, R190: every block at its power-on values, before the journal's first entry. The level of the FIRE input,
the revision and the queue of commands that wait are no state that power-on sets.
DESIGN CHOICE (assumption 9). DESIGN CHOICE (assumption 10). -/
def State.powerUpValues (s : State) : State :=
  { State.reset with
    mem := []
    journal := { State.reset.journal with sequence := 0, flush := .stopped }
    mode := { State.reset.mode with contactClosed := s.mode.contactClosed }
    revision := s.revision
    pending := s.pending }

/-- R190, R201: power is applied: block 0 is written, the journal takes page 0 and writes POWER_UP, and the
filter starts at once where the panel reads as in alarm (R176). DEDUCED (assumption 12). -/
def State.powerUp (s : State) : State :=
  let s := s.powerUpValues
  let s := (s.poke 0 s.identityBlock).takePage 0
  (s.log .powerUp none none []).settleHold

/-! ## RUN and HALT (R190) -/

/-- The run state is set. -/
def State.setRun (r : RunState) (s : State) : State :=
  { s with bus := { s.bus with run := r } }

/-- R190: RUN is written to CONTROL. -/
def State.startRun (s : State) : State :=
  if s.bus.run = .run then s else (s.setRun .run).startLines.mirrorRun

/-- R190: HALT is written to CONTROL. -/
def State.haltRun (s : State) : State :=
  if s.bus.run = .halt then s else (s.setRun .halt).stopLines.flushReads.mirrorRun

/-! ## Soft reset (R191) -/

/-- R191: the work done before the reset by the slip in service. -/
def Service.workDone (v : Service) : List Byte :=
  match v.stage with
  | .taken => bytesOf 1 0
  | .loading _ applied refused _ => bytesOf 2 applied ++ bytesOf 2 refused
  | .listing written => bytesOf 2 written
  | .served a =>
    if a.result ≠ .done then bytesOf 1 0
    else if v.kind = SlipKind.loadTenants.code ∨ v.kind = SlipKind.loadCredentials.code then
      a.detail.take 4
    else if v.kind = SlipKind.visitList.code then a.detail
    else if v.kind = SlipKind.tenantRead.code then bytesOf 1 (1 + field 0 1 a.detail)
    else if v.kind = SlipKind.zoneRead.code then bytesOf 1 15
    else bytesOf 1 1

/-- R191: the slip in service is answered ABORTED. DESIGN CHOICE (assumption 42). -/
def State.abortServing (s : State) : State :=
  match s.slips.serving with
  | none => s
  | some v =>
    State.writeAnswer v.slip v.tag (.refusal .aborted v.workDone)
      { s with slips := { s.slips with serving := none } }

/-- R191: a queued slip is answered ABORTED with work done 0; its tag is that of its header.
DESIGN CHOICE (assumption 42). -/
def State.abortQueued (n : Nat) (s : State) : State :=
  s.writeAnswer n (s.wordAt (slipAddress n + 4)) (.refusal .aborted (bytesOf 1 0))

/-- R191: the queued slips are answered ABORTED in queue order and the queue is emptied. -/
def State.abortQueue (s : State) : State :=
  State.forEach s.slips.queue State.abortQueued { s with slips := { s.slips with queue := [] } }

/-- R25: no tenant is on site. -/
def Tenant.leaveSite (t : Tenant) : Tenant :=
  { t with visit := none, transit := none }

/-- R88: a zone record keeps its limit, flag and floor. -/
def Zone.emptied (z : Zone) : Zone :=
  { z with count := 0, reserved := 0 }

/-- R88: the register is emptied; its length is handed to the mirror where it changes.
DESIGN CHOICE (assumption 24). -/
def State.emptyRegister (s : State) : State :=
  let zones := (Table.mapValues Zone.emptied s.register.zones).filter (fun e => e.2 != Zone.blank)
  let s' := { s with register := { visits := [], creating := 0, zones := zones, walk := none } }
  if s.register.visits = [] then s' else s'.mirrorVisits

/-- R25, R67, R88, R102, R133, R145, R165: each block but the bus port, the slip unit and the journal takes its
soft-reset values. -/
def State.resetBlocks (s : State) : State :=
  let s := { s with tenants := Table.mapValues Tenant.leaveSite s.tenants }
  let s := s.flushReads.emptyRegister
  let s := { s with
    units := Table.mapValues UnitRecord.softReset s.units
    lines := Table.mapValues Line.softReset s.lines
    nodes := Table.mapValues Node.softReset s.nodes }
  (s.forEach s.portalNumbers State.resetPortal).forEach s.carNumbers State.resetCar

/-- R191: the run state becomes HALT; the mirror is written where it changes. DESIGN CHOICE (assumption 24). -/
def State.resetRun (s : State) : State :=
  if s.bus.run = .halt then s else (s.setRun .halt).mirrorRun

/-- R191: RESET is written to CONTROL. -/
def State.softReset (s : State) : State :=
  ((s.abortServing.abortQueue.resetRun.raise .restart).resetBlocks).journalReset

/-! ## Meanings -/

/-- R190: POWER_ON. -/
def execPowerOn (s : State) : Host.Outcome State Fault Refusal :=
  .next s.powerUp

/-- R190: RUN. -/
def execRun (s : State) : Host.Outcome State Fault Refusal :=
  .next s.startRun

/-- R190: HALT. -/
def execHalt (s : State) : Host.Outcome State Fault Refusal :=
  .next s.haltRun

/-- R191: RESET. -/
def execReset (s : State) : Host.Outcome State Fault Refusal :=
  .next s.softReset

end Sys2Proof.Machine
end

