-- ==== Sys2Proof/Machine/Dispatch.lean ====
section
/-! DEFINITION. exec: the effect of each command on everything but the queue, one arm per constructor of Instr. -/

namespace Sys2Proof.Machine

def exec (i : Instr) (s : State) : Host.Outcome State Fault Refusal :=
  match i with
  | .powerOn => Sys2Proof.Machine.execPowerOn s
  | .run => Sys2Proof.Machine.execRun s
  | .halt => Sys2Proof.Machine.execHalt s
  | .reset => Sys2Proof.Machine.execReset s
  | .controlBad value => Sys2Proof.Machine.execControlBad value s
  | .post value => Sys2Proof.Machine.execPost value s
  | .clear bits => Sys2Proof.Machine.execClear bits s
  | .mask bits => Sys2Proof.Machine.execMask bits s
  | .registerReadOnly register value => Sys2Proof.Machine.execRegisterReadOnly register value s
  | .hostMemoryWrite word value => Sys2Proof.Machine.execHostMemoryWrite word value s
  | .slipTake => Sys2Proof.Machine.execSlipTake s
  | .slipAnswer => Sys2Proof.Machine.execSlipAnswer s
  | .badKind => Sys2Proof.Machine.execBadKind s
  | .tenantPut => Sys2Proof.Machine.execTenantPut s
  | .tenantDrop => Sys2Proof.Machine.execTenantDrop s
  | .credPut => Sys2Proof.Machine.execCredPut s
  | .credDrop => Sys2Proof.Machine.execCredDrop s
  | .grantSet => Sys2Proof.Machine.execGrantSet s
  | .standingSet => Sys2Proof.Machine.execStandingSet s
  | .unitPut => Sys2Proof.Machine.execUnitPut s
  | .unitDrop => Sys2Proof.Machine.execUnitDrop s
  | .tenantRead => Sys2Proof.Machine.execTenantRead s
  | .loadTenants => Sys2Proof.Machine.execLoadTenants s
  | .loadCredentials => Sys2Proof.Machine.execLoadCredentials s
  | .loadRecordApply => Sys2Proof.Machine.execLoadRecordApply s
  | .clockSet => Sys2Proof.Machine.execClockSet s
  | .profilePut => Sys2Proof.Machine.execProfilePut s
  | .holidaySet => Sys2Proof.Machine.execHolidaySet s
  | .zonePut => Sys2Proof.Machine.execZonePut s
  | .zoneRead => Sys2Proof.Machine.execZoneRead s
  | .visitExtend => Sys2Proof.Machine.execVisitExtend s
  | .visitEnd => Sys2Proof.Machine.execVisitEnd s
  | .visitList => Sys2Proof.Machine.execVisitList s
  | .visitImageCopy => Sys2Proof.Machine.execVisitImageCopy s
  | .unitClear => Sys2Proof.Machine.execUnitClear s
  | .portalPut => Sys2Proof.Machine.execPortalPut s
  | .portalDrop => Sys2Proof.Machine.execPortalDrop s
  | .portalPulse => Sys2Proof.Machine.execPortalPulse s
  | .portalHold => Sys2Proof.Machine.execPortalHold s
  | .portalSecure => Sys2Proof.Machine.execPortalSecure s
  | .portalReset => Sys2Proof.Machine.execPortalReset s
  | .carPut => Sys2Proof.Machine.execCarPut s
  | .carDrop => Sys2Proof.Machine.execCarDrop s
  | .linePut => Sys2Proof.Machine.execLinePut s
  | .nodePut => Sys2Proof.Machine.execNodePut s
  | .nodeDrop => Sys2Proof.Machine.execNodeDrop s
  | .lockdown order => Sys2Proof.Machine.execLockdown order s
  | .evacuate order => Sys2Proof.Machine.execEvacuate order s
  | .resume order => Sys2Proof.Machine.execResume order s
  | .sitePut => Sys2Proof.Machine.execSitePut s
  | .journalMark => Sys2Proof.Machine.execJournalMark s
  | .secondEvent => Sys2Proof.Machine.execSecondEvent s
  | .minuteEvent order => Sys2Proof.Machine.execMinuteEvent order s
  | .passageTimerExpiry portal => Sys2Proof.Machine.execPassageTimerExpiry portal s
  | .holdTimerExpiry portal => Sys2Proof.Machine.execHoldTimerExpiry portal s
  | .cooldownExpiry portal => Sys2Proof.Machine.execCooldownExpiry portal s
  | .probeIntervalExpiry portal => Sys2Proof.Machine.execProbeIntervalExpiry portal s
  | .releaseExpiry car tenant => Sys2Proof.Machine.execReleaseExpiry car tenant s
  | .flushTimerExpiry => Sys2Proof.Machine.execFlushTimerExpiry s
  | .journalRecovery => Sys2Proof.Machine.execJournalRecovery s
  | .fireInputChange closed => Sys2Proof.Machine.execFireInputChange closed s
  | .fireActive order => Sys2Proof.Machine.execFireActive order s
  | .fireClear => Sys2Proof.Machine.execFireClear s
  | .decision => Sys2Proof.Machine.execDecision s
  | .poll line => Sys2Proof.Machine.execPoll line s
  | .idleCycleEnd line => Sys2Proof.Machine.execIdleCycleEnd line s
  | .reply line frame => Sys2Proof.Machine.execReply line frame s
  | .replyWindowExpiry line => Sys2Proof.Machine.execReplyWindowExpiry line s
  | .quietWaitEnd line => Sys2Proof.Machine.execQuietWaitEnd line s
  | .lineBreak line => Sys2Proof.Machine.execLineBreak line s
  | .noQuiet line => Sys2Proof.Machine.execNoQuiet line s
  | .recoveryCheckExpiry line idle => Sys2Proof.Machine.execRecoveryCheckExpiry line idle s
  | .collision line => Sys2Proof.Machine.execCollision line s
  | .gapLimitExpiry line => Sys2Proof.Machine.execGapLimitExpiry line s

end Sys2Proof.Machine
end

