-- ==== Sys2Proof/Machine/Step.lean ====
section
/-! DEFINITION. One step of the block: the command at the front of the queue, or the idle step. -/

namespace Sys2Proof.Machine

/-- R169: one period of the 32.768 kHz crystal passes for the hold measurement, which is held at the last period before
0.5 s until FIRE_ACTIVE or FIRE_CLEAR tells that it has been reached. DESIGN CHOICE (assumption 5). -/
def HoldMeasurement.advance : HoldMeasurement → HoldMeasurement
  | .stopped => .stopped
  | .running held => .running (min (held + 1) (Config.holdPeriods - 1))

/-- DESIGN CHOICE (assumption 5): with no command waiting the block idles for one period of the crystal. -/
def State.idle (s : State) : State :=
  { s with mode := { s.mode with hold := s.mode.hold.advance } }

/-- The command at the front of the queue takes effect on the rest; on an empty queue the block idles. -/
def step (s : State) : Host.Outcome State Fault Refusal :=
  match s.pending with
  | [] => .next s.idle
  | c :: rest => exec c { s with pending := rest }

/-- The state with the command that a word spells put at the front of its queue. DESIGN CHOICE (assumption 36). -/
def State.withFetchWord (s : State) (nbits w : Nat) : State :=
  match Sys2Proof.decodeTableWord nbits w with
  | some c => { s with pending := c :: s.pending }
  | none => s

end Sys2Proof.Machine
end

