-- ==== Sys2Proof/Safety.lean ====
section
/-! DEFINITION. What a safe state is and what a command leaves alone, in the terms the claims use. -/

namespace Sys2Proof.Machine

/-! ## Frames -/

/-- From `s` to `t` nothing but memory has changed. -/
abbrev State.OnlyMem (s t : State) : Prop :=
  t.bus = s.bus ∧ t.settings = s.settings ∧ t.slips = s.slips ∧ t.tenants = s.tenants ∧ t.creds = s.creds ∧
    t.units = s.units ∧ t.clock = s.clock ∧ t.profiles = s.profiles ∧ t.holidays = s.holidays ∧
    t.reads = s.reads ∧ t.register = s.register ∧ t.portals = s.portals ∧ t.cars = s.cars ∧
    t.lines = s.lines ∧ t.nodes = s.nodes ∧ t.mode = s.mode ∧ t.journal = s.journal ∧
    t.revision = s.revision ∧ t.pending = s.pending

/-- From `s` to `t` nothing but the bus port has changed. -/
abbrev State.OnlyBus (s t : State) : Prop :=
  t.mem = s.mem ∧ t.settings = s.settings ∧ t.slips = s.slips ∧ t.tenants = s.tenants ∧ t.creds = s.creds ∧
    t.units = s.units ∧ t.clock = s.clock ∧ t.profiles = s.profiles ∧ t.holidays = s.holidays ∧
    t.reads = s.reads ∧ t.register = s.register ∧ t.portals = s.portals ∧ t.cars = s.cars ∧
    t.lines = s.lines ∧ t.nodes = s.nodes ∧ t.mode = s.mode ∧ t.journal = s.journal ∧
    t.revision = s.revision ∧ t.pending = s.pending

/-- From `s` to `t` nothing but the causes has changed. -/
abbrev State.OnlyCause (s t : State) : Prop :=
  t.mem = s.mem ∧ t.bus.run = s.bus.run ∧ t.bus.mask = s.bus.mask ∧ t.bus.lastRefusal = s.bus.lastRefusal ∧
    t.settings = s.settings ∧ t.slips = s.slips ∧ t.tenants = s.tenants ∧ t.creds = s.creds ∧
    t.units = s.units ∧ t.clock = s.clock ∧ t.profiles = s.profiles ∧ t.holidays = s.holidays ∧
    t.reads = s.reads ∧ t.register = s.register ∧ t.portals = s.portals ∧ t.cars = s.cars ∧
    t.lines = s.lines ∧ t.nodes = s.nodes ∧ t.mode = s.mode ∧ t.journal = s.journal ∧
    t.revision = s.revision ∧ t.pending = s.pending

/-- From `s` to `t` nothing but memory, the journal and the causes has changed. -/
abbrev State.OnlyJournal (s t : State) : Prop :=
  t.bus.run = s.bus.run ∧ t.bus.mask = s.bus.mask ∧ t.bus.lastRefusal = s.bus.lastRefusal ∧
    t.settings = s.settings ∧ t.slips = s.slips ∧ t.tenants = s.tenants ∧ t.creds = s.creds ∧
    t.units = s.units ∧ t.clock = s.clock ∧ t.profiles = s.profiles ∧ t.holidays = s.holidays ∧
    t.reads = s.reads ∧ t.register = s.register ∧ t.portals = s.portals ∧ t.cars = s.cars ∧
    t.lines = s.lines ∧ t.nodes = s.nodes ∧ t.mode = s.mode ∧ t.revision = s.revision ∧ t.pending = s.pending

/-- From `s` to `t` nothing but the tenant table has changed. -/
abbrev State.OnlyTenants (s t : State) : Prop :=
  t.mem = s.mem ∧ t.bus = s.bus ∧ t.settings = s.settings ∧ t.slips = s.slips ∧ t.creds = s.creds ∧
    t.units = s.units ∧ t.clock = s.clock ∧ t.profiles = s.profiles ∧ t.holidays = s.holidays ∧
    t.reads = s.reads ∧ t.register = s.register ∧ t.portals = s.portals ∧ t.cars = s.cars ∧
    t.lines = s.lines ∧ t.nodes = s.nodes ∧ t.mode = s.mode ∧ t.journal = s.journal ∧
    t.revision = s.revision ∧ t.pending = s.pending

/-- From `s` to `t` nothing but the unit table has changed. -/
abbrev State.OnlyUnits (s t : State) : Prop :=
  t.mem = s.mem ∧ t.bus = s.bus ∧ t.settings = s.settings ∧ t.slips = s.slips ∧ t.tenants = s.tenants ∧
    t.creds = s.creds ∧ t.clock = s.clock ∧ t.profiles = s.profiles ∧ t.holidays = s.holidays ∧
    t.reads = s.reads ∧ t.register = s.register ∧ t.portals = s.portals ∧ t.cars = s.cars ∧
    t.lines = s.lines ∧ t.nodes = s.nodes ∧ t.mode = s.mode ∧ t.journal = s.journal ∧
    t.revision = s.revision ∧ t.pending = s.pending

/-- From `s` to `t` nothing but the portal channels has changed. -/
abbrev State.OnlyPortals (s t : State) : Prop :=
  t.mem = s.mem ∧ t.bus = s.bus ∧ t.settings = s.settings ∧ t.slips = s.slips ∧ t.tenants = s.tenants ∧
    t.creds = s.creds ∧ t.units = s.units ∧ t.clock = s.clock ∧ t.profiles = s.profiles ∧
    t.holidays = s.holidays ∧ t.reads = s.reads ∧ t.register = s.register ∧ t.cars = s.cars ∧
    t.lines = s.lines ∧ t.nodes = s.nodes ∧ t.mode = s.mode ∧ t.journal = s.journal ∧
    t.revision = s.revision ∧ t.pending = s.pending

/-- From `s` to `t` nothing but the car channels has changed. -/
abbrev State.OnlyCars (s t : State) : Prop :=
  t.mem = s.mem ∧ t.bus = s.bus ∧ t.settings = s.settings ∧ t.slips = s.slips ∧ t.tenants = s.tenants ∧
    t.creds = s.creds ∧ t.units = s.units ∧ t.clock = s.clock ∧ t.profiles = s.profiles ∧
    t.holidays = s.holidays ∧ t.reads = s.reads ∧ t.register = s.register ∧ t.portals = s.portals ∧
    t.lines = s.lines ∧ t.nodes = s.nodes ∧ t.mode = s.mode ∧ t.journal = s.journal ∧
    t.revision = s.revision ∧ t.pending = s.pending

/-- From `s` to `t` nothing but the reader lines has changed. -/
abbrev State.OnlyLines (s t : State) : Prop :=
  t.mem = s.mem ∧ t.bus = s.bus ∧ t.settings = s.settings ∧ t.slips = s.slips ∧ t.tenants = s.tenants ∧
    t.creds = s.creds ∧ t.units = s.units ∧ t.clock = s.clock ∧ t.profiles = s.profiles ∧
    t.holidays = s.holidays ∧ t.reads = s.reads ∧ t.register = s.register ∧ t.portals = s.portals ∧
    t.cars = s.cars ∧ t.nodes = s.nodes ∧ t.mode = s.mode ∧ t.journal = s.journal ∧ t.revision = s.revision ∧
    t.pending = s.pending

/-- From `s` to `t` nothing but the node table has changed. -/
abbrev State.OnlyNodes (s t : State) : Prop :=
  t.mem = s.mem ∧ t.bus = s.bus ∧ t.settings = s.settings ∧ t.slips = s.slips ∧ t.tenants = s.tenants ∧
    t.creds = s.creds ∧ t.units = s.units ∧ t.clock = s.clock ∧ t.profiles = s.profiles ∧
    t.holidays = s.holidays ∧ t.reads = s.reads ∧ t.register = s.register ∧ t.portals = s.portals ∧
    t.cars = s.cars ∧ t.lines = s.lines ∧ t.mode = s.mode ∧ t.journal = s.journal ∧ t.revision = s.revision ∧
    t.pending = s.pending

/-- From `s` to `t` nothing but the visit register has changed. -/
abbrev State.OnlyRegister (s t : State) : Prop :=
  t.mem = s.mem ∧ t.bus = s.bus ∧ t.settings = s.settings ∧ t.slips = s.slips ∧ t.tenants = s.tenants ∧
    t.creds = s.creds ∧ t.units = s.units ∧ t.clock = s.clock ∧ t.profiles = s.profiles ∧
    t.holidays = s.holidays ∧ t.reads = s.reads ∧ t.portals = s.portals ∧ t.cars = s.cars ∧
    t.lines = s.lines ∧ t.nodes = s.nodes ∧ t.mode = s.mode ∧ t.journal = s.journal ∧
    t.revision = s.revision ∧ t.pending = s.pending

/-- From `s` to `t` nothing but the slip unit has changed. -/
abbrev State.OnlySlips (s t : State) : Prop :=
  t.mem = s.mem ∧ t.bus = s.bus ∧ t.settings = s.settings ∧ t.tenants = s.tenants ∧ t.creds = s.creds ∧
    t.units = s.units ∧ t.clock = s.clock ∧ t.profiles = s.profiles ∧ t.holidays = s.holidays ∧
    t.reads = s.reads ∧ t.register = s.register ∧ t.portals = s.portals ∧ t.cars = s.cars ∧
    t.lines = s.lines ∧ t.nodes = s.nodes ∧ t.mode = s.mode ∧ t.journal = s.journal ∧
    t.revision = s.revision ∧ t.pending = s.pending

/-- From `s` to `t` nothing but the mode unit has changed. -/
abbrev State.OnlyMode (s t : State) : Prop :=
  t.mem = s.mem ∧ t.bus = s.bus ∧ t.settings = s.settings ∧ t.slips = s.slips ∧ t.tenants = s.tenants ∧
    t.creds = s.creds ∧ t.units = s.units ∧ t.clock = s.clock ∧ t.profiles = s.profiles ∧
    t.holidays = s.holidays ∧ t.reads = s.reads ∧ t.register = s.register ∧ t.portals = s.portals ∧
    t.cars = s.cars ∧ t.lines = s.lines ∧ t.nodes = s.nodes ∧ t.journal = s.journal ∧
    t.revision = s.revision ∧ t.pending = s.pending

/-- From `s` to `t` nothing but the unit table and what the journal touches has changed. -/
abbrev State.OnlyUnitMonitor (s t : State) : Prop :=
  t.bus.run = s.bus.run ∧ t.bus.mask = s.bus.mask ∧ t.bus.lastRefusal = s.bus.lastRefusal ∧
    t.settings = s.settings ∧ t.slips = s.slips ∧ t.tenants = s.tenants ∧ t.creds = s.creds ∧
    t.clock = s.clock ∧ t.profiles = s.profiles ∧ t.holidays = s.holidays ∧ t.reads = s.reads ∧
    t.register = s.register ∧ t.portals = s.portals ∧ t.cars = s.cars ∧ t.lines = s.lines ∧
    t.nodes = s.nodes ∧ t.mode = s.mode ∧ t.revision = s.revision ∧ t.pending = s.pending

/-- From `s` to `t` nothing but the unit table, the node table and what the journal touches has changed. -/
abbrev State.OnlyUnitReport (s t : State) : Prop :=
  t.bus.run = s.bus.run ∧ t.bus.mask = s.bus.mask ∧ t.bus.lastRefusal = s.bus.lastRefusal ∧
    t.settings = s.settings ∧ t.slips = s.slips ∧ t.tenants = s.tenants ∧ t.creds = s.creds ∧
    t.clock = s.clock ∧ t.profiles = s.profiles ∧ t.holidays = s.holidays ∧ t.reads = s.reads ∧
    t.register = s.register ∧ t.portals = s.portals ∧ t.cars = s.cars ∧ t.lines = s.lines ∧ t.mode = s.mode ∧
    t.revision = s.revision ∧ t.pending = s.pending

/-- From `s` to `t` nothing but the register, tenants, units and what the journal touches has changed. -/
abbrev State.OnlyVisits (s t : State) : Prop :=
  t.bus.run = s.bus.run ∧ t.bus.mask = s.bus.mask ∧ t.bus.lastRefusal = s.bus.lastRefusal ∧
    t.settings = s.settings ∧ t.slips = s.slips ∧ t.creds = s.creds ∧ t.clock = s.clock ∧
    t.profiles = s.profiles ∧ t.holidays = s.holidays ∧ t.reads = s.reads ∧ t.portals = s.portals ∧
    t.cars = s.cars ∧ t.lines = s.lines ∧ t.nodes = s.nodes ∧ t.mode = s.mode ∧ t.revision = s.revision ∧
    t.pending = s.pending

/-- From `s` to `t` nothing but portals, nodes, the register, tenants, units and what the journal touches has changed. -/
abbrev State.OnlyPortalUnit (s t : State) : Prop :=
  t.bus.run = s.bus.run ∧ t.bus.mask = s.bus.mask ∧ t.bus.lastRefusal = s.bus.lastRefusal ∧
    t.settings = s.settings ∧ t.slips = s.slips ∧ t.creds = s.creds ∧ t.clock = s.clock ∧
    t.profiles = s.profiles ∧ t.holidays = s.holidays ∧ t.reads = s.reads ∧ t.cars = s.cars ∧
    t.lines = s.lines ∧ t.mode = s.mode ∧ t.revision = s.revision ∧ t.pending = s.pending

/-- From `s` to `t` nothing but cars, nodes and what the journal touches has changed. -/
abbrev State.OnlyCarUnit (s t : State) : Prop :=
  t.bus.run = s.bus.run ∧ t.bus.mask = s.bus.mask ∧ t.bus.lastRefusal = s.bus.lastRefusal ∧
    t.settings = s.settings ∧ t.slips = s.slips ∧ t.tenants = s.tenants ∧ t.creds = s.creds ∧
    t.units = s.units ∧ t.clock = s.clock ∧ t.profiles = s.profiles ∧ t.holidays = s.holidays ∧
    t.reads = s.reads ∧ t.register = s.register ∧ t.portals = s.portals ∧ t.lines = s.lines ∧
    t.mode = s.mode ∧ t.revision = s.revision ∧ t.pending = s.pending

/-- From `s` to `t` nothing but what a field event touches (lines, nodes, reads, portals, cars, the register, tenants, units
and what the journal touches) has changed. -/
abbrev State.OnlyField (s t : State) : Prop :=
  t.bus.run = s.bus.run ∧ t.bus.mask = s.bus.mask ∧ t.bus.lastRefusal = s.bus.lastRefusal ∧
    t.settings = s.settings ∧ t.slips = s.slips ∧ t.creds = s.creds ∧ t.clock = s.clock ∧
    t.profiles = s.profiles ∧ t.holidays = s.holidays ∧ t.mode = s.mode ∧ t.revision = s.revision ∧
    t.pending = s.pending

/-! ## The slip in service and its answer -/

/-- R186: the slip in service is taken, of this kind, and not yet served. -/
abbrev State.Serves (kind : SlipKind) (v : Service) (s : State) : Prop :=
  s.slips.serving = some v ∧ v.stage = .taken ∧ v.kind = kind.code

/-- R186: from `s` to `t` the slip unit keeps its queue, and the slip in service stands at a stage. -/
abbrev State.ServiceAt (v : Service) (stage : Stage) (s t : State) : Prop :=
  t.slips = { s.slips with serving := some { v with stage := stage } }

/-- R186: the owner has given the slip in service this answer. -/
abbrev State.Gives (v : Service) (a : Answer) (s t : State) : Prop :=
  State.ServiceAt v (.served a) s t

/-- The slip kind that a command serves. -/
def slipKindOf : Instr → Option SlipKind
  | .tenantPut => some .tenantPut
  | .tenantDrop => some .tenantDrop
  | .credPut => some .credPut
  | .credDrop => some .credDrop
  | .grantSet => some .grantSet
  | .standingSet => some .standingSet
  | .unitPut => some .unitPut
  | .unitDrop => some .unitDrop
  | .tenantRead => some .tenantRead
  | .loadTenants => some .loadTenants
  | .loadCredentials => some .loadCredentials
  | .clockSet => some .clockSet
  | .profilePut => some .profilePut
  | .holidaySet => some .holidaySet
  | .zonePut => some .zonePut
  | .zoneRead => some .zoneRead
  | .visitExtend => some .visitExtend
  | .visitEnd => some .visitEnd
  | .visitList => some .visitList
  | .unitClear => some .unitClear
  | .portalPut => some .portalPut
  | .portalDrop => some .portalDrop
  | .portalPulse => some .portalPulse
  | .portalHold => some .portalHold
  | .portalSecure => some .portalSecure
  | .portalReset => some .portalReset
  | .carPut => some .carPut
  | .carDrop => some .carDrop
  | .linePut => some .linePut
  | .nodePut => some .nodePut
  | .nodeDrop => some .nodeDrop
  | .lockdown _ => some .lockdown
  | .evacuate _ => some .evacuate
  | .resume _ => some .resume
  | .sitePut => some .sitePut
  | .journalMark => some .journalMark
  | _ => none

/-! ## Writes of the host and of the journal -/

/-- R180, R181: a host access is refused: REFUSED is raised, the code is recorded, and nothing else changes. -/
abbrev State.Refused (code : RefusalCode) (s t : State) : Prop :=
  t = { s with bus := { s.bus with cause := s.bus.cause ||| 0x10#7, lastRefusal := code } }

/-- R180: a host write stores one word, and nothing else changes. -/
abbrev State.StoredWord (a v : Nat) (s t : State) : Prop :=
  t = { s with mem := t.mem } ∧ t.wordAt a = v ∧ ∀ b, b ≠ a → b ≠ a + 1 → t.byteAt b = s.byteAt b

/-- R178: whatever number of the accesses `l` has been passed, a word that a host reads is whole: it reads as in `s`, before
them, or as in `t`, after them. -/
abbrev State.ReadsWhole (l : List Access) (s t : State) : Prop :=
  ∀ k w, w % 2 = 0 → (s.during k l).wordAt w = s.wordAt w ∨ (s.during k l).wordAt w = t.wordAt w

/-- R178: from `s` to `t` the `n` bytes of memory from `a` on are written word by word, and nothing else of memory; a host
that reads them meanwhile finds each word whole. -/
abbrev State.WrittenByWords (a n : Nat) (s t : State) : Prop :=
  t.mem = (s.pass (accessesOf a (t.peek a n))).mem ∧ s.ReadsWhole (accessesOf a (t.peek a n)) t

/-- R178: until the last of the accesses `l` has been passed, the word at `a` reads as in `s`. -/
abbrev State.WordLast (a : Nat) (l : List Access) (s : State) : Prop :=
  ∀ k < l.length, (s.during k l).wordAt a = s.wordAt a

/-- Memory, the bus port and the journal of `t` are those of `w`. -/
abbrev State.JournalOf (w t : State) : Prop :=
  t.mem = w.mem ∧ t.bus = w.bus ∧ t.journal = w.journal

/-- R193, R195: the current page is one of the 32; the journal, where it is not stalled, has room on it; and the holdover
holds at most 8 entries. -/
abbrev State.PageInPlace (s : State) : Prop :=
  s.journal.page < 32 ∧ (s.journal.stalled = false → s.entryCount s.journal.page ≤ 62) ∧
    s.journal.holdover.length ≤ 8

/-- No byte changes but those of the live fields of block 0, of the update count, and of the journal pages. -/
abbrev State.KeepsMemory (s t : State) : Prop :=
  ∀ a, (a < 4 ∨ 6 ≤ a ∧ a < 24 ∨ 39 ≤ a ∧ a < 0x2400 ∨ 0xA400 ≤ a) → t.byteAt a = s.byteAt a

/-! ## Windows, slots and passages (R37, R38, R69, R74, R75, R114) -/

/-- R34, R38: an interval of the list contains the mow `m` and ends `d` minutes after it, and none that contains `m` ends
later. -/
abbrev FarthestEnd (intervals : List Interval) (m d : Nat) : Prop :=
  (∃ i ∈ intervals, i.contains m = true ∧ (i.finish + 10080 - m) % 10080 = d) ∧
    ∀ i ∈ intervals, i.contains m = true → (i.finish + 10080 - m) % 10080 ≤ d

/-- R69: the lowest slot number that no visit holds. -/
abbrev State.LowestFreeSlot (s : State) (slot : Nat) : Prop :=
  slot < 512 ∧ (∀ v ∈ s.register.visits, v.slot ≠ slot) ∧ ∀ m < slot, ∃ v ∈ s.register.visits, v.slot = m

/-- R74: the persons for whom the passages of a list reserve in a zone. -/
def reservedIn (z : Nat) (passages : List Passage) : Nat :=
  if 1 ≤ z ∧ z ≤ 15 then
    ((passages.filter (fun g => g.kind != .finish && g.target == z)).map (fun g => g.party)).sum
  else 0

/-- R70: the CREATE passages of a list. -/
def creationsIn (passages : List Passage) : Nat :=
  (passages.filter (fun g => g.kind == .create)).length

/-- R75: from `s` to `t` the register has undone the reservations of these passages and changed nothing else. -/
abbrev State.Unreserves (passages : List Passage) (s t : State) : Prop :=
  t.register = { s.register with
      zones := t.register.zones, creating := s.register.creating - creationsIn passages } ∧
    ∀ z, t.zone z = { s.zone z with reserved := (s.zone z).reserved - reservedIn z passages }

/-- R74: from `s` to `t` the register has reserved for one passage and changed nothing else. -/
abbrev State.Reserves (g : Passage) (s t : State) : Prop :=
  t.register = { s.register with
      zones := t.register.zones, creating := s.register.creating + creationsIn [g] } ∧
    ∀ z, t.zone z = { s.zone z with reserved := (s.zone z).reserved + reservedIn z [g] }

/-- R2, R114: from `s` to `t` the pending-passage links of the tenants of these passages are cleared, and no other field of
the tenant table changes. -/
abbrev State.Unlinks (passages : List Passage) (s t : State) : Prop :=
  ∀ j, t.tenant j = (s.tenant j).map
    (fun x => if j ∈ passages.map (fun g => g.tenant) then { x with transit := none } else x)

/-- R114: the GRANT_UNUSED entries of cancelled passages, in list order. -/
def State.unusedEntries (p reason : Nat) (passages : List Passage) (s : State) : State :=
  passages.foldl (fun w g => w.log .grantUnused (some p) (some g.tenant)
    (bytesOf 1 g.kind.code ++ bytesOf 1 g.party ++ bytesOf 1 g.target ++ bytesOf 1 reason)) s

/-- R91, R92: from `s` to `u` each unit of a grant list that stands in zone `old` loses a hold, and each that stands in zone
`new`, another one, gains a hold; a count that leaves 0 disarms, and one that comes to 0 arms by the contact. -/
abbrev State.MovesHolds (grants : List Nat) (old new : Option Nat) (s u : State) : Prop :=
  ∀ x, u.unit x = (s.unit x).map (fun r =>
    if x ∈ grants ∧ old = some r.zone then
      { r with
        holders := r.holders - 1
        arm := if r.holders = 1 ∧ r.arm = .disarmed then (if r.door = .opened then .leftOpen else .armed)
          else r.arm }
    else if x ∈ grants ∧ new = some r.zone then
      { r with
        holders := r.holders + 1
        arm := if r.holders = 0 ∧ (r.arm = .armed ∨ r.arm = .leftOpen) then .disarmed else r.arm }
    else r)

/-- R91, R92, R101: the entries of one loss of hold, by the tenant, for each unit of the list that stands in zone `z`, in list
order: a DISARMED unit whose last hold goes writes UNIT_LEFT_OPEN where its door is open, and else UNIT_ARMED, reason
HOLDS_ENDED, whose flag is absent. DEDUCED (assumption 21). -/
def State.holdLossEntries (tenant z : Nat) (units : List Nat) (s w : State) : State :=
  units.foldl (fun w u =>
    match s.unit u with
    | none => w
    | some x =>
      if x.zone = z ∧ x.holders = 1 ∧ x.arm = .disarmed then
        (if x.door = .opened then w.log .unitLeftOpen (some u) (some tenant) []
        else w.log .unitArmed (some u) (some tenant) [0, 0xFF])
      else w) w

/-- R91, R92, R101: the entries of one gain of hold, by the tenant, for each unit of the list that stands in zone `z`, in list
order: a unit with no holder writes UNIT_DISARMED from ARMED or LEFT_OPEN, and UNIT_HELD_IN_ALARM in INTRUSION, with the
holder count 1. DEDUCED (assumption 21). -/
def State.holdGainEntries (tenant z : Nat) (units : List Nat) (s w : State) : State :=
  units.foldl (fun w u =>
    match s.unit u with
    | none => w
    | some x =>
      if x.zone = z ∧ x.holders = 0 then
        match x.arm with
        | .armed | .leftOpen => w.log .unitDisarmed (some u) (some tenant) [1]
        | .intrusion => w.log .unitHeldInAlarm (some u) (some tenant) [1]
        | .disarmed => w
      else w) w

/-- R91, R92: the record of a unit that loses one hold. -/
def UnitRecord.unheld (x : UnitRecord) : UnitRecord :=
  { x with
    holders := x.holders - 1
    arm := if x.holders = 1 ∧ x.arm = .disarmed then (if x.door = .opened then .leftOpen else .armed) else x.arm }

/-- R91, R92: the record of a unit that gains one hold. -/
def UnitRecord.heldOnce (x : UnitRecord) : UnitRecord :=
  { x with
    holders := x.holders + 1
    arm := if x.holders = 0 ∧ (x.arm = .armed ∨ x.arm = .leftOpen) then .disarmed else x.arm }

/-- R8, R76: a visit of this entry standing holds units. -/
abbrev HoldsUnits (st : Standing) : Prop :=
  st = .current ∨ st = .grace

/-- No unit of the tenant's grant list stands in either zone. -/
abbrev State.NoUnitIn (grants : List Nat) (old new : Option Nat) (s : State) : Prop :=
  ∀ x ∈ grants, ∀ r, s.unit x = some r → old ≠ some r.zone ∧ new ≠ some r.zone

/-- R112: the state with the PASSAGE entry written, the mark AT_ONCE set for a passage that was not pending. -/
def State.passageEntry (p : Nat) (pending : Bool) (g : Passage) (slot : Option Nat) (s : State) : State :=
  s.log .passage (some p) (some g.tenant)
    (bytesOf 1 g.kind.code ++ bytesOf 1 g.party ++ bytesOf 1 g.target ++
      bytesOf 1 (g.head.code + (if g.soft then 2 else 0) + (if pending then 0 else 4)) ++
      bytesOfOption 2 slot)

/-- R76 to R80: from `s` to `u` one passage has been applied at portal `p`: as a CREATE, which forms the visit in the lowest
free slot with the deadline and warning minute of the moment; as a MOVE of the tenant's visit; or as an END of it, an exit
with no visit changing nothing. A pending passage has its reservation freed and its link cleared. -/
abbrev State.AppliesPassage (p : Nat) (pending : Bool) (g : Passage) (s u : State) : Prop :=
  let x := s.tenant g.tenant
  let grants := (x.map (fun r => r.grants)).getD []
  let freed (z : Nat) : Nat := if pending then reservedIn z [g] else 0
  let entered (z party : Nat) : Nat := if z = g.target ∧ 1 ≤ z ∧ z ≤ 15 then party else 0
  let left (z : Nat) (w : Visit) : Nat := if z = w.zone ∧ 1 ≤ z ∧ z ≤ 15 then w.party else 0
  let link (t : Option Nat) : Option Nat := if pending then none else t
  s.OnlyVisits u ∧ (∀ j, j ≠ g.tenant → u.tenant j = s.tenant j) ∧
    match g.kind with
    | .create => ∀ slot, s.LowestFreeSlot slot →
        let staff := (x.map (fun r => r.staff)).getD false
        let deadline := s.deadlineFor staff ((x.map (fun r => r.profile)).getD 0)
        let new := if HoldsUnits g.standing then some g.target else none
        u.register = { s.register with
          visits := s.register.visits ++ [
            { slot := slot, tenant := g.tenant, credential := g.key, party := g.party, zone := g.target,
              entry := s.clock.minute, deadline := deadline, warning := s.warningFor deadline,
              standing := g.standing, state := .active, unconfirmed := g.soft }]
          zones := u.register.zones
          creating := if pending then s.register.creating - 1 else s.register.creating } ∧
        (∀ z, u.zone z = { s.zone z with
          count := (s.zone z).count + entered z g.party, reserved := (s.zone z).reserved - freed z }) ∧
        u.tenant g.tenant = x.map (fun r => { r with visit := some slot, transit := link r.transit }) ∧
        u.peek 32 2 = bytesOf 2 (s.register.visits.length + 1) ∧
        (grants.Nodup → s.MovesHolds grants none new u ∧
          (s.NoUnitIn grants none new → u.bus = (s.passageEntry p pending g (some slot)).bus ∧
            u.journal = (s.passageEntry p pending g (some slot)).journal))
    | .move => ∀ w, s.visitOf g.tenant = some w →
        let moves := HoldsUnits w.standing ∧ w.zone ≠ g.target
        let old := if moves then some w.zone else none
        let new := if moves then some g.target else none
        u.register = { s.register with
          visits := s.register.visits.map (fun v => if v.tenant = g.tenant then
            { v with zone := g.target, unconfirmed := if g.soft then v.unconfirmed else false } else v)
          zones := u.register.zones } ∧
        (∀ z, u.zone z = { s.zone z with
          count := (s.zone z).count - left z w + entered z w.party, reserved := (s.zone z).reserved - freed z }) ∧
        u.tenant g.tenant = x.map (fun r => { r with transit := link r.transit }) ∧
        (grants.Nodup → s.MovesHolds grants old new u ∧
          (s.NoUnitIn grants old new → State.JournalOf (s.passageEntry p pending g (some w.slot)) u))
    | .finish =>
        (s.visitOf g.tenant = none →
          u.register = s.register ∧ u.units = s.units ∧ State.JournalOf (s.passageEntry p pending g none) u ∧
            u.tenant g.tenant = x.map (fun r => { r with transit := link r.transit })) ∧
        ∀ w, s.visitOf g.tenant = some w →
          let old := if HoldsUnits w.standing then some w.zone else none
          let ended := (s.passageEntry p pending g (some w.slot)).log .visitEnd (some w.slot) (some g.tenant)
            (bytesOf 1 (16 * w.party) ++ bytesOf 1 (w.zone + 16 * w.state.code + (if w.unconfirmed then 64 else 0)) ++
              bytesOf 2 (min 65535 (s.clock.minute - w.entry)) ++
              bytesOf 2 (min 65535 (s.clock.minute - w.deadline.getD s.clock.minute)))
          u.register = { s.register with
            visits := s.register.visits.filter (fun v => v.tenant != g.tenant)
            zones := u.register.zones, walk := u.register.walk } ∧
          (∀ z, u.zone z = { s.zone z with count := (s.zone z).count - left z w }) ∧
          u.tenant g.tenant = x.map (fun r => { r with visit := none, transit := link r.transit }) ∧
          u.peek 32 2 = bytesOf 2 u.register.visits.length ∧
          (grants.Nodup → s.MovesHolds grants old none u ∧
            (s.NoUnitIn grants old none → u.bus = ended.bus ∧ u.journal = ended.journal))

/-- R112: from `s` to `u` the passages of a list have been applied one after another, in list order. -/
def State.AppliesInOrder (p : Nat) : List Passage → State → State → Prop
  | [], s, u => u = s
  | g :: rest, s, u => ∃ m, s.AppliesPassage p true g m ∧ State.AppliesInOrder p rest m u

/-! ## Replies that are handed on (R155, R157, R160) -/

/-- R157, R160: the reply `frame` of the node polled on line `l` at address `a`, whose record is `r`, is good and is handed
on: the node is in contact, or this is its third good reply since it went OFFLINE. -/
abbrev State.HandsOn (l a : Nat) (frame : List LineChar) (r : Node) (s : State) : Prop :=
  (s.line l).state = .running ∧ (s.line l).polledNode = some a ∧ s.node ⟨l, a⟩ = some r ∧
    judge r.kind a frame = none ∧ (r.state = .offline → 2 ≤ r.restore)

/-- R159, R160: what the journal holds before the owner of the node acts on the reply: a node that the reply restores has
written NODE_RESTORED. -/
def State.beforeOwner (n : NodeId) (r : Node) (s : State) : State :=
  if r.state = .offline then s.log .nodeRestored (some n.subject) none [] else s

/-- R209: the data bytes of a frame from the first of its status block on. -/
def statusBytes (frame : List LineChar) : List Byte :=
  (frame.map (fun c => c.data)).drop 2

/-- R209: the status byte of a PORTAL or CAR reply. -/
def statusByte (frame : List LineChar) : Nat :=
  ((statusBytes frame).getD 0 0).toNat

/-- R115, R209: the door contact in a PORTAL reply. -/
def reportedDoor (frame : List LineChar) : DoorState :=
  if (statusByte frame).testBit 0 then .opened else .closed

/-- R115: a reply of PORTAL node ⟨`l`, `a`⟩ is handed on to portal `p`, whose configuration in force is `c`. -/
abbrev State.HandsPortal (l a : Nat) (frame : List LineChar) (r : Node) (p : Nat) (c : PortalConfig) (s : State) : Prop :=
  s.HandsOn l a frame r ∧ r.kind = .portal ∧ s.portalOf ⟨l, a⟩ = some p ∧ (s.portal p).config = some c ∧
    (s.portal p).state ≠ .unconfigured

/-- R160, R161: an event of portal `p` alone: no other portal, no car and no unit changes. -/
abbrev State.AtPortal (p : Nat) (s t : State) : Prop :=
  (∀ q, q ≠ p → t.portal q = s.portal q) ∧ t.cars = s.cars ∧ t.mode = s.mode ∧ t.clock = s.clock ∧
    t.settings = s.settings ∧ t.creds = s.creds

/-- R110: whether the output stands energised: under POWER_TO_LOCK for LOCKED, under POWER_TO_RELEASE for RELEASED. -/
def energised (c : PortalConfig) (command : LockCommand) : Bool :=
  command == if c.polarity = .powerToLock then LockCommand.locked else .released

/-- R110, R126: the portal with lock command, probe interval and its expiry as they are after the lock command has been
formed anew: RELEASED under the evacuation override and else by the state; the interval starts where probe pending is set
and the output is energised, and stops where it is not. The command is formed once in an event, at its end.
DESIGN CHOICE (assumption 39). -/
def State.withCommandOf (c : PortalConfig) (s : State) (r : Portal) : Portal :=
  let command : LockCommand :=
    if s.mode.mode = .evacuate ∧ c.egress = true then .released
    else match r.state with
      | .released | .heldUnlocked => .released
      | .cooldown | .faultDriver => if c.polarity = .powerToLock then .released else .locked
      | .waiting | .faultOffline => if s.sources r ≠ 0 then .released else .locked
      | .unconfigured | .secure | .opened | .held | .forced => .locked
  { r with
    command := command
    probe := if r.probePending = true ∧ energised c command = true then
        (if r.probe = .stopped ∧ r.probeElapsed = false then .running 2 else r.probe)
      else .stopped
    probeElapsed := r.probeElapsed && r.probePending && energised c command }

/-- R140: the record of a car's node with the outputs handed on to it: in NORMAL the public floors and those of the release
entries, in LOCKDOWN those of the entries, within the floors served; in EVACUATE no floor, and recall on. -/
def Node.sentFloors (mode : SiteMode) (g : CarConfig) (releases : List Release) (n : Node) : Node :=
  { n with
    floors := if mode = .evacuate then 0
      else ((if mode = .normal then g.pub else 0) ||| releases.foldr (fun e acc => e.floors ||| acc) 0) &&& g.served
    recallOn := mode == .evacuate }

/-- R47: the record of a read's node with the last verdict of the read's head stored: the heads of a PORTAL node have one. -/
def Read.toldTo (r : Read) (verdict : LastVerdict) (n : Node) : Node :=
  if r.orphan = true ∨ n.kind ≠ .portal then n
  else match r.head with
    | .a => { n with verdictA := verdict }
    | .b => { n with verdictB := verdict }
    | .car => n

/-- R122: a portal held unlocked: the hold timer and the open-duration count stand, the list and the passage timer are kept. -/
def Portal.unlockedHeld (r : Portal) : Portal :=
  { r with state := .heldUnlocked, holdTimer := .stopped, openCounting := false }

/-- R116, R118, R122: a portal OPEN and timed from this moment. -/
def Portal.timedFrom (c : PortalConfig) (r : Portal) : Portal :=
  { r with
    state := .opened, passageTimer := .stopped, holdTimer := Timer.set c.hold, openSeconds := 0, openCounting := true }

/-- R107: the portal `r`, in SECURE or WAITING under the record `old`, with the record `new` applied: WAITING where it names
another node, and HELD_UNLOCKED where it leaves a portal in SECURE with a source. DESIGN CHOICE (assumptions 30, 39 and 40). -/
def State.configApplied (old new : PortalConfig) (s : State) (r : Portal) : Portal :=
  let r := { r with config := some new, deferred := none, window := new.free.any (fun n => s.windowTest n) }
  if new.node ≠ old.node then
    s.withCommandOf new { r with state := .waiting, passageTimer := .stopped, holdTimer := .stopped }
  else if r.state = .secure ∧ s.sources r ≠ 0 then s.withCommandOf new r.unlockedHeld
  else s.withCommandOf new r

/-- R107: the portal `r`, whose record in force is `c`, after it has entered SECURE: a deferred record is applied, and the lock
command that counts is the one after it. DESIGN CHOICE (assumption 39). -/
def State.secured (c : PortalConfig) (s : State) (r : Portal) : Portal :=
  let r := { r with state := .secure, passageTimer := .stopped, holdTimer := .stopped }
  match r.deferred with
  | none => s.withCommandOf c r
  | some d => s.configApplied c d r

/-- R122: the state that a portal in HELD_UNLOCKED takes when its last source goes, by its door, its list and its timer. -/
def Portal.relocksTo (r : Portal) : PortalState :=
  if r.door = .opened then .opened
  else if r.passages ≠ [] ∨ r.passageTimer ≠ .stopped then .released
  else .secure

/-- R122: the portal `r`, in HELD_UNLOCKED under the record `c`, after its last source has gone. One that passes through SECURE
to HELD_UNLOCKED under a deferred record has the one command RELEASED. DESIGN CHOICE (assumption 39). -/
def State.relocked (c : PortalConfig) (s : State) (r : Portal) : Portal :=
  match r.relocksTo with
  | .opened => s.withCommandOf c (r.timedFrom c)
  | .released => s.withCommandOf c { r with state := .released, holdTimer := .stopped }
  | _ => s.secured c r

/-- R121, R122: the portal `r`, whose record in force is `c`, after its held-unlocked sources have been evaluated. -/
def State.evaluated (c : PortalConfig) (s : State) (r : Portal) : Portal :=
  match r.state with
  | .secure | .released | .opened | .held | .forced =>
    if s.sources r ≠ 0 then s.withCommandOf c r.unlockedHeld else s.withCommandOf c r
  | .heldUnlocked =>
    if s.sources r ≠ 0 then s.withCommandOf c r else s.relocked c r
  | .unconfigured | .waiting | .cooldown | .faultDriver | .faultOffline => s.withCommandOf c r

/-- R122: a portal that has come to HELD_UNLOCKED as `r` writes PORTAL_UNLOCKED with the sources present. -/
def State.heldEntry (p : Nat) (s : State) (r : Portal) (w : State) : State :=
  if r.state = .heldUnlocked then w.log .portalUnlocked (some p) none (bytesOf 1 (s.sources r)) else w

/-- R122: the entries of the evaluation of the sources of `r`: PORTAL_UNLOCKED where it comes to HELD_UNLOCKED, and
PORTAL_RELOCKED with the state after where it leaves it. -/
def State.evaluatedEntries (p : Nat) (c : PortalConfig) (s : State) (r : Portal) (w : State) : State :=
  if r.state ≠ .heldUnlocked then s.heldEntry p (s.evaluated c r) w
  else if s.sources r ≠ 0 then w
  else s.heldEntry p (s.evaluated c r) (w.log .portalRelocked (some p) none (bytesOf 1 r.relocksTo.code))

/-- R121, R122, R174: from `s` to `t` the sources of every configured portal have been evaluated under the mode of `t`. -/
abbrev State.SourcesEvaluated (s t : State) : Prop :=
  ∀ p < 48, ∀ c, (s.portal p).config = some c →
    t.portal p = State.evaluated c { s with mode := t.mode } (s.portal p)

/-- R28, R31, R121: from `s` to `t` the free-access window of every portal with a profile has been found anew, by the clock of
`t`, and its sources have been evaluated; a portal with no profile stays as it is. -/
abbrev State.WindowsRefreshed (s t : State) : Prop :=
  ∀ p < 48, ∀ c, (s.portal p).config = some c →
    t.portal p = match c.free with
      | none => s.portal p
      | some n =>
        let u : State := { s with clock := t.clock }
        u.evaluated c { s.portal p with window := u.windowTest n }

/-- R126: a report of OK completes the probe. -/
abbrev Portal.ProbeDone (c : PortalConfig) (r : Portal) : Prop :=
  r.probePending = true ∧ r.probeElapsed = true ∧ energised c r.command = true

/-- R124, R127: under POWER_TO_LOCK a failed driver leaves the door unsecured. -/
def State.unsecuredEntry (p : Nat) (c : PortalConfig) (s : State) : State :=
  if c.polarity = .powerToLock then s.log .doorUnsecured (some p) none [] else s

/-- R124: a portal after a driver failure by a short. -/
def State.shortedPortal (c : PortalConfig) (s : State) (r : Portal) : Portal :=
  s.withCommandOf c
    { r with
      state := .cooldown, passages := [], passageTimer := .stopped, holdTimer := .stopped, cooldown := .running 5
      probe := .stopped, probeElapsed := false, probePending := false, openCounting := false, egressMemory := false
      faults := min 3 (r.faults + 1) }

/-- R124: the entries of a driver failure by a short: GRANT_UNUSED, reason DRIVER_SHORT, for each passage, DRIVER_SHORT with
the count, and DOOR_UNSECURED under POWER_TO_LOCK. -/
def State.shortEntries (p : Nat) (c : PortalConfig) (r : Portal) (w : State) : State :=
  ((w.unusedEntries p 1 r.passages).log .driverShort (some p) none (bytesOf 1 (min 3 (r.faults + 1)))).unsecuredEntry p c

/-- R127: a portal after an open load. -/
def State.openLoadPortal (c : PortalConfig) (s : State) (r : Portal) : Portal :=
  s.withCommandOf c
    { r with
      state := .faultDriver, passages := [], passageTimer := .stopped, holdTimer := .stopped, cooldown := .stopped
      probe := .stopped, probeElapsed := false, probePending := false, egressMemory := false, faults := 3 }

/-- R127: the entries of an open load: GRANT_UNUSED, reason DRIVER_FAULT, for each passage, DRIVER_FAULT with reason OPEN_LOAD,
and DOOR_UNSECURED under POWER_TO_LOCK. -/
def State.openLoadEntries (p : Nat) (c : PortalConfig) (r : Portal) (w : State) : State :=
  ((w.unusedEntries p 2 r.passages).log .driverFault (some p) none [1]).unsecuredEntry p c

/-- R94, R101: the entries that a report of the inputs of UNIT node `n` causes, in ascending order of input: UNIT_INTRUSION
for an ARMED unit that opens, UNIT_ARMED, reason CLOSED, for a LEFT_OPEN one that closes, with `flag`, or FIRST_REPORT for a
unit that no report has reached. -/
def State.contactEntries (n : NodeId) (inputs flag : Nat) (s w : State) : State :=
  (List.range 32).foldl (fun w i =>
    match s.unitAt n i with
    | none => w
    | some u =>
      match s.unit u with
      | none => w
      | some x =>
        let seen := bytesOf 1 (if x.fresh then 1 else flag)
        if inputs.testBit i = true then
          (if x.arm = .armed ∧ x.door ≠ .opened then w.log .unitIntrusion (some u) none seen else w)
        else if x.arm = .leftOpen ∧ x.door ≠ .closed then w.log .unitArmed (some u) none ([1] ++ seen) else w) w

/-- R136, R139: the car `r` after an event has changed its release list: with the list empty a deferred record is applied, and
where it names another node the car takes its state from that node and the mode. DESIGN CHOICE (assumption 32). -/
def State.carSettled (s : State) (r : Car) : Car :=
  match r.config, r.deferred with
  | some old, some new =>
    if r.releases ≠ [] then r
    else if new.node = old.node then { r with config := some new, deferred := none }
    else { r with
      config := some new, deferred := none, recallDone := false
      state := if (s.node new.node).any (fun n => n.state == .offline) then .offline
        else if s.mode.mode = .evacuate then .inRecall else .inService }
  | _, _ => r

/-- R141, R174: from `s` to `t` the configured cars have been told of the mode of `t`: LOCKDOWN and EVACUATE empty the release
lists, EVACUATE recalls the cars in service and NORMAL returns them; an OFFLINE car stays as it is. -/
abbrev State.CarsTold (s t : State) : Prop :=
  ∀ i < 4, (s.car i).config.isSome →
    ((s.car i).state = .offline → t.car i = s.car i) ∧
    ((s.car i).state = .inService ∨ (s.car i).state = .inRecall →
      let settled := State.carSettled { s with mode := t.mode } { s.car i with releases := [] }
      t.car i = match t.mode.mode with
        | .normal =>
          if (s.car i).state = .inRecall then { s.car i with state := .inService, recallDone := false } else s.car i
        | .lockdown => settled
        | .evacuate => { settled with
            state := if settled.state = .inService then .inRecall else settled.state, recallDone := false })

/-! ## The entries of events that reach several blocks -/

/-- R144: one LIFT_RELEASE_END of car `i` for each entry that leaves its list, oldest first. -/
def State.releaseEntries (i reason : Nat) (releases : List Release) (w : State) : State :=
  releases.foldl (fun w e =>
    w.log .liftReleaseEnd (some i) (some e.tenant) (bytesOf 1 reason ++ bytesOf 2 e.floors.toNat)) w

/-- R174: `s` with the mode `after` and the source `src` in force, the alarm entry MODE_CHANGE with the mode before and after,
the source after and the trigger (FIRE 0, LOCKDOWN 1, EVACUATE 2, RESUME 3) submitted, MODE raised, and mode and source handed
to the mirror. DESIGN CHOICE (assumption 48). DEDUCED (assumption 22). -/
def State.modeChanged (after : SiteMode) (src : Option EvacuationSource) (trigger : Nat) (s : State) : State :=
  let shown : List Byte := bytesOf 1 after.code ++ bytesOfOption 1 (src.map EvacuationSource.code)
  let u := { s with mode := { s.mode with mode := after, source := src } }.log .modeChange none none
    (bytesOf 1 s.mode.mode.code ++ shown ++ bytesOf 1 trigger)
  State.mirror 25 shown { u with bus := { u.bus with cause := u.bus.cause ||| 0x20#7 } }

/-- R122: the entries of the configured portals of `s` as their sources are evaluated, in ascending order of portal.
DESIGN CHOICE (assumption 8). -/
def State.portalEntries (s w : State) : State :=
  (List.range 48).foldl (fun w p =>
    match (s.portal p).config with
    | some c => s.evaluatedEntries p c (s.portal p) w
    | none => w) w

/-- R141, R144: the entries of the configured cars of `s` as they are told of its mode: LOCKDOWN and EVACUATE end the release
entries of a car in service or in recall, in ascending order of car. DESIGN CHOICE (assumption 8). -/
def State.carEntries (s w : State) : State :=
  (List.range 4).foldl (fun w i =>
    if (s.car i).config.isSome ∧ ((s.car i).state = .inService ∨ (s.car i).state = .inRecall) then
      match s.mode.mode with
      | .normal => w
      | .lockdown => w.releaseEntries i 3 (s.car i).releases
      | .evacuate => w.releaseEntries i 4 (s.car i).releases
    else w) w

/-- R174: the entries of the portals and cars of `s` as both blocks are told of its mode, in the order taken.
DESIGN CHOICE (assumption 7). -/
def State.modeEntries (order : ModeOrder) (s : State) : State :=
  match order with
  | .portalsFirst => s.carEntries (s.portalEntries s)
  | .carsFirst => s.portalEntries (s.carEntries s)

/-- R81: the entries of the two tests of every visit of `s`, from the head of the list to its tail: VISIT_WARN of an active
visit whose warning minute has come, and VISIT_OVERSTAY of one whose deadline has come. -/
def State.visitEntries (s w : State) : State :=
  s.register.visits.foldl (fun w v =>
    let warned := if v.state = .active ∧ v.warning.any (fun m => m ≤ s.clock.minute) = true then
        w.log .visitWarn (some v.slot) (some v.tenant) (bytesOfOption 4 v.deadline)
      else w
    if v.state ≠ .overstay ∧ v.deadline.any (fun d => d ≤ s.clock.minute) = true then
      warned.log .visitOverstay (some v.slot) (some v.tenant) (bytesOf 1 v.zone ++ bytesOf 1 v.party)
    else warned) w

/-- R121, R122: the entries of the portals of `s` with a free-access profile as their windows are found anew by the clock of `s`,
in ascending order of portal. DESIGN CHOICE (assumption 8). -/
def State.windowEntries (s w : State) : State :=
  (List.range 48).foldl (fun w p =>
    match (s.portal p).config with
    | none => w
    | some c =>
      match c.free with
      | none => w
      | some n => s.evaluatedEntries p c { s.portal p with window := s.windowTest n } w) w

/-! ## What the loss of a node does to its owners (R98, R129, R142) -/

/-- R129: a portal that loses its node takes this state with its timers stopped and its list empty, the door UNKNOWN, and its
driver-fault count, host hold and window kept. -/
def State.lostPortal (st : PortalState) (c : PortalConfig) (s : State) (r : Portal) : Portal :=
  s.withCommandOf c
    { r with
      state := st, passages := [], passageTimer := .stopped, holdTimer := .stopped, cooldown := .stopped
      probe := .stopped, probeElapsed := false, probePending := false, openCounting := false, egressMemory := false
      door := .unknown, rex := none }

/-! ## The refusals of PORTAL_PUT and CAR_PUT (R105, R135) -/

/-- R105, with R10 and R203: how a PORTAL_PUT is refused, by the bytes of its body: BAD_FIELD with the number of the first bad
field of the number, the node, the zones, head B, passback, polarity, egress and the profile, and then IN_USE with the number of
another portal whose record, in force or deferred, names the node. DEDUCED (assumptions 18 and 19). DESIGN CHOICE
(assumptions 41 and 46). -/
def State.portalRefusal (v : Service) (s : State) : Option Answer :=
  let p := v.body 0 1
  let n : NodeId := { line := v.body 1 1, address := v.body 2 1 }
  if 47 < p then some (.badField 1)
  else if 3 < n.line ∨ n.address = 0 ∨ 30 < n.address ∨ (s.node n).all (fun x => x.kind != .portal) = true then
    some (.badField 2)
  else if 15 < v.body 3 1 then some (.badField 3)
  else if v.body 4 1 = 0 ∨ 15 < v.body 4 1 ∨ v.body 3 1 = v.body 4 1 then some (.badField 4)
  else if 1 < v.body 5 1 then some (.badField 5)
  else if 1 < v.body 6 1 then some (.badField 6)
  else if 1 < v.body 10 1 then some (.badField 9)
  else if 1 < v.body 11 1 then some (.badField 10)
  else if 31 < v.body 12 1 ∧ v.body 12 1 ≠ 255 then some (.badField 11)
  else
    ((List.range 48).find? (fun q => q != p &&
      ((s.portal q).config.any (fun d => d.node == n) || (s.portal q).deferred.any (fun d => d.node == n)))).map
      (fun q => .refusal .inUse (bytesOf 1 q))

/-- R135, with R10 and R203: how a CAR_PUT is refused, by the bytes of its body: BAD_FIELD with the number of the first bad
field of the number, the node, the floors served, the public floors and requires visit, and then IN_USE with the number of
another car whose record, in force or deferred, names the node. DEDUCED (assumptions 18 and 19). DESIGN CHOICE
(assumption 46). -/
def State.carRefusal (v : Service) (s : State) : Option Answer :=
  let c := v.body 0 1
  let n : NodeId := { line := v.body 1 1, address := v.body 2 1 }
  let served := v.body 3 2
  let pub := v.body 5 2
  if 3 < c then some (.badField 1)
  else if 3 < n.line ∨ n.address = 0 ∨ 30 < n.address ∨ (s.node n).all (fun x => x.kind != .car) = true then
    some (.badField 2)
  else if 4096 ≤ served then some (.badField 3)
  else if 4096 ≤ pub ∨ pub &&& served ≠ pub then some (.badField 4)
  else if 1 < v.body 7 1 then some (.badField 5)
  else
    ((List.range 4).find? (fun q => q != c &&
      ((s.car q).config.any (fun d => d.node == n) || (s.car q).deferred.any (fun d => d.node == n)))).map
      (fun q => .refusal .inUse (bytesOf 1 q))

/-- R105, R135: no portal but `p` holds a deferred record that names the node. -/
abbrev State.PortalAlone (n : NodeId) (p : Nat) (s : State) : Prop :=
  ∀ q, q ≠ p → ∀ d, (s.portal q).deferred = some d → d.node ≠ n

/-- R105, R135: no car but `i` holds a deferred record that names the node. -/
abbrev State.CarAlone (n : NodeId) (i : Nat) (s : State) : Prop :=
  ∀ q, q ≠ i → ∀ d, (s.car q).deferred = some d → d.node ≠ n

/-- R148: no portal but `besides` holds a record, in force or deferred, that names this place of the node table. -/
abbrev State.NoPortalNames (n : NodeId) (besides : Option Nat) (s : State) : Prop :=
  ∀ q, some q ≠ besides → ∀ c, (s.portal q).config = some c ∨ (s.portal q).deferred = some c → c.node.code ≠ n.code

/-- R148: no car but `besides` holds a record, in force or deferred, that names this place of the node table. -/
abbrev State.NoCarNames (n : NodeId) (besides : Option Nat) (s : State) : Prop :=
  ∀ q, some q ≠ besides → ∀ g, (s.car q).config = some g ∨ (s.car q).deferred = some g → g.node.code ≠ n.code

/-- R98, R129, R142: the owners of a node that goes OFFLINE: a portal in service goes to FAULT_OFFLINE with its passages
cancelled, a car loses its release list, applies its deferred record and, with none to apply, goes OFFLINE, and the contacts
of units read UNKNOWN. -/
abbrev State.OwnersLose (n : NodeId) (r : Node) (s t : State) : Prop :=
  (r.kind = .portal → ∀ p c, s.portalOf n = some p → (s.portal p).config = some c →
    ((s.portal p).state = .waiting → t.portal p = s.portal p) ∧
    ((s.portal p).state ≠ .waiting → (s.portal p).state ≠ .unconfigured →
      t.portal p = s.lostPortal .faultOffline c (s.portal p) ∧
      ∀ g ∈ (s.portal p).passages,
        t.tenant g.tenant = (s.tenant g.tenant).map (fun x => { x with transit := none }))) ∧
  (r.kind = .car → ∀ i, s.carOf n = some i → s.CarAlone n i →
    (t.car i).releases = [] ∧ (t.car i).deferred = none ∧
    (∀ d, (s.car i).deferred = some d → (t.car i).config = some d) ∧
    ((s.car i).deferred = none →
      t.car i = { s.car i with state := .offline, releases := [], recallDone := false })) ∧
  (r.kind = .unit → ∀ u x i, s.unit u = some x → x.contact = some { node := n, input := i } →
    t.unit u = some { x with door := .unknown })

/-- R98, R107, R129, R142: the owners of a node that enters UNKNOWN: its portal goes to WAITING with its passages cancelled and
its deferred record applied, its car loses its release list, applies its deferred record and, with none to apply, keeps its
state or leaves OFFLINE, and the contacts of units read UNKNOWN. -/
abbrev State.OwnersReset (n : NodeId) (kind : NodeKind) (s t : State) : Prop :=
  (kind = .portal → ∀ p c, s.portalOf n = some p → (s.portal p).config = some c → s.PortalAlone n p →
    (t.portal p).state = .waiting ∧ (t.portal p).passages = [] ∧
    ((s.portal p).deferred = none → t.portal p = s.lostPortal .waiting c (s.portal p)) ∧
    (∀ d, (s.portal p).deferred = some d → t.portal p = s.lostPortal .waiting d { s.portal p with
      config := some d, deferred := none, window := d.free.any (fun n => s.windowTest n) }) ∧
    ∀ g ∈ (s.portal p).passages,
      t.tenant g.tenant = (s.tenant g.tenant).map (fun x => { x with transit := none })) ∧
  (kind = .car → ∀ i, s.carOf n = some i → s.CarAlone n i →
    (t.car i).releases = [] ∧ (t.car i).deferred = none ∧
    (∀ d, (s.car i).deferred = some d → (t.car i).config = some d) ∧
    ((s.car i).deferred = none → t.car i = { s.car i with
      state := if (s.car i).state = .offline then (if s.mode.mode = .evacuate then .inRecall else .inService)
        else (s.car i).state
      releases := [], recallDone := false })) ∧
  (kind = .unit → ∀ u x i, s.unit u = some x → x.contact = some { node := n, input := i } →
    t.unit u = some { x with door := .unknown })

/-- R114, R129, R139, R144: the entries of the owner of a node of `s` that goes OFFLINE: a portal in service cancels its
passages, reason NODE_LOST, and one that leaves COOLDOWN with driver-fault count 3 writes DRIVER_FAULT, reason SHORTS; a car
ends its release entries, reason NODE_LOST. -/
def State.lossEntries (n : NodeId) (kind : NodeKind) (s w : State) : State :=
  match kind with
  | .portal =>
    match s.portalOf n with
    | none => w
    | some p =>
      if (s.portal p).state = .waiting ∨ (s.portal p).state = .unconfigured then w
      else if (s.portal p).state = .cooldown ∧ (s.portal p).faults = 3 then
        (w.unusedEntries p 3 (s.portal p).passages).log .driverFault (some p) none [0]
      else w.unusedEntries p 3 (s.portal p).passages
  | .car =>
    match s.carOf n with
    | none => w
    | some i => w.releaseEntries i 5 (s.car i).releases
  | .unit => w

/-- R158: the entries of a node of `s` that goes OFFLINE: the alarm NODE_OFFLINE with its fault counter and the cause, and then
those of its owner. DESIGN CHOICE (assumption 48). -/
def State.offlineEntries (n : NodeId) (kind : NodeKind) (faults cause : Nat) (s w : State) : State :=
  s.lossEntries n kind (w.log .nodeOffline (some n.subject) none (bytesOf 1 faults ++ bytesOf 1 cause))

/-- R158, R162: the nodes of line `l` in contact, UNKNOWN or ONLINE, in ascending order of address. -/
def State.inContact (l : Nat) (s : State) : List Nat :=
  (s.lineAddresses l).filter (fun a => (s.node ⟨l, a⟩).any (fun r => r.state != .offline))

/-- R162: the entries of a fault of line `l`: LINE_FAULT with the reason (BREAK 0, NO_QUIET 1) and the count of nodes in
contact, and then those of each such node, cause LINE_FAULT, in ascending order of address. DESIGN CHOICE (assumption 48). -/
def State.lineFaultEntries (l reason : Nat) (s : State) : State :=
  (s.inContact l).foldl (fun w a =>
    match s.node ⟨l, a⟩ with
    | some r => s.offlineEntries ⟨l, a⟩ r.kind r.faults 9 w
    | none => w)
    (s.log .lineFault (some l) none (bytesOf 1 reason ++ bytesOf 1 (s.inContact l).length))

/-! ## The laws of the device -/

/-- R168 to R171: the source stands exactly in EVACUATE; an ACTIVE FIRE state means an evacuation with source FIRE;
the hold measurement runs exactly while the FIRE reading differs from the FIRE state, and is short of 0.5 s. -/
abbrev State.ModeLaw (s : State) : Prop :=
  (s.mode.source.isSome ↔ s.mode.mode = .evacuate) ∧
    (s.mode.fireActive = true → s.mode.mode = .evacuate ∧ s.mode.source = some .fire) ∧
    (s.mode.hold = .stopped ↔ s.fireReading = s.mode.fireActive) ∧
    (∀ n, s.mode.hold = .running n → n < 16384)

/-- R185: the post queue holds slip numbers 0..63, none twice (and so at most 64), and every queued slip reads POSTED; the
slip in service, which is not queued, reads TAKEN; and a VISIT_LIST that copies has its extent in the bulk area. -/
abbrev State.PostQueueLaw (s : State) : Prop :=
  s.slips.queue.Nodup ∧ (∀ n ∈ s.slips.queue, n < 64 ∧ s.wordAt (0x400 + 128 * n) = 1) ∧
    ∀ v, s.slips.serving = some v →
      v.slip < 64 ∧ s.wordAt (0x400 + 128 * v.slip) = 2 ∧
        ∀ n, v.stage = .listing n → 0xA400 ≤ v.start

/-- R92: a held unit is DISARMED or INTRUSION, and a unit with no holder is ARMED, LEFT_OPEN or INTRUSION. -/
abbrev State.ArmLaw (s : State) : Prop :=
  ∀ u r, s.unit u = some r →
    (0 < r.holders → r.arm = .disarmed ∨ r.arm = .intrusion) ∧
      (r.holders = 0 → r.arm = .armed ∨ r.arm = .leftOpen ∨ r.arm = .intrusion)

/-- R110: in EVACUATE the lock command last handed on for every configured portal with the egress flag is RELEASED. -/
abbrev State.OverrideLaw (s : State) : Prop :=
  s.mode.mode = .evacuate → ∀ p < 48, ∀ c, (s.portal p).config = some c → c.egress = true →
    (s.portal p).command = .released

/-- R135, R148: every record of car `i`, in force or deferred, is that of a configured car 0..3, and names a node of kind CAR in
the node table that no record of another car names. -/
abbrev State.CarRecordLaw (i : Nat) (g : CarConfig) (s : State) : Prop :=
  i < 4 ∧ (s.car i).config.isSome ∧ (s.car i).state ≠ .unconfigured ∧
    g.node.line ≤ 3 ∧ 1 ≤ g.node.address ∧ g.node.address ≤ 30 ∧ (∃ n, s.node g.node = some n ∧ n.kind = .car) ∧
    ∀ j d, j ≠ i → ((s.car j).config = some d ∨ (s.car j).deferred = some d) → d.node ≠ g.node

/-- R140: the floor-release and recall outputs handed to the node of every configured car are those that the mode, the record
in force and the release list give. With R135, which keeps the nodes of different cars apart. -/
abbrev State.CarOutputLaw (s : State) : Prop :=
  (∀ i g, ((s.car i).config = some g ∨ (s.car i).deferred = some g) → s.CarRecordLaw i g) ∧
    ∀ i g n, (s.car i).config = some g → s.node g.node = some n →
      n = n.sentFloors s.mode.mode g (s.car i).releases

/-- The bounds that the rules give: 8 reads (R46), 8 held entries of ALARM class (R195), 2 pending passages and a
driver-fault count of 3 at a portal (R103), 4 release entries, one per tenant, at a car (R140), and a fault counter of 15 at
a node (R148). -/
abbrev State.BoundsLaw (s : State) : Prop :=
  s.reads.length ≤ 8 ∧
    (s.journal.holdover.length ≤ 8 ∧ ∀ e ∈ s.journal.holdover, e.kind.alarm = true) ∧
    (∀ p, (s.portal p).passages.length ≤ 2 ∧ (s.portal p).faults ≤ 3) ∧
    (∀ c, (s.car c).releases.length ≤ 4 ∧ ((s.car c).releases.map (fun e => e.tenant)).Nodup) ∧
    ∀ n r, s.node n = some r → r.faults ≤ 15

end Sys2Proof.Machine
end

