-- ==== Sys2Proof/Certificates/Slice0/Obligations.lean ====
section
/-! DEFINITION. The statements for the provers. Docstrings name the rules a statement formalises and the entries of
notes/assumptions that a clause rests on where the spec leaves a point open. The details of refusals follow assumption 19, a
field that is no aligned word stands lowest byte first (assumption 57), and a command whose event cannot take place in a state
changes nothing (assumption 1). -/

open Sys2Proof Sys2Proof.Machine

/-! ## The step -/

/-- The command at the front of the queue runs on the state with the queue's rest. With no command waiting the model idles
for one period of the crystal (the model's choice, assumption 5): the hold measurement alone advances, and it is held at the
last period before 0.5 s. Choices of the model's: assumption 36. -/
def Obligations.StepRunsTheFrontCommand : Prop :=
  (∀ (c : Instr) (s : State), step { s with pending := c :: s.pending } = exec c s) ∧
    ∀ s : State, s.pending = [] →
      ∃ t, step s = .next t ∧ t = { s with mode := { s.mode with hold := t.mode.hold } } ∧
        (s.mode.hold = .stopped → t.mode.hold = .stopped) ∧
        ∀ n, s.mode.hold = .running n → t.mode.hold = .running (min (n + 1) 16383)

/-! ## Laws of the device -/

/-- Every step keeps common memory in its canonical form (the model's representation, assumption 11). -/
def Obligations.EveryStepKeepsTheMemoryForm : Prop :=
  ∀ s t : State, Memory.wf s.mem → step s = .next t → Memory.wf t.mem

/-- R168 to R171: every step keeps the law of the mode unit. Choices of the model's: assumption 6. -/
def Obligations.EveryStepKeepsTheModeLaw : Prop :=
  ∀ s t : State, s.ModeLaw → step s = .next t → t.ModeLaw

/-- R185, whole. A write to POST is checked in the rule's order, and an accepted number joins the queue at its tail, STATUS
showing one slip more. Every step keeps the law of the post queue (with it goes what the take and the serving of a slip need,
R186: the slip in service reads TAKEN, and the extent of a VISIT_LIST that copies lies in the bulk area). Only a POST, a take,
and RESET and POWER_ON, which empty it, change the queue; a queued slip reads POSTED until it is taken, which takes it from
the head of the queue in the same event. With 64 slips queued every POST is refused. Of a POST and a host write of FREE for
one slip, the one that is taken second is refused. -/
def Obligations.EveryStepKeepsThePostQueueLaw : Prop :=
  (∀ s t : State, s.PostQueueLaw → step s = .next t → t.PostQueueLaw) ∧
  (∀ (s : State) (value : Word),
    let n := value.toNat
    let depth (s : State) : Nat := (s.registerRead 1).toNat / 16 % 128
    ∃ t, exec (.post value) s = .next t ∧
      if 63 < n then s.Refused .postBadNumber t
      else if s.wordAt (0x400 + 128 * n) ≠ 1 then s.Refused .postNotPosted t
      else if n ∈ s.slips.queue then s.Refused .postQueued t
      else t = { s with slips := { s.slips with queue := s.slips.queue ++ [n] } } ∧
        (s.PostQueueLaw → depth t = depth s + 1)) ∧
  (∀ (c : Instr) (s t : State), exec c s = .next t → c ≠ .powerOn → c ≠ .reset →
    (c ≠ .slipTake → (∀ value, c ≠ .post value) → t.slips.queue = s.slips.queue) ∧
      (s.PostQueueLaw → ∀ n ∈ s.slips.queue, (c ≠ .slipTake → n ∈ t.slips.queue ∧ t.wordAt (0x400 + 128 * n) = 1) ∧
        (t.wordAt (0x400 + 128 * n) ≠ 1 → s.slips.queue = n :: t.slips.queue ∧ n ∉ t.slips.queue))) ∧
  (∀ (s : State) (value : Word), s.PostQueueLaw → s.slips.queue.length = 64 →
    ∃ t code, exec (.post value) s = .next t ∧ s.Refused code t) ∧
  ∀ (s : State) (n : Nat), n < 64 → s.wordAt (0x400 + 128 * n) = 1 → n ∉ s.slips.queue →
    let post : Instr := .post (BitVec.ofNat 16 n)
    let free : Instr := .hostMemoryWrite (BitVec.ofNat 15 (0x200 + 64 * n)) 0
    (∃ t u, exec post s = .next t ∧ n ∈ t.slips.queue ∧ exec free t = .next u ∧ t.Refused .slipQueued u) ∧
      ∃ t u, exec free s = .next t ∧ t.wordAt (0x400 + 128 * n) = 0 ∧ exec post t = .next u ∧
        t.Refused .postNotPosted u

/-- R92: every step keeps the law of the arm state. -/
def Obligations.EveryStepKeepsTheArmLaw : Prop :=
  ∀ s t : State, s.ArmLaw → step s = .next t → t.ArmLaw

/-- R110: every step keeps the evacuation override. R140: every step keeps the outputs of the lift cars: what the node of every
configured car was handed is what the mode, the record in force and the release list give, the records of different cars
naming different nodes (R135). -/
def Obligations.EveryStepKeepsTheEvacuationOverride : Prop :=
  (∀ s t : State, s.OverrideLaw → step s = .next t → t.OverrideLaw) ∧
    ∀ s t : State, s.CarOutputLaw → step s = .next t → t.CarOutputLaw

/-- R46, R103, R140, R148, R195: every step keeps the bounds. -/
def Obligations.EveryStepKeepsTheBounds : Prop :=
  ∀ s t : State, s.BoundsLaw → step s = .next t → t.BoundsLaw

/-- The state after power-on satisfies every law. Choices of the model's: assumptions 11 and 12. -/
def Obligations.ResetSatisfiesTheLaws : Prop :=
  Memory.wf State.reset.mem ∧ State.reset.ModeLaw ∧ State.reset.PostQueueLaw ∧ State.reset.ArmLaw ∧
    State.reset.OverrideLaw ∧ State.reset.BoundsLaw ∧ State.reset.CarOutputLaw

/-! ## What commands leave alone -/

/-- R187: a refused slip changes no state in any block: only the slip unit holds its answer.
Choices of the model's: assumption 2. -/
def Obligations.ARefusedSlipChangesNothing : Prop :=
  ∀ (c : Instr) (k : SlipKind) (v : Service) (s t : State) (a : Answer),
    slipKindOf c = some k → s.Serves k v → exec c s = .next t →
    t.slips.serving = some { v with stage := .served a } → a.result ≠ .done →
    t = { s with slips := t.slips }

/-- Which commands can change what: the queue of commands and the revision by none; the settings by SITE_PUT; MASK by
MASK; the run state by RUN, HALT and RESET; the last refusal code by refused host accesses; the clock by CLOCK_SET and the
clock's own events; profiles and holidays by their slips; the credential index by the credential slips and TENANT_DROP;
the mode unit by mode slips, the FIRE input and SITE_PUT; and all but the first two by POWER_ON. The reader lines, the
read queue, the cars and the nodes by the commands listed for them alone. Choices of the model's: assumptions 1 and 24. -/
def Obligations.OnlyTheirCommandsChangeThem : Prop :=
  ∀ (c : Instr) (s t : State), exec c s = .next t →
    t.pending = s.pending ∧ t.revision = s.revision ∧
    (c ≠ .powerOn →
      (c ≠ .sitePut → t.settings = s.settings) ∧
      ((∀ b, c ≠ .mask b) → t.bus.mask = s.bus.mask) ∧
      (c ≠ .run → c ≠ .halt → c ≠ .reset → t.bus.run = s.bus.run) ∧
      ((∀ v, c ≠ .controlBad v) → (∀ r v, c ≠ .registerReadOnly r v) → (∀ w v, c ≠ .hostMemoryWrite w v) →
        (∀ v, c ≠ .post v) → t.bus.lastRefusal = s.bus.lastRefusal) ∧
      (c ≠ .clockSet → c ≠ .secondEvent → (∀ o, c ≠ .minuteEvent o) → t.clock = s.clock) ∧
      (c ≠ .profilePut → t.profiles = s.profiles) ∧
      (c ≠ .holidaySet → t.holidays = s.holidays) ∧
      (c ≠ .credPut → c ≠ .credDrop → c ≠ .tenantDrop → c ≠ .loadRecordApply → t.creds = s.creds) ∧
      ((∀ o, c ≠ .lockdown o) → (∀ o, c ≠ .evacuate o) → (∀ o, c ≠ .resume o) → c ≠ .sitePut →
        (∀ b, c ≠ .fireInputChange b) → (∀ o, c ≠ .fireActive o) → c ≠ .fireClear → t.mode = s.mode)) ∧
    match c with
    | .powerOn | .halt | .reset | .linePut | .nodePut | .reply _ _ | .replyWindowExpiry _ | .lineBreak _ | .noQuiet _
    | .collision _ | .gapLimitExpiry _ => True
    | .secondEvent => t.nodes = s.nodes ∧ t.reads = s.reads
    | .run | .recoveryCheckExpiry _ _ | .poll _ | .idleCycleEnd _ | .quietWaitEnd _ =>
      t.nodes = s.nodes ∧ t.reads = s.reads ∧ t.cars = s.cars ∧ t.portals = s.portals ∧ t.units = s.units ∧
        t.tenants = s.tenants ∧ t.register = s.register
    | .nodeDrop =>
      t.cars = s.cars ∧ t.portals = s.portals ∧ t.units = s.units ∧ t.tenants = s.tenants ∧ t.register = s.register
    | .decision => t.lines = s.lines
    | .lockdown _ | .evacuate _ | .resume _ | .fireActive _ | .carPut | .carDrop | .releaseExpiry _ _ | .tenantDrop =>
      t.lines = s.lines ∧ t.reads = s.reads
    | .clockSet | .minuteEvent _ | .visitEnd | .portalPut | .portalDrop | .portalPulse | .portalHold | .portalSecure
    | .portalReset | .passageTimerExpiry _ | .holdTimerExpiry _ | .cooldownExpiry _ | .probeIntervalExpiry _ =>
      t.lines = s.lines ∧ t.reads = s.reads ∧ t.cars = s.cars
    | .controlBad _ | .post _ | .clear _ | .mask _ | .registerReadOnly _ _ | .hostMemoryWrite _ _ | .slipTake
    | .slipAnswer | .badKind | .tenantPut | .credPut | .credDrop | .grantSet | .standingSet | .unitPut | .unitDrop
    | .tenantRead | .loadTenants | .loadCredentials | .loadRecordApply | .profilePut | .holidaySet | .zonePut
    | .zoneRead | .visitExtend | .visitList | .visitImageCopy | .unitClear | .sitePut | .journalMark
    | .flushTimerExpiry | .journalRecovery | .fireInputChange _ | .fireClear =>
      t.lines = s.lines ∧ t.reads = s.reads ∧ t.cars = s.cars ∧ t.nodes = s.nodes

/-- R177 to R180: a command that neither stores for the host, nor answers slips, nor writes images, nor restarts the part
changes no byte of common memory outside the update count and the live fields of block 0 and the journal pages, so long as
the journal's current page is in place; and the page stays so. Choices of the model's: assumptions 24 and 28. -/
def Obligations.OtherCommandsKeepTheRackAndTheBulkArea : Prop :=
  ∀ (c : Instr) (s t : State), exec c s = .next t → s.PageInPlace →
    c ≠ .powerOn → c ≠ .reset → (∀ w v, c ≠ .hostMemoryWrite w v) → c ≠ .slipTake → c ≠ .slipAnswer →
    c ≠ .tenantRead → c ≠ .zoneRead → c ≠ .visitImageCopy →
    t.PageInPlace ∧ s.KeepsMemory t

/-! ## The bus port and the slip unit (chapter 10) -/

/-- R181: a bad value written to CONTROL and any write of STATUS or CAUSE are refused; MASK stores the seven enables.
R182: CLEAR clears the causes written as one; IRQ is asserted exactly while some cause is set whose enable is set, and
ALERT exactly while ALARM is set. R204: what STATUS, CAUSE, MASK and the registers that read 0 read as, the addresses at which
the six registers stand, and the values 1, 2 and 3 of CONTROL, which are RUN, HALT and RESET. Choices of the model's:
assumptions 34, 36 and 50. -/
def Obligations.RegistersAndPins : Prop :=
  ∀ s : State,
    (∀ value : Word, (value.toNat = 0 ∨ 3 < value.toNat) →
      ∃ t, exec (.controlBad value) s = .next t ∧ s.Refused .controlBad t) ∧
    (∀ (r : ReadOnlyRegister) (value : Word),
      ∃ t, exec (.registerReadOnly r value) s = .next t ∧ s.Refused .registerReadOnly t) ∧
    (∀ bits : Word, ∃ t, exec (.clear bits) s = .next t ∧
      t = { s with bus := { s.bus with cause := t.bus.cause } } ∧
      ∀ i < 7, t.bus.cause.getLsbD i = (s.bus.cause.getLsbD i && !bits.getLsbD i)) ∧
    (∀ bits : Word, ∃ t, exec (.mask bits) s = .next t ∧
      t = { s with bus := { s.bus with mask := t.bus.mask } } ∧
      ∀ i < 7, t.bus.mask.getLsbD i = bits.getLsbD i) ∧
    (s.irq = true ↔ ∃ i < 7, s.bus.cause.getLsbD i = true ∧ s.bus.mask.getLsbD i = true) ∧
    s.alert = s.bus.cause.getLsbD 2 ∧
    (s.slips.queue.length ≤ 64 →
      let status := (s.registerRead 1).toNat
      status.testBit 0 = (s.bus.run == .run) ∧
        status / 2 % 4 = (match s.mode.mode with
          | .normal => 0
          | .lockdown => 1
          | .evacuate => 2) ∧
        status.testBit 3 = s.clock.isSet ∧ status / 16 % 128 = s.slips.queue.length ∧
        status / 2048 = s.bus.lastRefusal.code) ∧
    (∀ i, (s.registerRead 3).getLsbD i = s.bus.cause.getLsbD i) ∧
    (∀ i, (s.registerRead 5).getLsbD i = s.bus.mask.getLsbD i) ∧
    s.registerRead 0 = 0 ∧ s.registerRead 2 = 0 ∧ s.registerRead 4 = 0 ∧
    (∀ n < 6, s.busRead (0x10000 + 2 * n) = some (s.registerRead n)) ∧
    (∀ value : Word,
      commandOfWrite 0x10000 value = some (
        if value.toNat = 1 then .run else if value.toNat = 2 then .halt else if value.toNat = 3 then .reset
        else .controlBad value) ∧
      commandOfWrite 0x10002 value = some (.registerReadOnly .status value) ∧
      commandOfWrite 0x10004 value = some (.post value) ∧
      commandOfWrite 0x10006 value = some (.registerReadOnly .cause value) ∧
      commandOfWrite 0x10008 value = some (.clear value) ∧ commandOfWrite 0x1000A value = some (.mask value) ∧
      ∀ word : BitVec 15, commandOfWrite (2 * word.toNat) value = some (.hostMemoryWrite word value) ∧
        s.busRead (2 * word.toNat) = some (BitVec.ofNat 16 (s.wordAt (2 * word.toNat)))) ∧
    ∀ (address : Nat) (value : Word) (c : Instr), commandOfWrite address value = some c →
      s.busWrite address value = { s with pending := s.pending ++ [c] }

/-- R180: every host write is stored, or refused with its code, by the word it reaches. R185: a write to POST is refused,
in the order of the rule, or its number joins the post queue at the tail, and the depth that STATUS shows rises by one.
R178: a host write is one access, and the part writes a run of bytes by accesses to one word each; a host that reads
meanwhile finds each word whole, before or after. R188: of a host write to a word of the bulk area and the part's write to
it, the later stands: a host write that comes after the first `k` accesses of an image leaves the host's value in a word that
is among those the first `k` have written or that lies outside the image, and the image's word in one that the part has yet
to write; every other byte reads as the image lays it, or as before. R179: a handed value is written between two raises of the update count: the
count reads one higher while it is written and two higher after, and where a host finds two counts equal and even, the
fields it read between them were all old or all new. Choices of the model's: assumption 28. -/
def Obligations.HostWritesAndPostsAreChecked : Prop :=
  (∀ (s : State) (word : BitVec 15) (value : Word),
      let a := 2 * word.toNat
      ∃ t, exec (.hostMemoryWrite word value) s = .next t ∧
        (a < 0x400 → s.Refused .writeMirror t) ∧
        (∀ n < 64, a = 0x400 + 128 * n →
          if (s.wordAt a = 0 ∧ value.toNat = 1) ∨ (s.wordAt a = 3 ∧ value.toNat = 0) ∨
              (s.wordAt a = 1 ∧ value.toNat = 0 ∧ n ∉ s.slips.queue) then
            s.StoredWord a value.toNat t
          else if s.wordAt a = 1 ∧ value.toNat = 0 then s.Refused .slipQueued t
          else s.Refused .slipState t) ∧
        (∀ n < 64, ∀ k < 128, 0 < k → a = 0x400 + 128 * n + k →
          (s.wordAt (0x400 + 128 * n) = 2 → s.Refused .slipTaken t) ∧
          (s.wordAt (0x400 + 128 * n) ≠ 2 → s.StoredWord a value.toNat t)) ∧
        (∀ p < 32, a = 0x2400 + 1024 * p →
          if s.wordAt a = 2 ∧ value.toNat = 0 then s.StoredWord a value.toNat t else s.Refused .pageState t) ∧
        (∀ p < 32, ∀ k < 1024, 0 < k → a = 0x2400 + 1024 * p + k → s.Refused .pageBody t) ∧
        (0xA400 ≤ a → s.StoredWord a value.toNat t)) ∧
  (∀ (s : State) (value : Word),
    let n := value.toNat
    ∃ t, exec (.post value) s = .next t ∧
      if 63 < n then s.Refused .postBadNumber t
      else if s.wordAt (0x400 + 128 * n) ≠ 1 then s.Refused .postNotPosted t
      else if n ∈ s.slips.queue then s.Refused .postQueued t
      else t = { s with slips := { s.slips with queue := s.slips.queue ++ [n] } } ∧
        t.slips.queue.length = s.slips.queue.length + 1) ∧
  (∀ w n : Nat, accessesOf (2 * w) (bytesOf 2 n) = [(2 * w, bytesOf 2 n)]) ∧
  (∀ (s : State) (a : Nat) (bytes : List Byte),
    let l := accessesOf a bytes
    (∀ x ∈ l, x.2 ≠ [] ∧ x.1 + x.2.length ≤ x.1 / 2 * 2 + 2) ∧ s.during l.length l = s.poke a bytes ∧
      s.ReadsWhole l (s.poke a bytes)) ∧
  (∀ (s : State) (start : Nat) (image : List Byte) (k : Nat) (word : BitVec 15) (value : Word),
    start % 2 = 0 → image.length % 2 = 0 →
    let a := 2 * word.toNat
    let u := s.hostWriteDuring k (accessesOf start image) a value.toNat
    0xA400 ≤ a →
      u.wordAt a = (if a < start ∨ start + image.length ≤ a then value.toNat
        else if (a - start) / 2 < k then value.toNat
        else numberOf ((image.drop (a - start)).take 2)) ∧
      ∀ b, b ≠ a → b ≠ a + 1 →
        u.byteAt b = if start ≤ b ∧ b < start + image.length then image.getD (b - start) 0 else s.byteAt b) ∧
  ∀ (s : State) (a : Nat) (value : List Byte), 6 ≤ a →
    let l := s.mirrorAccesses a value
    let n := s.wordAt 4
    let count (k : Nat) := (s.during k l).wordAt 4
    s.during l.length l = s.mirror a value ∧
      (∀ k, count k = if k = 0 then n else if k < l.length then (n + 1) % 65536 else (n + 2) % 65536) ∧
      (∀ k w, w % 2 = 0 → w ≠ 4 →
        (s.during k l).wordAt w = s.wordAt w ∨ (s.during k l).wordAt w = (s.mirror a value).wordAt w) ∧
      (∀ k b, (b < 4 ∨ 6 ≤ b) → (b < a ∨ a + value.length ≤ b) → (s.during k l).byteAt b = s.byteAt b) ∧
      (s.mirror a value).peek a value.length = value ∧
      ∀ i j k, i ≤ j → j ≤ k → n % 2 = 0 → count i = count k → count i % 2 = 0 →
        s.during j l = s ∨ s.during j l = s.mirror a value

/-- R186: the slip at the head of the queue is taken: its number leaves the queue, its state word becomes TAKEN, its 128
bytes are copied, and for a LOAD slip whose extent is even and in range so are the extent's bytes. R186, R205: a served slip
is answered: result code, flags, tag echo and detail are written, the state word becomes ANSWERED, ANSWER is raised, and no
other byte of memory changes; R178: the words are written one by one, and the state word, the last of them, reads as before
until the answer stands. A taken slip whose kind code names no slip kind is refused BAD_KIND.
Choices of the model's: assumptions 19 and 28. -/
def Obligations.SlipsAreTakenAndAnswered : Prop :=
  (∀ (s : State) (n : Nat) (rest : List Nat), s.slips.serving = none → s.slips.queue = n :: rest →
      ∃ t v, exec .slipTake s = .next t ∧
        t = { s with mem := t.mem, slips := { queue := rest, serving := some v } } ∧
        v.slip = n ∧ v.stage = .taken ∧ v.copy = s.peek (0x400 + 128 * n) 128 ∧
        v.bulk = (if (v.kind = 10 ∨ v.kind = 11) ∧ v.start % 2 = 0 ∧ v.length % 2 = 0 ∧ 0xA400 ≤ v.start ∧
            v.start + v.length ≤ 0x10000 then s.peek v.start v.length else []) ∧
        t.wordAt (0x400 + 128 * n) = 2 ∧
        ∀ b, b ≠ 0x400 + 128 * n → b ≠ 0x400 + 128 * n + 1 → t.byteAt b = s.byteAt b) ∧
  ∀ (s : State) (v : Service), s.slips.serving = some v →
    (∀ a, v.stage = .served a →
      ∃ t, exec .slipAnswer s = .next t ∧
        t = { s with mem := t.mem, bus := { s.bus with cause := s.bus.cause ||| 1#7 },
                     slips := { s.slips with serving := none } } ∧
        let base := 0x400 + 128 * v.slip
        t.wordAt base = 3 ∧ t.wordAt (base + 6) = a.result.code ∧ t.wordAt (base + 8) = a.flags ∧
          t.wordAt (base + 10) = v.tag ∧ t.peek (base + 16) 16 = padTo 16 0 a.detail ∧
          (∀ b, (b < base ∨ base + 2 ≤ b) → (b < base + 6 ∨ base + 12 ≤ b) → (b < base + 16 ∨ base + 32 ≤ b) →
            t.byteAt b = s.byteAt b) ∧
        let l := answerAccesses v.slip v.tag a
        t.mem = (s.pass l).mem ∧ s.WordLast base l ∧
          ∀ b, (b < base ∨ base + 2 ≤ b) → (s.during (l.length - 1) l).byteAt b = t.byteAt b) ∧
    (v.stage = .taken → (v.kind = 0 ∨ 36 < v.kind) →
      ∃ t, exec .badKind s = .next t ∧ t = { s with slips := t.slips } ∧
        s.Gives v { result := .badKind, clamped := false, deferred := false, more := false, detail := [] } t)

/-- R189: SITE_PUT is refused for a polarity code that is none; otherwise each numeric setting that is present is brought
into its range and each absent one kept, the answer carries the nine settings and the clamped marks, and a changed
polarity restarts or stops the hold measurement. Nothing else changes. Choices of the model's: assumptions 18 and 38. -/
def Obligations.SitePutSetsTheSettings : Prop :=
  ∀ (s : State) (v : Service), s.Serves .sitePut v →
    let pol := v.body 9 1
    let put (at_ width lo hi now : Nat) :=
      if v.body at_ width = 256 ^ width - 1 then now else max lo (min hi (v.body at_ width))
    let off (at_ width lo hi : Nat) : Bool :=
      v.body at_ width != 256 ^ width - 1 && (v.body at_ width < lo || hi < v.body at_ width)
    let marks := [off 0 1 0 30, off 1 1 0 60, off 2 2 0 720, off 4 1 0 60, off 5 1 0 30, off 6 1 1 15, off 7 1 1 60,
      off 8 1 5 60]
    (1 < pol → pol ≠ 255 → ∃ t, exec .sitePut s = .next t ∧ t = { s with slips := t.slips } ∧
      s.Gives v (.badField 9) t) ∧
    (pol ≤ 1 ∨ pol = 255 → ∃ t bits, exec .sitePut s = .next t ∧
      t = { s with settings := t.settings, mode := { s.mode with hold := t.mode.hold }, slips := t.slips } ∧
      t.settings =
        { grace := put 0 1 0 30 s.settings.grace, overdue := put 1 1 0 60 s.settings.overdue
          maxVisit := put 2 2 0 720 s.settings.maxVisit, exitGrace := put 4 1 0 60 s.settings.exitGrace
          warnLead := put 5 1 0 30 s.settings.warnLead, faultLimit := put 6 1 1 15 s.settings.faultLimit
          flush := put 7 1 1 60 s.settings.flush, window := put 8 1 5 60 s.settings.window
          polarity := if pol = 0 then .normallyOpen else if pol = 1 then .normallyClosed else s.settings.polarity } ∧
      t.mode.hold = (if t.settings.polarity = s.settings.polarity then s.mode.hold
        else if t.fireReading = s.mode.fireActive then .stopped else .running 0) ∧
      bits < 256 ∧ (∀ i < 8, bits.testBit i = marks.getD i false) ∧
      s.Gives v { result := .done, clamped := decide (true ∈ marks), deferred := false, more := false,
                  detail := t.settings.bytes ++ bytesOf 2 bits } t)

/-- R190, R201: POWER_ON brings the whole part to its power-on state, common memory included, with the part's own revision
in block 0. The level of the FIRE input is no state of the part: where the contact stands closed, the reading differs from
the CLEAR FIRE state and the hold measurement starts (R169, R176; assumption 10 for what is kept).
Choices of the model's: assumptions 9 and 12. -/
def Obligations.PowerOnBringsTheResetState : Prop :=
  ∀ s : State, ∃ t, exec .powerOn s = .next t ∧
    t = { State.reset with
      mem := t.mem, revision := s.revision, pending := s.pending
      mode := { State.reset.mode with
        contactClosed := s.mode.contactClosed, hold := if s.mode.contactClosed then .running 0 else .stopped } } ∧
    t.wordAt 2 = s.revision.toNat ∧ ∀ a, a ≠ 2 → a ≠ 3 → t.byteAt a = State.reset.byteAt a

/-- R190, R164: RUN from HALT starts each configured and enabled line that is STOPPED, and HALT from RUN stops every line,
brings every node of the lines to UNKNOWN, its owners acting on that (R98, R129, R142), and empties the read queue. A line
that starts polls every node of it in cycle 0. Written in the state it names, either changes nothing. A RUN writes no memory
but the mirror. R107: a portal that goes to WAITING applies its deferred record. Choices of the model's: assumptions 13, 14,
30 and 40. -/
def Obligations.RunAndHalt : Prop :=
  ∀ s : State,
    (s.bus.run = .run → exec .run s = .next s) ∧ (s.bus.run = .halt → exec .halt s = .next s) ∧
    (s.bus.run = .halt → ∃ t, exec .run s = .next t ∧
      t = { s with mem := t.mem, lines := t.lines, bus := { s.bus with run := .run } } ∧
      t.byteAt 24 = 1 ∧ (∀ a, a ≠ 4 → a ≠ 5 → a ≠ 24 → t.byteAt a = s.byteAt a) ∧
      ∀ l < 4, t.line l =
        (if (s.line l).state = .stopped ∧ (∃ g, (s.line l).record = some g ∧ g.enabled = true) then
          { s.line l with state := .running, cycle := 0, check := .stopped, exchange := .idle, due := s.lineAddresses l }
        else s.line l)) ∧
    (s.bus.run = .run → ∃ t, exec .halt s = .next t ∧
      t.bus.run = .halt ∧ t.bus.mask = s.bus.mask ∧ t.bus.lastRefusal = s.bus.lastRefusal ∧
      t.settings = s.settings ∧ t.slips = s.slips ∧ t.creds = s.creds ∧ t.clock = s.clock ∧
      t.profiles = s.profiles ∧ t.holidays = s.holidays ∧ t.mode = s.mode ∧ t.byteAt 24 = 0 ∧ t.reads = [] ∧
      (∀ l < 4, t.line l =
        { s.line l with state := .stopped, check := .stopped, exchange := .idle, due := [] }) ∧
      ∀ (n : NodeId) (r : Node), n.line < 4 → 1 ≤ n.address → n.address ≤ 30 → s.node n = some r →
        ∃ r', t.node n = some r' ∧ r'.kind = r.kind ∧ r'.state = .unknown ∧ r'.faults = 0 ∧ r'.restore = 0 ∧
          r'.tagA = none ∧ r'.tagB = none ∧ r'.tagCar = none ∧ r'.lastBad = r.lastBad ∧ r'.verdictA = .none ∧
          r'.verdictB = .none ∧ r'.tamper = r.tamper ∧ s.OwnersReset n r.kind t)

/-- R191, with R25, R67, R88, R102, R133, R145, R165 and R201: a soft reset answers the slip in service and every queued slip
ABORTED, with its tag, the work done before the reset as detail and every flag clear, empties the queue, sets HALT, raises
RESTART, empties the register, the read queue and the cars' release lists,
arms every unit, takes every configured portal to WAITING with no passage and every node to UNKNOWN, and stops the lines;
deferred configurations are applied, and the outputs of the portals and cars are handed to their nodes. The settings, the
mask, the clock, the credentials, the profiles, the holidays and the mode unit stay. The journal closes a page that holds
entries with reason RESET, raising PAGE, and takes the next page or stalls on it, raising STALL; a page with no entries stays.
Then the alarm RESTART entry is written, or held or dropped where the journal is stalled on a page not returned, and follows
the recovery where that page is returned; it raises ALARM. Nothing else of the journal changes: the sequence counter counts
on, and the holdover and the dropped counts are kept. A slip neither queued nor in service keeps every byte, an aborted one all
but its answer, and the bulk area is kept. The causes set stay set, and ANSWER is raised only where a slip is aborted. Choices
of the model's: assumptions 24, 25, 40, 43, 44, for the flag word of an ABORTED answer 42, for the places of the detail bytes 19
and 57 and, for a tamper state that returns to CLEAR with no entry, 55. -/
def Obligations.ResetReturnsTheBlocks : Prop :=
  ∀ s : State, ∃ t, exec .reset s = .next t ∧
    t.bus.run = .halt ∧ t.bus.mask = s.bus.mask ∧ t.bus.lastRefusal = s.bus.lastRefusal ∧
    t.bus.cause.getLsbD 6 = true ∧ t.settings = s.settings ∧ t.clock = s.clock ∧ t.creds = s.creds ∧
    t.profiles = s.profiles ∧ t.holidays = s.holidays ∧ t.mode = s.mode ∧
    t.slips = { queue := [], serving := none } ∧ t.reads = [] ∧ t.register.visits = [] ∧ t.register.creating = 0 ∧
    (s.PostQueueLaw →
      let aborted (n tag : Nat) (work : List Byte) : Prop :=
        let base := 0x400 + 128 * n
        t.wordAt base = 3 ∧ t.wordAt (base + 6) = 14 ∧ t.wordAt (base + 8) = 0 ∧ t.wordAt (base + 10) = tag ∧
          t.peek (base + 16) 16 = padTo 16 0 work ∧
          ∀ k < 128, (2 ≤ k ∧ k < 6 ∨ 12 ≤ k ∧ k < 16 ∨ 32 ≤ k) → t.byteAt (base + k) = s.byteAt (base + k)
      (∀ n ∈ s.slips.queue, aborted n (s.wordAt (0x400 + 128 * n + 4)) [0]) ∧
      (∀ v, s.slips.serving = some v → aborted v.slip v.tag (match v.stage with
        | .taken => [0]
        | .loading _ applied refused _ => bytesOf 2 applied ++ bytesOf 2 refused
        | .listing written => bytesOf 2 written
        | .served a =>
          if a.result ≠ .done then [0]
          else if v.kind = 10 ∨ v.kind = 11 then a.detail.take 4
          else if v.kind = 19 then a.detail
          else if v.kind = 9 then bytesOf 1 (1 + field 0 1 a.detail)
          else if v.kind = 16 then [15] else [1])) ∧
      (s.PageInPlace → ∀ a, 0xA400 ≤ a → t.byteAt a = s.byteAt a)) ∧
    (∀ m < 64, m ∉ s.slips.queue → (∀ v, s.slips.serving = some v → v.slip ≠ m) →
      ∀ k < 128, t.byteAt (0x400 + 128 * m + k) = s.byteAt (0x400 + 128 * m + k)) ∧
    ((s.slips.queue ≠ [] ∨ s.slips.serving ≠ none) → t.bus.cause.getLsbD 0 = true) ∧
    (s.slips.queue = [] → s.slips.serving = none → t.bus.cause.getLsbD 0 = s.bus.cause.getLsbD 0) ∧
    (∀ i, s.bus.cause.getLsbD i = true → t.bus.cause.getLsbD i = true) ∧
    (∀ i, t.tenant i = (s.tenant i).map (fun r => { r with visit := none, transit := none })) ∧
    (∀ u, t.unit u = (s.unit u).map (fun r => { r with arm := .armed, door := .unknown, holders := 0 })) ∧
    (Table.Sorted s.register.zones → ∀ z, t.zone z = { s.zone z with count := 0, reserved := 0 }) ∧
    (∀ p < 48, ∀ old, (s.portal p).config = some old →
      let c := (s.portal p).deferred.getD old
      t.portal p = s.lostPortal .waiting c { s.portal p with
        config := some c, deferred := none, faults := 0, hostHold := false
        window := if (s.portal p).deferred = none then (s.portal p).window
          else c.free.any (fun n => s.windowTest n) }) ∧
    (∀ i < 4, ∀ old, (s.car i).config = some old →
      t.car i = { config := some ((s.car i).deferred.getD old), deferred := none, releases := [], recallDone := false
                  state := if s.mode.mode = .evacuate then .inRecall else .inService }) ∧
    (∀ l, t.line l = { s.line l with state := .stopped, cycle := 0, check := .stopped, exchange := .idle, due := [] }) ∧
    (∀ n, s.node n = none → t.node n = none) ∧
    (∀ n r, s.node n = some r → ∃ r', t.node n = some r' ∧
      r' = { r with
        state := .unknown, faults := 0, restore := 0, tagA := none, tagB := none, tagCar := none, lastBad := none
        verdictA := .none, verdictB := .none, tamper := false
        lock := r'.lock, polarity := r'.polarity, floors := r'.floors, recallOn := r'.recallOn } ∧
      (s.NoPortalNames n none → r'.lock = r.lock ∧ r'.polarity = r.polarity) ∧
      (s.NoCarNames n none → r'.floors = r.floors ∧ r'.recallOn = r.recallOn) ∧
      (∀ p < 48, ∀ c, (t.portal p).config = some c → c.node.code = n.code → s.NoPortalNames n (some p) →
        r'.lock = (t.portal p).command ∧ r'.polarity = c.polarity) ∧
      ∀ i < 4, ∀ g, (t.car i).config = some g → g.node.code = n.code → s.NoCarNames n (some i) →
        r'.recallOn = (s.mode.mode == .evacuate) ∧
          r'.floors = if s.mode.mode = .normal then g.pub &&& g.served else 0) ∧
    t.bus.cause.getLsbD 2 = true ∧
    (s.PostQueueLaw →
      let p := s.journal.page
      let base (p : Nat) := 0x2400 + 1024 * p
      let restart : Entry :=
        { minute := s.clock.minute, second := s.clock.second, kind := .restart, subject := none, tenant := none, detail := [] }
      let begun (q : Nat) : Prop :=
        t.entryCount q = 1 ∧ t.peek (base q + 2) 4 = bytesOf 4 s.journal.sequence.toNat ∧
          t.peek (base q + 16) 16 = restart.bytes
      let held (j : Journal) : Journal :=
        if j.holdover.length < 8 then { j with holdover := j.holdover ++ [restart] }
        else { j with alarmDropped := if j.alarmDropped < 65535 then j.alarmDropped + 1 else j.alarmDropped }
      (s.journal.stalled = false → s.entryCount p = 0 →
        t.journal = { s.journal with sequence := s.journal.sequence + 1, flush := Timer.set s.settings.flush } ∧ begun p ∧
        ∀ a, 0x2400 ≤ a → (a < base p + 2 ∨ base p + 7 ≤ a) → (a < base p + 16 ∨ base p + 32 ≤ a) →
          t.byteAt a = s.byteAt a) ∧
      (s.journal.stalled = false → s.entryCount p ≠ 0 → p < 32 →
        let q := (p + 1) % 32
        t.wordAt (base p) = 2 ∧ t.byteAt (base p + 7) = 2 ∧ t.bus.cause.getLsbD 1 = true ∧
        (∀ a, 0x2400 ≤ a → (a < base p ∨ base p + 8 ≤ a ∨ base p + 2 ≤ a ∧ a < base p + 7) →
          (a < base q ∨ base q + 8 ≤ a) → (a < base q + 16 ∨ base q + 32 ≤ a) → t.byteAt a = s.byteAt a) ∧
        if s.wordAt (base q) = 0 then
          t.journal = { s.journal with
            page := q, sequence := s.journal.sequence + 1, flush := Timer.set s.settings.flush, reexamine := false } ∧
            t.wordAt (base q) = 1 ∧ begun q
        else
          t.journal = held { s.journal with page := q, stalled := true, reexamine := false, flush := .stopped } ∧
            t.bus.cause.getLsbD 3 = true ∧ ∀ a, base q ≤ a → a < base q + 1024 → t.byteAt a = s.byteAt a) ∧
      (s.journal.stalled = true → s.wordAt (base p) ≠ 0 →
        t.journal = held s.journal ∧ ∀ a, 0x2400 ≤ a → t.byteAt a = s.byteAt a) ∧
      (s.journal.stalled = true → s.wordAt (base p) = 0 → s.journal.holdover.length ≤ 8 → p < 32 →
        ∃ u, exec .journalRecovery { s with journal := { s.journal with reexamine := true } } = .next u ∧
          u.journal.stalled = false ∧ t.journal = (u.log .restart none none []).journal ∧
          ∀ a, 0x2400 ≤ a → t.byteAt a = (u.log .restart none none []).byteAt a))

/-! ## The tenant directory (chapter 1) -/

/-- R7: the standing of a paid-through day, by the first line of the table that holds; CURRENT for an absent day; none while
the clock is UNSET. -/
def Obligations.StandingFollowsThePaidThroughDay : Prop :=
  ∀ s : State,
    let g := s.settings.grace
    let o := s.settings.overdue
    let today := s.clock.minute / 1440
    (s.clock.isSet = false → ∀ paid, s.standing paid = none) ∧
    (s.clock.isSet = true → s.standing none = some .current ∧
      ∀ p, s.standing (some p) = some (if today ≤ p then .current else if today ≤ p + g then .grace
        else if today ≤ p + g + o then .overdue else .lockedOut))

/-- R11, R18: TENANT_PUT creates a record with the starting values of R1, or replaces four fields of the one that stands;
STANDING_SET replaces the paid-through day. No other entry of the table and nothing else changes. Choices of the model's:
assumptions 18, 22 and 57. -/
def Obligations.TenantPutAndStandingSet : Prop :=
  ∀ (s : State) (v : Service),
    let index := v.body 0 2
    (s.Serves .tenantPut v →
      let paid := optionOf 3 (v.body 5 3)
      index < 4096 → v.body 2 1 ≤ 1 → v.body 3 1 ≤ 1 → v.body 4 1 ≤ 31 → (∀ d, paid = some d → d ≤ 2982616) →
      let state : TenantState := if v.body 2 1 = 1 then .blocked else .active
      let staff := v.body 3 1 == 1
      ∃ t, exec .tenantPut s = .next t ∧ t = { s with tenants := t.tenants, slips := t.slips } ∧
        (∀ j, j ≠ index → t.tenant j = s.tenant j) ∧
        (∀ r, s.tenant index = some r →
          t.tenant index = some { r with state := state, staff := staff, profile := v.body 4 1, paid := paid } ∧
          s.Gives v (.done [1]) t) ∧
        (s.tenant index = none →
          (∃ mask, t.tenant index =
            some { state := state, staff := staff, profile := v.body 4 1, paid := paid, grants := [], mask := mask,
                   credCount := 0, visit := none, transit := none } ∧
            ∀ z < 16, mask.getLsbD z = (s.zone z).common) ∧
          s.Gives v (.done [0]) t)) ∧
    (s.Serves .standingSet v →
      let paid := optionOf 3 (v.body 2 3)
      ∀ r, index < 4096 → (∀ d, paid = some d → d ≤ 2982616) → s.tenant index = some r →
      ∃ t, exec .standingSet s = .next t ∧ t = { s with tenants := t.tenants, slips := t.slips } ∧
        (∀ j, j ≠ index → t.tenant j = s.tenant j) ∧ t.tenant index = some { r with paid := paid } ∧
        s.Gives v (.done []) t)

/-- R14: CRED_PUT with good fields and a standing tenant, by the place of its key in the index: EXISTS, TABLE_FULL, a
replacement or an insertion that counts for the tenant. The index stays sorted. R15: CRED_DROP removes the key, lowers the
owner's count and forgets the key in visits and pending passages (R77). Nothing else changes. Choices of the model's:
assumptions 22, 26 and 57. -/
def Obligations.CredentialSlips : Prop :=
  ∀ (s : State) (v : Service),
    let key := keyAt 32 v.copy
    let tenant := v.body 6 2
    let expiry := optionOf 3 (v.body 9 3)
    key.valid = true →
    (s.Serves .credPut v → ∀ r, tenant < 4096 → v.body 8 1 ≤ 1 → (∀ d, expiry = some d → d ≤ 2982616) →
      s.tenant tenant = some r →
      let new : Credential :=
        { key := key, tenant := tenant, state := if v.body 8 1 = 1 then .suspended else .active, expiry := expiry }
      ∃ t, exec .credPut s = .next t ∧ t = { s with creds := t.creds, tenants := t.tenants, slips := t.slips } ∧
        (Table.Sorted s.creds → Table.Sorted t.creds) ∧
        match Table.find key.code s.creds with
        | some c =>
          if c.tenant = tenant then
            Table.find key.code t.creds = some new ∧
              (∀ k, k ≠ key.code → Table.find k t.creds = Table.find k s.creds) ∧ t.tenants = s.tenants ∧
              s.Gives v (.done [1]) t
          else t = { s with slips := t.slips } ∧ s.Gives v (.refusal .exists_ (bytesOf 2 c.tenant)) t
        | none =>
          if 8192 ≤ s.creds.length then t = { s with slips := t.slips } ∧ s.Gives v (.refusal .tableFull [0]) t
          else if 4 ≤ r.credCount then t = { s with slips := t.slips } ∧ s.Gives v (.refusal .tableFull [1]) t
          else
            Table.find key.code t.creds = some new ∧
              (∀ k, k ≠ key.code → Table.find k t.creds = Table.find k s.creds) ∧
              t.tenant tenant = some { r with credCount := r.credCount + 1 } ∧
              (∀ j, j ≠ tenant → t.tenant j = s.tenant j) ∧ s.Gives v (.done [0]) t) ∧
    (s.Serves .credDrop v → ∀ c, Table.find key.code s.creds = some c → c.key = key →
      ∃ t, exec .credDrop s = .next t ∧
        t = { s with creds := t.creds, tenants := t.tenants, portals := t.portals, slips := t.slips,
                     register := { s.register with visits := t.register.visits } } ∧
        Table.find key.code t.creds = none ∧
        (∀ k, k ≠ key.code → Table.find k t.creds = Table.find k s.creds) ∧
        t.tenant c.tenant = (s.tenant c.tenant).map (fun r => { r with credCount := r.credCount - 1 }) ∧
        (∀ j, j ≠ c.tenant → t.tenant j = s.tenant j) ∧
        t.register.visits = s.register.visits.map
          (fun w => { w with credential := if w.credential = some key then none else w.credential }) ∧
        (∀ p, t.portal p = { s.portal p with
          passages := (s.portal p).passages.map (fun g => { g with key := if g.key = some key then none else g.key }) }) ∧
        s.Gives v (.done (bytesOf 2 c.tenant)) t)

/-- R16, R17, R6: GRANT_SET of a good list replaces the grant list whole and forms the mask anew; each unit that joins the
list gains a grantee, each that leaves it loses one; and where the tenant has a visit with standing CURRENT or GRACE, each
of them that stands in the visit's zone gains or loses a hold, which acts on its arm state (R92): the leaving units first, in
their old list order, and then the joining ones in their new list order, each with its entry. Choices of the model's:
assumptions 18, 57 and, for the details of unit entries, 21. -/
def Obligations.GrantSetReplacesTheList : Prop :=
  ∀ (s : State) (v : Service) (r : Tenant), s.Serves .grantSet v →
    let index := v.body 0 2
    let items := (List.range (v.body 2 1)).map (fun i => v.body (3 + 2 * i) 2)
    index < 4096 → v.body 2 1 ≤ 8 → items.Nodup → s.tenant index = some r → r.grants.Nodup →
    (∀ u ∈ items, u < 4096 ∧ ∃ ru, s.unit u = some ru ∧ (u ∉ r.grants → ru.grantees < 4)) →
    let left := r.grants.filter (fun u => !items.contains u)
    let joined := items.filter (fun u => !r.grants.contains u)
    let holds (x : UnitRecord) : Prop := ∃ w, s.visitOf index = some w ∧ HoldsUnits w.standing ∧ w.zone = x.zone
    ∃ t, exec .grantSet s = .next t ∧
      t = { s with mem := t.mem, journal := t.journal, bus := { s.bus with cause := t.bus.cause },
                   tenants := t.tenants, units := t.units, slips := t.slips } ∧
      (∀ j, j ≠ index → t.tenant j = s.tenant j) ∧
      (∃ mask, t.tenant index = some { r with grants := items, mask := mask } ∧
        ∀ z < 16, (mask.getLsbD z = true ↔
          (s.zone z).common = true ∨ ∃ u ∈ items, ∃ ru, s.unit u = some ru ∧ ru.zone = z)) ∧
      (∀ u, s.unit u = none → t.unit u = none) ∧
      (∀ u x, s.unit u = some x →
        (u ∈ joined → (holds x → t.unit u = some { x.heldOnce with grantees := x.grantees + 1 }) ∧
          (¬ holds x → t.unit u = some { x with grantees := x.grantees + 1 })) ∧
        (u ∈ left → (holds x → t.unit u = some { x.unheld with grantees := x.grantees - 1 }) ∧
          (¬ holds x → t.unit u = some { x with grantees := x.grantees - 1 })) ∧
        (u ∉ joined → u ∉ left → t.unit u = some x)) ∧
      State.JournalOf (match s.visitOf index with
        | some w =>
          if HoldsUnits w.standing then s.holdGainEntries index w.zone joined (s.holdLossEntries index w.zone left s)
          else s
        | none => s) t ∧
      s.Gives v (.done []) t

/-- R12, R13: TENANT_DROP is refused ON_SITE for a tenant with a link unless FORCE is set; otherwise the entry becomes
vacant, its pending passage leaves its portal with the reservation undone, its visit leaves the register and its zone, each
unit of its grant list in that zone loses the hold of a visit that holds (R79) and is armed or left open by R92, no credential
or release entry of it is left, a car whose list this empties applies its deferred record (R139), each unit of its grant list
loses a grantee, and the answer counts them. Every other tenant, visit, passage and release entry stays, but for the
credential keys that go (R15). The entries, in this order: GRANT_UNUSED, reason REMOVED, those of the holds in list order,
VISIT_END, reason REMOVED, and LIFT_RELEASE_END, reason REMOVED, car by car. Choices of the model's: assumptions 8, 19, 21,
22, 24, 26, 32 and 57. -/
def Obligations.TenantDropVacatesTheEntry : Prop :=
  ∀ (s : State) (v : Service) (r : Tenant), s.Serves .tenantDrop v →
    let index := v.body 0 2
    index < 4096 → s.tenant index = some r →
    let pending := (r.transit.bind (fun p => (s.portal p).passages.find? (fun g => g.tenant == index))).toList
    let ended := s.visitOf index
    let stays (k : Key) : Bool := !s.creds.any (fun e => e.2.tenant == index && e.2.key == k)
    let held : Option Nat := (ended.filter (fun w => w.standing.holds)).map (fun w => w.zone)
    let entries (w : State) : State :=
      let w := match r.transit with
        | some p => State.unusedEntries p 6 pending w
        | none => w
      let w := match ended with
        | some x =>
          let w := if HoldsUnits x.standing then s.holdLossEntries index x.zone r.grants w else w
          (w.log .visitEnd (some x.slot) (some index)
            (bytesOf 1 (2 + 16 * x.party) ++ bytesOf 1 (x.zone + 16 * x.state.code + (if x.unconfirmed then 64 else 0)) ++
              bytesOf 2 (min 65535 (s.clock.minute - x.entry)) ++
              bytesOf 2 (min 65535 (s.clock.minute - x.deadline.getD s.clock.minute)))).mirror 32
            (bytesOf 2 (s.register.visits.filter (fun y => y.tenant != index)).length)
        | none => w
      (List.range 4).foldl (fun w c =>
        w.releaseEntries c 2 ((s.car c).releases.find? (fun e => e.tenant == index)).toList) w
    let links := (if r.visit.isSome then 1 else 0) + (if r.transit.isSome then 2 else 0)
    (links ≠ 0 → v.body 2 1 = 0 → ∃ t, exec .tenantDrop s = .next t ∧ t = { s with slips := t.slips } ∧
      s.Gives v (.refusal .onSite (bytesOf 1 links)) t) ∧
    (links = 0 ∧ v.body 2 1 ≤ 1 ∨ v.body 2 1 = 1 → Table.Sorted s.creds → (∀ e ∈ s.creds, e.2.key.code = e.1) →
      r.grants.Nodup →
      ∃ t, exec .tenantDrop s = .next t ∧ t.tenant index = none ∧
        t.settings = s.settings ∧ t.clock = s.clock ∧ t.profiles = s.profiles ∧ t.holidays = s.holidays ∧
        t.reads = s.reads ∧ t.lines = s.lines ∧ t.mode = s.mode ∧
        (∀ k, Table.find k t.creds = (Table.find k s.creds).filter (fun c => c.tenant != index)) ∧
        (∀ j, j ≠ index → t.tenant j = s.tenant j) ∧
        t.register.visits = (s.register.visits.filter (fun w => w.tenant != index)).map
          (fun w => { w with credential := w.credential.filter stays }) ∧
        (∀ p, t.portal p = { s.portal p with
          passages := (if r.transit = some p then (s.portal p).passages.filter (fun g => g.tenant != index)
            else (s.portal p).passages).map (fun g => { g with key := g.key.filter stays }) }) ∧
        t.register.creating = s.register.creating - creationsIn pending ∧
        (∀ z, t.zone z = { s.zone z with
          count := (s.zone z).count - (match s.visitOf index with
            | some w => if w.zone = z ∧ 1 ≤ z ∧ z ≤ 15 then w.party else 0
            | none => 0)
          reserved := (s.zone z).reserved - reservedIn z pending }) ∧
        (∀ c < 4,
          (t.car c).releases = (s.car c).releases.filter (fun e => e.tenant != index) ∧
          ((s.car c).config.isSome → t.car c = if (s.car c).releases.any (fun e => e.tenant == index) then
              s.carSettled { s.car c with releases := (s.car c).releases.filter (fun e => e.tenant != index) }
            else s.car c)) ∧
        (∀ c, 4 ≤ c → t.car c = s.car c) ∧
        (∀ n, (t.node n).map (fun x => { x with floors := 0, recallOn := false }) =
          (s.node n).map (fun x => { x with floors := 0, recallOn := false })) ∧
        ((∀ c < 4, ∀ e ∈ (s.car c).releases, e.tenant ≠ index) → t.nodes = s.nodes) ∧
        (∀ u, t.unit u = (s.unit u).map (fun x =>
          { (if u ∈ r.grants ∧ held = some x.zone then x.unheld else x) with
            grantees := x.grantees - (if u ∈ r.grants then 1 else 0) })) ∧
        State.JournalOf (entries s) t ∧
        s.Gives v (.done (bytesOf 1 r.credCount ++ bytesOf 1 r.grants.length ++ flagByte r.transit.isSome ++
          flagByte r.visit.isSome)) t)

/-- R19, R20, R95: UNIT_PUT creates a unit, ARMED with contact UNKNOWN and no holder; on a standing unit it replaces zone
and contact and keeps the grantee count: an unchanged zone keeps the holders, a changed one takes the count of R20 and
forms the masks anew; a changed contact reads UNKNOWN. Choices of the model's: assumptions 18, 22 and 31. -/
def Obligations.UnitPutCreatesOrReplaces : Prop :=
  ∀ (s : State) (v : Service), s.Serves .unitPut v →
    let number := v.body 0 2
    let zone := v.body 2 1
    let contact : Option Contact :=
      if v.body 3 3 = 0xFFFFFF then none
      else some { node := { line := v.body 3 1, address := v.body 4 1 }, input := v.body 5 1 }
    number < 4096 → 1 ≤ zone → zone ≤ 15 →
    (∀ c, contact = some c → c.node.line ≤ 3 ∧ 1 ≤ c.node.address ∧ c.node.address ≤ 30 ∧ c.input ≤ 31 ∧
      (∃ n, s.node c.node = some n ∧ n.kind = .unit) ∧ ∀ e ∈ s.units, e.1 ≠ number → e.2.contact ≠ some c) →
    ∃ t, exec .unitPut s = .next t ∧
      t = { s with mem := t.mem, journal := t.journal, bus := { s.bus with cause := t.bus.cause },
                   tenants := t.tenants, units := t.units, slips := t.slips } ∧
      (∀ u, u ≠ number → t.unit u = s.unit u) ∧
      (s.unit number = none → t.mem = s.mem ∧ t.bus = s.bus ∧ t.journal = s.journal ∧ t.tenants = s.tenants ∧
        t.unit number = some { zone := zone, contact := contact, grantees := 0, arm := .armed, door := .unknown,
                               holders := 0, fresh := contact.isSome } ∧
        s.Gives v (.done [0]) t) ∧
      ∀ r, s.unit number = some r → s.Gives v (.done [1]) t ∧
        ∃ r', t.unit number = some r' ∧ r'.zone = zone ∧ r'.contact = contact ∧ r'.grantees = r.grantees ∧
          r'.door = (if r.contact = contact then r.door else .unknown) ∧
          (r.zone = zone → r'.holders = r.holders ∧ t.tenants = s.tenants ∧
            (r.contact = contact → r' = r ∧ t.mem = s.mem ∧ t.bus = s.bus ∧ t.journal = s.journal)) ∧
          (r.zone ≠ zone →
            r'.holders = (s.register.visits.filter (fun w => w.zone == zone && w.standing.holds &&
              (s.tenant w.tenant).any (fun x => x.grants.contains number))).length ∧
            ∀ j x, s.tenant j = some x → ∃ mask, t.tenant j = some { x with mask := mask } ∧
              (number ∉ x.grants → mask = x.mask) ∧
              (number ∈ x.grants → ∀ z < 16, (mask.getLsbD z = true ↔ (s.zone z).common = true ∨
                ∃ u ∈ x.grants, ∃ ru, t.unit u = some ru ∧ ru.zone = z)))

/-- R21: UNIT_DROP. The detail of a refusal follows R10, R187 and R203: BAD_FIELD carries the number of the field, and IN_USE
the grantee count alone. Choices of the model's: assumptions 18 and 19. -/
def Obligations.UnitDropVacatesTheUnit : Prop :=
  ∀ (s : State) (v : Service), s.Serves .unitDrop v →
    let number := v.body 0 2
    ∃ t, exec .unitDrop s = .next t ∧ t = { s with units := t.units, slips := t.slips } ∧
      (4095 < number → t.units = s.units ∧ s.Gives v (.badField 1) t) ∧
      (number ≤ 4095 → s.unit number = none → t.units = s.units ∧ ∃ d, s.Gives v (.refusal .notFound d) t) ∧
      ∀ r, number ≤ 4095 → s.unit number = some r →
        if 0 < r.grantees then t.units = s.units ∧ s.Gives v (.refusal .inUse (bytesOf 1 r.grantees)) t
        else t.unit number = none ∧ (∀ u, u ≠ number → t.unit u = s.unit u) ∧ s.Gives v (.done []) t

/-- R22, R206: TENANT_READ writes the tenant's image and then, in key order, as many of its credentials' images as fit the
extent, and nothing else; the answer counts the credentials and tells whether more were left. R178: the images are written
word by word, and a host that reads meanwhile finds each word whole. Choices of the model's: assumptions 28 and 57. -/
def Obligations.TenantReadWritesTheImages : Prop :=
  ∀ (s : State) (v : Service) (r : Tenant), s.Serves .tenantRead v →
    let index := v.body 0 2
    index < 4096 → s.tenant index = some r → v.start % 2 = 0 → v.length % 2 = 0 → 0xA400 ≤ v.start →
    v.start + v.length ≤ 0x10000 → 32 ≤ v.length →
    let all := (s.creds.map (fun e => e.2)).filter (fun c => c.tenant == index)
    let fits := all.take ((v.length - 32) / 16)
    ∃ t, exec .tenantRead s = .next t ∧ t = { s with mem := t.mem, slips := t.slips } ∧
      t.peek v.start 32 =
        (bytesOf 2 index ++ bytesOf 1 r.state.code ++ flagByte r.staff ++ bytesOf 1 r.profile ++
          bytesOfOption 3 r.paid ++ bytesOf 1 r.grants.length ++ padTo 16 0xFF (r.grants.flatMap (bytesOf 2)) ++
          bytesOf 2 r.mask.toNat ++ bytesOf 1 r.credCount ++ bytesOfOption 2 r.visit ++ bytesOfOption 1 r.transit ++
          bytesOfOption 1 ((s.standing r.paid).map Standing.code)) ∧
      (∀ i c, fits[i]? = some c → t.peek (v.start + 32 + 16 * i) 16 = c.image) ∧
      (∀ a, (a < v.start ∨ v.start + 32 + 16 * fits.length ≤ a) → t.byteAt a = s.byteAt a) ∧
      s.WrittenByWords v.start (32 + 16 * fits.length) t ∧
      s.Gives v { result := .done, clamped := false, deferred := false, more := decide (fits.length < all.length),
                  detail := bytesOf 1 fits.length } t

/-- R23, R24: a LOAD slip with a good count and extent goes on to its first record, or is answered at once where it has
none. A LOAD_CREDENTIALS record is applied as a CRED_PUT and a LOAD_TENANTS record as a TENANT_PUT and then a GRANT_SET, or
refused whole and counted; the first refused position and its code are kept; the last record completes the slip. Choices of
the model's: assumptions 19 and 57. -/
def Obligations.ListsAreLoadedRecordByRecord : Prop :=
  ∀ (s : State) (v : Service),
    let count := v.body 0 2
    (∀ c, (c = .loadTenants ∧ s.Serves .loadTenants v ∧ 32 * count ≤ v.length) ∨
        (c = .loadCredentials ∧ s.Serves .loadCredentials v ∧ 16 * count ≤ v.length) →
      v.start % 2 = 0 → v.length % 2 = 0 → 0xA400 ≤ v.start → v.start + v.length ≤ 0x10000 →
      ∃ t, exec c s = .next t ∧ t = { s with slips := t.slips } ∧
        s.ServiceAt v (if count = 0 then .served (.done [0, 0, 0, 0]) else .loading 0 0 0 none) t) ∧
    ∀ next applied refused first, s.slips.serving = some v → v.stage = .loading next applied refused first →
      let stage (applied refused : Nat) (first : Option (Nat × ResultCode)) : Stage :=
        if next + 1 < count then .loading (next + 1) applied refused first
        else .served (.done (bytesOf 2 applied ++ bytesOf 2 refused ++
          (match first with
           | some e => bytesOf 2 e.1 ++ bytesOf 1 e.2.code
           | none => [])))
      (v.kind = 11 →
        let f := credFieldsAt 0 ((v.bulk.drop (16 * next)).take 16)
        ∃ t, exec .loadRecordApply s = .next t ∧
          match s.credProblem f with
          | none => t = { s.putCredential f with slips := t.slips } ∧
            s.ServiceAt v (stage (applied + 1) refused first) t
          | some a => t = { s with slips := t.slips } ∧
            s.ServiceAt v (stage applied (refused + 1) (first.or (some (next, a.result)))) t) ∧
      (v.kind = 10 →
        let image := (v.bulk.drop (32 * next)).take 32
        let f := tenantFieldsAt 0 image
        let items := itemsAt 9 2 (field 8 1 image) image
        ∃ t, exec .loadRecordApply s = .next t ∧
          match firstProblem [f.problem, listProblem (field 8 1 image) items,
              s.grantProblem (s.grantsOf f.index) items] with
          | none => t = { (s.putTenant f).setGrants f.index items with slips := t.slips } ∧
            s.ServiceAt v (stage (applied + 1) refused first) t
          | some a => t = { s with slips := t.slips } ∧
            s.ServiceAt v (stage applied (refused + 1) (first.or (some (next, a.result)))) t)

/-! ## Site clock and hours (chapter 2) -/

/-- R31, R32, R33: CLOCK_SET gives the clock its three values and makes it SET; where it was SET, every visit's deadline and
warning minute are shifted by as much, between 0 and the last site minute; the answer carries the old minute. A minute event
that is owed stays owed. R121, R122: the free-access window of every portal with a profile is found anew and its sources are
evaluated. The CLOCK_SET entry, with the old minute, is submitted ahead of the portals' entries. Choices of the model's:
assumptions 4, 8, 30, 37, 39, 40, 45 and 48. -/
def Obligations.ClockSetShiftsTheVisits : Prop :=
  ∀ (s : State) (v : Service), s.Serves .clockSet v → v.body 4 1 ≤ 59 → v.body 5 1 ≤ 6 →
    let new := v.body 0 4
    let shift (m : Nat) : Nat := (max 0 (min 4294967295 ((m : Int) + new - s.clock.minute))).toNat
    ∃ t, exec .clockSet s = .next t ∧
      t.clock = { minute := new, second := v.body 4 1, weekOffset := v.body 5 1, isSet := true,
                  minuteDue := s.clock.minuteDue } ∧
      t.register = { s.register with
        visits := if s.clock.isSet then
            s.register.visits.map (fun w => { w with deadline := w.deadline.map shift, warning := w.warning.map shift })
          else s.register.visits } ∧
      s.WindowsRefreshed t ∧
      (let u : State := { s with clock := t.clock }
       State.JournalOf (u.windowEntries ((u.log .clockSet none none (bytesOf 4 s.clock.minute)).mirror 27
         ([1] ++ bytesOf 4 new))) t) ∧
      t.bus.run = s.bus.run ∧ t.bus.mask = s.bus.mask ∧ t.settings = s.settings ∧ t.creds = s.creds ∧
      t.profiles = s.profiles ∧ t.holidays = s.holidays ∧ t.reads = s.reads ∧ t.cars = s.cars ∧ t.lines = s.lines ∧
      t.mode = s.mode ∧ t.tenants = s.tenants ∧ t.units = s.units ∧ s.Gives v (.done (bytesOf 4 s.clock.minute)) t

/-- R34 to R36: a good PROFILE_PUT replaces one profile whole; a good HOLIDAY_SET replaces the list by its days, ascending
and each once. Nothing else changes. R37: the window test. R38 to R40: the remaining window: unbounded for staff and for
profile 0; 0 where the hours are not open; and else followed from the longest interval now open through at most six more,
unbounded where it comes round the week, and capped at the next holiday where the profile honours holidays. Choices of the
model's: assumptions 17, 18 and 57. -/
def Obligations.ProfileAndHolidaySlips : Prop :=
  (∀ (s : State) (v : Service),
      (s.Serves .profilePut v →
        let number := v.body 0 1
        let count := v.body 1 1
        let intervals := (List.range count).map
          (fun i => ({ start := v.body (2 + 4 * i) 2, finish := v.body (4 + 4 * i) 2 } : Interval))
        1 ≤ number → number ≤ 31 → count ≤ 6 → v.body (2 + 4 * count) 1 ≤ 1 →
        (∀ i ∈ intervals, i.start < 10080 ∧ i.finish < 10080 ∧ i.start ≠ i.finish) →
        ∃ t, exec .profilePut s = .next t ∧ t = { s with profiles := t.profiles, slips := t.slips } ∧
          t.profile number = { intervals := intervals, honours := v.body (2 + 4 * count) 1 == 1 } ∧
          (∀ j, j ≠ number → t.profile j = s.profile j) ∧ s.Gives v (.done []) t) ∧
      (s.Serves .holidaySet v →
        let days := (List.range (v.body 0 1)).map (fun i => v.body (1 + 3 * i) 3)
        v.body 0 1 ≤ 24 → (∀ d ∈ days, d ≤ 2982616) →
        ∃ t, exec .holidaySet s = .next t ∧ t = { s with holidays := t.holidays, slips := t.slips } ∧
          t.holidays.Pairwise (· < ·) ∧ (∀ d, d ∈ t.holidays ↔ d ∈ days) ∧
          s.Gives v (.done (bytesOf 1 t.holidays.length)) t)) ∧
  ∀ (s : State) (number : Nat),
    let profile := s.profile number
    let today := s.clock.minute / 1440
    let mow := (today + s.clock.weekOffset) % 7 * 1440 + s.clock.minute % 1440
    let inside (m : Nat) : Prop := ∃ i ∈ profile.intervals,
      (i.start < i.finish ∧ i.start ≤ m ∧ m < i.finish) ∨ (i.finish < i.start ∧ (i.start ≤ m ∨ m < i.finish))
    let holiday : Prop := profile.honours = true ∧ today ∈ s.holidays
    (s.windowTest number = true ↔ number = 0 ∨ (s.clock.isSet = true ∧ inside mow ∧ ¬ holiday)) ∧
      ∀ staff : Bool,
        (staff = true ∨ number = 0 → s.remainingWindow staff number = none) ∧
        (staff = false → number ≠ 0 → s.clock.isSet = false ∨ holiday ∨ ¬ inside mow →
          s.remainingWindow staff number = some 0) ∧
        (staff = false → number ≠ 0 → s.clock.isSet = true → ¬ holiday → inside mow →
          ∃ w : Nat → Nat, FarthestEnd profile.intervals mow (w 0) ∧
            (∀ k < 6,
              (w k ≤ w (k + 1) ∧ FarthestEnd profile.intervals ((mow + w k) % 10080) (w (k + 1) - w k)) ∨
                (¬ inside ((mow + w k) % 10080) ∧ w (k + 1) = w k)) ∧
            s.remainingWindow staff number = if 10080 ≤ w 6 then none else some
              (match s.holidays.find? (fun h => today < h) with
               | some h =>
                 if profile.honours = true then min (w 6) ((h - today) * 1440 - s.clock.minute % 1440) else w 6
               | none => w 6))

/-- R26, R27, R29, R116, R198: a second event advances the clock, marks a minute event due where the second wraps, and is
counted by every running timer, which becomes due at its last second, and by every open-duration count; a stalled journal's
recovery becomes due where the page it waits for reads EMPTY, and is not due where that page reads FULL.
Choices of the model's: assumptions 3, 4 and 43. -/
def Obligations.SecondEventDrivesTheTimers : Prop :=
  ∀ s : State,
    let tick : Timer → Timer
      | .stopped => .stopped
      | .due => .due
      | .running n => if n ≤ 1 then .due else .running (n - 1)
    ∃ t, exec .secondEvent s = .next t ∧
      t = { s with clock := t.clock, portals := t.portals, cars := t.cars, lines := t.lines, journal := t.journal } ∧
      t.clock = (if s.clock.second < 59 then { s.clock with second := s.clock.second + 1 }
        else { s.clock with second := 0, minute := if s.clock.minute < 4294967295 then s.clock.minute + 1
          else s.clock.minute, minuteDue := true }) ∧
      (∀ p, t.portal p = { s.portal p with
        passageTimer := tick (s.portal p).passageTimer, holdTimer := tick (s.portal p).holdTimer
        cooldown := tick (s.portal p).cooldown, probe := tick (s.portal p).probe
        openSeconds := if (s.portal p).openCounting then min 65535 ((s.portal p).openSeconds + 1)
          else (s.portal p).openSeconds }) ∧
      (∀ c, t.car c = { s.car c with
        releases := (s.car c).releases.map (fun e => { e with timer := tick e.timer }) }) ∧
      (∀ l, t.line l = { s.line l with check := tick (s.line l).check }) ∧
      t.journal = { s.journal with
        flush := tick s.journal.flush
        reexamine := s.journal.stalled && s.wordAt (0x2400 + 1024 * s.journal.page) == 0 }

/-- R28, R81, R121, R122: a minute event that is due makes the two tests of R81 on every visit, finds anew the free-access
window of every portal with a profile and evaluates its sources, so that a window that opens brings a portal in service to
HELD_UNLOCKED and one that closes relocks it, and hands the minute to the mirror, in either order of its two consumers.
R107: a portal that relocks to SECURE applies its deferred record. R81: the tests submit VISIT_WARN and VISIT_OVERSTAY
entries, visit by visit, and those of the portals stand before them or after them all. Choices of the model's: assumptions 4,
7, 8, 20, 30, 39 and 40. -/
def Obligations.MinuteEventReachesItsConsumers : Prop :=
  ∀ (s : State) (order : MinuteOrder), s.clock.minuteDue = true →
    let now := s.clock.minute
    ∃ t, exec (.minuteEvent order) s = .next t ∧ t.clock = { s.clock with minuteDue := false } ∧
      t.register = { s.register with visits := s.register.visits.map (fun w =>
        { w with state :=
            if w.state ≠ .overstay ∧ (∃ d, w.deadline = some d ∧ d ≤ now) then .overstay
            else if w.state = .active ∧ (∃ m, w.warning = some m ∧ m ≤ now) then .warned else w.state }) } ∧
      (∀ p < 48, ∀ c n, (s.portal p).config = some c → c.free = some n → (s.portal p).deferred = none →
        (t.portal p).window = s.windowTest n) ∧
      s.WindowsRefreshed t ∧
      (let u : State := { s with clock := t.clock }
       let told := match order with
         | .registerFirst => u.windowEntries (u.visitEntries u)
         | .portalsFirst => u.visitEntries (u.windowEntries u)
       State.JournalOf (told.mirror 27 ([if s.clock.isSet then 1 else 0] ++ bytesOf 4 now)) t) ∧
      t.byteAt 27 = (if s.clock.isSet then 1 else 0) ∧ t.peek 28 4 = bytesOf 4 now ∧
      t.settings = s.settings ∧ t.slips = s.slips ∧ t.creds = s.creds ∧ t.profiles = s.profiles ∧
      t.holidays = s.holidays ∧ t.reads = s.reads ∧ t.cars = s.cars ∧ t.lines = s.lines ∧ t.mode = s.mode ∧
      t.tenants = s.tenants ∧ t.units = s.units

/-! ## Visit register and occupancy (chapter 4) -/

/-- R72, R6: ZONE_PUT gives a zone its limit, common flag and floor, keeps its counts, and forms every tenant's mask anew
where the common flag changes. R73: ZONE_READ writes the fifteen zone images, the length of the visit list and the pending
creations into the extent, word by word (R178), and changes nothing. Choices of the model's: assumptions 18 and 28. -/
def Obligations.ZoneSlips : Prop :=
  ∀ (s : State) (v : Service),
    (s.Serves .zonePut v →
      let z := v.body 0 1
      let floor := optionOf 1 (v.body 3 1)
      1 ≤ z → z ≤ 15 → v.body 2 1 ≤ 1 → (∀ f, floor = some f → f ≤ 11) →
      ∃ t, exec .zonePut s = .next t ∧
        t = { s with tenants := t.tenants, slips := t.slips,
                     register := { s.register with zones := t.register.zones } } ∧
        t.zone z = { limit := min 250 (v.body 1 1), common := v.body 2 1 == 1, floor := floor
                     count := (s.zone z).count, reserved := (s.zone z).reserved } ∧
        (∀ y, y ≠ z → t.zone y = s.zone y) ∧
        ((s.zone z).common = (v.body 2 1 == 1) → t.tenants = s.tenants) ∧
        ((s.zone z).common ≠ (v.body 2 1 == 1) → ∀ j x, s.tenant j = some x →
          ∃ mask, t.tenant j = some { x with mask := mask } ∧ ∀ y < 16, (mask.getLsbD y = true ↔
            (t.zone y).common = true ∨ ∃ u ∈ x.grants, ∃ ru, s.unit u = some ru ∧ ru.zone = y)) ∧
        s.Gives v { result := .done, clamped := decide (250 < v.body 1 1), deferred := false, more := false,
                    detail := bytesOf 2 (s.zone z).count ++ bytesOf 2 (s.zone z).reserved } t) ∧
    (s.Serves .zoneRead v → v.start % 2 = 0 → v.length % 2 = 0 → 0xA400 ≤ v.start → v.start + v.length ≤ 0x10000 →
      124 ≤ v.length →
      ∃ t, exec .zoneRead s = .next t ∧ t = { s with mem := t.mem, slips := t.slips } ∧
        (∀ i < 15, t.peek (v.start + 8 * i) 8 = bytesOf 1 (i + 1) ++ bytesOf 1 (s.zone (i + 1)).limit ++
          flagByte (s.zone (i + 1)).common ++ bytesOfOption 1 (s.zone (i + 1)).floor ++
          bytesOf 2 (s.zone (i + 1)).count ++ bytesOf 2 (s.zone (i + 1)).reserved) ∧
        t.peek (v.start + 120) 4 = bytesOf 2 s.register.visits.length ++ bytesOf 2 s.register.creating ∧
        (∀ a, (a < v.start ∨ v.start + 124 ≤ a) → t.byteAt a = s.byteAt a) ∧ s.WrittenByWords v.start 124 t ∧
        s.Gives v (.done []) t)

/-- R83, with R42: VISIT_EXTEND, whole. R41, R42: the deadline of a visit created now, from its remaining window, the
greatest stay and the exit grace, and the warning minute of a deadline set now. Choices of the model's: assumptions 20, 38
and 46. -/
def Obligations.VisitExtendMovesTheDeadline : Prop :=
  (∀ (s : State) (v : Service), s.Serves .visitExtend v →
      let index := v.body 0 2
      let minutes := v.body 2 2
      (4095 < index → ∃ t, exec .visitExtend s = .next t ∧ t = { s with slips := t.slips } ∧
        s.Gives v (.badField 1) t) ∧
      (index ≤ 4095 → minutes = 0 → ∃ t, exec .visitExtend s = .next t ∧ t = { s with slips := t.slips } ∧
        s.Gives v (.badField 2) t) ∧
      (index ≤ 4095 → 0 < minutes → (s.tenant index = none ∨ s.visitOf index = none) →
        ∃ t d, exec .visitExtend s = .next t ∧ t = { s with slips := t.slips } ∧ s.Gives v (.refusal .notFound d) t) ∧
      ∀ r w, index ≤ 4095 → 0 < minutes → s.tenant index = some r → s.visitOf index = some w →
        let deadline := min 4294967295 (s.clock.minute + min 720 minutes)
        let warning := if s.settings.warnLead = 0 then none
          else some (max s.clock.minute (deadline - s.settings.warnLead))
        ∃ t, exec .visitExtend s = .next t ∧
          t = { s with mem := t.mem, bus := t.bus, journal := t.journal, slips := t.slips,
                       register := { s.register with visits := t.register.visits } } ∧
          t.register.visits = s.register.visits.map (fun x => if x.tenant = index then
            { x with deadline := some deadline, warning := warning, state := .active } else x) ∧
          State.JournalOf (s.log .visitExtend (some w.slot) (some index) (bytesOf 4 deadline)) t ∧
          s.Gives v { result := .done, clamped := decide (720 < minutes), deferred := false, more := false,
                      detail := bytesOf 2 w.slot ++ bytesOf 4 deadline ++ bytesOfOption 4 warning } t) ∧
  ∀ s : State,
    let now := s.clock.minute
    let grace := s.settings.exitGrace
    let most := s.settings.maxVisit
    (∀ staff number, s.deadlineFor staff number = match s.remainingWindow staff number with
      | some r => some (min 4294967295 (now + (if most = 0 then r + grace else min most (r + grace))))
      | none => if most = 0 then none else some (min 4294967295 (now + most))) ∧
    s.warningFor none = none ∧
      ∀ d, s.warningFor (some d) = if s.settings.warnLead = 0 then none
        else some (if d < now + s.settings.warnLead then now else d - s.settings.warnLead)

/-- R84, with R79, R114: VISIT_END is refused NOT_FOUND for a tenant that is not on site. Otherwise the tenant keeps no
visit, no link, and no pending passage at the portal that its link named; the passage's reservation is undone (R75), the
visit's zone counts its party no more and its holds are released (R79); and the answer tells what was ended. Choices of
the model's: assumption 19. -/
def Obligations.VisitEndTakesTheTenantOffSite : Prop :=
  ∀ (s : State) (v : Service) (r : Tenant), s.Serves .visitEnd v →
    let index := v.body 0 2
    let pending := (r.transit.bind (fun p => (s.portal p).passages.find? (fun g => g.tenant == index))).toList
    index < 4096 → s.tenant index = some r →
    (r.visit = none → r.transit = none → ∃ t, exec .visitEnd s = .next t ∧ t = { s with slips := t.slips } ∧
      s.Gives v (.notFound 1) t) ∧
    (r.visit.isSome ∨ r.transit.isSome → (r.visit.isSome ↔ (s.visitOf index).isSome) →
      ∃ t, exec .visitEnd s = .next t ∧
        t.bus.run = s.bus.run ∧ t.bus.mask = s.bus.mask ∧ t.settings = s.settings ∧ t.creds = s.creds ∧
        t.clock = s.clock ∧ t.profiles = s.profiles ∧ t.holidays = s.holidays ∧ t.reads = s.reads ∧
        t.cars = s.cars ∧ t.lines = s.lines ∧ t.nodes = s.nodes ∧ t.mode = s.mode ∧
        t.tenant index = some { r with visit := none, transit := none } ∧
        (∀ j, j ≠ index → t.tenant j = s.tenant j) ∧
        t.register.visits = s.register.visits.filter (fun w => w.tenant != index) ∧
        (∀ p, r.transit = some p → t.portal p = { s.portal p with
          passages := (s.portal p).passages.filter (fun g => g.tenant != index) }) ∧
        (∀ p, r.transit ≠ some p → t.portal p = s.portal p) ∧
        t.register.creating = s.register.creating - creationsIn pending ∧
        (∀ z, t.zone z = { s.zone z with
          count := (s.zone z).count - (match s.visitOf index with
            | some w => if w.zone = z ∧ 1 ≤ z ∧ z ≤ 15 then w.party else 0
            | none => 0)
          reserved := (s.zone z).reserved - reservedIn z pending }) ∧
        (s.visitOf index = none → t.units = s.units ∧
          ∀ p, r.transit = some p → State.JournalOf (s.unusedEntries p 5 pending) t) ∧
        (∀ w, s.visitOf index = some w → r.grants.Nodup →
          s.MovesHolds r.grants (if HoldsUnits w.standing then some w.zone else none) none t) ∧
        s.Gives v (.done (flagByte r.transit.isSome ++ flagByte r.visit.isSome ++
          (match s.visitOf index with
           | some w => bytesOf 2 w.slot ++ bytesOf 2 (min 65535 (s.clock.minute - w.entry)) ++
               bytesOf 2 (min 65535 (s.clock.minute - w.deadline.getD s.clock.minute))
           | none => []))) t)

/-- R85: VISIT_LIST passes over the first visits and begins a walk, or is answered at once where none is left; each
VISIT_IMAGE_COPY writes one visit image, word by word (R178), at the next place of the extent, and the walk ends where the
list ends or the extent is full, with MORE in the second case. Choices of the model's: assumptions 19, 27 and 28. -/
def Obligations.VisitListWalksTheList : Prop :=
  ∀ (s : State) (v : Service),
    (s.Serves .visitList v → v.body 0 2 ≤ 511 → v.start % 2 = 0 → v.length % 2 = 0 → 0xA400 ≤ v.start →
      v.start + v.length ≤ 0x10000 → 32 ≤ v.length →
      ∃ t, exec .visitList s = .next t ∧
        if s.register.visits.length ≤ v.body 0 2 then
          t = { s with slips := t.slips } ∧ s.Gives v (.done [0, 0]) t
        else t = { s with register := { s.register with walk := some (v.body 0 2) }, slips := t.slips } ∧
          s.ServiceAt v (.listing 0) t) ∧
    ∀ written place visit, s.slips.serving = some v → v.stage = .listing written → s.register.walk = some place →
      s.register.visits[place]? = some visit →
      ∃ t, exec .visitImageCopy s = .next t ∧
        t = { s with mem := t.mem, slips := t.slips, register := { s.register with walk := t.register.walk } } ∧
        t.peek (v.start + 32 * written) 32 = visit.image ∧
        (∀ a, (a < v.start + 32 * written ∨ v.start + 32 * written + 32 ≤ a) → t.byteAt a = s.byteAt a) ∧
        s.WrittenByWords (v.start + 32 * written) 32 t ∧
        if place + 1 < s.register.visits.length ∧ written + 1 < v.length / 32 then
          t.register.walk = some (place + 1) ∧ s.ServiceAt v (.listing (written + 1)) t
        else t.register.walk = none ∧
          s.Gives v { result := .done, clamped := false, deferred := false,
                      more := decide (place + 1 < s.register.visits.length), detail := bytesOf 2 (written + 1) } t

/-! ## Unit door monitoring (chapter 5) -/

/-- R96: UNIT_CLEAR, whole. R93, R94, R97, R99: a good reply of a UNIT node that is handed on gives each unit whose
contact is on the node the contact state of its input: an ARMED unit that opens goes to INTRUSION, a LEFT_OPEN one that
closes is ARMED; the entries follow in ascending order of input, and the tamper flag, with its entry where it changes,
comes last. Choices of the model's: assumptions 19, 21, 31, 52 and, for the bit of each input, 56. -/
def Obligations.UnitClearLeavesIntrusion : Prop :=
  (∀ (s : State) (v : Service), s.Serves .unitClear v →
      let number := v.body 0 2
      let shown (r : UnitRecord) : List Byte := bytesOf 1 r.arm.code ++ bytesOf 1 r.door.code ++ bytesOf 1 r.holders
      (4095 < number → ∃ t, exec .unitClear s = .next t ∧ t = { s with slips := t.slips } ∧
        s.Gives v (.badField 1) t) ∧
      (number ≤ 4095 → s.unit number = none → ∃ t d, exec .unitClear s = .next t ∧
        t = { s with slips := t.slips } ∧ s.Gives v (.refusal .notFound d) t) ∧
      ∀ r, number ≤ 4095 → s.unit number = some r →
        (r.arm ≠ .intrusion → ∃ t, exec .unitClear s = .next t ∧ t = { s with slips := t.slips } ∧
          s.Gives v (.refusal .notApplicable (shown r)) t) ∧
        (r.arm = .intrusion →
          let arm : ArmState :=
            if 0 < r.holders then .disarmed else if r.door = .opened then .leftOpen else .armed
          let cleared := s.log .unitCleared (some number) none (bytesOf 1 arm.code)
          ∃ t, exec .unitClear s = .next t ∧
            t = { s with mem := t.mem, bus := t.bus, journal := t.journal, units := t.units, slips := t.slips } ∧
            t.unit number = some { r with arm := arm } ∧ (∀ u, u ≠ number → t.unit u = s.unit u) ∧
            State.JournalOf (if arm = .leftOpen then cleared.log .unitLeftOpen (some number) none [] else cleared) t ∧
            s.Gives v (.done (shown { r with arm := arm })) t)) ∧
  ∀ (s : State) (l a : Nat) (frame : List LineChar) (r : Node),
    s.HandsOn l a frame r → r.kind = .unit → Table.Sorted s.units →
    let n : NodeId := { line := l, address := a }
    let inputs := numberOf ((statusBytes frame).take 4)
    let tamper := ((statusBytes frame).getD 4 0).toNat.testBit 0
    let flag := match r.state with
      | .online => 0
      | .unknown => 1
      | .offline => 2
    let reported := s.contactEntries n inputs flag (s.beforeOwner n r)
    ∃ t, exec (.reply l frame) s = .next t ∧
      t.portals = s.portals ∧ t.cars = s.cars ∧ t.tenants = s.tenants ∧ t.register = s.register ∧ t.reads = s.reads ∧
      (∀ u, s.unit u = none → t.unit u = none) ∧
      (∀ u x, s.unit u = some x → x.contact.any (fun c => c.node == n) = false → t.unit u = some x) ∧
      (∀ u x i, s.unit u = some x → x.contact = some { node := n, input := i } → i < 32 →
        (∀ e ∈ s.units, e.2.contact = x.contact → e.1 = u) →
        t.unit u = some (if x.door = (if inputs.testBit i then .opened else .closed) then x
          else if inputs.testBit i = true then
            { x with door := .opened, fresh := false, arm := if x.arm = .armed then .intrusion else x.arm }
          else { x with door := .closed, fresh := false, arm := if x.arm = .leftOpen then .armed else x.arm })) ∧
      (∃ r', t.node n = some r' ∧ r'.tamper = tamper) ∧
      State.JournalOf (if tamper = r.tamper then reported
        else if tamper = true then reported.log .nodeTamper (some n.subject) none (bytesOf 1 flag)
        else reported.log .nodeTamperClear (some n.subject) none []) t

/-! ## Portals (chapter 6) -/

/-- R105 to R107: PORTAL_PUT is refused BAD_FIELD for a bad field or node and IN_USE, with the number of the portal, where the
record of another portal, in force or deferred, names the node; a refused one changes nothing. One that passes its checks
configures an UNCONFIGURED portal, WAITING for its node's first status; replaces a record that differs in timing alone; and
otherwise is deferred, but for a portal in SECURE or WAITING, where it is applied, its window found anew and its sources
evaluated. A deferred record that stands is withdrawn or replaced, and no other portal changes. Choices of the model's:
assumptions 17, 18, 19, 22, 23, 30, 38, 39, 40, 41 and 46. -/
def Obligations.PortalPutConfiguresOrDefers : Prop :=
  ∀ (s : State) (v : Service), s.Serves .portalPut v →
    let p := v.body 0 1
    let c := v.portalConfig
    (∀ a, s.portalRefusal v = some a → ∃ t, exec .portalPut s = .next t ∧ t = { s with slips := t.slips } ∧ s.Gives v a t) ∧
    (s.portalRefusal v = none →
      let handed (t : State) : Prop := t.node c.node =
        (s.node c.node).map (fun n => { n with lock := (t.portal p).command, polarity := c.polarity })
      ∃ t, exec .portalPut s = .next t ∧
        t = { s with mem := t.mem, journal := t.journal, bus := { s.bus with cause := t.bus.cause },
                     portals := t.portals, nodes := t.nodes, slips := t.slips } ∧
        (∀ q, q ≠ p → t.portal q = s.portal q) ∧
        match (s.portal p).config with
        | none =>
          t.portal p = s.withCommandOf c { s.portal p with
              state := .waiting, config := some c, window := c.free.any (fun n => s.windowTest n) } ∧
            handed t ∧ (∀ n : NodeId, n.code ≠ c.node.code → t.node n = s.node n) ∧ t.mem = s.mem ∧
            s.Gives v { result := .done, clamped := v.timingsClamped, deferred := false, more := false, detail := [0] } t
        | some old =>
          if { c with unlock := old.unlock, hold := old.hold } = old then
            t.portal p = { s.portal p with config := some c, deferred := none } ∧ t.nodes = s.nodes ∧ t.mem = s.mem ∧
              s.Gives v
                { result := .done, clamped := v.timingsClamped, deferred := false, more := false, detail := [1] } t
          else if (s.portal p).state = .secure ∨ (s.portal p).state = .waiting then
            (t.portal p).config = some c ∧ (t.portal p).deferred = none ∧
              (old.node ≠ c.node → (t.portal p).state = .waiting) ∧
              t.portal p = s.configApplied old c (s.portal p) ∧ State.JournalOf (s.heldEntry p (t.portal p) s) t ∧
              handed t ∧
              (old.node.code ≠ c.node.code →
                t.node old.node = (s.node old.node).map (fun n => { n with lock := .locked, polarity := .powerToRelease })) ∧
              (∀ n : NodeId, n.code ≠ c.node.code → n.code ≠ old.node.code → t.node n = s.node n) ∧
              s.Gives v
                { result := .done, clamped := v.timingsClamped, deferred := false, more := false, detail := [1] } t
          else
            t.portal p = { s.portal p with deferred := some c } ∧ t.nodes = s.nodes ∧ t.mem = s.mem ∧
              s.Gives v { result := .done, clamped := v.timingsClamped, deferred := true, more := false, detail := [] } t)

/-- R108, R137: PORTAL_DROP and CAR_DROP are refused BUSY while passages or release entries stand; otherwise the channel
takes its UNCONFIGURED values, its node is handed the outputs of a node that nothing names, and the answer carries the
state the channel held. Choices of the model's: assumption 22. -/
def Obligations.ChannelsAreDropped : Prop :=
  ∀ (s : State) (v : Service),
    let x := v.body 0 1
    (s.Serves .portalDrop v → ∀ c, x < 48 → (s.portal x).config = some c →
      ∃ t, exec .portalDrop s = .next t ∧ t = { s with portals := t.portals, nodes := t.nodes, slips := t.slips } ∧
        if (s.portal x).passages ≠ [] then
          t.portals = s.portals ∧ t.nodes = s.nodes ∧
            s.Gives v (.refusal .busy (bytesOf 1 (s.portal x).passages.length)) t
        else t.portal x = Portal.blank ∧ (∀ q, q ≠ x → t.portal q = s.portal q) ∧
          t.node c.node = (s.node c.node).map (fun n => { n with lock := .locked, polarity := .powerToRelease }) ∧
          (∀ n : NodeId, n.code ≠ c.node.code → t.node n = s.node n) ∧
          s.Gives v (.done (bytesOf 1 (s.portal x).state.code)) t) ∧
    (s.Serves .carDrop v → ∀ g, x < 4 → (s.car x).config = some g →
      ∃ t, exec .carDrop s = .next t ∧ t = { s with cars := t.cars, nodes := t.nodes, slips := t.slips } ∧
        if (s.car x).releases ≠ [] then
          t.cars = s.cars ∧ t.nodes = s.nodes ∧
            s.Gives v (.refusal .busy (bytesOf 1 (s.car x).releases.length)) t
        else t.car x = Car.blank ∧ (∀ q, q ≠ x → t.car q = s.car q) ∧
          t.node g.node = (s.node g.node).map (fun n => { n with floors := 0, recallOn := false }) ∧
          (∀ n : NodeId, n.code ≠ g.node.code → t.node n = s.node n) ∧
          s.Gives v (.done (bytesOf 1 (s.car x).state.code)) t)

/-- R120: PORTAL_PULSE at a configured portal, by its state: SECURE goes to RELEASED with a new passage timer, RELEASED
restarts it, HELD_UNLOCKED is answered DONE with no effect, and any other state is refused NOT_APPLICABLE. R119: a good
reply that brings another REX count is one egress press, which acts by the portal's state; one that agrees with the
portal's record changes nothing. -/
def Obligations.PortalPulseReleasesTheLock : Prop :=
  (∀ (s : State) (v : Service), s.Serves .portalPulse v →
      let p := v.body 0 1
      ∀ c, p < 48 → (s.portal p).config = some c → 1 ≤ c.unlock →
        ∃ t, exec .portalPulse s = .next t ∧
          t = { s with mem := t.mem, bus := t.bus, journal := t.journal, portals := t.portals, nodes := t.nodes,
                       slips := t.slips } ∧
          (∀ q, q ≠ p → t.portal q = s.portal q) ∧
          (((s.portal p).state = .secure ∨ (s.portal p).state = .released) →
            (t.portal p).state = .released ∧ (t.portal p).passageTimer = .running c.unlock ∧
              (t.portal p).passages = (s.portal p).passages ∧
              State.JournalOf (s.log .portalPulse (some p) none (bytesOf 1 (s.portal p).state.code)) t ∧
              s.Gives v (.done [3]) t) ∧
          ((s.portal p).state = .secure → (t.portal p).command = .released) ∧
          ((s.portal p).state = .heldUnlocked → t = { s with slips := t.slips } ∧ s.Gives v (.done [7]) t) ∧
          ((s.portal p).state ≠ .secure → (s.portal p).state ≠ .released → (s.portal p).state ≠ .heldUnlocked →
            t = { s with slips := t.slips } ∧
              s.Gives v (.refusal .notApplicable (bytesOf 1 (s.portal p).state.code)) t)) ∧
  ∀ (s : State) (l a : Nat) (frame : List LineChar) (r : Node) (p : Nat) (c : PortalConfig),
    s.HandsPortal l a frame r p c → 1 ≤ c.unlock →
    (s.portal p).state ≠ .waiting → (s.portal p).state ≠ .faultOffline →
    (s.portal p).door = reportedDoor frame → statusByte frame / 2 % 4 = 0 → ¬ (s.portal p).ProbeDone c →
    let heard : Portal := { s.portal p with rex := some (statusByte frame / 16) }
    let before := s.beforeOwner { line := l, address := a } r
    ∃ t, exec (.reply l frame) s = .next t ∧ s.AtPortal p t ∧
      t.tenants = s.tenants ∧ t.register = s.register ∧ t.units = s.units ∧
      if (s.portal p).rex = some (statusByte frame / 16) then t.portal p = s.portal p ∧ State.JournalOf before t
      else match (s.portal p).state with
        | .secure =>
          t.portal p = s.withCommandOf c
              { heard with state := .released, passageTimer := .running c.unlock, holdTimer := .stopped } ∧
            State.JournalOf (before.log .egress (some p) none [0]) t
        | .released => t.portal p = { heard with passageTimer := .running c.unlock } ∧ State.JournalOf before t
        | .cooldown => t.portal p = { heard with egressMemory := true } ∧ State.JournalOf before t
        | .opened | .held | .forced | .heldUnlocked | .faultDriver => t.portal p = heard ∧ State.JournalOf before t
        | .unconfigured | .waiting | .faultOffline => True

/-- R121 to R123: PORTAL_HOLD sets the host hold, and a portal in service is HELD_UNLOCKED after it; PORTAL_SECURE clears
the host hold, and a portal in HELD_UNLOCKED with no other source left relocks by its door, its passages and its timer.
Each writes PORTAL_UNLOCKED or PORTAL_RELOCKED where the portal comes to HELD_UNLOCKED or leaves it. R107: a portal that
relocks to SECURE applies its deferred record. The answer carries the state and the sources after the slip. Choices of the
model's: assumptions 30, 39 and 40. -/
def Obligations.PortalHoldAndSecure : Prop :=
  ∀ (s : State) (v : Service),
    let p := v.body 0 1
    ∀ c, p < 48 → (s.portal p).config = some c →
      let others : Bool := (s.mode.mode == .evacuate && c.egress) || ((s.portal p).window && s.mode.mode == .normal)
      (s.Serves .portalHold v → ∃ t, exec .portalHold s = .next t ∧
        t = { s with mem := t.mem, bus := t.bus, journal := t.journal, portals := t.portals, nodes := t.nodes,
                     slips := t.slips } ∧
        (∀ q, q ≠ p → t.portal q = s.portal q) ∧ (t.portal p).hostHold = true ∧
        (t.portal p).state = (if (s.portal p).state.inService then .heldUnlocked else (s.portal p).state) ∧
        (t.portal p).passages = (s.portal p).passages ∧
        t.portal p = s.evaluated c { s.portal p with hostHold := true } ∧
        State.JournalOf (s.evaluatedEntries p c { s.portal p with hostHold := true } s) t ∧
        s.Gives v (.done (bytesOf 1 (t.portal p).state.code ++ bytesOf 1 (t.sources (t.portal p)))) t) ∧
      (s.Serves .portalSecure v → ∃ t, exec .portalSecure s = .next t ∧
        t = { s with mem := t.mem, bus := t.bus, journal := t.journal, portals := t.portals, nodes := t.nodes,
                     slips := t.slips } ∧
        (∀ q, q ≠ p → t.portal q = s.portal q) ∧ (t.portal p).hostHold = false ∧
        (others = false → (s.portal p).state = .heldUnlocked → (s.portal p).deferred = none → (t.portal p).state =
          (if (s.portal p).door = .opened then .opened
           else if (s.portal p).passages ≠ [] ∨ (s.portal p).passageTimer ≠ .stopped then .released
           else .secure)) ∧
        (others = false → (s.portal p).state ≠ .heldUnlocked → (t.portal p).state = (s.portal p).state) ∧
        (others = true → (s.portal p).state = .heldUnlocked → (t.portal p).state = .heldUnlocked) ∧
        (t.portal p).passages = (s.portal p).passages ∧
        t.portal p = s.evaluated c { s.portal p with hostHold := false } ∧
        State.JournalOf (s.evaluatedEntries p c { s.portal p with hostHold := false } s) t ∧
        s.Gives v (.done (bytesOf 1 (t.portal p).state.code ++ bytesOf 1 (t.sources (t.portal p)))) t)

/-- R128: PORTAL_RESET takes a portal out of FAULT_DRIVER with driver-fault count 0, held unlocked where a source is
present, OPEN and timed where its door is open, and SECURE otherwise, where a deferred record is applied (R107); in any
other state it is refused NOT_APPLICABLE. The PORTAL_RESET entry carries the state before that record, the answer the state
after it. R124, R127, R126: a good reply that reports SHORT to a portal in service takes it to COOLDOWN, one that reports
OPEN_LOAD to a portal in service or in COOLDOWN latches FAULT_DRIVER, each cancelling every passage; in another state
neither acts; and one that reports OK completes a probe whose interval has expired. Choices of the model's: assumptions 29,
30, 39, 40 and 53. -/
def Obligations.PortalResetLeavesTheFault : Prop :=
  (∀ (s : State) (v : Service), s.Serves .portalReset v →
      let p := v.body 0 1
      ∀ c, p < 48 → (s.portal p).config = some c → 1 ≤ c.hold →
        ((s.portal p).state ≠ .faultDriver → ∃ t, exec .portalReset s = .next t ∧ t = { s with slips := t.slips } ∧
          s.Gives v (.refusal .notApplicable (bytesOf 1 (s.portal p).state.code)) t) ∧
        ((s.portal p).state = .faultDriver → ∃ t, exec .portalReset s = .next t ∧
          let cleared : Portal :=
            { s.portal p with faults := 0, probePending := false, probe := .stopped, probeElapsed := false }
          let goesTo : PortalState := if s.sources (s.portal p) ≠ 0 then .heldUnlocked
            else if (s.portal p).door = .opened then .opened else .secure
          t = { s with mem := t.mem, bus := t.bus, journal := t.journal, portals := t.portals, nodes := t.nodes,
                       slips := t.slips } ∧
          (∀ q, q ≠ p → t.portal q = s.portal q) ∧ (t.portal p).faults = 0 ∧ (t.portal p).probePending = false ∧
          ((s.portal p).deferred = none → (t.portal p).state = goesTo) ∧
          t.portal p = (match goesTo with
            | .heldUnlocked => s.withCommandOf c cleared.unlockedHeld
            | .opened => s.withCommandOf c (cleared.timedFrom c)
            | _ => s.secured c cleared) ∧
          State.JournalOf (s.heldEntry p (t.portal p)
            (s.log .portalReset (some p) none (bytesOf 1 goesTo.code))) t ∧
          ((t.portal p).state = .opened → (t.portal p).holdTimer = .running c.hold ∧ (t.portal p).openSeconds = 0) ∧
          s.Gives v (.done (bytesOf 1 (t.portal p).state.code)) t)) ∧
  ∀ (s : State) (l a : Nat) (frame : List LineChar) (r : Node) (p : Nat) (c : PortalConfig),
    s.HandsPortal l a frame r p c →
    (s.portal p).state ≠ .waiting → (s.portal p).state ≠ .faultOffline →
    (s.portal p).door = reportedDoor frame → (s.portal p).rex = some (statusByte frame / 16) →
    let driver := statusByte frame / 2 % 4
    let service : Prop := (s.portal p).state ∈
      [PortalState.secure, .released, .opened, .held, .forced, .heldUnlocked]
    let before := s.beforeOwner { line := l, address := a } r
    ∃ t, exec (.reply l frame) s = .next t ∧ s.AtPortal p t ∧ t.units = s.units ∧
      if driver = 1 ∧ service then
        t.portal p = s.shortedPortal c (s.portal p) ∧ s.Unlinks (s.portal p).passages t ∧
          s.Unreserves (s.portal p).passages t ∧ State.JournalOf (before.shortEntries p c (s.portal p)) t
      else if driver = 2 ∧ (service ∨ (s.portal p).state = .cooldown) then
        t.portal p = s.openLoadPortal c (s.portal p) ∧ s.Unlinks (s.portal p).passages t ∧
          s.Unreserves (s.portal p).passages t ∧ State.JournalOf (before.openLoadEntries p c (s.portal p)) t
      else
        t.tenants = s.tenants ∧ t.register = s.register ∧
          if driver = 0 ∧ (s.portal p).ProbeDone c then
            t.portal p =
                { s.portal p with probePending := false, probe := .stopped, probeElapsed := false, faults := 0 } ∧
              State.JournalOf (before.log .driverRestored (some p) none []) t
          else t.portal p = s.portal p ∧ State.JournalOf before t

/-- R113, R114: at the expiry of its passage timer a portal cancels every pending passage with reason EXPIRED, links
cleared and reservations undone (R75), and a portal in RELEASED re-locks. R118: at the expiry of its hold timer a portal
in OPEN goes to HELD with an alarm DOOR_HELD that carries the open duration. R126: at the expiry of its probe interval a
probe waits for an OK report. R116, R117: a good reply that brings another door contact is a door opening, here at a
portal with no passage pending, or a door closing, and each acts by the portal's state. R107: a portal that enters SECURE
applies its deferred record, which can take it on to WAITING or to HELD_UNLOCKED. Choices of the model's: assumptions 3,
22, 30, 39 and 40. -/
def Obligations.PortalTimersExpire : Prop :=
  (∀ (s : State) (p : Nat),
      ((s.portal p).passageTimer = .due →
        let cancelled := (s.portal p).passages
        let emptied : Portal := { s.portal p with passages := [], passageTimer := .stopped }
        let unused := s.unusedEntries p 0 cancelled
        ∃ t, exec (.passageTimerExpiry p) s = .next t ∧
          t.settings = s.settings ∧ t.slips = s.slips ∧ t.clock = s.clock ∧ t.creds = s.creds ∧ t.cars = s.cars ∧
          t.lines = s.lines ∧ t.reads = s.reads ∧ t.mode = s.mode ∧ t.units = s.units ∧
          (∀ q, q ≠ p → t.portal q = s.portal q) ∧
          (t.portal p).passages = [] ∧ (t.portal p).passageTimer = .stopped ∧
          ((s.portal p).state = .released → (s.portal p).deferred = none → (t.portal p).state = .secure) ∧
          ((s.portal p).state ≠ .released → t.portal p = emptied) ∧
          (∀ c, (s.portal p).state = .released → (s.portal p).config = some c →
            t.portal p = s.secured c emptied ∧ State.JournalOf (s.heldEntry p (t.portal p) unused) t) ∧
          ((s.portal p).state ≠ .released ∨ (s.portal p).deferred = none → State.JournalOf unused t) ∧
          s.Unlinks cancelled t ∧ s.Unreserves cancelled t) ∧
      ((s.portal p).holdTimer = .due → (s.portal p).state = .opened →
        ∃ t, exec (.holdTimerExpiry p) s = .next t ∧
          t = { s with mem := t.mem, bus := t.bus, journal := t.journal, portals := t.portals, nodes := t.nodes } ∧
          (∀ q, q ≠ p → t.portal q = s.portal q) ∧ (t.portal p).state = .held ∧
          (t.portal p).openSeconds = (s.portal p).openSeconds ∧
          State.JournalOf (s.log .doorHeld (some p) none (bytesOf 2 (s.portal p).openSeconds ++ [0])) t) ∧
      ((s.portal p).probe = .due →
        ∃ t, exec (.probeIntervalExpiry p) s = .next t ∧ t = { s with portals := t.portals } ∧
          (∀ q, q ≠ p → t.portal q = s.portal q) ∧
          t.portal p = { s.portal p with probe := .stopped, probeElapsed := true })) ∧
  ∀ (s : State) (l a : Nat) (frame : List LineChar) (r : Node) (p : Nat) (c : PortalConfig),
    s.HandsPortal l a frame r p c → 1 ≤ c.hold →
    (s.portal p).state ≠ .waiting → (s.portal p).state ≠ .faultOffline → (s.portal p).passages = [] →
    (s.portal p).door ≠ reportedDoor frame → (s.portal p).rex = some (statusByte frame / 16) →
    statusByte frame / 2 % 4 = 0 → ¬ (s.portal p).ProbeDone c →
    let heard : Portal := { s.portal p with door := reportedDoor frame }
    let closed : Portal := { heard with openCounting := false, holdTimer := .stopped }
    let before := s.beforeOwner { line := l, address := a } r
    ∃ t, exec (.reply l frame) s = .next t ∧ s.AtPortal p t ∧
      t.tenants = s.tenants ∧ t.register = s.register ∧ t.units = s.units ∧
      (reportedDoor frame = .opened → match (s.portal p).state with
        | .released =>
          t.portal p = s.withCommandOf c { heard with
              state := .opened, passageTimer := .stopped, holdTimer := .running c.hold, openSeconds := 0
              openCounting := true } ∧
            State.JournalOf before t
        | .secure =>
          t.portal p = s.withCommandOf c { heard with
              state := .forced, passageTimer := .stopped, holdTimer := .stopped, openSeconds := 0
              openCounting := true } ∧
            State.JournalOf (before.log .doorForced (some p) none (bytesOf 1 PortalState.secure.code)) t
        | .heldUnlocked => t.portal p = { heard with passageTimer := .stopped } ∧ State.JournalOf before t
        | .cooldown | .faultDriver =>
          t.portal p = heard ∧
            State.JournalOf (before.log .openedInFault (some p) none (bytesOf 1 (s.portal p).state.code)) t
        | .opened | .held | .forced => t.portal p = heard ∧ State.JournalOf before t
        | .unconfigured | .waiting | .faultOffline => True) ∧
      (reportedDoor frame = .closed → match (s.portal p).state with
        | .opened | .held | .forced =>
          t.portal p = s.secured c closed ∧
            ((s.portal p).deferred = none →
              t.portal p = s.withCommandOf c { closed with state := .secure, passageTimer := .stopped }) ∧
            State.JournalOf (s.heldEntry p (t.portal p)
              (before.log .doorClosed (some p) none (bytesOf 2 (s.portal p).openSeconds ++
                [if (s.portal p).state = .held then 1 else if (s.portal p).state = .forced then 2 else 0]))) t
        | .secure | .released | .heldUnlocked | .cooldown | .faultDriver =>
          t.portal p = closed ∧ State.JournalOf before t
        | .unconfigured | .waiting | .faultOffline => True)

/-- R125: at the expiry of its cooldown timer a portal with three driver faults latches FAULT_DRIVER; otherwise it probes
the driver, and by the first that holds is held unlocked for a source, OPEN for an open door, RELEASED for a remembered
egress press, or SECURE. R130: a good reply returns a portal in WAITING or FAULT_OFFLINE to service, its door and REX
count recorded without a press, by the first that holds: FAULT_DRIVER for a driver-fault count of 3 or an open load,
COOLDOWN for a short, held unlocked for a source, SECURE for a closed door, or HELD for an open one. R107: a portal that
enters SECURE applies its deferred record. Choices of the model's: assumptions 3, 22, 29, 30, 39 and 40. -/
def Obligations.CooldownEnds : Prop :=
  (∀ (s : State) (p : Nat) (c : PortalConfig), (s.portal p).cooldown = .due → (s.portal p).state = .cooldown →
      (s.portal p).config = some c → 1 ≤ c.unlock → 1 ≤ c.hold →
      let probing : Portal :=
        { s.portal p with cooldown := .stopped, egressMemory := false, probePending := true }
      ∃ t, exec (.cooldownExpiry p) s = .next t ∧
        t = { s with mem := t.mem, bus := t.bus, journal := t.journal, portals := t.portals, nodes := t.nodes } ∧
        (∀ q, q ≠ p → t.portal q = s.portal q) ∧ (t.portal p).cooldown = .stopped ∧
        (t.portal p).egressMemory = false ∧ (t.portal p).faults = (s.portal p).faults ∧
        if (s.portal p).faults = 3 then
          (t.portal p).state = .faultDriver ∧ (t.portal p).probePending = (s.portal p).probePending ∧
            State.JournalOf (s.log .driverFault (some p) none [0]) t
        else (t.portal p).probePending = true ∧
          if s.sources (s.portal p) ≠ 0 then
            (t.portal p).state = .heldUnlocked ∧ t.portal p = s.withCommandOf c probing.unlockedHeld ∧
              State.JournalOf (s.heldEntry p (t.portal p) s) t
          else if (s.portal p).door = .opened then
            (t.portal p).state = .opened ∧ (t.portal p).holdTimer = .running c.hold ∧ (t.portal p).openSeconds = 0 ∧
              t.portal p = s.withCommandOf c (probing.timedFrom c) ∧ State.JournalOf s t
          else if (s.portal p).egressMemory then
            (t.portal p).state = .released ∧ (t.portal p).passageTimer = .running c.unlock ∧
              State.JournalOf (s.log .egress (some p) none [1]) t
          else
            ((s.portal p).deferred = none → (t.portal p).state = .secure) ∧ t.portal p = s.secured c probing ∧
              State.JournalOf (s.heldEntry p (t.portal p) s) t) ∧
  ∀ (s : State) (l a : Nat) (frame : List LineChar) (r : Node) (p : Nat) (c : PortalConfig),
    s.HandsPortal l a frame r p c →
    ((s.portal p).state = .waiting ∨ (s.portal p).state = .faultOffline) →
    let driver := statusByte frame / 2 % 4
    let heard : Portal := { s.portal p with door := reportedDoor frame, rex := some (statusByte frame / 16) }
    let still : Portal := { heard with passageTimer := .stopped, holdTimer := .stopped }
    let before := s.beforeOwner { line := l, address := a } r
    ∃ t, exec (.reply l frame) s = .next t ∧ s.AtPortal p t ∧ t.units = s.units ∧
      if (s.portal p).faults ≠ 3 ∧ driver = 2 then
        t.portal p = s.openLoadPortal c heard ∧ s.Unlinks heard.passages t ∧ s.Unreserves heard.passages t ∧
          State.JournalOf (before.openLoadEntries p c heard) t
      else if (s.portal p).faults ≠ 3 ∧ driver = 1 then
        t.portal p = s.shortedPortal c heard ∧ s.Unlinks heard.passages t ∧ s.Unreserves heard.passages t ∧
          State.JournalOf (before.shortEntries p c heard) t
      else
        t.tenants = s.tenants ∧ t.register = s.register ∧
          if (s.portal p).faults = 3 then
            t.portal p = s.withCommandOf c { still with state := .faultDriver } ∧ State.JournalOf before t
          else if s.sources (s.portal p) ≠ 0 then
            t.portal p = s.withCommandOf c
                { heard with state := .heldUnlocked, holdTimer := .stopped, openCounting := false } ∧
              State.JournalOf (before.log .portalUnlocked (some p) none (bytesOf 1 (s.sources (s.portal p)))) t
          else if reportedDoor frame = .closed then
            t.portal p = s.secured c heard ∧ State.JournalOf (s.heldEntry p (t.portal p) before) t ∧
              ((s.portal p).deferred = none → t.portal p = s.withCommandOf c { still with state := .secure })
          else
            t.portal p = s.withCommandOf c { still with state := .held, openSeconds := 0, openCounting := true } ∧
              State.JournalOf (before.log .doorHeld (some p) none
                (bytesOf 2 0 ++ [if (s.portal p).state = .faultOffline then 1 else 2])) t

/-! ## Lift cars (chapter 7) -/

/-- R135, R136, R140: CAR_PUT is refused BAD_FIELD for a bad field or node and IN_USE, with the number of the car, where the
record of another car, in force or deferred, names the node; a refused one changes nothing. One that passes its checks
configures an UNCONFIGURED car with the state its node and the site mode give it; replaces a record that differs in requires
visit alone; and otherwise is applied where the release list is empty and deferred where it is not. A record that comes into
force hands its node the outputs of R140, and where it names another node the old one is handed floors empty and recall off;
no other node changes. Choices of the model's: assumptions 17, 18, 19, 22, 23, 46 and 57. -/
def Obligations.CarPutConfiguresOrDefers : Prop :=
  ∀ (s : State) (v : Service), s.Serves .carPut v →
    let x := v.body 0 1
    let g := v.carConfig
    let stateOf (n : NodeId) : CarState :=
      if (∃ r, s.node n = some r ∧ r.state = .offline) then .offline
      else if s.mode.mode = .evacuate then .inRecall else .inService
    (∀ a, s.carRefusal v = some a → ∃ t, exec .carPut s = .next t ∧ t = { s with slips := t.slips } ∧ s.Gives v a t) ∧
    (s.carRefusal v = none →
      let handed (t : State) : Prop := t.node g.node = (s.node g.node).map (Node.sentFloors s.mode.mode g [])
      ∃ t, exec .carPut s = .next t ∧ t = { s with cars := t.cars, nodes := t.nodes, slips := t.slips } ∧
        (∀ q, q ≠ x → t.car q = s.car q) ∧
        match (s.car x).config with
        | none =>
          t.car x = { state := stateOf g.node, config := some g, deferred := none, releases := [], recallDone := false } ∧
            handed t ∧ (∀ n : NodeId, n.code ≠ g.node.code → t.node n = s.node n) ∧ s.Gives v (.done [0]) t
        | some old =>
          if { g with needsVisit := old.needsVisit } = old then
            t.car x = { s.car x with config := some g, deferred := none } ∧ t.nodes = s.nodes ∧ s.Gives v (.done [1]) t
          else if (s.car x).releases = [] then
            (if old.node = g.node then t.car x = { s.car x with config := some g, deferred := none }
            else t.car x = { s.car x with
              config := some g, deferred := none, state := stateOf g.node, recallDone := false }) ∧
            handed t ∧
            (old.node.code ≠ g.node.code →
              t.node old.node = (s.node old.node).map (fun n => { n with floors := 0, recallOn := false })) ∧
            (∀ n : NodeId, n.code ≠ g.node.code → n.code ≠ old.node.code → t.node n = s.node n) ∧
            s.Gives v (.done [1]) t
          else t.car x = { s.car x with deferred := some g } ∧ t.nodes = s.nodes ∧
            s.Gives v { result := .done, clamped := false, deferred := true, more := false, detail := [] } t)

/-- R139, R140, R136: at the expiry of its timer an entry leaves its car's release list with a LIFT_RELEASE_END, reason
EXPIRED; the outputs are formed anew, and where the list is left empty a deferred configuration is applied. R142, R159: a
good reply of a car's node that restores it returns the car to IN_RECALL in EVACUATE and else to IN_SERVICE; the first reply
in IN_RECALL that reports the recall complete is recorded with a LIFT_RECALL_COMPLETE entry. Choices of the model's:
assumptions 3, 32 and 57. -/
def Obligations.ReleaseEntriesExpire : Prop :=
  (∀ (s : State) (c tenant : Nat) (e : Release) (g : CarConfig),
      (s.car c).releases.find? (fun e => e.tenant == tenant) = some e → e.timer = .due → (s.car c).config = some g →
      let left := (s.car c).releases.filter (fun e => e.tenant != tenant)
      ∃ t, exec (.releaseExpiry c tenant) s = .next t ∧
        t = { s with mem := t.mem, bus := t.bus, journal := t.journal, cars := t.cars, nodes := t.nodes } ∧
        (∀ d, d ≠ c → t.car d = s.car d) ∧ (t.car c).releases = left ∧
        t.car c = s.carSettled { s.car c with releases := left } ∧
        (t.car c).config = (if left = [] ∧ (s.car c).deferred ≠ none then (s.car c).deferred else some g) ∧
        ((left ≠ [] ∨ (s.car c).deferred = none) → (t.car c).state = (s.car c).state ∧
          (t.car c).deferred = (s.car c).deferred ∧ ∀ n, s.node g.node = some n → t.node g.node = some { n with
            floors := (if s.mode.mode = .evacuate then 0
              else ((if s.mode.mode = .normal then g.pub else 0) ||| left.foldr (fun e acc => e.floors ||| acc) 0) &&&
                g.served)
            recallOn := s.mode.mode == .evacuate }) ∧
        State.JournalOf (s.log .liftReleaseEnd (some c) (some tenant) ([0] ++ bytesOf 2 e.floors.toNat)) t) ∧
  ∀ (s : State) (l a : Nat) (frame : List LineChar) (r : Node) (i : Nat),
    s.HandsOn l a frame r → r.kind = .car → s.carOf { line := l, address := a } = some i →
    let back : Car := if r.state = .offline then
        { s.car i with state := if s.mode.mode = .evacuate then .inRecall else .inService }
      else s.car i
    let before := s.beforeOwner { line := l, address := a } r
    ∃ t, exec (.reply l frame) s = .next t ∧
      t.portals = s.portals ∧ t.units = s.units ∧ t.tenants = s.tenants ∧ t.register = s.register ∧
      (∀ d, d ≠ i → t.car d = s.car d) ∧
      if back.state = .inRecall ∧ (statusByte frame).testBit 0 = true ∧ back.recallDone = false then
        t.car i = { back with recallDone := true } ∧
          State.JournalOf (before.log .liftRecallComplete (some i) none []) t
      else t.car i = back ∧ State.JournalOf before t

/-! ## Reader lines (chapter 8) -/

/-- R147, R146, R164: LINE_PUT gives a line its record; an enabled STOPPED line starts where the run state is RUN, and a
RUNNING or FAULT line given enabled clear stops and brings its nodes to UNKNOWN, their owners acting on that (R98, R107,
R129, R142), with their reads discarded and their last verdicts none. The answer tells whether a record stood and the line's
state after the slip. Choices of the model's: assumptions 14, 17, 22, 30, 40 and 49. -/
def Obligations.LinePutStartsAndStopsTheLine : Prop :=
  ∀ (s : State) (v : Service), s.Serves .linePut v →
    let l := v.body 0 1
    let enabled := v.body 1 1 == 1
    l ≤ 3 → v.body 1 1 ≤ 1 → v.body 2 1 ≤ 3 →
    let rate : LineRate := [LineRate.r19200, .r38400, .r57600, .r115200].getD (v.body 2 1) .r115200
    ∃ t, exec .linePut s = .next t ∧
      t.settings = s.settings ∧ t.clock = s.clock ∧ t.creds = s.creds ∧ t.mode = s.mode ∧
      t.profiles = s.profiles ∧ t.holidays = s.holidays ∧ t.bus.run = s.bus.run ∧
      (∀ m, m ≠ l → t.line m = s.line m) ∧
      (t.line l).record = some { enabled := enabled, rate := rate } ∧
      ((s.line l).state = .stopped → (t.line l).state =
        (if enabled = true ∧ s.bus.run = .run then .running else .stopped)) ∧
      ((s.line l).state = .stopped → enabled = true → s.bus.run = .run →
        (t.line l).cycle = 0 ∧ (t.line l).due = s.lineAddresses l ∧ (t.line l).exchange = .idle) ∧
      ((s.line l).state ≠ .stopped → enabled = true →
        (t.line l).state = (s.line l).state ∧ t.nodes = s.nodes ∧ t.reads = s.reads) ∧
      ((s.line l).state ≠ .stopped → enabled = false → (t.line l).state = .stopped ∧
        (∀ r ∈ t.reads, ¬ (r.node.line = l ∧ 1 ≤ r.node.address ∧ r.node.address ≤ 30 ∧ (s.node r.node).isSome)) ∧
        ∀ a r, 1 ≤ a → a ≤ 30 → s.node ⟨l, a⟩ = some r →
          ∃ r', t.node ⟨l, a⟩ = some r' ∧ r'.kind = r.kind ∧ r'.state = .unknown ∧ r'.faults = 0 ∧
            r'.lastBad = r.lastBad ∧ r'.verdictA = .none ∧ r'.verdictB = .none ∧ s.OwnersReset ⟨l, a⟩ r.kind t) ∧
      s.Gives v (.done ((if (s.line l).record.isNone then [0] else [1]) ++ bytesOf 1 (t.line l).state.code)) t

/-- R149: NODE_PUT puts a new node, UNKNOWN with every counter 0; puts a standing one of the same kind anew, with its reads
discarded and its owners acting as for a node that enters UNKNOWN (R98, R129, R142); and is refused IN_USE where something
names the node and its kind would change. R107: the portal of the node applies its deferred record. R150: NODE_DROP is
refused IN_USE while something names the node, and otherwise removes the record; its reads stay in the queue, their verdicts
not to be stored. A UNIT node put anew writes no entry, whatever its tamper state was: the model's choice, assumption 55.
Other choices of the model's: assumptions 15, 18, 22, 25, 30, 40 and 49. -/
def Obligations.NodeSlips : Prop :=
  ∀ (s : State) (v : Service),
    let n : NodeId := { line := v.body 0 1, address := v.body 1 1 }
    let kind : NodeKind := if v.body 2 1 = 0 then .portal else if v.body 2 1 = 1 then .car else .unit
    n.line ≤ 3 → 1 ≤ n.address → n.address ≤ 30 →
    (s.Serves .nodePut v → v.body 2 1 ≤ 2 →
      (s.node n = none → ∃ t, exec .nodePut s = .next t ∧ t = { s with nodes := t.nodes, slips := t.slips } ∧
        (∀ m : NodeId, m.code ≠ n.code → t.node m = s.node m) ∧
        (∃ r, t.node n = some r ∧ r.kind = kind ∧ r.state = .unknown ∧ r.faults = 0 ∧ r.restore = 0 ∧ r.tagA = none ∧
          r.tagB = none ∧ r.tagCar = none ∧ r.lastBad = none ∧ r.verdictA = .none ∧ r.verdictB = .none ∧
          r.lock = .locked ∧ r.floors = 0 ∧ r.recallOn = false ∧ r.tamper = false) ∧ s.Gives v (.done [0]) t) ∧
      (∀ r who, s.node n = some r → r.kind ≠ kind → s.claimant n = some who →
        ∃ t, exec .nodePut s = .next t ∧ t = { s with slips := t.slips } ∧
          s.Gives v (.refusal .inUse (bytesOf 1 who)) t) ∧
      (∀ r, s.node n = some r → (r.kind = kind ∨ s.claimant n = none) →
        ∃ t, exec .nodePut s = .next t ∧
          t.settings = s.settings ∧ t.clock = s.clock ∧ t.creds = s.creds ∧ t.mode = s.mode ∧
          t.reads = s.reads.filter (fun q => q.node != n) ∧
          (∃ r', t.node n = some r' ∧ r'.kind = kind ∧ r'.state = .unknown ∧ r'.faults = 0 ∧ r'.restore = 0 ∧
            r'.tagA = none ∧ r'.tagB = none ∧ r'.tagCar = none ∧ r'.lastBad = none ∧ r'.verdictA = .none ∧
            r'.verdictB = .none ∧ r'.tamper = false) ∧
          s.OwnersReset n kind t ∧
          (∀ p, kind = .portal → s.portalOf n = some p →
            (∀ q, q ≠ p → t.portal q = s.portal q) ∧ s.Unlinks (s.portal p).passages t ∧
              s.Unreserves (s.portal p).passages t) ∧
          (s.portalOf n = none → t.portals = s.portals ∧ t.tenants = s.tenants ∧ t.register = s.register) ∧
          (kind = .unit → t.mem = s.mem ∧ t.bus = s.bus ∧ t.journal = s.journal) ∧
          s.Gives v (.done ([1] ++ bytesOf 1 r.state.code)) t)) ∧
    (s.Serves .nodeDrop v → ∀ r, s.node n = some r →
      (∀ who, s.claimant n = some who → ∃ t, exec .nodeDrop s = .next t ∧ t = { s with slips := t.slips } ∧
        s.Gives v (.refusal .inUse (bytesOf 1 who)) t) ∧
      (s.claimant n = none → ∃ t, exec .nodeDrop s = .next t ∧
        t = { s with nodes := t.nodes, reads := t.reads, lines := t.lines, slips := t.slips } ∧
        t.node n = none ∧ (∀ m : NodeId, m.code ≠ n.code → t.node m = s.node m) ∧
        t.reads = s.reads.map (fun q => { q with orphan := q.orphan || q.node == n }) ∧
        (∀ m, m ≠ n.line → t.line m = s.line m) ∧
        (∀ f rate, (s.line n.line).state = .running → (s.line n.line).exchange = .polled n.address rate f →
          (t.line n.line).exchange = .quietWait) ∧
        s.Gives v (.done (bytesOf 1 r.state.code)) t))

/-- R154, R155: a RUNNING line with no exchange in progress polls the next node due; after an idle cycle, or when the
exchange of the last node due has ended, the next of the eight cycles starts with the nodes due in it, OFFLINE nodes being
due in cycle 0 alone. The end of a quiet wait ends the exchange. Choices of the model's: assumptions 13, 54 and 56. -/
def Obligations.LinesPollInCycles : Prop :=
  ∀ (s : State) (l : Nat), (s.line l).state = .running →
    let next : Line → Line := fun r =>
      { r with cycle := (r.cycle + 1) % 8
               due := (s.lineAddresses l).filter (fun a =>
                 (s.node ⟨l, a⟩).any (fun n => n.state != .offline || (r.cycle + 1) % 8 == 0)) }
    (∀ a rest n g, (s.line l).exchange = .idle → (s.line l).due = a :: rest → s.node ⟨l, a⟩ = some n →
      (s.line l).record = some g →
      ∃ t, exec (.poll l) s = .next t ∧ t = { s with lines := t.lines } ∧
        (∀ m, m ≠ l → t.line m = s.line m) ∧
        t.line l = { s.line l with due := rest, exchange := .polled a g.rate (n.poll a) }) ∧
    ((s.line l).exchange = .idle → (s.line l).due = [] →
      ∃ t, exec (.idleCycleEnd l) s = .next t ∧ t = { s with lines := t.lines } ∧
        (∀ m, m ≠ l → t.line m = s.line m) ∧ t.line l = next (s.line l)) ∧
    ((s.line l).exchange = .quietWait →
      ∃ t, exec (.quietWaitEnd l) s = .next t ∧ t = { s with lines := t.lines } ∧
        (∀ m, m ≠ l → t.line m = s.line m) ∧
        t.line l = (if (s.line l).due = [] then next { s.line l with exchange := .idle }
          else { s.line l with exchange := .idle }))

/-- R151, R152, R209: every poll is a frame whose first character names the node and alone has its mark bit set, whose
second character counts its characters, whose characters sum to 0 modulo 256, and whose stop bits stand at mark. R152, R209,
R210: the kind, the taken tags and the output block that a poll carries by the node's record: lock command and polarity with
the annunciator and verdict codes of both heads, or floors and recall, or nothing. R110, R140, R148: what a portal and a car
hand to the record of the node they name. R153, R155, R156: a reply is good exactly where every stop bit stands at mark, the
first character alone is marked and names the polled node, the second counts the characters and is a valid length for the
node's kind, the characters sum to 0 modulo 256, and the contents are within their codes. Choices of the model's: assumptions
16, 54 and 56. -/
def Obligations.FramesAreWellFormed : Prop :=
  (∀ (n : Node) (a : Nat), a < 256 →
      ((n.poll a).map (fun c => c.data)).foldl (fun acc b => acc + b) 0 = 0#8 ∧
        (n.poll a)[0]? = some { data := BitVec.ofNat 8 a, mark := true, stopOk := true } ∧
        (n.poll a)[1]? = some { data := BitVec.ofNat 8 (n.poll a).length, mark := false, stopOk := true } ∧
        (n.poll a).length = (match n.kind with
          | .portal => 11
          | .car => 8
          | .unit => 5) ∧
        (let tag (t : Option Nat) : Byte := BitVec.ofNat 8 (t.getD 15)
         let head (v : LastVerdict) : List Byte := match v with
           | .none => [0, 0xFF]
           | .pending => [1, 0xFF]
           | .given d => [if d.isGrant then 2 else 3, BitVec.ofNat 8 d.code]
         let lock : Byte := (if n.lock = .released then 1 else 0) + (if n.polarity = .powerToRelease then 2 else 0)
         (((n.poll a).map (fun c => c.data)).drop 2).dropLast = match n.kind with
           | .portal => [0, tag n.tagA, tag n.tagB, lock] ++ head n.verdictA ++ head n.verdictB
           | .car => [1, tag n.tagCar, BitVec.ofNat 8 (n.floors.toNat % 256), BitVec.ofNat 8 (n.floors.toNat / 256),
               if n.recallOn then 1 else 0]
           | .unit => [2, 15]) ∧
        ∀ i c, (n.poll a)[i]? = some c → c.stopOk = true ∧ c.mark = decide (i = 0)) ∧
  (∀ (s : State) (p : Nat) (c : PortalConfig) (n : Node), (s.portal p).config = some c → s.node c.node = some n →
      (s.handLock p).node c.node =
        some { n with lock := (s.withCommandOf c (s.portal p)).command, polarity := c.polarity }) ∧
  (∀ (s : State) (i : Nat) (g : CarConfig) (n : Node), (s.car i).config = some g → s.node g.node = some n →
      (s.handFloors i).node g.node = some (n.sentFloors s.mode.mode g (s.car i).releases)) ∧
  ∀ (kind : NodeKind) (a : Nat) (frame : List LineChar),
    judge kind a frame = none ↔
      ∃ c n rest, frame = c :: n :: rest ∧ (∀ x ∈ frame, x.stopOk = true) ∧ c.mark = true ∧ c.data.toNat = a ∧
        (∀ x ∈ n :: rest, x.mark = false) ∧ n.data.toNat = frame.length ∧
        (if kind = .unit then frame.length = 8 else frame.length = 4 ∨ frame.length = 13) ∧
        (frame.map (fun x => x.data)).foldl (fun acc b => acc + b) 0 = 0#8 ∧
        contentOk kind (frame.map (fun x => x.data)) = true

/-- R157, R159: a good reply takes one from the fault counter, brings an UNKNOWN node ONLINE, counts toward the
restoration of an OFFLINE node and restores it, with counters 0, at the third in a row; and the exchange ends. R154: the
exchange of the last node due starts the next of the eight cycles, the nodes due in it fixed with the state that the reply
leaves the node in. R46, R47,
R161: the read block of a reply that is handed on is a repeat where its tag is the head's taken tag; else it joins a queue
with room, its tag is taken and the portal head's last verdict is PENDING. R112, R76 to R80: a reply with the door opening
of a portal in RELEASED or HELD_UNLOCKED applies every pending passage in list order. Choices of the model's: assumption
13. -/
def Obligations.GoodRepliesBringNodesOnline : Prop :=
  (∀ (s : State) (l a : Nat) (rate : LineRate) (sent : List LineChar) (frame : List LineChar) (r : Node),
      (s.line l).state = .running → (s.line l).exchange = .polled a rate sent → s.node ⟨l, a⟩ = some r →
      judge r.kind a frame = none →
      ∃ t r', exec (.reply l frame) s = .next t ∧ t.node ⟨l, a⟩ = some r' ∧ r'.kind = r.kind ∧
        t.settings = s.settings ∧ t.slips = s.slips ∧ t.creds = s.creds ∧ t.clock = s.clock ∧
        t.profiles = s.profiles ∧ t.holidays = s.holidays ∧ t.mode = s.mode ∧ t.bus.run = s.bus.run ∧
        (∀ m, m ≠ l → t.line m = s.line m) ∧
        (let cycle := ((s.line l).cycle + 1) % 8
         t.line l = if (s.line l).due = [] then
             { s.line l with
               exchange := .idle, cycle := cycle
               due := (s.lineAddresses l).filter (fun x => cycle == 0 ||
                 (if x = a then r'.state != .offline else (s.node ⟨l, x⟩).any (fun n => n.state != .offline))) }
           else { s.line l with exchange := .idle }) ∧
        (r.state ≠ .offline → r'.state = .online ∧ r'.faults = r.faults - 1) ∧
        (r.state = .offline → r.restore + 1 < 3 → t.nodes = (s.setNode ⟨l, a⟩
          { r with faults := r.faults - 1, restore := r.restore + 1 }).nodes ∧ t.reads = s.reads ∧
          t.portals = s.portals ∧ t.cars = s.cars ∧ t.units = s.units ∧ t.mem = s.mem) ∧
        (r.state = .offline → 3 ≤ r.restore + 1 → r'.state = .online ∧ r'.faults = 0 ∧ r'.restore = 0)) ∧
  (∀ (s : State) (l a : Nat) (frame : List LineChar) (r : Node), s.HandsOn l a frame r →
    let bytes := frame.map (fun c => c.data)
    let number (i : Nat) : Nat := (bytes.getD i 0).toNat
    let head : Head := if number 3 = 0 then .a else if number 3 = 1 then .b else .car
    let tag := number 11
    let read : Read :=
      { node := { line := l, address := a }, head := head, key := keyAt 4 bytes, companions := min 3 (number 10)
        clamped := decide (3 < number 10), tag := tag, orphan := false }
    let own : Bool := (r.kind == .portal && head != .car) || (r.kind == .car && head == .car)
    let base : Node := if r.state = .offline then
        { r with tagA := none, tagB := none, tagCar := none, verdictA := .none, verdictB := .none }
      else r
    let taken : Option Nat := match head with
      | .a => base.tagA
      | .b => base.tagB
      | .car => base.tagCar
    let joins : Bool := bytes.length == 13 && s.reads.length < 8 && !(own && taken == some tag)
    ∃ t r', exec (.reply l frame) s = .next t ∧ t.node ⟨l, a⟩ = some r' ∧
      t.reads = (if joins = true then s.reads ++ [read] else s.reads) ∧
      r'.tagA = (if (joins && own && head == .a) = true then some tag else base.tagA) ∧
      r'.tagB = (if (joins && own && head == .b) = true then some tag else base.tagB) ∧
      r'.tagCar = (if (joins && own && head == .car) = true then some tag else base.tagCar) ∧
      r'.verdictA = (if (joins && own && head == .a) = true then .pending else base.verdictA) ∧
      r'.verdictB = (if (joins && own && head == .b) = true then .pending else base.verdictB)) ∧
  ∀ (s : State) (l a : Nat) (frame : List LineChar) (r : Node) (p : Nat) (c : PortalConfig),
    s.HandsPortal l a frame r p c → 1 ≤ c.hold →
    ((s.portal p).state = .released ∨ (s.portal p).state = .heldUnlocked) →
    reportedDoor frame = .opened → (s.portal p).door ≠ .opened → (s.portal p).rex = some (statusByte frame / 16) →
    statusByte frame / 2 % 4 = 0 → ¬ (s.portal p).ProbeDone c →
    ∃ t u, exec (.reply l frame) s = .next t ∧ s.AtPortal p t ∧
      State.AppliesInOrder p (s.portal p).passages (s.beforeOwner { line := l, address := a } r) u ∧
      t.tenants = u.tenants ∧ t.register = u.register ∧ t.units = u.units ∧ State.JournalOf u t ∧
      t.portal p = if (s.portal p).state = .released then
          s.withCommandOf c { s.portal p with
            state := .opened, door := .opened, passages := [], passageTimer := .stopped
            holdTimer := .running c.hold, openSeconds := 0, openCounting := true }
        else { s.portal p with door := .opened, passages := [], passageTimer := .stopped }

/-- R155 to R158: a bad reply, a silent one, a collision and a reply cut short are counted against the polled node and kept
as its last bad reply; a node in contact whose fault counter comes above the node-fault limit goes OFFLINE with an alarm
NODE_OFFLINE, which names the node and carries its fault counter and the cause, its owners acting on that (R98, R129, R142)
with their entries behind it: GRANT_UNUSED of a portal in service, with DRIVER_FAULT of one that leaves COOLDOWN at three
driver faults, LIFT_RELEASE_END of a car, none of a portal in WAITING, of a unit or of a node that nothing names; an OFFLINE
node begins its restoration again; and the line waits for quiet. Choices of the model's: assumptions 16, 48 and 57. -/
def Obligations.BadRepliesAreCounted : Prop :=
  ∀ (s : State) (l a : Nat) (rate : LineRate) (sent : List LineChar) (r : Node) (c : Instr) (bad : BadReply),
    (s.line l).state = .running → (s.line l).exchange = .polled a rate sent → s.node ⟨l, a⟩ = some r →
    ((∃ frame, c = .reply l frame ∧ judge r.kind a frame = some bad) ∨ (c = .replyWindowExpiry l ∧ bad = .silent) ∨
      (c = .collision l ∧ bad = .collision) ∨ (c = .gapLimitExpiry l ∧ bad = .cutShort)) →
    let faults := min 15 (r.faults + 1)
    ∃ t r', exec c s = .next t ∧ t.node ⟨l, a⟩ = some r' ∧ r'.faults = faults ∧ r'.lastBad = some bad ∧
      r'.kind = r.kind ∧ (∀ m, m ≠ l → t.line m = s.line m) ∧
      t.line l = { s.line l with exchange := .quietWait } ∧
      t.settings = s.settings ∧ t.slips = s.slips ∧ t.creds = s.creds ∧ t.clock = s.clock ∧
      t.profiles = s.profiles ∧ t.holidays = s.holidays ∧ t.mode = s.mode ∧ t.bus.run = s.bus.run ∧
      t.reads = s.reads ∧
      (if r.state = .offline then
        t = { s with nodes := t.nodes, lines := t.lines } ∧
          r' = { r with faults := faults, lastBad := some bad, restore := 0 }
      else if s.settings.faultLimit < faults then
        r'.state = .offline ∧ r'.restore = 0 ∧ s.OwnersLose ⟨l, a⟩ r t ∧
          State.JournalOf (s.offlineEntries ⟨l, a⟩ r.kind faults bad.code s) t ∧
          (∀ p, r.kind = .portal → s.portalOf ⟨l, a⟩ = some p → (s.portal p).state ≠ .waiting →
            (s.portal p).state ≠ .unconfigured →
              (∀ q, q ≠ p → t.portal q = s.portal q) ∧ t.cars = s.cars ∧ t.units = s.units ∧
              s.Unlinks (s.portal p).passages t ∧ s.Unreserves (s.portal p).passages t) ∧
          ((r.kind = .portal → s.portalOf ⟨l, a⟩ = none) → (r.kind = .car → s.carOf ⟨l, a⟩ = none) →
            t.portals = s.portals ∧ t.cars = s.cars ∧ t.tenants = s.tenants ∧ t.register = s.register) ∧
          (∀ p, r.kind = .portal → s.portalOf ⟨l, a⟩ = some p → (s.portal p).state = .waiting →
            t.portals = s.portals ∧ t.cars = s.cars ∧ t.units = s.units ∧ t.tenants = s.tenants ∧
              t.register = s.register) ∧
          (∀ i, r.kind = .car → s.carOf ⟨l, a⟩ = some i → (∀ q, q ≠ i → t.car q = s.car q) ∧ t.portals = s.portals ∧
            t.units = s.units ∧ t.tenants = s.tenants ∧ t.register = s.register)
      else t = { s with nodes := t.nodes, lines := t.lines } ∧ r' = { r with faults := faults, lastBad := some bad })

/-- R162: a break on a watched line, and a quiet wait that finds no quiet, take the line to FAULT with the recovery check
started, take every node in contact OFFLINE, its owners acting on that (R98, R129, R142), and set every other restore count
to 0. An alarm LINE_FAULT carries the reason and the count of nodes taken OFFLINE, and the NODE_OFFLINE of each, in
ascending order of address, and its owners' entries follow, wherever no deferred car record names a node of another car's on
the line. R163: at the recovery check a line found idle goes back to RUNNING with a LINE_RESTORED entry and every node due
in its cycle 0, and another is checked again. Choices of the model's: assumptions 13, 14, 48 and 57. -/
def Obligations.LineFaultsAndRecovery : Prop :=
  ∀ (s : State) (l : Nat),
    (∀ c, (s.line l).state = .running →
      (c = .lineBreak l ∧ (∀ a rate f, (s.line l).exchange ≠ .polled a rate f) ∨
        c = .noQuiet l ∧ (s.line l).exchange = .quietWait) →
      ∃ t, exec c s = .next t ∧ (∀ m, m ≠ l → t.line m = s.line m) ∧
        t.line l = { s.line l with state := .fault, check := .running 2, exchange := .idle, due := [] } ∧
        t.settings = s.settings ∧ t.slips = s.slips ∧ t.creds = s.creds ∧ t.clock = s.clock ∧
        t.profiles = s.profiles ∧ t.holidays = s.holidays ∧ t.mode = s.mode ∧ t.bus.run = s.bus.run ∧
        t.reads = s.reads ∧
        ((∀ a i, s.carOf ⟨l, a⟩ = some i → s.CarAlone ⟨l, a⟩ i) →
          State.JournalOf (s.lineFaultEntries l (if c = .lineBreak l then 0 else 1)) t) ∧
        ∀ a r, 1 ≤ a → a ≤ 30 → s.node ⟨l, a⟩ = some r → ∃ r', t.node ⟨l, a⟩ = some r' ∧
          r'.state = .offline ∧ r'.restore = 0 ∧ r'.faults = r.faults ∧ r'.kind = r.kind ∧ r'.lastBad = r.lastBad ∧
          (r.state ≠ .offline → s.OwnersLose ⟨l, a⟩ r t)) ∧
    ((s.line l).state = .fault → (s.line l).check = .due →
      (∃ t, exec (.recoveryCheckExpiry l true) s = .next t ∧
        t = { s with mem := t.mem, bus := t.bus, journal := t.journal, lines := t.lines } ∧
        (∀ m, m ≠ l → t.line m = s.line m) ∧
        t.line l = { s.line l with
          state := .running, cycle := 0, check := .stopped, exchange := .idle, due := s.lineAddresses l } ∧
        State.JournalOf (s.log .lineRestored (some l) none []) t) ∧
      ∃ t, exec (.recoveryCheckExpiry l false) s = .next t ∧ t = { s with lines := t.lines } ∧
        (∀ m, m ≠ l → t.line m = s.line m) ∧ t.line l = { s.line l with check := .running 2 })

/-! ## Access decisions (chapter 3) -/

/-- R50 to R58: the verdict of a read at a portal head whose credential is found, by the first step that fails, and the form
of its grant where none does. R51: the read is a repeat grant exactly where the tenant's pending passage was granted at this
head of this portal. R49, R53, R55, R58: any other grant hands the portal a passage of the read's tenant, key and head, with
the kind and the party of the tenant's visit, the target zone, the soft flag and the entry standing. R49, R50: which reads a
portal head decides, head B only where the configuration in force has it; a key that is not in the index is denied
UNKNOWN_CREDENTIAL, and a read at a head that nothing names PORTAL_FAULT. -/
def Obligations.PortalReadsAreDecidedInOrder : Prop :=
  (∀ (s : State) (r : Read) (p : Nat) (c : PortalConfig) (cr : Credential) (x : Tenant),
      s.asked r = .portal p c → s.presented r = some (cr, x) →
      let entry : Bool := r.head == .a
      let target := if entry then c.inner else c.outer
      let origin := if entry then c.outer else c.inner
      let visit := s.visitOf cr.tenant
      let stands : Bool := match visit with
        | some w => w.zone == origin
        | none => origin == 0
      let party := match visit with
        | some w => w.party
        | none => 1 + r.companions
      let allowed : Bool := match s.standing x.paid with
        | some .current | some .grace => x.mask.getLsbD target
        | some .overdue => target < 16 && (s.zone target).common
        | _ => false
      let z := s.zone target
      (s.ruling r).verdict =
        (if cr.state = .suspended then .credentialSuspended
        else if s.clock.isSet = true ∧ cr.expiry.any (fun d => d < s.clock.minute / 1440) = true then .credentialExpired
        else if x.state = .blocked then .tenantBlocked
        else match x.transit with
          | some q =>
            if q = p ∧ (s.portal p).passages.any (fun g => g.tenant == cr.tenant && g.head == r.head) = true then .grant
            else .inTransit
          | none =>
            if entry = true ∧ s.mode.mode = .evacuate then .evacuation
            else if entry = true ∧ s.mode.mode = .lockdown ∧ x.staff = false then .lockdown
            else if entry = true ∧ x.staff = false ∧ s.clock.isSet = false then .clockUnset
            else if entry = true ∧ x.staff = false ∧ s.standing x.paid = some .lockedOut then .lockedOut
            else if entry = true ∧ x.staff = false ∧ s.windowTest x.profile = false then .outsideHours
            else if entry = true ∧ x.staff = false ∧ allowed = false then .zoneNotPermitted
            else if c.passback = .strict ∧ x.staff = false ∧ stands = false then
              if visit.isSome then .passback else .notOnSite
            else if target ≠ 0 ∧ x.staff = false ∧ visit.any (fun w => w.zone == target) = false ∧
                ¬ (s.mode.mode = .evacuate ∧ entry = false) ∧ z.limit < z.count + z.reserved + party then .zoneFull
            else if target ≠ 0 ∧ visit = none ∧ 512 ≤ s.register.visits.length + s.register.creating then .registerFull
            else if (s.portal p).state.inService = false then .portalFault
            else if 2 ≤ (s.portal p).passages.length then .portalBusy
            else if x.staff = true then .grantStaff else if stands = true then .grant else .grantSoft) ∧
      (s.ruling r = .again ↔
        cr.state ≠ .suspended ∧ x.state ≠ .blocked ∧
          ¬ (s.clock.isSet = true ∧ cr.expiry.any (fun d => d < s.clock.minute / 1440) = true) ∧
          x.transit = some p ∧ (s.portal p).passages.any (fun g => g.tenant == cr.tenant && g.head == r.head) = true) ∧
      (s.ruling r ≠ .again → s.ruling r =
        if (s.ruling r).verdict.isGrant = true then
          .pass (s.ruling r).verdict
            { tenant := cr.tenant
              kind := if target = 0 then .finish else if visit.isSome then .move else .create
              party := party, target := target, soft := !stands
              standing := if x.staff = true then .current else (s.standing x.paid).getD .current
              key := some r.key, head := r.head }
        else .deny (s.ruling r).verdict)) ∧
  ∀ (s : State) (r : Read),
    (∀ p c, s.asked r = .portal p c ↔ s.portalOf r.node = some p ∧ (s.portal p).config = some c ∧
      (r.head = .a ∨ (r.head = .b ∧ c.headB = true))) ∧
    (∀ p c, s.asked r = .portal p c → Table.find r.key.code s.creds = none →
      s.ruling r = .deny .unknownCredential) ∧
    ((∀ p c, s.asked r ≠ .portal p c) → (∀ i g, s.asked r ≠ .car i g) → s.ruling r = .deny .portalFault)

/-- R60 to R62: the verdict of a read at a car head whose credential is found, by the first step that fails. A grant
releases the floors served to staff and to others those of the zones permitted, the public floors left out in NORMAL. R49,
R50: which reads a car head decides; a key that is not in the index is denied UNKNOWN_CREDENTIAL. -/
def Obligations.CarReadsAreDecidedInOrder : Prop :=
  (∀ (s : State) (r : Read) (i : Nat) (g : CarConfig) (cr : Credential) (x : Tenant),
      s.asked r = .car i g → s.presented r = some (cr, x) →
      let allowed (z : Nat) : Bool := match s.standing x.paid with
        | some .current | some .grace => x.mask.getLsbD z
        | some .overdue => (s.zone z).common
        | _ => false
      let floors : Nat → Bool := fun f => g.served.getLsbD f && !(s.mode.mode == .normal && g.pub.getLsbD f) &&
        (x.staff || (List.range 16).any (fun z => (s.zone z).floor == some f && allowed z))
      let none_ : Bool := (List.range 16).all (fun f => !floors f)
      (s.ruling r).verdict =
        (if cr.state = .suspended then .credentialSuspended
        else if s.clock.isSet = true ∧ cr.expiry.any (fun d => d < s.clock.minute / 1440) = true then .credentialExpired
        else if x.state = .blocked then .tenantBlocked
        else if s.mode.mode = .evacuate then .evacuation
        else if s.mode.mode = .lockdown ∧ x.staff = false then .lockdown
        else if x.staff = false ∧ s.clock.isSet = false then .clockUnset
        else if x.staff = false ∧ s.standing x.paid = some .lockedOut then .lockedOut
        else if x.staff = false ∧ s.windowTest x.profile = false then .outsideHours
        else if g.needsVisit = true ∧ s.visitOf cr.tenant = none then .notOnSite
        else if none_ = true then .noFloors
        else if (s.car i).state ≠ .inService then .portalFault
        else if x.staff = true then .grantStaff else .grant) ∧
      (if (s.ruling r).verdict.isGrant = true then ∃ set, s.ruling r = .ride (s.ruling r).verdict set
        else s.ruling r = .deny (s.ruling r).verdict) ∧
      ∀ verdict set, s.ruling r = .ride verdict set → ∀ f < 16, set.getLsbD f = floors f) ∧
  ∀ (s : State) (r : Read) (i : Nat) (g : CarConfig),
    (s.asked r = .car i g ↔ s.portalOf r.node = none ∧ s.carOf r.node = some i ∧ (s.car i).config = some g ∧
      r.head = .car) ∧
    (s.asked r = .car i g → Table.find r.key.code s.creds = none → s.ruling r = .deny .unknownCredential)

/-- R46 to R48, R58, R59, R62: DECISION takes the oldest read; on an empty queue nothing changes. The decision is journalled
with the read's verdict, head, companions, marks and class, and the head's last verdict is the one given, or PENDING where
another of its reads waits; for a denial nothing more changes. R111, R74: a first grant at a portal in SECURE releases it;
there, in RELEASED, and in HELD_UNLOCKED with the door not open the passage is pending, the tenant linked to it and the
register's reservation made; in OPEN, whose hold timer restarts, HELD, FORCED and HELD_UNLOCKED with the door open the
passage is applied at once (R76 to R80). R51, R111: a repeat grant restarts the passage timer alone. R138, R144: a car grant
places the tenant's floors at the newest position, in place of the tenant's own entry or, where four others stand, of the
oldest, whose LIFT_RELEASE_END, reason DISPLACED, follows the decision's entry. R110, R140: the node's record is handed the
lock command of a portal that is released, or the floors of the car. Choices of the model's: assumptions 1, 25, 39 and 57.
-/
def Obligations.TheOldestReadIsDecided : Prop :=
  (∀ s : State, s.reads = [] → exec .decision s = .next s) ∧
  ∀ (s : State) (r : Read) (rest : List Read), s.reads = r :: rest →
    let ruling := s.ruling r
    let logged := s.log (if ruling.verdict.isGrant then .accessGranted else .accessDenied)
      (some ((s.asked r).subject r.node)) ((Table.find r.key.code s.creds).map (fun c => c.tenant))
      (bytesOf 1 ruling.verdict.code ++ bytesOf 1 r.head.code ++ bytesOf 1 r.companions ++
        flagByte (ruling == .again) ++ flagByte r.clamped ++ bytesOf 1 (s.asked r).classCode)
    let verdict : LastVerdict :=
      if rest.any (fun q => q.node == r.node && q.head == r.head && !q.orphan) then .pending else .given ruling.verdict
    ∃ t, exec .decision s = .next t ∧ t.reads = rest ∧ t.settings = s.settings ∧ t.slips = s.slips ∧
      t.creds = s.creds ∧ t.clock = s.clock ∧ t.profiles = s.profiles ∧ t.holidays = s.holidays ∧ t.mode = s.mode ∧
      t.lines = s.lines ∧ t.bus.run = s.bus.run ∧
      (∀ m : NodeId, m.code ≠ r.node.code → t.node m = s.node m) ∧
      (∀ d, ruling = .deny d → State.JournalOf logged t ∧
        t = { s with mem := t.mem, bus := t.bus, journal := t.journal, reads := rest, nodes := t.nodes } ∧
        t.node r.node = (s.node r.node).map (r.toldTo verdict)) ∧
      (∀ p c, s.asked r = .portal p c → (∀ q, q ≠ p → t.portal q = s.portal q) ∧ t.cars = s.cars ∧
        (∀ d g, ruling = .pass d g → 1 ≤ c.unlock → 1 ≤ c.hold →
          let listed : Portal := { s.portal p with
            passages := (s.portal p).passages ++ [g], passageTimer := .running c.unlock }
          t.node r.node = (s.node r.node).map (fun n => r.toldTo verdict (if (s.portal p).state = .secure then
            { n with lock := (t.portal p).command, polarity := c.polarity } else n)) ∧
          if (s.portal p).state = .secure ∨ (s.portal p).state = .released ∨
              ((s.portal p).state = .heldUnlocked ∧ (s.portal p).door ≠ .opened) then
            t.portal p = (if (s.portal p).state = .secure then
                s.withCommandOf c { listed with state := .released, holdTimer := .stopped }
              else listed) ∧
              s.Reserves g t ∧ t.units = s.units ∧ State.JournalOf logged t ∧
              t.tenant g.tenant = (s.tenant g.tenant).map (fun x => { x with transit := some p }) ∧
              ∀ j, j ≠ g.tenant → t.tenant j = s.tenant j
          else
            t.portal p = (if (s.portal p).state = .opened then { s.portal p with holdTimer := .running c.hold }
              else s.portal p) ∧
              ∃ u, logged.AppliesPassage p false g u ∧ t.tenants = u.tenants ∧ t.register = u.register ∧
                t.units = u.units ∧ State.JournalOf u t) ∧
        (ruling = .again → 1 ≤ c.unlock → State.JournalOf logged t ∧ t.tenants = s.tenants ∧
          t.register = s.register ∧ t.units = s.units ∧
          t.portal p = { s.portal p with passageTimer := .running c.unlock } ∧
          t.node r.node = (s.node r.node).map (r.toldTo verdict))) ∧
      (∀ i g d floors x, s.asked r = .car i g → ruling = .ride d floors →
        (s.presented r).map (fun e => e.1.tenant) = some x → 5 ≤ s.settings.window →
        let list := (s.car i).releases
        let new : Release := { tenant := x, floors := floors, timer := .running s.settings.window }
        let after : List Release :=
          if list.any (fun e => e.tenant == x) = true then list.filter (fun e => e.tenant != x) ++ [new]
          else if 4 ≤ list.length then list.tail ++ [new]
          else list ++ [new]
        (∀ q, q ≠ i → t.car q = s.car q) ∧ t.tenants = s.tenants ∧ t.portals = s.portals ∧ t.register = s.register ∧
        t.units = s.units ∧
        t.car i = { s.car i with releases := after } ∧
        (list.any (fun e => e.tenant == x) = true ∨ list.length < 4 → State.JournalOf logged t) ∧
        (∀ oldest, list.any (fun e => e.tenant == x) = false → 4 ≤ list.length → list.head? = some oldest →
          State.JournalOf (logged.log .liftReleaseEnd (some i) (some oldest.tenant)
            ([1] ++ bytesOf 2 oldest.floors.toNat)) t) ∧
        t.node r.node = (s.node r.node).map (Node.sentFloors s.mode.mode g after))

/-! ## Site modes (chapter 9) -/

/-- R169: a change of the FIRE input forms the reading anew; the hold measurement starts from zero where the reading differs
from the FIRE state and is stopped where it agrees. R171: the FIRE state becoming ACTIVE journals FIRE_ACTIVE and brings the
site into EVACUATE with source FIRE, with MODE raised only where the mode changes; becoming CLEAR journals FIRE_CLEAR alone.
R174, R121, R122, R141: where the mode changes, the sources of every configured portal are evaluated, so that an egress
portal in service comes to HELD_UNLOCKED, and the cars are recalled with their lists emptied. The alarm entry FIRE_ACTIVE
stands ahead of MODE_CHANGE, which carries the mode before and after, source FIRE and trigger FIRE, and the portals' and the
cars' entries follow. Choices of the model's: assumptions 6, 7, 8, 22, 30, 32, 39, 40, 48 and 57. -/
def Obligations.TheFireInputIsFiltered : Prop :=
  ∀ s : State,
    (∀ closed, closed ≠ s.mode.contactClosed → ∃ t, exec (.fireInputChange closed) s = .next t ∧
      t = { s with mode := { s.mode with contactClosed := closed, hold := t.mode.hold } } ∧
      let active : Bool := closed == (s.settings.polarity == .normallyOpen)
      t.mode.hold = if active = s.mode.fireActive then .stopped else .running 0) ∧
    (∀ n order, s.mode.hold = .running n → s.fireReading = true → s.mode.fireActive = false →
      ∃ t, exec (.fireActive order) s = .next t ∧
        t.mode = { s.mode with mode := .evacuate, source := some .fire, fireActive := true, hold := .stopped } ∧
        t.settings = s.settings ∧ t.slips = s.slips ∧ t.tenants = s.tenants ∧ t.creds = s.creds ∧ t.units = s.units ∧
        t.clock = s.clock ∧ t.register = s.register ∧ t.lines = s.lines ∧ t.reads = s.reads ∧
        t.bus.cause.getLsbD 2 = true ∧
        (s.mode.mode ≠ .evacuate → t.bus.cause.getLsbD 5 = true ∧ t.byteAt 25 = 2 ∧ t.byteAt 26 = 0 ∧
          s.SourcesEvaluated t ∧ s.CarsTold t ∧
          State.JournalOf (((({ s with mode := { s.mode with fireActive := true, hold := .stopped } } : State).log
            .fireActive none none []).modeChanged .evacuate (some .fire) 0).modeEntries order) t) ∧
        (s.mode.mode = .evacuate → t = { s with mode := t.mode, mem := t.mem, bus := t.bus, journal := t.journal } ∧
          t.bus = (s.log .fireActive none none []).bus ∧ t.journal = (s.log .fireActive none none []).journal ∧
          (s.mode.source = some .fire → t.mem = (s.log .fireActive none none []).mem) ∧
          (s.mode.source ≠ some .fire →
            t.mem = ((s.log .fireActive none none []).mirror 25 [2, 0]).mem ∧ t.byteAt 26 = 0))) ∧
    (∀ n, s.mode.hold = .running n → s.fireReading = false → s.mode.fireActive = true →
      ∃ t, exec .fireClear s = .next t ∧
        t = { s with mem := t.mem, bus := t.bus, journal := t.journal,
                     mode := { s.mode with fireActive := false, hold := .stopped } } ∧
        State.JournalOf (s.log .fireClear none none []) t)

/-- R172, R173, with R141, R174: LOCKDOWN, EVACUATE and RESUME by the mode and the FIRE state. A slip that changes the mode
sets the source, raises MODE and ALARM, hands both to the mirror, empties the release lists on entry to LOCKDOWN and
EVACUATE, and recalls or returns the cars; one that changes nothing writes no entry and raises nothing. R121, R122: a change
evaluates the sources of every configured portal, so that LOCKDOWN relocks a portal that only its free-access window held,
EVACUATE brings an egress portal in service to HELD_UNLOCKED, and RESUME does either. R107, R136: a portal that relocks to
SECURE, and a car whose list is emptied, applies its deferred record. R174: the alarm entry MODE_CHANGE carries the mode
before and after, the source after and the trigger, and the portals' and the cars' entries follow it. Choices of the
model's: assumptions 7, 8, 20, 22, 30, 32, 39, 40, 48 and 57. -/
def Obligations.ModeSlipsChangeTheMode : Prop :=
  ∀ (s : State) (v : Service) (order : ModeOrder),
    let shown (after : SiteMode) (src : Option EvacuationSource) : List Byte :=
      bytesOf 1 s.mode.mode.code ++ bytesOf 1 after.code ++ bytesOfOption 1 (src.map EvacuationSource.code)
    let resumed (after : SiteMode) : List Byte :=
      bytesOf 1 s.mode.mode.code ++ bytesOf 1 after.code ++ [if s.mode.fireActive then 0 else 1]
    let still (t : State) : Prop := t = { s with slips := t.slips }
    let becomes (after : SiteMode) (src : Option EvacuationSource) (trigger : Nat) (t : State) : Prop :=
      State.JournalOf ((s.modeChanged after src trigger).modeEntries order) t ∧
        t.mode = { s.mode with mode := after, source := src } ∧ t.bus.cause.getLsbD 5 = true ∧
        t.bus.cause.getLsbD 2 = true ∧ t.byteAt 25 = BitVec.ofNat 8 after.code ∧
        t.byteAt 26 = (match src with
          | some e => BitVec.ofNat 8 e.code
          | none => 0xFF) ∧
        t.bus.run = s.bus.run ∧ t.settings = s.settings ∧ t.tenants = s.tenants ∧ t.creds = s.creds ∧
        t.units = s.units ∧ t.clock = s.clock ∧ t.profiles = s.profiles ∧ t.holidays = s.holidays ∧
        t.reads = s.reads ∧ t.register = s.register ∧ t.lines = s.lines ∧ s.SourcesEvaluated t ∧
        s.CarsTold t ∧
        ∀ i < 4, (s.car i).config.isSome → (s.car i).deferred = none →
          (after ≠ .normal → (s.car i).state = .inService ∨ (s.car i).state = .inRecall →
            (t.car i).releases = []) ∧
          (after = .evacuate → (s.car i).state = .inService → (t.car i).state = .inRecall) ∧
          (after = .normal → (s.car i).state = .inRecall → (t.car i).state = .inService) ∧
          (after = .normal → (t.car i).releases = (s.car i).releases)
    (s.Serves .lockdown v → ∃ t, exec (.lockdown order) s = .next t ∧
      match s.mode.mode with
      | .normal => becomes .lockdown none 1 t ∧ s.Gives v (.done (shown .lockdown none)) t
      | .lockdown => still t ∧ s.Gives v (.done (shown .lockdown s.mode.source)) t
      | .evacuate => still t ∧ s.Gives v (.refusal .conditionActive (shown .evacuate s.mode.source)) t) ∧
    (s.Serves .evacuate v → ∃ t, exec (.evacuate order) s = .next t ∧
      match s.mode.mode with
      | .normal | .lockdown => becomes .evacuate (some .host) 2 t ∧ s.Gives v (.done (shown .evacuate (some .host))) t
      | .evacuate => still t ∧ s.Gives v (.done (shown .evacuate s.mode.source)) t) ∧
    (s.Serves .resume v → ∃ t, exec (.resume order) s = .next t ∧
      match s.mode.mode with
      | .lockdown => becomes .normal none 3 t ∧ s.Gives v (.done (resumed .normal)) t
      | .evacuate =>
        if s.mode.fireActive = true then still t ∧ s.Gives v (.refusal .conditionActive (resumed .evacuate)) t
        else becomes .normal none 3 t ∧ s.Gives v (.done (resumed .normal)) t
      | .normal => still t ∧ s.Gives v (.refusal .wrongMode (resumed .normal)) t)

/-! ## The event journal (chapter 11) -/

/-- R193 to R195, R207, R208: an entry submitted to a journal that is not stalled, with room left on the page after it,
takes the place after the last entry with the time of the moment; the entry count and the sequence counter rise by one;
the first entry of a page writes its first sequence and starts the flush timer; an alarm entry raises ALARM; nothing else
changes. R196: the 63rd entry of the page is written and closes it FULL, reason FULL, with PAGE raised; the next page in
cyclic order is taken where it reads EMPTY, and otherwise the journal stalls on it with STALL raised. R198, step 4: an
entry submitted to a stalled journal whose awaited page reads EMPTY follows the recovery, made as at a re-examination.
R197: an entry submitted to a stalled journal whose awaited page does not read EMPTY is dropped and counted where it is
routine, held where it is an alarm and the holdover has room, and dropped and counted where it has none; an alarm raises
ALARM in every case. R178: an entry is written word by word, its page state reads as before all the while, and the page
that it fills reads FULL only once its entries and header stand. Choices of the model's: assumptions 28 and 43. -/
def Obligations.EntriesAreWrittenHeldOrDropped : Prop :=
  ∀ (s : State) (kind : EntryKind) (subject tenant : Option Nat) (detail : List Byte),
    let p := s.journal.page
    let base := 0x2400 + 1024 * p
    let n := s.entryCount p
    let t := s.log kind subject tenant detail
    let now : Entry :=
      { minute := s.clock.minute, second := s.clock.second, kind := kind, subject := subject, tenant := tenant,
        detail := detail }
    (s.journal.stalled = false → n ≤ 61 →
      t = { s with mem := t.mem, journal := t.journal, bus := { s.bus with cause := t.bus.cause } } ∧
      t.bus.cause = (if kind.alarm then s.bus.cause ||| 4#7 else s.bus.cause) ∧
      t.journal = { s.journal with
        sequence := s.journal.sequence + 1
        flush := if n = 0 then Timer.set s.settings.flush else s.journal.flush } ∧
      t.entryCount p = n + 1 ∧
      t.peek (base + 16 + 16 * n) 16 = bytesOf 4 s.clock.minute ++ bytesOf 1 s.clock.second ++ bytesOf 1 kind.code ++
        bytesOfOption 2 subject ++ bytesOfOption 2 tenant ++ padTo 6 0 detail ∧
      (n = 0 → t.peek (base + 2) 4 = bytesOf 4 s.journal.sequence.toNat) ∧
      (∀ a, (a < base + 16 + 16 * n ∨ base + 32 + 16 * n ≤ a) → a ≠ base + 6 →
        (n = 0 → a < base + 2 ∨ base + 6 ≤ a) → t.byteAt a = s.byteAt a) ∧
      t.mem = (s.pass (s.entryAccesses now)).mem ∧ s.ReadsWhole (s.entryAccesses now) t ∧
      s.WordLast base (s.entryAccesses now)) ∧
    (s.journal.stalled = false → n = 62 → p < 32 →
      let q := (p + 1) % 32
      let next := 0x2400 + 1024 * q
      t = { s with mem := t.mem, journal := t.journal, bus := { s.bus with cause := t.bus.cause } } ∧
      t.wordAt base = 2 ∧ t.entryCount p = 63 ∧ t.byteAt (base + 7) = 0 ∧ t.peek (base + 1008) 16 = now.bytes ∧
      (∀ a, 0x2400 ≤ a → (a < base ∨ base + 2 ≤ a ∧ a < base + 6 ∨ base + 8 ≤ a ∧ a < base + 1008 ∨ base + 1024 ≤ a) →
        (a < next ∨ next + 8 ≤ a) → t.byteAt a = s.byteAt a) ∧
      t.journal = { s.journal with
        page := q, sequence := s.journal.sequence + 1, flush := .stopped, reexamine := false
        stalled := decide (s.wordAt next ≠ 0) } ∧
      t.bus.cause = (if kind.alarm then s.bus.cause ||| 4#7 else s.bus.cause) ||| 2#7 |||
        (if s.wordAt next = 0 then 0#7 else 8#7) ∧
      (if s.wordAt next = 0 then t.wordAt next = 1 ∧ t.peek (next + 2) 6 = [0xFF, 0xFF, 0xFF, 0xFF, 0, 0xFF]
      else t.peek next 8 = s.peek next 8) ∧
      let l := s.entryAccesses now ++ fullAccesses .full p
      s.WordLast base l ∧ (s.during l.length l).wordAt base = 2 ∧
        ∀ b, base + 2 ≤ b → b < base + 1024 → (s.during (l.length - 1) l).byteAt b = t.byteAt b) ∧
    (s.journal.stalled = true → s.wordAt base = 0 → s.journal.holdover.length ≤ 8 → p < 32 →
      ∃ u, exec .journalRecovery { s with journal := { s.journal with reexamine := true } } = .next u ∧
        u.journal.stalled = false ∧ t = u.log kind subject tenant detail) ∧
    (s.journal.stalled = true → s.wordAt base ≠ 0 →
      t = { s with mem := t.mem, journal := t.journal, bus := { s.bus with cause := t.bus.cause } } ∧
      t.bus.cause = (if kind.alarm then s.bus.cause ||| 4#7 else s.bus.cause) ∧
      (∀ a, 39 ≤ a → t.byteAt a = s.byteAt a) ∧
      t.journal = (if kind.alarm = false then
          { s.journal with routineDropped := if s.journal.routineDropped < 65535 then s.journal.routineDropped + 1
            else s.journal.routineDropped }
        else if s.journal.holdover.length < 8 then { s.journal with holdover := s.journal.holdover ++ [now] }
        else { s.journal with alarmDropped := if s.journal.alarmDropped < 65535 then s.journal.alarmDropped + 1
          else s.journal.alarmDropped }))

/-- R196, R197: at its flush timer's expiry the current page becomes FULL with reason FLUSH and PAGE is raised; the next
page in cyclic order is taken where it reads EMPTY, and otherwise the journal stalls on it with STALL raised. R198: at the
recovery that a second event has found due a stalled journal takes the awaited page, which reads EMPTY, and writes the
holdover in order and, where entries were dropped, a JOURNAL_GAP; where none is due, it takes no page. R178: the page reads
FULL only once its entries and header stand. Choices of the model's: assumptions 1, 3, 28, 43 and 48. -/
def Obligations.PagesCloseStallAndRecover : Prop :=
  ∀ s : State, s.journal.page < 32 →
    let p := s.journal.page
    let base (p : Nat) := 0x2400 + 1024 * p
    (s.journal.flush = .due → s.journal.stalled = false →
      let q := (p + 1) % 32
      ∃ t, exec .flushTimerExpiry s = .next t ∧
        t = { s with mem := t.mem, journal := t.journal, bus := { s.bus with cause := t.bus.cause } } ∧
        t.wordAt (base p) = 2 ∧ t.byteAt (base p + 7) = 1 ∧
        s.WordLast (base p) (fullAccesses .flush p) ∧
        (s.during (fullAccesses .flush p).length (fullAccesses .flush p)).wordAt (base p) = 2 ∧
        (∀ b, base p + 2 ≤ b → b < base p + 1024 →
          (s.during ((fullAccesses .flush p).length - 1) (fullAccesses .flush p)).byteAt b = t.byteAt b) ∧
        (∀ a, 0x2400 ≤ a → (a < base p ∨ base p + 8 ≤ a) → (a < base q ∨ base q + 8 ≤ a) → t.byteAt a = s.byteAt a) ∧
        if s.wordAt (base q) = 0 then
          t.journal = { s.journal with page := q, stalled := false, reexamine := false, flush := .stopped } ∧
            t.bus.cause = s.bus.cause ||| 2#7 ∧ t.wordAt (base q) = 1 ∧
            t.peek (base q + 2) 6 = [0xFF, 0xFF, 0xFF, 0xFF, 0, 0xFF]
        else
          t.journal = { s.journal with page := q, stalled := true, reexamine := false, flush := .stopped } ∧
            t.bus.cause = s.bus.cause ||| 10#7 ∧ t.peek (base q) 8 = s.peek (base q) 8) ∧
    (s.journal.stalled = true → s.journal.reexamine = true → s.wordAt (base p) = 0 → s.journal.holdover.length ≤ 8 →
      let held := s.journal.holdover
      let gap : Bool := s.journal.routineDropped != 0 || s.journal.alarmDropped != 0
      let n := held.length + (if gap then 1 else 0)
      let last : Entry :=
        { minute := s.clock.minute, second := s.clock.second, kind := .journalGap,
          subject := some s.journal.alarmDropped, tenant := none, detail := bytesOf 2 s.journal.routineDropped }
      ∃ t, exec .journalRecovery s = .next t ∧
        t = { s with mem := t.mem, journal := t.journal, bus := { s.bus with cause := t.bus.cause } } ∧
        t.journal = { s.journal with
          stalled := false, reexamine := false, holdover := [], routineDropped := 0, alarmDropped := 0
          sequence := s.journal.sequence + BitVec.ofNat 32 n
          flush := if n = 0 then s.journal.flush else Timer.set s.settings.flush } ∧
        t.wordAt (base p) = 1 ∧ t.entryCount p = n ∧
        (∀ i e, held[i]? = some e → t.peek (base p + 16 + 16 * i) 16 = e.bytes) ∧
        (gap = true → t.peek (base p + 16 + 16 * held.length) 16 = last.bytes)) ∧
    (s.journal.stalled = true → s.journal.reexamine = true → s.wordAt (base p) ≠ 0 →
      exec .journalRecovery s = .next { s with journal := { s.journal with reexamine := false } }) ∧
    (s.journal.stalled = false ∨ s.journal.reexamine = false → exec .journalRecovery s = .next s)

/-- R200: JOURNAL_MARK submits a HOST_MARK for its slip with the host's value; the answer carries the entry's sequence
number where it was written, and the mark DROPPED where the journal stays stalled. Choices of the model's: assumptions 20,
48, 51 and 57. -/
def Obligations.JournalMarkIsSubmitted : Prop :=
  ∀ (s : State) (v : Service), s.Serves .journalMark v →
    let w := s.log .hostMark (some v.slip) none (bytesOf 2 (v.body 0 2))
    ∃ t, exec .journalMark s = .next t ∧
      t = { s with mem := w.mem, bus := w.bus, journal := w.journal, slips := t.slips } ∧
      s.Gives v (.done (if s.journal.stalled = false ∨ s.wordAt (0x2400 + 1024 * s.journal.page) = 0 then
          [1] ++ bytesOf 4 (w.journal.sequence - 1).toNat
        else [0, 0xFF, 0xFF, 0xFF, 0xFF])) t
end

