-- ==== Sys2Proof/WellFormed.lean ====
section
/-! DEFINITION. Which commands are well formed: their operands name objects that exist (section 4.3), and a command stands
for what its row says it is. -/

namespace Sys2Proof

/-- The operands of a command lie in the ranges of section 4.3; a CONTROL_BAD value is none of the
three that CONTROL accepts (R181, R204); a reply has a first character (R155: with no start bit
there is no reply but a silent one, which is REPLY_WINDOW_EXPIRY). -/
def Instr.wellFormed : Instr → Bool
  | .controlBad value => (controlCommand value).isNone
  | .passageTimerExpiry p => p < 48
  | .holdTimerExpiry p => p < 48
  | .cooldownExpiry p => p < 48
  | .probeIntervalExpiry p => p < 48
  | .releaseExpiry c t => c < 4 && t < 4096
  | .poll l => l < 4
  | .idleCycleEnd l => l < 4
  | .reply l frame => l < 4 && !frame.isEmpty
  | .replyWindowExpiry l => l < 4
  | .quietWaitEnd l => l < 4
  | .lineBreak l => l < 4
  | .noQuiet l => l < 4
  | .recoveryCheckExpiry l _ => l < 4
  | .collision l => l < 4
  | .gapLimitExpiry l => l < 4
  | .powerOn | .run | .halt | .reset | .post _ | .clear _ | .mask _ | .registerReadOnly _ _
  | .hostMemoryWrite _ _ | .slipTake | .slipAnswer | .badKind | .tenantPut | .tenantDrop
  | .credPut | .credDrop | .grantSet | .standingSet | .unitPut | .unitDrop | .tenantRead
  | .loadTenants | .loadCredentials | .loadRecordApply | .clockSet | .profilePut | .holidaySet
  | .zonePut | .zoneRead | .visitExtend | .visitEnd | .visitList | .visitImageCopy | .unitClear
  | .portalPut | .portalDrop | .portalPulse | .portalHold | .portalSecure | .portalReset
  | .carPut | .carDrop | .linePut | .nodePut | .nodeDrop | .lockdown _ | .evacuate _ | .resume _
  | .sitePut | .journalMark | .secondEvent | .minuteEvent _ | .flushTimerExpiry
  | .journalRecovery | .fireInputChange _ | .fireActive _ | .fireClear | .decision => true

end Sys2Proof
end

