-- ==== Sys2Proof/Laws/Bus.lean ====
section
/-! SUPPORT. What a write of the host on the bus gives. -/

namespace Sys2Proof

/-- R181: the values that CONTROL refuses are those other than 1, 2 and 3. -/
theorem controlCommand_isNone {value : Word} :
    (controlCommand value).isNone = true ↔ value.toNat = 0 ∨ 3 < value.toNat := by
  unfold controlCommand
  split
  all_goals simp_all
  omega

/-- R204: a register stands at its address. -/
@[simp] theorem registerAt_address (r : Register) : registerAt r.address = some r := by
  cases r <;> rfl

/-- Everything a write to CONTROL can be. -/
theorem registerCommand_control (value : Word) :
    registerCommand value .control = .run ∨ registerCommand value .control = .halt ∨
      registerCommand value .control = .reset ∨
      ((value.toNat = 0 ∨ 3 < value.toNat) ∧ registerCommand value .control = .controlBad value) := by
  rw [← controlCommand_isNone]
  simp only [registerCommand, controlCommand]
  split <;> simp

/-- R180, R181: what a write on the bus gives is a well-formed command. -/
theorem commandOfWrite_wellFormed {address : Nat} {value : Word} {c : Instr}
    (h : commandOfWrite address value = some c) : c.wellFormed = true := by
  unfold commandOfWrite at h
  split at h
  · split at h <;> simp_all
    subst h
    rfl
  · obtain ⟨r, -, rfl⟩ := Option.map_eq_some_iff.1 h
    cases r <;> try rfl
    obtain h | h | h | ⟨hv, h⟩ := registerCommand_control value <;> rw [h] <;> try rfl
    exact controlCommand_isNone.2 hv

end Sys2Proof
end

