-- ==== Sys2Proof/Laws/Tables.lean ====
section
/-! SUPPORT. The laws of tables and of the little-endian bytes of a number. -/

namespace Sys2Proof

variable {α : Type}

@[simp] theorem Table.find_nil (k : Nat) : Table.find k ([] : Table α) = none := rfl

@[simp] theorem Table.find_insert_self (k : Nat) (v : α) (t : Table α) :
    Table.find k (Table.insert k v t) = some v := by
  induction t with
  | nil => simp [Table.insert, Table.find]
  | cons e t ih =>
    simp only [Table.insert]
    split
    · simp [Table.find]
    · split
      · simp [Table.find]
      · next hne => simp [Table.find, Ne.symm hne, ih]

theorem Table.find_insert_ne {k j : Nat} (h : j ≠ k) (v : α) (t : Table α) :
    Table.find j (Table.insert k v t) = Table.find j t := by
  induction t with
  | nil => simp [Table.insert, Table.find, Ne.symm h]
  | cons e t ih =>
    simp only [Table.insert]
    split
    · simp [Table.find, Ne.symm h]
    · split
      · next heq => simp [Table.find, ← heq, Ne.symm h]
      · simp only [Table.find, ih]

@[simp] theorem Table.find_erase_self (k : Nat) (t : Table α) : Table.find k (Table.erase k t) = none := by
  induction t with
  | nil => rfl
  | cons e t ih =>
    by_cases h : e.1 = k
    · simpa [Table.erase, h] using ih
    · simpa [Table.erase, h, Table.find] using ih

theorem Table.find_erase_ne {k j : Nat} (h : j ≠ k) (t : Table α) :
    Table.find j (Table.erase k t) = Table.find j t := by
  induction t with
  | nil => rfl
  | cons e t ih =>
    by_cases hk : e.1 = k
    · simpa [Table.erase, hk, Table.find, Ne.symm h] using ih
    · simp only [Table.erase, bne_iff_ne, ne_eq, hk, not_false_eq_true, List.filter_cons_of_pos, Table.find]
      split
      · rfl
      · exact ih

@[simp] theorem Table.read_write_self [DecidableEq α] (d v : α) (k : Nat) (t : Table α) :
    Table.read d k (Table.write d k v t) = v := by
  unfold Table.read Table.write
  split
  · next h => simp [h]
  · simp

theorem Table.read_write_ne [DecidableEq α] (d v : α) {k j : Nat} (h : j ≠ k) (t : Table α) :
    Table.read d j (Table.write d k v t) = Table.read d j t := by
  unfold Table.read Table.write
  split
  · rw [Table.find_erase_ne h]
  · rw [Table.find_insert_ne h]

theorem Table.find_mapValues (f : α → α) (k : Nat) (t : Table α) :
    Table.find k (Table.mapValues f t) = (Table.find k t).map f := by
  induction t with
  | nil => rfl
  | cons e t ih =>
    by_cases h : e.1 = k
    · simp [Table.mapValues, Table.find, h]
    · simpa [Table.mapValues, Table.find, h] using ih

theorem Table.read_mapValues (f : α → α) (d : α) (hd : f d = d) (k : Nat) (t : Table α) :
    Table.read d k (Table.mapValues f t) = f (Table.read d k t) := by
  unfold Table.read
  rw [Table.find_mapValues]
  cases Table.find k t <;> simp [hd]

/-- The keys of a table after an insertion are those it had and the new one. -/
theorem Table.mem_insert {k : Nat} {v : α} {t : Table α} {e : Nat × α} (h : e ∈ Table.insert k v t) :
    e = (k, v) ∨ e ∈ t := by
  induction t with
  | nil => simpa [Table.insert] using h
  | cons x t ih =>
    simp only [Table.insert] at h
    split at h
    · simpa using h
    · split at h
      · rcases List.mem_cons.1 h with h | h
        · exact .inl h
        · exact .inr (List.mem_cons_of_mem _ h)
      · rcases List.mem_cons.1 h with h | h
        · exact .inr (h ▸ List.mem_cons_self ..)
        · exact (ih h).imp id (List.mem_cons_of_mem _)

theorem Table.insert_sorted (k : Nat) (v : α) {t : Table α} (h : Table.Sorted t) :
    Table.Sorted (Table.insert k v t) := by
  induction t with
  | nil => simp [Table.insert]
  | cons e t ih =>
    have ⟨he, ht⟩ := List.pairwise_cons.1 h
    simp only [Table.insert]
    split
    · next hlt =>
      refine List.pairwise_cons.2 ⟨fun x hx => ?_, h⟩
      rcases List.mem_cons.1 hx with rfl | hx
      · exact hlt
      · exact Nat.lt_trans hlt (he x hx)
    · next hnlt =>
      split
      · next heq => exact List.pairwise_cons.2 ⟨fun x hx => heq ▸ he x hx, ht⟩
      · next hne =>
        refine List.pairwise_cons.2 ⟨fun x hx => ?_, ih ht⟩
        rcases Table.mem_insert hx with rfl | hx
        · simp only at hne hnlt ⊢
          omega
        · exact he x hx

theorem Table.erase_sorted (k : Nat) {t : Table α} (h : Table.Sorted t) : Table.Sorted (Table.erase k t) :=
  List.Pairwise.filter _ h

theorem Table.write_sorted [DecidableEq α] (d v : α) (k : Nat) {t : Table α} (h : Table.Sorted t) :
    Table.Sorted (Table.write d k v t) := by
  unfold Table.write
  split
  · exact Table.erase_sorted k h
  · exact Table.insert_sorted k v h

/-- A write lists no entry at the default. -/
theorem Table.write_noDefault [DecidableEq α] (d v : α) (k : Nat) {t : Table α} (h : ∀ e ∈ t, e.2 ≠ d) :
    ∀ e ∈ Table.write d k v t, e.2 ≠ d := by
  unfold Table.write
  split
  · exact fun e he => h e (List.mem_filter.1 he).1
  · next hv =>
    intro e he
    rcases Table.mem_insert he with rfl | he
    · exact hv
    · exact h e he

/-! ## Bytes of a number (R202) -/

@[simp] theorem length_bytesOf (width n : Nat) : (bytesOf width n).length = width := by
  induction width generalizing n with
  | zero => rfl
  | succ w ih => simp [bytesOf, ih]

theorem numberOf_bytesOf (width n : Nat) : numberOf (bytesOf width n) = n % 256 ^ width := by
  induction width generalizing n with
  | zero => simp [bytesOf, numberOf, Nat.mod_one]
  | succ w ih =>
    have h : 256 ^ (w + 1) = 256 * 256 ^ w := Nat.pow_succ'
    rw [bytesOf, numberOf, ih, BitVec.toNat_ofNat, h, Nat.mod_mul]

@[simp] theorem length_padTo (width : Nat) (fill : Byte) (bytes : List Byte) :
    (padTo width fill bytes).length = width := by
  simp [padTo]
  omega

@[simp] theorem length_bytesOfOption (width : Nat) (n : Option Nat) : (bytesOfOption width n).length = width := by
  cases n <;> simp [bytesOfOption]

end Sys2Proof
end

