-- ==== Sys2Proof/Laws/State.lean ====
section
/-! SUPPORT. For every plain update of State: what it leaves alone, field by field, and what the accessors read after it. -/

namespace Sys2Proof.Machine

/-! ## Frames: one lemma per update, one equation per field it leaves alone -/

@[simp] theorem State.pokeByte_frame (a : Nat) (b : Byte) (s : State) :
    State.OnlyMem s (State.pokeByte a b s) := by
  exact ⟨rfl, rfl, rfl, rfl, rfl, rfl, rfl, rfl, rfl, rfl, rfl, rfl, rfl, rfl, rfl, rfl, rfl, rfl, rfl⟩

@[simp] theorem State.raise_frame (c : Cause) (s : State) :
    State.OnlyCause s (State.raise c s) := by
  exact ⟨rfl, rfl, rfl, rfl, rfl, rfl, rfl, rfl, rfl, rfl, rfl, rfl, rfl, rfl, rfl, rfl, rfl, rfl, rfl, rfl, rfl, rfl⟩

@[simp] theorem State.clearCauses_frame (bits : Word) (s : State) :
    State.OnlyCause s (State.clearCauses bits s) := by
  exact ⟨rfl, rfl, rfl, rfl, rfl, rfl, rfl, rfl, rfl, rfl, rfl, rfl, rfl, rfl, rfl, rfl, rfl, rfl, rfl, rfl, rfl, rfl⟩

@[simp] theorem State.setTenant_frame (i : Nat) (r : Tenant) (s : State) :
    State.OnlyTenants s (State.setTenant i r s) := by
  exact ⟨rfl, rfl, rfl, rfl, rfl, rfl, rfl, rfl, rfl, rfl, rfl, rfl, rfl, rfl, rfl, rfl, rfl, rfl, rfl⟩

@[simp] theorem State.setUnit_frame (i : Nat) (r : UnitRecord) (s : State) :
    State.OnlyUnits s (State.setUnit i r s) := by
  exact ⟨rfl, rfl, rfl, rfl, rfl, rfl, rfl, rfl, rfl, rfl, rfl, rfl, rfl, rfl, rfl, rfl, rfl, rfl, rfl⟩

@[simp] theorem State.setPortal_frame (p : Nat) (r : Portal) (s : State) :
    State.OnlyPortals s (State.setPortal p r s) := by
  exact ⟨rfl, rfl, rfl, rfl, rfl, rfl, rfl, rfl, rfl, rfl, rfl, rfl, rfl, rfl, rfl, rfl, rfl, rfl, rfl⟩

@[simp] theorem State.updPortal_frame (p : Nat) (f : Portal → Portal) (s : State) :
    State.OnlyPortals s (State.updPortal p f s) := by
  exact ⟨rfl, rfl, rfl, rfl, rfl, rfl, rfl, rfl, rfl, rfl, rfl, rfl, rfl, rfl, rfl, rfl, rfl, rfl, rfl⟩

@[simp] theorem State.setCar_frame (c : Nat) (r : Car) (s : State) :
    State.OnlyCars s (State.setCar c r s) := by
  exact ⟨rfl, rfl, rfl, rfl, rfl, rfl, rfl, rfl, rfl, rfl, rfl, rfl, rfl, rfl, rfl, rfl, rfl, rfl, rfl⟩

@[simp] theorem State.updCar_frame (c : Nat) (f : Car → Car) (s : State) :
    State.OnlyCars s (State.updCar c f s) := by
  exact ⟨rfl, rfl, rfl, rfl, rfl, rfl, rfl, rfl, rfl, rfl, rfl, rfl, rfl, rfl, rfl, rfl, rfl, rfl, rfl⟩

@[simp] theorem State.setLine_frame (l : Nat) (r : Line) (s : State) :
    State.OnlyLines s (State.setLine l r s) := by
  exact ⟨rfl, rfl, rfl, rfl, rfl, rfl, rfl, rfl, rfl, rfl, rfl, rfl, rfl, rfl, rfl, rfl, rfl, rfl, rfl⟩

@[simp] theorem State.updLine_frame (l : Nat) (f : Line → Line) (s : State) :
    State.OnlyLines s (State.updLine l f s) := by
  exact ⟨rfl, rfl, rfl, rfl, rfl, rfl, rfl, rfl, rfl, rfl, rfl, rfl, rfl, rfl, rfl, rfl, rfl, rfl, rfl⟩

@[simp] theorem State.setNode_frame (n : NodeId) (r : Node) (s : State) :
    State.OnlyNodes s (State.setNode n r s) := by
  exact ⟨rfl, rfl, rfl, rfl, rfl, rfl, rfl, rfl, rfl, rfl, rfl, rfl, rfl, rfl, rfl, rfl, rfl, rfl, rfl⟩

@[simp] theorem State.updVisit_frame (i : Nat) (f : Visit → Visit) (s : State) :
    State.OnlyRegister s (State.updVisit i f s) := by
  exact ⟨rfl, rfl, rfl, rfl, rfl, rfl, rfl, rfl, rfl, rfl, rfl, rfl, rfl, rfl, rfl, rfl, rfl, rfl, rfl⟩

@[simp] theorem State.shiftVisits_frame (old new : Nat) (s : State) :
    State.OnlyRegister s (State.shiftVisits old new s) := by
  exact ⟨rfl, rfl, rfl, rfl, rfl, rfl, rfl, rfl, rfl, rfl, rfl, rfl, rfl, rfl, rfl, rfl, rfl, rfl, rfl⟩

@[simp] theorem State.finishService_frame (stage : Stage) (s : State) :
    State.OnlySlips s (State.finishService stage s) := by
  exact ⟨rfl, rfl, rfl, rfl, rfl, rfl, rfl, rfl, rfl, rfl, rfl, rfl, rfl, rfl, rfl, rfl, rfl, rfl, rfl⟩

@[simp] theorem State.setMode_frame (m : SiteMode) (src : Option EvacuationSource) (s : State) :
    State.OnlyMode s (State.setMode m src s) := by
  exact ⟨rfl, rfl, rfl, rfl, rfl, rfl, rfl, rfl, rfl, rfl, rfl, rfl, rfl, rfl, rfl, rfl, rfl, rfl, rfl⟩

@[simp] theorem State.setFire_frame (active : Bool) (s : State) :
    State.OnlyMode s (State.setFire active s) := by
  exact ⟨rfl, rfl, rfl, rfl, rfl, rfl, rfl, rfl, rfl, rfl, rfl, rfl, rfl, rfl, rfl, rfl, rfl, rfl, rfl⟩

@[simp] theorem State.settleHold_frame (s : State) :
    State.OnlyMode s (State.settleHold s) := by
  exact ⟨rfl, rfl, rfl, rfl, rfl, rfl, rfl, rfl, rfl, rfl, rfl, rfl, rfl, rfl, rfl, rfl, rfl, rfl, rfl⟩

@[simp] theorem State.setMask_frame (bits : Word) (s : State) :
    State.OnlyBus s (State.setMask bits s) := by
  exact ⟨rfl, rfl, rfl, rfl, rfl, rfl, rfl, rfl, rfl, rfl, rfl, rfl, rfl, rfl, rfl, rfl, rfl, rfl, rfl⟩

@[simp] theorem State.refuse_frame (code : RefusalCode) (s : State) :
    State.OnlyBus s (State.refuse code s) := by
  exact ⟨rfl, rfl, rfl, rfl, rfl, rfl, rfl, rfl, rfl, rfl, rfl, rfl, rfl, rfl, rfl, rfl, rfl, rfl, rfl⟩

@[simp] theorem State.setRun_frame (r : RunState) (s : State) :
    State.OnlyBus s (State.setRun r s) := by
  exact ⟨rfl, rfl, rfl, rfl, rfl, rfl, rfl, rfl, rfl, rfl, rfl, rfl, rfl, rfl, rfl, rfl, rfl, rfl, rfl⟩

@[simp] theorem State.contactsUnknown_frame (n : NodeId) (s : State) :
    State.OnlyUnits s (State.contactsUnknown n s) := by
  exact ⟨rfl, rfl, rfl, rfl, rfl, rfl, rfl, rfl, rfl, rfl, rfl, rfl, rfl, rfl, rfl, rfl, rfl, rfl, rfl⟩

@[simp] theorem State.remaskWhere_frame (p : Tenant → Bool) (s : State) :
    State.OnlyTenants s (State.remaskWhere p s) := by
  exact ⟨rfl, rfl, rfl, rfl, rfl, rfl, rfl, rfl, rfl, rfl, rfl, rfl, rfl, rfl, rfl, rfl, rfl, rfl, rfl⟩

@[simp] theorem State.updTenant_frame (i : Nat) (f : Tenant → Tenant) (s : State) :
    State.OnlyTenants s (State.updTenant i f s) := by
  unfold State.updTenant
  split
  · exact State.setTenant_frame _ _ s
  · exact ⟨rfl, rfl, rfl, rfl, rfl, rfl, rfl, rfl, rfl, rfl, rfl, rfl, rfl, rfl, rfl, rfl, rfl, rfl, rfl⟩

@[simp] theorem State.updUnit_frame (i : Nat) (f : UnitRecord → UnitRecord) (s : State) :
    State.OnlyUnits s (State.updUnit i f s) := by
  unfold State.updUnit
  split
  · exact State.setUnit_frame _ _ s
  · exact ⟨rfl, rfl, rfl, rfl, rfl, rfl, rfl, rfl, rfl, rfl, rfl, rfl, rfl, rfl, rfl, rfl, rfl, rfl, rfl⟩

@[simp] theorem State.updNode_frame (n : NodeId) (f : Node → Node) (s : State) :
    State.OnlyNodes s (State.updNode n f s) := by
  unfold State.updNode
  split
  · exact State.setNode_frame _ _ s
  · exact ⟨rfl, rfl, rfl, rfl, rfl, rfl, rfl, rfl, rfl, rfl, rfl, rfl, rfl, rfl, rfl, rfl, rfl, rfl, rfl⟩

@[simp] theorem State.updZone_frame (z : Nat) (f : Zone → Zone) (s : State) :
    State.OnlyRegister s (State.updZone z f s) := by
  unfold State.updZone
  split
  · exact ⟨rfl, rfl, rfl, rfl, rfl, rfl, rfl, rfl, rfl, rfl, rfl, rfl, rfl, rfl, rfl, rfl, rfl, rfl, rfl⟩
  · exact ⟨rfl, rfl, rfl, rfl, rfl, rfl, rfl, rfl, rfl, rfl, rfl, rfl, rfl, rfl, rfl, rfl, rfl, rfl, rfl⟩

/-- A pass over a list keeps what every step of it keeps. -/
theorem State.forEach_keeps {α β : Type} (g : State → β) (f : α → State → State)
    (h : ∀ x s, g (f x s) = g s) (xs : List α) (s : State) : g (s.forEach xs f) = g s := by
  induction xs generalizing s with
  | nil => rfl
  | cons x xs ih => exact (ih (f x s)).trans (h x s)

/-- A pass over a list keeps every property that each step of it keeps. -/
theorem State.forEach_invariant {α : Type} (P : State → Prop) (f : α → State → State)
    (h : ∀ x s, P s → P (f x s)) (xs : List α) (s : State) (hs : P s) : P (s.forEach xs f) := by
  induction xs generalizing s with
  | nil => exact hs
  | cons x xs ih => exact ih (f x s) (h x s hs)

@[simp] theorem State.forEach_nil {α : Type} (f : α → State → State) (s : State) : s.forEach [] f = s := rfl

@[simp] theorem State.forEach_cons {α : Type} (x : α) (xs : List α) (f : α → State → State) (s : State) :
    s.forEach (x :: xs) f = (f x s).forEach xs f := rfl

/-! ## What is read after a write -/

@[simp] theorem State.tenant_setTenant_self (i : Nat) (r : Tenant) (s : State) :
    (s.setTenant i r).tenant i = some r := by
  simp [State.tenant, State.setTenant]

theorem State.tenant_setTenant_ne {i j : Nat} (h : j ≠ i) (r : Tenant) (s : State) :
    (s.setTenant i r).tenant j = s.tenant j :=
  Table.find_insert_ne h r s.tenants

@[simp] theorem State.unit_setUnit_self (i : Nat) (r : UnitRecord) (s : State) :
    (s.setUnit i r).unit i = some r := by
  simp [State.unit, State.setUnit]

theorem State.unit_setUnit_ne {i j : Nat} (h : j ≠ i) (r : UnitRecord) (s : State) :
    (s.setUnit i r).unit j = s.unit j :=
  Table.find_insert_ne h r s.units

@[simp] theorem State.portal_setPortal_self (p : Nat) (r : Portal) (s : State) :
    (s.setPortal p r).portal p = r := by
  simp [State.portal, State.setPortal]

theorem State.portal_setPortal_ne {p q : Nat} (h : q ≠ p) (r : Portal) (s : State) :
    (s.setPortal p r).portal q = s.portal q :=
  Table.read_write_ne Portal.blank r h s.portals

@[simp] theorem State.portal_updPortal_self (p : Nat) (f : Portal → Portal) (s : State) :
    (s.updPortal p f).portal p = f (s.portal p) := by
  simp [State.updPortal]

theorem State.portal_updPortal_ne {p q : Nat} (h : q ≠ p) (f : Portal → Portal) (s : State) :
    (s.updPortal p f).portal q = s.portal q :=
  State.portal_setPortal_ne h _ s

@[simp] theorem State.car_setCar_self (c : Nat) (r : Car) (s : State) : (s.setCar c r).car c = r := by
  simp [State.car, State.setCar]

theorem State.car_setCar_ne {c d : Nat} (h : d ≠ c) (r : Car) (s : State) : (s.setCar c r).car d = s.car d :=
  Table.read_write_ne Car.blank r h s.cars

@[simp] theorem State.car_updCar_self (c : Nat) (f : Car → Car) (s : State) :
    (s.updCar c f).car c = f (s.car c) := by
  simp [State.updCar]

theorem State.car_updCar_ne {c d : Nat} (h : d ≠ c) (f : Car → Car) (s : State) :
    (s.updCar c f).car d = s.car d :=
  State.car_setCar_ne h _ s

@[simp] theorem State.line_setLine_self (l : Nat) (r : Line) (s : State) : (s.setLine l r).line l = r := by
  simp [State.line, State.setLine]

theorem State.line_setLine_ne {l m : Nat} (h : m ≠ l) (r : Line) (s : State) :
    (s.setLine l r).line m = s.line m :=
  Table.read_write_ne Line.blank r h s.lines

@[simp] theorem State.line_updLine_self (l : Nat) (f : Line → Line) (s : State) :
    (s.updLine l f).line l = f (s.line l) := by
  simp [State.updLine]

theorem State.line_updLine_ne {l m : Nat} (h : m ≠ l) (f : Line → Line) (s : State) :
    (s.updLine l f).line m = s.line m :=
  State.line_setLine_ne h _ s

@[simp] theorem State.node_setNode_self (n : NodeId) (r : Node) (s : State) :
    (s.setNode n r).node n = some r := by
  simp [State.node, State.setNode]

theorem State.node_setNode_ne {n m : NodeId} (h : m.code ≠ n.code) (r : Node) (s : State) :
    (s.setNode n r).node m = s.node m :=
  Table.find_insert_ne h r s.nodes

theorem State.tenant_updTenant_self (i : Nat) (f : Tenant → Tenant) (s : State) :
    (s.updTenant i f).tenant i = (s.tenant i).map f := by
  unfold State.updTenant
  split
  · next t h => simp [h]
  · next h => simp [h]

theorem State.tenant_updTenant_ne {i j : Nat} (h : j ≠ i) (f : Tenant → Tenant) (s : State) :
    (s.updTenant i f).tenant j = s.tenant j := by
  unfold State.updTenant
  split
  · exact State.tenant_setTenant_ne h _ s
  · rfl

theorem State.unit_updUnit_self (i : Nat) (f : UnitRecord → UnitRecord) (s : State) :
    (s.updUnit i f).unit i = (s.unit i).map f := by
  unfold State.updUnit
  split
  · next t h => simp [h]
  · next h => simp [h]

theorem State.unit_updUnit_ne {i j : Nat} (h : j ≠ i) (f : UnitRecord → UnitRecord) (s : State) :
    (s.updUnit i f).unit j = s.unit j := by
  unfold State.updUnit
  split
  · exact State.unit_setUnit_ne h _ s
  · rfl

theorem State.node_updNode_self (n : NodeId) (f : Node → Node) (s : State) :
    (s.updNode n f).node n = (s.node n).map f := by
  unfold State.updNode
  split
  · next t h => simp [h]
  · next h => simp [h]

theorem State.zone_updZone_self {z : Nat} (hz : 1 ≤ z ∧ z ≤ 15) (f : Zone → Zone) (s : State) :
    (s.updZone z f).zone z = f (s.zone z) := by
  simp [State.updZone, State.zone, hz]

theorem State.zone_updZone_ne {z y : Nat} (h : y ≠ z) (f : Zone → Zone) (s : State) :
    (s.updZone z f).zone y = s.zone y := by
  unfold State.updZone
  split
  · exact Table.read_write_ne Zone.blank _ h s.register.zones
  · rfl

@[simp] theorem State.mode_setMode (m : SiteMode) (src : Option EvacuationSource) (s : State) :
    (s.setMode m src).mode = { s.mode with mode := m, source := src } := rfl

@[simp] theorem State.mode_setFire (active : Bool) (s : State) :
    (s.setFire active).mode = { s.mode with fireActive := active, hold := .stopped } := rfl

@[simp] theorem State.bus_refuse_run (code : RefusalCode) (s : State) : (s.refuse code).bus.run = s.bus.run := rfl

@[simp] theorem State.bus_refuse_mask (code : RefusalCode) (s : State) : (s.refuse code).bus.mask = s.bus.mask := rfl

@[simp] theorem State.bus_refuse_last (code : RefusalCode) (s : State) :
    (s.refuse code).bus.lastRefusal = code := rfl

@[simp] theorem State.bus_setRun (r : RunState) (s : State) : (s.setRun r).bus = { s.bus with run := r } := rfl

end Sys2Proof.Machine
end

