-- ==== Sys2Proof/Laws/Memory.lean ====
section
/-! SUPPORT. Common memory: what a byte reads as after a write, and that every operation which writes memory keeps its
canonical form and leaves every other field alone. -/

namespace Sys2Proof.Machine

/-! ## One byte -/

@[simp] theorem State.byteAt_pokeByte_self (a : Nat) (b : Byte) (s : State) : (s.pokeByte a b).byteAt a = b := by
  simp [State.byteAt, State.pokeByte]

theorem State.byteAt_pokeByte_ne {a c : Nat} (h : c ≠ a) (b : Byte) (s : State) :
    (s.pokeByte a b).byteAt c = s.byteAt c :=
  Table.read_write_ne blankByte b h s.mem

theorem State.byteAt_congr {s t : State} (h : t.mem = s.mem) (a : Nat) : t.byteAt a = s.byteAt a := by
  unfold State.byteAt
  rw [h]

/-! ## A run of bytes -/

@[simp] theorem State.pass_nil (s : State) : s.pass [] = s := rfl

@[simp] theorem State.pass_cons (x : Access) (l : List Access) (s : State) :
    s.pass (x :: l) = (s.pokeBytes x.1 x.2).pass l := rfl

@[simp] theorem State.pass_append (l m : List Access) (s : State) : s.pass (l ++ m) = (s.pass l).pass m :=
  List.foldl_append

/-- The accesses of a run of bytes write those bytes, in ascending order. -/
theorem State.poke_eq_pokeBytes (a : Nat) (bs : List Byte) (s : State) : s.poke a bs = s.pokeBytes a bs := by
  unfold State.poke
  induction a, bs using accessesOf.induct generalizing s with
  | case1 a => rfl
  | case2 a b => rfl
  | case3 a b c bs h ih => rw [accessesOf, if_pos h, State.pass_cons, ih]; rfl
  | case4 a b c bs h ih => rw [accessesOf, if_neg h, State.pass_cons, ih]; rfl

@[simp] theorem State.poke_nil (a : Nat) (s : State) : s.poke a [] = s := rfl

@[simp] theorem State.poke_cons (a : Nat) (b : Byte) (bs : List Byte) (s : State) :
    s.poke a (b :: bs) = (s.pokeByte a b).poke (a + 1) bs := by
  simp only [State.poke_eq_pokeBytes, State.pokeBytes]

/-- The accesses of a run of bytes are a write of the run. -/
@[simp] theorem State.pass_accessesOf (a : Nat) (bs : List Byte) (s : State) : s.pass (accessesOf a bs) = s.poke a bs :=
  rfl

theorem State.byteAt_poke_outside {a c : Nat} {bs : List Byte} (h : c < a ∨ a + bs.length ≤ c) (s : State) :
    (s.poke a bs).byteAt c = s.byteAt c := by
  induction bs generalizing a s with
  | nil => rfl
  | cons b bs ih =>
    simp only [List.length_cons] at h
    rw [State.poke_cons, ih (by omega), State.byteAt_pokeByte_ne (by omega)]

/-- A run of bytes reads as it was written. -/
theorem State.byteAt_poke_inside {a i : Nat} {bs : List Byte} (h : i < bs.length) (s : State) :
    (s.poke a bs).byteAt (a + i) = bs[i] := by
  induction bs generalizing a i s with
  | nil => simp at h
  | cons b bs ih =>
    rw [State.poke_cons]
    cases i with
    | zero => rw [State.byteAt_poke_outside (by omega)]; simp
    | succ i =>
      have h' : i < bs.length := by simpa using h
      simpa [Nat.add_assoc, Nat.add_comm 1] using ih (a := a + 1) h' (s.pokeByte a b)

@[simp] theorem State.poke_frame (a : Nat) (bs : List Byte) (s : State) : State.OnlyMem s (s.poke a bs) := by
  induction bs generalizing a s with
  | nil => exact ⟨rfl, rfl, rfl, rfl, rfl, rfl, rfl, rfl, rfl, rfl, rfl, rfl, rfl, rfl, rfl, rfl, rfl, rfl, rfl⟩
  | cons b bs ih => simpa [State.OnlyMem] using ih (a + 1) (s.pokeByte a b)

/-- What is read back from a run of bytes just written. -/
theorem State.peek_poke_self (a : Nat) (bs : List Byte) (s : State) : (s.poke a bs).peek a bs.length = bs := by
  refine List.ext_getElem (by simp [State.peek]) (fun i _ h => ?_)
  simp [State.peek, State.byteAt_poke_inside h]

/-- What is read elsewhere from memory after a run of bytes has been written. -/
theorem State.peek_poke_outside {a c n : Nat} {bs : List Byte} (h : c + n ≤ a ∨ a + bs.length ≤ c) (s : State) :
    (s.poke a bs).peek c n = s.peek c n := by
  refine List.map_congr_left (fun i hi => State.byteAt_poke_outside ?_ s)
  have := List.mem_range.1 hi
  omega

theorem State.wordAt_pokeWord_self (a n : Nat) (s : State) : (s.pokeWord a n).wordAt a = n % 65536 := by
  have h := State.peek_poke_self a (bytesOf 2 n) s
  rw [length_bytesOf] at h
  simp [State.wordAt, State.pokeWord, h, numberOf_bytesOf]

theorem State.wordAt_poke_outside {a c : Nat} {bs : List Byte} (h : c + 2 ≤ a ∨ a + bs.length ≤ c) (s : State) :
    (s.poke a bs).wordAt c = s.wordAt c := by
  unfold State.wordAt
  rw [State.peek_poke_outside h]

theorem State.byteAt_pokeWord_outside {a c : Nat} (h : c < a ∨ a + 2 ≤ c) (n : Nat) (s : State) :
    (s.pokeWord a n).byteAt c = s.byteAt c :=
  State.byteAt_poke_outside (by simpa using h) s

/-! ## What writes memory and nothing else -/

@[simp] theorem State.pokeBytes_frame (a : Nat) (bs : List Byte) (s : State) : State.OnlyMem s (s.pokeBytes a bs) :=
  State.poke_eq_pokeBytes a bs s ▸ State.poke_frame a bs s

@[simp] theorem State.pass_frame (l : List Access) (s : State) : State.OnlyMem s (s.pass l) := by
  induction l generalizing s with
  | nil => exact ⟨rfl, rfl, rfl, rfl, rfl, rfl, rfl, rfl, rfl, rfl, rfl, rfl, rfl, rfl, rfl, rfl, rfl, rfl, rfl⟩
  | cons x l ih => simpa [State.OnlyMem] using ih (s.pokeBytes x.1 x.2)

/-- R179: a handed value is written between two raises of the update count. -/
theorem State.mirror_eq (a : Nat) (v : List Byte) (s : State) : s.mirror a v =
    ((s.pokeWord 4 ((s.updateCount + 1) % 65536)).poke a v).pokeWord 4 ((s.updateCount + 2) % 65536) := by
  simp [State.mirror, State.mirrorAccesses, State.pokeWord]

@[simp] theorem State.pokeWord_frame (a n : Nat) (s : State) : State.OnlyMem s (s.pokeWord a n) :=
  State.poke_frame a _ s

@[simp] theorem State.mirror_frame (a : Nat) (v : List Byte) (s : State) : State.OnlyMem s (s.mirror a v) := by
  simp [State.OnlyMem, State.mirror_eq]

@[simp] theorem State.mirrorRun_frame (s : State) : State.OnlyMem s s.mirrorRun := State.mirror_frame _ _ s

@[simp] theorem State.mirrorMode_frame (s : State) : State.OnlyMem s s.mirrorMode := State.mirror_frame _ _ s

@[simp] theorem State.mirrorClock_frame (s : State) : State.OnlyMem s s.mirrorClock := State.mirror_frame _ _ s

@[simp] theorem State.mirrorVisits_frame (s : State) : State.OnlyMem s s.mirrorVisits := State.mirror_frame _ _ s

@[simp] theorem State.mirrorJournal_frame (s : State) : State.OnlyMem s s.mirrorJournal := State.mirror_frame _ _ s

@[simp] theorem State.setSlipState_frame (n st : Nat) (s : State) : State.OnlyMem s (s.setSlipState n st) :=
  State.pokeWord_frame _ _ s

/-- R179: a handed value lies in block 0; no byte outside the update count and the value changes. -/
theorem State.byteAt_mirror_outside {a c : Nat} {v : List Byte} (hc : c < 4 ∨ 6 ≤ c)
    (hv : c < a ∨ a + v.length ≤ c) (s : State) : (s.mirror a v).byteAt c = s.byteAt c := by
  rw [State.mirror_eq, State.byteAt_pokeWord_outside hc, State.byteAt_poke_outside hv, State.byteAt_pokeWord_outside hc]

/-! ## A record while it is being written (R178) -/

@[simp] theorem State.during_zero (l : List Access) (s : State) : s.during 0 l = s := rfl

/-- Once all accesses have been passed, the record stands. -/
@[simp] theorem State.during_all {k : Nat} {l : List Access} (h : l.length ≤ k) (s : State) :
    s.during k l = s.pass l := by
  rw [State.during, List.take_of_length_le h]

theorem State.during_append (k : Nat) (l m : List Access) (s : State) :
    s.during k (l ++ m) = (s.during k l).during (k - l.length) m := by
  simp [State.during, List.take_append]

@[simp] theorem State.during_frame (k : Nat) (l : List Access) (s : State) : State.OnlyMem s (s.during k l) :=
  State.pass_frame _ s

/-- No access of a run of bytes reaches over the end of a word. -/
theorem accessesOf_oneWord (a : Nat) (bs : List Byte) :
    ∀ x ∈ accessesOf a bs, x.2 ≠ [] ∧ x.1 + x.2.length ≤ x.1 / 2 * 2 + 2 := by
  induction a, bs using accessesOf.induct with
  | case1 a => simp [accessesOf]
  | case2 a b => simp [accessesOf]; omega
  | case3 a b c bs h ih =>
    intro x hx
    rw [accessesOf, if_pos h, List.mem_cons] at hx
    rcases hx with rfl | hx
    · simp; omega
    · exact ih x hx
  | case4 a b c bs h ih =>
    intro x hx
    rw [accessesOf, if_neg h, List.mem_cons] at hx
    rcases hx with rfl | hx
    · simp; omega
    · exact ih x hx

/-- A write of the word at an even address is one access. -/
theorem accessesOf_word {a : Nat} (h : a % 2 = 0) (n : Nat) : accessesOf a (bytesOf 2 n) = [(a, bytesOf 2 n)] := by
  simp [bytesOf, accessesOf, h]

theorem State.poke_append (a : Nat) (bs cs : List Byte) (s : State) :
    s.poke a (bs ++ cs) = (s.poke a bs).poke (a + bs.length) cs := by
  induction bs generalizing a s with
  | nil => rfl
  | cons b bs ih => simp [ih, Nat.add_assoc, Nat.add_comm 1]

/-- What stands between two accesses of a run of bytes: a first part of the run, up to the end of a word. -/
theorem State.during_accessesOf (k a : Nat) (bs : List Byte) (s : State) :
    ∃ j ≤ bs.length, s.during k (accessesOf a bs) = s.poke a (bs.take j) ∧
      (j = 0 ∨ j = bs.length ∨ (a + j) % 2 = 0) := by
  induction a, bs using accessesOf.induct generalizing k s with
  | case1 a => exact ⟨0, by simp, by simp [accessesOf, State.during], .inl rfl⟩
  | case2 a b =>
    cases k with
    | zero => exact ⟨0, by simp, by simp, .inl rfl⟩
    | succ k => exact ⟨1, by simp, by simp [accessesOf, State.during, State.pokeBytes], .inr (.inl rfl)⟩
  | case3 a b c bs h ih =>
    cases k with
    | zero => exact ⟨0, by simp, by simp, .inl rfl⟩
    | succ k =>
      obtain ⟨j, hj, he, hw⟩ := ih k ((s.pokeByte a b).pokeByte (a + 1) c)
      refine ⟨j + 2, by simpa using hj, ?_, ?_⟩
      · rw [accessesOf, if_pos h]
        simpa [State.during, State.pokeBytes, Nat.add_assoc] using he
      · simp only [List.length_cons]
        omega
  | case4 a b c bs h ih =>
    cases k with
    | zero => exact ⟨0, by simp, by simp, .inl rfl⟩
    | succ k =>
      obtain ⟨j, hj, he, hw⟩ := ih k (s.pokeByte a b)
      refine ⟨j + 1, by simpa using hj, ?_, ?_⟩
      · rw [accessesOf, if_neg h]
        simpa [State.during, State.pokeBytes] using he
      · simp only [List.length_cons] at hw ⊢
        omega

/-- A byte outside a run of bytes reads as before, however many of the run's accesses have been passed. -/
theorem State.byteAt_during_outside {a c : Nat} {bs : List Byte} (h : c < a ∨ a + bs.length ≤ c) (k : Nat) (s : State) :
    (s.during k (accessesOf a bs)).byteAt c = s.byteAt c := by
  obtain ⟨j, hj, he, -⟩ := State.during_accessesOf k a bs s
  rw [he]
  refine State.byteAt_poke_outside ?_ s
  rw [List.length_take]
  omega

/-- A word that meets no byte of a run reads as before, however many of the run's accesses have been passed. -/
theorem State.wordAt_during_outside {a c : Nat} {bs : List Byte} (h : c + 2 ≤ a ∨ a + bs.length ≤ c) (k : Nat)
    (s : State) : (s.during k (accessesOf a bs)).wordAt c = s.wordAt c := by
  obtain ⟨j, hj, he, -⟩ := State.during_accessesOf k a bs s
  rw [he]
  refine State.wordAt_poke_outside ?_ s
  rw [List.length_take]
  omega

/-- A word that is read while a run of bytes is being written is whole. -/
theorem State.wordAt_during_accessesOf {w : Nat} (hw : w % 2 = 0) (k a : Nat) (bs : List Byte) (s : State) :
    (s.during k (accessesOf a bs)).wordAt w = s.wordAt w ∨
      (s.during k (accessesOf a bs)).wordAt w = (s.poke a bs).wordAt w := by
  obtain ⟨j, hj, he, h | h | h⟩ := State.during_accessesOf k a bs s
  · subst h
    exact .inl (by rw [he]; simp)
  · exact .inr (by rw [he, h, List.take_length])
  · have hl : (bs.take j).length = j := by rw [List.length_take]; omega
    by_cases h2 : w + 2 ≤ a + j
    · right
      conv => rhs; rw [← List.take_append_drop j bs, State.poke_append, hl]
      rw [he, State.wordAt_poke_outside (.inl h2)]
    · exact .inl (by rw [he]; exact State.wordAt_poke_outside (.inr (by omega)) s)

theorem State.wordAt_lt (a : Nat) (s : State) : s.wordAt a < 65536 := by
  have h0 := (s.byteAt a).isLt
  have h1 := (s.byteAt (a + 1)).isLt
  simp [State.wordAt, State.peek, List.range, List.range.loop, numberOf]
  omega

theorem State.length_mirrorAccesses (a : Nat) (v : List Byte) (s : State) :
    (s.mirrorAccesses a v).length = (accessesOf a v).length + 2 := by
  simp [State.mirrorAccesses, accessesOf_word]

/-- R179: the update count while a value is being handed: one higher from the first access on, two higher after the last. -/
theorem State.updateCount_during_mirror {a : Nat} (ha : 6 ≤ a) (v : List Byte) (k : Nat) (s : State) :
    (s.during k (s.mirrorAccesses a v)).updateCount =
      if k = 0 then s.updateCount
      else if k < (s.mirrorAccesses a v).length then (s.updateCount + 1) % 65536
      else (s.updateCount + 2) % 65536 := by
  have hl := State.length_mirrorAccesses a v s
  split
  · next h => subst h; rfl
  · next h0 =>
    split
    · next hk =>
      have h1 : (accessesOf 4 (bytesOf 2 ((s.updateCount + 1) % 65536)) ++ accessesOf a v).length =
          (accessesOf a v).length + 1 := by
        simp [accessesOf_word]
      rw [State.mirrorAccesses, State.during_append, h1, Nat.sub_eq_zero_of_le (by omega), State.during_zero,
        State.during_append, State.updateCount, State.wordAt_during_outside (.inl (by omega)),
        State.during_all (by simp [accessesOf_word]; omega), State.pass_accessesOf, ← State.pokeWord,
        State.wordAt_pokeWord_self, Nat.mod_mod]
    · next hk =>
      rw [State.during_all (by omega), ← State.mirror, State.mirror_eq, State.updateCount,
        State.wordAt_pokeWord_self, Nat.mod_mod]

/-! ## The canonical form -/

/-- One write keeps the canonical form. -/
theorem Memory.wf_write (a : Nat) (b : Byte) {m : List Host.Cell} (h : Memory.wf m) :
    Memory.wf (Table.write blankByte a b m) :=
  ⟨Table.write_sorted blankByte b a h.1, Table.write_noDefault blankByte b a h.2⟩

theorem Memory.wf_pokeByte (a : Nat) (b : Byte) {s : State} (h : Memory.wf s.mem) : Memory.wf (s.pokeByte a b).mem :=
  Memory.wf_write a b h

theorem Memory.wf_poke (a : Nat) (bs : List Byte) {s : State} (h : Memory.wf s.mem) : Memory.wf (s.poke a bs).mem := by
  induction bs generalizing a s with
  | nil => exact h
  | cons b bs ih => exact State.poke_cons a b bs s ▸ ih (a + 1) (Memory.wf_pokeByte a b h)

theorem Memory.wf_pass (l : List Access) {s : State} (h : Memory.wf s.mem) : Memory.wf (s.pass l).mem := by
  induction l generalizing s with
  | nil => exact h
  | cons x l ih =>
    rw [State.pass_cons, ← State.poke_eq_pokeBytes]
    exact ih (Memory.wf_poke x.1 x.2 h)

theorem Memory.wf_pokeWord (a n : Nat) {s : State} (h : Memory.wf s.mem) : Memory.wf (s.pokeWord a n).mem :=
  Memory.wf_poke a _ h

theorem Memory.wf_mirror (a : Nat) (v : List Byte) {s : State} (h : Memory.wf s.mem) : Memory.wf (s.mirror a v).mem :=
  Memory.wf_pass _ h

theorem Memory.wf_takePage (p : Nat) {s : State} (h : Memory.wf s.mem) : Memory.wf (s.takePage p).mem :=
  Memory.wf_pass _ h

theorem Memory.wf_raise (c : Cause) {s : State} (h : Memory.wf s.mem) : Memory.wf (s.raise c).mem := h

theorem Memory.wf_markFull (r : CloseReason) {s : State} (h : Memory.wf s.mem) : Memory.wf (s.markFull r).mem :=
  Memory.wf_pass (fullAccesses r s.journal.page) h

theorem Memory.wf_closePage (r : CloseReason) {s : State} (h : Memory.wf s.mem) : Memory.wf (s.closePage r).mem := by
  have h' := Memory.wf_markFull r h
  unfold State.closePage
  dsimp only
  split
  · exact Memory.wf_mirror _ _ (Memory.wf_takePage _ h')
  · exact Memory.wf_mirror _ _ h'

theorem Memory.wf_placeEntry (e : Entry) {s : State} (h : Memory.wf s.mem) : Memory.wf (s.placeEntry e).mem := by
  have h' := Memory.wf_pass (s.entryAccesses e) h
  unfold State.placeEntry State.beginPage
  dsimp only
  split <;> exact h'

theorem Memory.wf_writeEntry (e : Entry) {s : State} (h : Memory.wf s.mem) : Memory.wf (s.writeEntry e).mem := by
  have h' : Memory.wf (if e.kind.alarm then (s.placeEntry e).raise .alarm else s.placeEntry e).mem := by
    split
    · exact Memory.wf_raise _ (Memory.wf_placeEntry e h)
    · exact Memory.wf_placeEntry e h
  unfold State.writeEntry
  dsimp only
  generalize (if e.kind.alarm then (s.placeEntry e).raise .alarm else s.placeEntry e) = t at h'
  split
  · exact Memory.wf_closePage _ h'
  · exact h'

theorem Memory.wf_forEach {α : Type} {f : α → State → State}
    (hf : ∀ x s, Memory.wf s.mem → Memory.wf (f x s).mem) (xs : List α) {s : State} (h : Memory.wf s.mem) :
    Memory.wf (s.forEach xs f).mem :=
  State.forEach_invariant (fun s => Memory.wf s.mem) f hf xs s h

theorem Memory.wf_recover {s : State} (h : Memory.wf s.mem) : Memory.wf s.recover.mem := by
  have h' : Memory.wf (State.forEach s.journal.holdover State.writeEntry
      { s.takePage s.journal.page with
        journal := { (s.takePage s.journal.page).journal with holdover := [] } }).mem :=
    Memory.wf_forEach (fun e _ => Memory.wf_writeEntry e) _ (Memory.wf_takePage _ h)
  unfold State.recover
  dsimp only
  split
  · exact h'
  · exact Memory.wf_mirror _ _ (Memory.wf_writeEntry _ h')

theorem Memory.wf_dropRoutine {s : State} (h : Memory.wf s.mem) : Memory.wf s.dropRoutine.mem := by
  unfold State.dropRoutine
  split
  · exact Memory.wf_mirror _ _ h
  · exact h

theorem Memory.wf_dropAlarm {s : State} (h : Memory.wf s.mem) : Memory.wf s.dropAlarm.mem := by
  unfold State.dropAlarm
  split
  · exact Memory.wf_mirror _ _ h
  · exact h

theorem Memory.wf_submit (e : Entry) {s : State} (h : Memory.wf s.mem) : Memory.wf (s.submit e).mem := by
  unfold State.submit State.holdEntry
  dsimp only
  split
  · exact Memory.wf_writeEntry e h
  · split
    · exact Memory.wf_writeEntry e (Memory.wf_recover h)
    · split
      · split
        · exact h
        · exact Memory.wf_dropAlarm h
      · exact Memory.wf_dropRoutine h

theorem Memory.wf_log (kind : EntryKind) (subject tenant : Option Nat) (detail : List Byte) {s : State}
    (h : Memory.wf s.mem) : Memory.wf (s.log kind subject tenant detail).mem :=
  Memory.wf_submit _ h

theorem Memory.wf_writeAnswer (n tag : Nat) (a : Answer) {s : State} (h : Memory.wf s.mem) :
    Memory.wf (s.writeAnswer n tag a).mem :=
  Memory.wf_raise _ (Memory.wf_pass _ h)

/-- Common memory after power-on is in its canonical form. -/
theorem Memory.wf_reset : Memory.wf State.reset.mem := by
  refine ⟨?_, ?_⟩ <;> decide

end Sys2Proof.Machine
end

