-- ==== Sys2Proof/Laws/Frames.lean ====
section
/-! SUPPORT. What each shared operation leaves alone: for every composite operation, one lemma that names the part of State
it can change. -/

namespace Sys2Proof.Machine

/-- A pass over a list stays within a frame that each of its steps stays within. -/
theorem State.forEach_frame {α : Type} (R : State → State → Prop) (refl : ∀ s, R s s)
    (trans : ∀ s t u, R s t → R t u → R s u) (f : α → State → State) (h : ∀ x s, R s (f x s)) (xs : List α)
    (s : State) : R s (s.forEach xs f) := by
  induction xs generalizing s with
  | nil => exact refl s
  | cons x xs ih => exact trans _ _ _ (h x s) (ih (f x s))

/-! ## The journal -/

@[simp] theorem State.takePage_frame (p : Nat) (s : State) :
    State.OnlyJournal s (State.takePage p s) := by
  unfold State.takePage
  dsimp only
  simp [State.OnlyJournal]

@[simp] theorem State.markFull_frame (r : CloseReason) (s : State) :
    State.OnlyJournal s (State.markFull r s) := by
  unfold State.markFull
  dsimp only
  simp [State.OnlyJournal]

@[simp] theorem State.stallOn_frame (q : Nat) (s : State) :
    State.OnlyJournal s (State.stallOn q s) := by
  unfold State.stallOn
  dsimp only
  simp [State.OnlyJournal]

@[simp] theorem State.closePage_frame (r : CloseReason) (s : State) :
    State.OnlyJournal s (State.closePage r s) := by
  unfold State.closePage
  dsimp only
  (repeat' split) <;> simp [State.OnlyJournal]

@[simp] theorem State.beginPage_frame (s : State) :
    State.OnlyJournal s (State.beginPage s) := by
  unfold State.beginPage
  simp [State.OnlyJournal]

@[simp] theorem State.placeEntry_frame (e : Entry) (s : State) :
    State.OnlyJournal s (State.placeEntry e s) := by
  unfold State.placeEntry
  dsimp only
  (repeat' split) <;> simp [State.OnlyJournal]

@[simp] theorem State.writeEntry_frame (e : Entry) (s : State) :
    State.OnlyJournal s (State.writeEntry e s) := by
  unfold State.writeEntry
  dsimp only
  (repeat' split) <;> simp [State.OnlyJournal]

@[simp] theorem State.writeEntries_frame (es : List Entry) (s : State) :
    State.OnlyJournal s (s.forEach es State.writeEntry) := by
  exact State.forEach_frame State.OnlyJournal (by simp [State.OnlyJournal]) (by simp +contextual [State.OnlyJournal]) _
    (by intros; simp [State.OnlyJournal]) _ s

@[simp] theorem State.dropRoutine_frame (s : State) :
    State.OnlyJournal s (State.dropRoutine s) := by
  unfold State.dropRoutine
  (repeat' split) <;> simp [State.OnlyJournal]

@[simp] theorem State.dropAlarm_frame (s : State) :
    State.OnlyJournal s (State.dropAlarm s) := by
  unfold State.dropAlarm
  (repeat' split) <;> simp [State.OnlyJournal]

@[simp] theorem State.recover_frame (s : State) :
    State.OnlyJournal s (State.recover s) := by
  unfold State.recover
  dsimp only
  (repeat' split) <;> simp [State.OnlyJournal]

@[simp] theorem State.holdEntry_frame (e : Entry) (s : State) :
    State.OnlyJournal s (State.holdEntry e s) := by
  unfold State.holdEntry
  dsimp only
  (repeat' split) <;> simp [State.OnlyJournal]

@[simp] theorem State.submit_frame (e : Entry) (s : State) :
    State.OnlyJournal s (State.submit e s) := by
  unfold State.submit
  (repeat' split) <;> simp [State.OnlyJournal]

@[simp] theorem State.log_frame (kind : EntryKind) (subject tenant : Option Nat) (detail : List Byte) (s : State) :
    State.OnlyJournal s (State.log kind subject tenant detail s) := by
  exact State.submit_frame _ s

@[simp] theorem State.flushExpiry_frame (s : State) :
    State.OnlyJournal s (State.flushExpiry s) := by
  unfold State.flushExpiry
  (repeat' split) <;> simp [State.OnlyJournal]

@[simp] theorem State.reexaminePage_frame (s : State) :
    State.OnlyJournal s (State.reexaminePage s) := by
  unfold State.reexaminePage
  (repeat' split) <;> simp [State.OnlyJournal]

@[simp] theorem State.journalReset_frame (s : State) :
    State.OnlyJournal s (State.journalReset s) := by
  unfold State.journalReset
  dsimp only
  (repeat' split) <;> simp [State.OnlyJournal]

/-! ## The unit monitor -/

@[simp] theorem State.logArmed_frame (u : Nat) (tenant : Option Nat) (reason : ArmReason) (flag : Option SeenFlag) (s : State) :
    State.OnlyJournal s (State.logArmed u tenant reason flag s) := by
  unfold State.logArmed
  simp [State.OnlyJournal]

@[simp] theorem State.holdBegins_frame (u : Nat) (tenant : Option Nat) (s : State) :
    State.OnlyUnitMonitor s (State.holdBegins u tenant s) := by
  unfold State.holdBegins
  (repeat' split) <;> simp [State.OnlyUnitMonitor]

@[simp] theorem State.holdEnds_frame (u : Nat) (tenant : Option Nat) (s : State) :
    State.OnlyUnitMonitor s (State.holdEnds u tenant s) := by
  unfold State.holdEnds
  (repeat' split) <;> simp [State.OnlyUnitMonitor]

@[simp] theorem State.setHolders_frame (u n : Nat) (tenant : Option Nat) (s : State) :
    State.OnlyUnitMonitor s (State.setHolders u n tenant s) := by
  unfold State.setHolders
  dsimp only
  (repeat' split) <;> simp [State.OnlyUnitMonitor]

@[simp] theorem State.gainHold_frame (u tenant : Nat) (s : State) :
    State.OnlyUnitMonitor s (State.gainHold u tenant s) := by
  unfold State.gainHold
  (repeat' split) <;> simp [State.OnlyUnitMonitor]

@[simp] theorem State.loseHold_frame (u tenant : Nat) (s : State) :
    State.OnlyUnitMonitor s (State.loseHold u tenant s) := by
  unfold State.loseHold
  (repeat' split) <;> simp [State.OnlyUnitMonitor]

@[simp] theorem State.contactReport_frame (u : Nat) (opened : Bool) (how : ReplyStanding) (s : State) :
    State.OnlyUnitMonitor s (State.contactReport u opened how s) := by
  unfold State.contactReport
  dsimp only
  (repeat' split) <;> simp [State.OnlyUnitMonitor]

@[simp] theorem State.contactChange_frame (u : Nat) (contact : Option Contact) (s : State) :
    State.OnlyUnitMonitor s (State.contactChange u contact s) := by
  unfold State.contactChange
  dsimp only
  (repeat' split) <;> simp [State.OnlyUnitMonitor]

@[simp] theorem State.tamperReport_frame (n : NodeId) (tamper : Bool) (how : ReplyStanding) (s : State) :
    State.OnlyUnitReport s (State.tamperReport n tamper how s) := by
  unfold State.tamperReport
  dsimp only
  (repeat' split) <;> simp [State.OnlyUnitReport]

@[simp] theorem State.inputReport_frame (n : NodeId) (inputs : Nat) (how : ReplyStanding) (i : Nat) (s : State) :
    State.OnlyUnitMonitor s (State.inputReport n inputs how i s) := by
  unfold State.inputReport
  (repeat' split) <;> simp [State.OnlyUnitMonitor]

@[simp] theorem State.inputReports_frame (n : NodeId) (inputs : Nat) (how : ReplyStanding) (is : List Nat) (s : State) :
    State.OnlyUnitMonitor s (s.forEach is (State.inputReport n inputs how)) := by
  exact State.forEach_frame State.OnlyUnitMonitor (by simp [State.OnlyUnitMonitor]) (by simp +contextual [State.OnlyUnitMonitor]) _
    (by intros; simp [State.OnlyUnitMonitor]) _ s

@[simp] theorem State.unitReport_frame (n : NodeId) (inputs : Nat) (tamper : Bool) (how : ReplyStanding) (s : State) :
    State.OnlyUnitReport s (State.unitReport n inputs tamper how s) := by
  unfold State.unitReport
  simp [State.OnlyUnitReport]

/-! ## The visit register -/

@[simp] theorem State.enterZone_frame (z party : Nat) (s : State) :
    State.OnlyRegister s (State.enterZone z party s) := by
  unfold State.enterZone
  simp [State.OnlyRegister]

@[simp] theorem State.leaveZone_frame (z party : Nat) (s : State) :
    State.OnlyRegister s (State.leaveZone z party s) := by
  unfold State.leaveZone
  simp [State.OnlyRegister]

@[simp] theorem State.reserve_frame (p : Passage) (s : State) :
    State.OnlyRegister s (State.reserve p s) := by
  unfold State.reserve
  dsimp only
  (repeat' split) <;> simp [State.OnlyRegister]

@[simp] theorem State.unreserve_frame (p : Passage) (s : State) :
    State.OnlyRegister s (State.unreserve p s) := by
  unfold State.unreserve
  dsimp only
  (repeat' split) <;> simp [State.OnlyRegister]

@[simp] theorem State.gainAll_frame (tenant : Nat) (us : List Nat) (s : State) :
    State.OnlyUnitMonitor s (s.forEach us (fun u s => s.gainHold u tenant)) := by
  exact State.forEach_frame State.OnlyUnitMonitor (by simp [State.OnlyUnitMonitor]) (by simp +contextual [State.OnlyUnitMonitor]) _
    (by intros; simp [State.OnlyUnitMonitor]) _ s

@[simp] theorem State.loseAll_frame (tenant : Nat) (us : List Nat) (s : State) :
    State.OnlyUnitMonitor s (s.forEach us (fun u s => s.loseHold u tenant)) := by
  exact State.forEach_frame State.OnlyUnitMonitor (by simp [State.OnlyUnitMonitor]) (by simp +contextual [State.OnlyUnitMonitor]) _
    (by intros; simp [State.OnlyUnitMonitor]) _ s

@[simp] theorem State.gainHolds_frame (tenant z : Nat) (s : State) :
    State.OnlyUnitMonitor s (State.gainHolds tenant z s) := by
  unfold State.gainHolds
  simp [State.OnlyUnitMonitor]

@[simp] theorem State.loseHolds_frame (tenant z : Nat) (s : State) :
    State.OnlyUnitMonitor s (State.loseHolds tenant z s) := by
  unfold State.loseHolds
  simp [State.OnlyUnitMonitor]

@[simp] theorem State.endVisit_frame (tenant : Nat) (reason : EndReason) (s : State) :
    State.OnlyVisits s (State.endVisit tenant reason s) := by
  unfold State.endVisit
  dsimp only
  (repeat' split) <;> simp [State.OnlyVisits]

@[simp] theorem State.applyCreate_frame (p : Passage) (s : State) :
    State.OnlyVisits s (State.applyCreate p s) := by
  unfold State.applyCreate
  dsimp only
  (repeat' split) <;> simp [State.OnlyVisits]

@[simp] theorem State.applyMove_frame (p : Passage) (s : State) :
    State.OnlyVisits s (State.applyMove p s) := by
  unfold State.applyMove
  dsimp only
  (repeat' split) <;> simp [State.OnlyVisits]

@[simp] theorem State.completePassage_frame (p : Passage) (s : State) :
    State.OnlyVisits s (State.completePassage p s) := by
  unfold State.completePassage
  (repeat' split) <;> simp [State.OnlyVisits]

@[simp] theorem State.minuteEntries_frame (v : Visit) (s : State) :
    State.OnlyJournal s (State.minuteEntries v s) := by
  unfold State.minuteEntries
  dsimp only
  (repeat' split) <;> simp [State.OnlyJournal]

@[simp] theorem State.minuteEntriesAll_frame (vs : List Visit) (s : State) :
    State.OnlyJournal s (s.forEach vs State.minuteEntries) := by
  exact State.forEach_frame State.OnlyJournal (by simp [State.OnlyJournal]) (by simp +contextual [State.OnlyJournal]) _
    (by intros; simp [State.OnlyJournal]) _ s

@[simp] theorem State.visitMinute_frame (s : State) :
    State.OnlyVisits s (State.visitMinute s) := by
  unfold State.visitMinute
  simp [State.OnlyVisits]

/-! ## Portals -/

@[simp] theorem State.handLock_frame (p : Nat) (s : State) :
    State.OnlyPortalUnit s (State.handLock p s) := by
  unfold State.handLock
  dsimp only
  (repeat' split) <;> simp [State.OnlyPortalUnit]

@[simp] theorem State.releaseLockNode_frame (n : NodeId) (s : State) :
    State.OnlyNodes s (State.releaseLockNode n s) := by
  unfold State.releaseLockNode
  simp [State.OnlyNodes]

@[simp] theorem State.holdUnlocked_frame (p : Nat) (s : State) :
    State.OnlyPortalUnit s (State.holdUnlocked p s) := by
  unfold State.holdUnlocked
  dsimp only
  simp [State.OnlyPortalUnit]

@[simp] theorem State.applyConfig_frame (p : Nat) (c : PortalConfig) (s : State) :
    State.OnlyPortalUnit s (State.applyConfig p c s) := by
  unfold State.applyConfig
  dsimp only
  (repeat' split) <;> simp [State.OnlyPortalUnit]

@[simp] theorem State.applyDeferred_frame (p : Nat) (s : State) :
    State.OnlyPortalUnit s (State.applyDeferred p s) := by
  unfold State.applyDeferred
  (repeat' split) <;> simp [State.OnlyPortalUnit]

@[simp] theorem State.enterSecure_frame (p : Nat) (s : State) :
    State.OnlyPortalUnit s (State.enterSecure p s) := by
  unfold State.enterSecure
  simp [State.OnlyPortalUnit]

@[simp] theorem State.relock_frame (p : Nat) (s : State) :
    State.OnlyPortalUnit s (State.relock p s) := by
  unfold State.relock
  dsimp only
  (repeat' split) <;> simp [State.OnlyPortalUnit]

@[simp] theorem State.evaluateSources_frame (p : Nat) (s : State) :
    State.OnlyPortalUnit s (State.evaluateSources p s) := by
  unfold State.evaluateSources
  dsimp only
  (repeat' split) <;> simp [State.OnlyPortalUnit]

@[simp] theorem State.refreshWindow_frame (p : Nat) (s : State) :
    State.OnlyPortalUnit s (State.refreshWindow p s) := by
  unfold State.refreshWindow
  (repeat' split) <;> simp [State.OnlyPortalUnit]

@[simp] theorem State.refreshWindows_frame (s : State) :
    State.OnlyPortalUnit s (State.refreshWindows s) := by
  exact State.forEach_frame State.OnlyPortalUnit (by simp [State.OnlyPortalUnit]) (by simp +contextual [State.OnlyPortalUnit]) _
    (by intros; simp [State.OnlyPortalUnit]) _ s

@[simp] theorem State.evaluateAll_frame (s : State) :
    State.OnlyPortalUnit s (State.evaluateAll s) := by
  exact State.forEach_frame State.OnlyPortalUnit (by simp [State.OnlyPortalUnit]) (by simp +contextual [State.OnlyPortalUnit]) _
    (by intros; simp [State.OnlyPortalUnit]) _ s

@[simp] theorem State.unlist_frame (p : Nat) (g : Passage) (s : State) :
    State.OnlyPortalUnit s (State.unlist p g s) := by
  unfold State.unlist
  simp [State.OnlyPortalUnit]

@[simp] theorem State.cancelPassage_frame (p : Nat) (reason : CancelReason) (g : Passage) (s : State) :
    State.OnlyPortalUnit s (State.cancelPassage p reason g s) := by
  unfold State.cancelPassage
  simp [State.OnlyPortalUnit]

@[simp] theorem State.cancelAll_frame (p : Nat) (reason : CancelReason) (s : State) :
    State.OnlyPortalUnit s (State.cancelAll p reason s) := by
  exact State.forEach_frame State.OnlyPortalUnit (by simp [State.OnlyPortalUnit]) (by simp +contextual [State.OnlyPortalUnit]) _
    (by intros; simp [State.OnlyPortalUnit]) _ s

@[simp] theorem State.cancelTransit_frame (tenant : Nat) (reason : CancelReason) (s : State) :
    State.OnlyPortalUnit s (State.cancelTransit tenant reason s) := by
  unfold State.cancelTransit
  (repeat' split) <;> simp [State.OnlyPortalUnit]

@[simp] theorem State.logPassage_frame (p : Nat) (atOnce : Bool) (g : Passage) (s : State) :
    State.OnlyJournal s (State.logPassage p atOnce g s) := by
  unfold State.logPassage
  (repeat' split) <;> simp [State.OnlyJournal]

@[simp] theorem State.applyAtOnce_frame (p : Nat) (g : Passage) (s : State) :
    State.OnlyPortalUnit s (State.applyAtOnce p g s) := by
  unfold State.applyAtOnce
  simp [State.OnlyPortalUnit]

@[simp] theorem State.applyPending_frame (p : Nat) (g : Passage) (s : State) :
    State.OnlyPortalUnit s (State.applyPending p g s) := by
  unfold State.applyPending
  simp [State.OnlyPortalUnit]

@[simp] theorem State.applyAll_frame (p : Nat) (s : State) :
    State.OnlyPortalUnit s (State.applyAll p s) := by
  exact State.forEach_frame State.OnlyPortalUnit (by simp [State.OnlyPortalUnit]) (by simp +contextual [State.OnlyPortalUnit]) _
    (by intros; simp [State.OnlyPortalUnit]) _ s

@[simp] theorem State.appendPassage_frame (p : Nat) (g : Passage) (s : State) :
    State.OnlyPortalUnit s (State.appendPassage p g s) := by
  unfold State.appendPassage
  simp [State.OnlyPortalUnit]

@[simp] theorem State.placePassage_frame (p : Nat) (g : Passage) (s : State) :
    State.OnlyPortalUnit s (State.placePassage p g s) := by
  unfold State.placePassage
  dsimp only
  (repeat' split) <;> simp [State.OnlyPortalUnit]

@[simp] theorem State.repeatGrant_frame (p : Nat) (s : State) :
    State.OnlyPortals s (State.repeatGrant p s) := by
  unfold State.repeatGrant
  simp [State.OnlyPortals]

@[simp] theorem State.passageExpiry_frame (p : Nat) (s : State) :
    State.OnlyPortalUnit s (State.passageExpiry p s) := by
  unfold State.passageExpiry
  dsimp only
  (repeat' split) <;> simp [State.OnlyPortalUnit]

@[simp] theorem State.holdExpiry_frame (p : Nat) (s : State) :
    State.OnlyPortalUnit s (State.holdExpiry p s) := by
  unfold State.holdExpiry
  dsimp only
  (repeat' split) <;> simp [State.OnlyPortalUnit]

@[simp] theorem State.doorOpens_frame (p : Nat) (s : State) :
    State.OnlyPortalUnit s (State.doorOpens p s) := by
  unfold State.doorOpens
  dsimp only
  (repeat' split) <;> simp [State.OnlyPortalUnit]

@[simp] theorem State.doorCloses_frame (p : Nat) (s : State) :
    State.OnlyPortalUnit s (State.doorCloses p s) := by
  unfold State.doorCloses
  dsimp only
  (repeat' split) <;> simp [State.OnlyPortalUnit]

@[simp] theorem State.doorReport_frame (p : Nat) (opened : Bool) (s : State) :
    State.OnlyPortalUnit s (State.doorReport p opened s) := by
  unfold State.doorReport
  dsimp only
  (repeat' split) <;> simp [State.OnlyPortalUnit]

@[simp] theorem State.egressPress_frame (p : Nat) (s : State) :
    State.OnlyPortalUnit s (State.egressPress p s) := by
  unfold State.egressPress
  (repeat' split) <;> simp [State.OnlyPortalUnit]

@[simp] theorem State.rexReport_frame (p rex : Nat) (s : State) :
    State.OnlyPortalUnit s (State.rexReport p rex s) := by
  unfold State.rexReport
  (repeat' split) <;> simp [State.OnlyPortalUnit]

@[simp] theorem State.logUnsecured_frame (p : Nat) (s : State) :
    State.OnlyJournal s (State.logUnsecured p s) := by
  unfold State.logUnsecured
  (repeat' split) <;> simp [State.OnlyJournal]

@[simp] theorem State.shortFailure_frame (p : Nat) (s : State) :
    State.OnlyPortalUnit s (State.shortFailure p s) := by
  unfold State.shortFailure
  dsimp only
  simp [State.OnlyPortalUnit]

@[simp] theorem State.openLoadFailure_frame (p : Nat) (s : State) :
    State.OnlyPortalUnit s (State.openLoadFailure p s) := by
  unfold State.openLoadFailure
  dsimp only
  simp [State.OnlyPortalUnit]

@[simp] theorem State.probeComplete_frame (p : Nat) (s : State) :
    State.OnlyPortalUnit s (State.probeComplete p s) := by
  unfold State.probeComplete
  simp [State.OnlyPortalUnit]

@[simp] theorem State.driverReport_frame (p : Nat) (d : Driver) (s : State) :
    State.OnlyPortalUnit s (State.driverReport p d s) := by
  unfold State.driverReport
  dsimp only
  (repeat' split) <;> simp [State.OnlyPortalUnit]

@[simp] theorem State.cooldownExpiry_frame (p : Nat) (s : State) :
    State.OnlyPortalUnit s (State.cooldownExpiry p s) := by
  unfold State.cooldownExpiry
  dsimp only
  (repeat' split) <;> simp [State.OnlyPortalUnit]

@[simp] theorem State.probeExpiry_frame (p : Nat) (s : State) :
    State.OnlyPortals s (State.probeExpiry p s) := by
  unfold State.probeExpiry
  (repeat' split) <;> simp [State.OnlyPortals]

@[simp] theorem State.losePortal_frame (p : Nat) (st : PortalState) (reason : CancelReason) (s : State) :
    State.OnlyPortalUnit s (State.losePortal p st reason s) := by
  unfold State.losePortal
  dsimp only
  (repeat' split) <;> simp [State.OnlyPortalUnit]

@[simp] theorem State.portalOffline_frame (p : Nat) (s : State) :
    State.OnlyPortalUnit s (State.portalOffline p s) := by
  unfold State.portalOffline
  (repeat' split) <;> simp [State.OnlyPortalUnit]

@[simp] theorem State.portalUnknown_frame (p : Nat) (s : State) :
    State.OnlyPortalUnit s (State.portalUnknown p s) := by
  unfold State.portalUnknown
  (repeat' split) <;> simp [State.OnlyPortalUnit]

@[simp] theorem State.portalReturn_frame (p : Nat) (opened : Bool) (rex : Nat) (d : Driver) (s : State) :
    State.OnlyPortalUnit s (State.portalReturn p opened rex d s) := by
  unfold State.portalReturn
  dsimp only
  (repeat' split) <;> simp [State.OnlyPortalUnit]

@[simp] theorem State.portalStatus_frame (p : Nat) (opened : Bool) (rex : Nat) (d : Driver) (s : State) :
    State.OnlyPortalUnit s (State.portalStatus p opened rex d s) := by
  unfold State.portalStatus
  (repeat' split) <;> simp [State.OnlyPortalUnit]

@[simp] theorem State.resetPortal_frame (p : Nat) (s : State) :
    State.OnlyPortalUnit s (State.resetPortal p s) := by
  unfold State.resetPortal
  dsimp only
  (repeat' split) <;> simp [State.OnlyPortalUnit]

@[simp] theorem State.setHostHold_frame (p : Nat) (hold : Bool) (s : State) :
    State.OnlyPortalUnit s (State.setHostHold p hold s) := by
  unfold State.setHostHold
  simp [State.OnlyPortalUnit]

@[simp] theorem State.resetDriver_frame (p : Nat) (s : State) :
    State.OnlyPortalUnit s (State.resetDriver p s) := by
  unfold State.resetDriver
  dsimp only
  (repeat' split) <;> simp [State.OnlyPortalUnit]

/-! ## Lift cars -/

@[simp] theorem State.handFloors_frame (c : Nat) (s : State) :
    State.OnlyNodes s (State.handFloors c s) := by
  unfold State.handFloors
  (repeat' split) <;> simp [State.OnlyNodes]

@[simp] theorem State.releaseCarNode_frame (n : NodeId) (s : State) :
    State.OnlyNodes s (State.releaseCarNode n s) := by
  unfold State.releaseCarNode
  simp [State.OnlyNodes]

@[simp] theorem State.applyCar_frame (c : Nat) (g : CarConfig) (s : State) :
    State.OnlyCarUnit s (State.applyCar c g s) := by
  unfold State.applyCar
  dsimp only
  (repeat' split) <;> simp [State.OnlyCarUnit]

@[simp] theorem State.settleCar_frame (c : Nat) (s : State) :
    State.OnlyCarUnit s (State.settleCar c s) := by
  unfold State.settleCar
  (repeat' split) <;> simp [State.OnlyCarUnit]

@[simp] theorem State.logRelease_frame (c : Nat) (reason : ReleaseReason) (e : Release) (s : State) :
    State.OnlyJournal s (State.logRelease c reason e s) := by
  unfold State.logRelease
  simp [State.OnlyJournal]

@[simp] theorem State.logReleases_frame (c : Nat) (reason : ReleaseReason) (es : List Release) (s : State) :
    State.OnlyJournal s (s.forEach es (State.logRelease c reason)) := by
  exact State.forEach_frame State.OnlyJournal (by simp [State.OnlyJournal]) (by simp +contextual [State.OnlyJournal]) _
    (by intros; simp [State.OnlyJournal]) _ s

@[simp] theorem State.removeRelease_frame (c tenant : Nat) (reason : ReleaseReason) (s : State) :
    State.OnlyCarUnit s (State.removeRelease c tenant reason s) := by
  unfold State.removeRelease
  (repeat' split) <;> simp [State.OnlyCarUnit]

@[simp] theorem State.emptyReleases_frame (c : Nat) (reason : ReleaseReason) (s : State) :
    State.OnlyCarUnit s (State.emptyReleases c reason s) := by
  unfold State.emptyReleases
  simp [State.OnlyCarUnit]

@[simp] theorem State.placeRelease_frame (c tenant : Nat) (floors : Word) (s : State) :
    State.OnlyCarUnit s (State.placeRelease c tenant floors s) := by
  unfold State.placeRelease
  dsimp only
  (repeat' split) <;> simp [State.OnlyCarUnit]

@[simp] theorem State.releaseExpiry_frame (c tenant : Nat) (s : State) :
    State.OnlyCarUnit s (State.releaseExpiry c tenant s) := by
  unfold State.releaseExpiry
  (repeat' split) <;> simp [State.OnlyCarUnit]

@[simp] theorem State.removeReleases_frame (tenant : Nat) (s : State) :
    State.OnlyCarUnit s (State.removeReleases tenant s) := by
  exact State.forEach_frame State.OnlyCarUnit (by simp [State.OnlyCarUnit]) (by simp +contextual [State.OnlyCarUnit]) _
    (by intros; simp [State.OnlyCarUnit]) _ s

@[simp] theorem State.carMode_frame (c : Nat) (s : State) :
    State.OnlyCarUnit s (State.carMode c s) := by
  unfold State.carMode
  dsimp only
  (repeat' split) <;> simp [State.OnlyCarUnit]

@[simp] theorem State.carModeAll_frame (s : State) :
    State.OnlyCarUnit s (State.carModeAll s) := by
  exact State.forEach_frame State.OnlyCarUnit (by simp [State.OnlyCarUnit]) (by simp +contextual [State.OnlyCarUnit]) _
    (by intros; simp [State.OnlyCarUnit]) _ s

@[simp] theorem State.carOffline_frame (c : Nat) (s : State) :
    State.OnlyCarUnit s (State.carOffline c s) := by
  unfold State.carOffline
  simp [State.OnlyCarUnit]

@[simp] theorem State.carRestored_frame (c : Nat) (s : State) :
    State.OnlyCarUnit s (State.carRestored c s) := by
  unfold State.carRestored
  simp [State.OnlyCarUnit]

@[simp] theorem State.carUnknown_frame (c : Nat) (s : State) :
    State.OnlyCarUnit s (State.carUnknown c s) := by
  unfold State.carUnknown
  simp [State.OnlyCarUnit]

@[simp] theorem State.carStatus_frame (c : Nat) (complete : Bool) (s : State) :
    State.OnlyCarUnit s (State.carStatus c complete s) := by
  unfold State.carStatus
  dsimp only
  (repeat' split) <;> simp [State.OnlyCarUnit]

@[simp] theorem State.resetCar_frame (c : Nat) (s : State) :
    State.OnlyCarUnit s (State.resetCar c s) := by
  unfold State.resetCar
  dsimp only
  (repeat' split) <;> simp [State.OnlyCarUnit]

/-! ## Reader lines -/

@[simp] theorem State.discardReads_frame (n : NodeId) (s : State) :
    State.OnlyField s (State.discardReads n s) := by
  unfold State.discardReads
  simp [State.OnlyField]

@[simp] theorem State.ownersOffline_frame (n : NodeId) (kind : NodeKind) (s : State) :
    State.OnlyField s (State.ownersOffline n kind s) := by
  unfold State.ownersOffline
  (repeat' split) <;> simp [State.OnlyField]

@[simp] theorem State.ownersUnknown_frame (n : NodeId) (kind : NodeKind) (s : State) :
    State.OnlyField s (State.ownersUnknown n kind s) := by
  unfold State.ownersUnknown
  (repeat' split) <;> simp [State.OnlyField]

@[simp] theorem State.nodeUnknown_frame (n : NodeId) (s : State) :
    State.OnlyField s (State.nodeUnknown n s) := by
  unfold State.nodeUnknown
  (repeat' split) <;> simp [State.OnlyField]

@[simp] theorem State.nodeOffline_frame (n : NodeId) (cause : Nat) (s : State) :
    State.OnlyField s (State.nodeOffline n cause s) := by
  unfold State.nodeOffline
  (repeat' split) <;> simp [State.OnlyField]

@[simp] theorem State.nextCycle_frame (l : Nat) (s : State) :
    State.OnlyLines s (State.nextCycle l s) := by
  unfold State.nextCycle
  dsimp only
  simp [State.OnlyLines]

@[simp] theorem State.endExchange_frame (l : Nat) (s : State) :
    State.OnlyLines s (State.endExchange l s) := by
  unfold State.endExchange
  dsimp only
  (repeat' split) <;> simp [State.OnlyLines]

@[simp] theorem State.enterRunning_frame (l : Nat) (s : State) :
    State.OnlyLines s (State.enterRunning l s) := by
  unfold State.enterRunning
  simp [State.OnlyLines]

@[simp] theorem State.sendPoll_frame (l : Nat) (s : State) :
    State.OnlyLines s (State.sendPoll l s) := by
  unfold State.sendPoll
  dsimp only
  (repeat' split) <;> simp [State.OnlyLines]

@[simp] theorem State.idleCycleEnd_frame (l : Nat) (s : State) :
    State.OnlyLines s (State.idleCycleEnd l s) := by
  unfold State.idleCycleEnd
  dsimp only
  (repeat' split) <;> simp [State.OnlyLines]

@[simp] theorem State.takeRead_frame (n : NodeId) (b : ReadBlock) (s : State) :
    State.OnlyField s (State.takeRead n b s) := by
  unfold State.takeRead
  dsimp only
  (repeat' split) <;> simp [State.OnlyField]

@[simp] theorem State.handStatus_frame (n : NodeId) (kind : NodeKind) (how : ReplyStanding) (bytes : List Byte) (s : State) :
    State.OnlyField s (State.handStatus n kind how bytes s) := by
  unfold State.handStatus
  dsimp only
  (repeat' split) <;> simp [State.OnlyField]

@[simp] theorem State.handOn_frame (n : NodeId) (kind : NodeKind) (how : ReplyStanding) (bytes : List Byte) (s : State) :
    State.OnlyField s (State.handOn n kind how bytes s) := by
  unfold State.handOn
  dsimp only
  (repeat' split) <;> simp [State.OnlyField]

@[simp] theorem State.restoreNode_frame (n : NodeId) (r : Node) (s : State) :
    State.OnlyField s (State.restoreNode n r s) := by
  unfold State.restoreNode
  dsimp only
  (repeat' split) <;> simp [State.OnlyField]

@[simp] theorem State.goodReply_frame (n : NodeId) (bytes : List Byte) (s : State) :
    State.OnlyField s (State.goodReply n bytes s) := by
  unfold State.goodReply
  dsimp only
  (repeat' split) <;> simp [State.OnlyField]

@[simp] theorem State.badReply_frame (n : NodeId) (kind : BadReply) (s : State) :
    State.OnlyField s (State.badReply n kind s) := by
  unfold State.badReply
  dsimp only
  (repeat' split) <;> simp [State.OnlyField]

@[simp] theorem State.exchangeBad_frame (l : Nat) (kind : BadReply) (s : State) :
    State.OnlyField s (State.exchangeBad l kind s) := by
  unfold State.exchangeBad
  (repeat' split) <;> simp [State.OnlyField]

@[simp] theorem State.judgeReply_frame (l : Nat) (frame : List LineChar) (s : State) :
    State.OnlyField s (State.judgeReply l frame s) := by
  unfold State.judgeReply
  (repeat' split) <;> simp [State.OnlyField]

@[simp] theorem State.quietWaitEnd_frame (l : Nat) (s : State) :
    State.OnlyLines s (State.quietWaitEnd l s) := by
  unfold State.quietWaitEnd
  (repeat' split) <;> simp [State.OnlyLines]

@[simp] theorem State.faultNode_frame (l : Nat) (lost : List Nat) (a : Nat) (s : State) :
    State.OnlyField s (State.faultNode l lost a s) := by
  unfold State.faultNode
  (repeat' split) <;> simp [State.OnlyField]

@[simp] theorem State.faultNodes_frame (l : Nat) (lost : List Nat) (as : List Nat) (s : State) :
    State.OnlyField s (s.forEach as (State.faultNode l lost)) := by
  exact State.forEach_frame State.OnlyField (by simp [State.OnlyField]) (by simp +contextual [State.OnlyField]) _
    (by intros; simp [State.OnlyField]) _ s

@[simp] theorem State.faultLine_frame (l : Nat) (reason : FaultReason) (s : State) :
    State.OnlyField s (State.faultLine l reason s) := by
  unfold State.faultLine
  dsimp only
  simp [State.OnlyField]

@[simp] theorem State.lineBreak_frame (l : Nat) (s : State) :
    State.OnlyField s (State.lineBreak l s) := by
  unfold State.lineBreak
  (repeat' split) <;> simp [State.OnlyField]

@[simp] theorem State.lineNoQuiet_frame (l : Nat) (s : State) :
    State.OnlyField s (State.lineNoQuiet l s) := by
  unfold State.lineNoQuiet
  (repeat' split) <;> simp [State.OnlyField]

@[simp] theorem State.recoveryCheck_frame (l : Nat) (idle : Bool) (s : State) :
    State.OnlyField s (State.recoveryCheck l idle s) := by
  unfold State.recoveryCheck
  dsimp only
  (repeat' split) <;> simp [State.OnlyField]

@[simp] theorem State.nodesUnknown_frame (l : Nat) (as : List Nat) (s : State) :
    State.OnlyField s (s.forEach as (fun a s => s.nodeUnknown ⟨l, a⟩)) := by
  exact State.forEach_frame State.OnlyField (by simp [State.OnlyField]) (by simp +contextual [State.OnlyField]) _
    (by intros; simp [State.OnlyField]) _ s

@[simp] theorem State.stopLine_frame (l : Nat) (s : State) :
    State.OnlyField s (State.stopLine l s) := by
  unfold State.stopLine
  dsimp only
  simp [State.OnlyField]

@[simp] theorem State.stopLines_frame (s : State) :
    State.OnlyField s (State.stopLines s) := by
  exact State.forEach_frame State.OnlyField (by simp [State.OnlyField]) (by simp +contextual [State.OnlyField]) _
    (by intros; simp [State.OnlyField]) _ s

@[simp] theorem State.startLine_frame (l : Nat) (s : State) :
    State.OnlyLines s (State.startLine l s) := by
  unfold State.startLine
  (repeat' split) <;> simp [State.OnlyLines]

@[simp] theorem State.startLines_frame (s : State) :
    State.OnlyLines s (State.startLines s) := by
  exact State.forEach_frame State.OnlyLines (by simp [State.OnlyLines]) (by simp +contextual [State.OnlyLines]) _
    (by intros; simp [State.OnlyLines]) _ s

@[simp] theorem State.flushReads_frame (s : State) :
    State.OnlyField s (State.flushReads s) := by
  unfold State.flushReads
  simp [State.OnlyField]

@[simp] theorem State.discardAll_frame (l : Nat) (as : List Nat) (s : State) :
    State.OnlyField s (s.forEach as
      (fun a s => (s.discardReads ⟨l, a⟩).updNode ⟨l, a⟩ Node.noVerdicts)) := by
  exact State.forEach_frame State.OnlyField (by simp [State.OnlyField]) (by simp +contextual [State.OnlyField]) _
    (by intros; simp [State.OnlyField]) _ s

@[simp] theorem State.disableLine_frame (l : Nat) (s : State) :
    State.OnlyField s (State.disableLine l s) := by
  unfold State.disableLine
  dsimp only
  simp [State.OnlyField]

@[simp] theorem State.settleLine_frame (l : Nat) (enabled : Bool) (s : State) :
    State.OnlyField s (State.settleLine l enabled s) := by
  unfold State.settleLine
  (repeat' split) <;> simp [State.OnlyField]

@[simp] theorem State.abandonExchange_frame (n : NodeId) (s : State) :
    State.OnlyLines s (State.abandonExchange n s) := by
  unfold State.abandonExchange
  (repeat' split) <;> simp [State.OnlyLines]

@[simp] theorem State.renewNode_frame (n : NodeId) (r : Node) (kind : NodeKind) (s : State) :
    State.OnlyField s (State.renewNode n r kind s) := by
  unfold State.renewNode
  simp [State.OnlyField]

@[simp] theorem State.dropDue_frame (n : NodeId) (s : State) :
    State.OnlyLines s (State.dropDue n s) := by
  unfold State.dropDue
  dsimp only
  (repeat' split) <;> simp [State.OnlyLines]

@[simp] theorem State.removeNode_frame (n : NodeId) (s : State) :
    State.OnlyField s (State.removeNode n s) := by
  unfold State.removeNode
  dsimp only
  simp [State.OnlyField]

/-! ## Decisions -/

@[simp] theorem State.logAccess_frame (r : Read) (ruling : Ruling) (s : State) :
    State.OnlyJournal s (State.logAccess r ruling s) := by
  unfold State.logAccess
  (repeat' split) <;> simp [State.OnlyJournal]

@[simp] theorem State.placeGrant_frame (a : Asked) (tenant : Option Nat) (ruling : Ruling) (s : State) :
    State.OnlyField s (State.placeGrant a tenant ruling s) := by
  unfold State.placeGrant
  (repeat' split) <;> simp [State.OnlyField]

@[simp] theorem State.storeVerdict_frame (r : Read) (v : Verdict) (s : State) :
    State.OnlyNodes s (State.storeVerdict r v s) := by
  unfold State.storeVerdict
  (repeat' split) <;> simp [State.OnlyNodes]

@[simp] theorem State.decide_frame (r : Read) (s : State) :
    State.OnlyField s (State.decide r s) := by
  unfold State.decide
  dsimp only
  simp [State.OnlyField]

@[simp] theorem State.decideNext_frame (s : State) :
    State.OnlyField s (State.decideNext s) := by
  unfold State.decideNext
  (repeat' split) <;> simp [State.OnlyField]

/-! ## The soft reset and the second event -/

theorem State.updNode_only (n : NodeId) (f : Node → Node) (s : State) :
    s.updNode n f = { s with nodes := (s.updNode n f).nodes } := by
  unfold State.updNode
  split <;> rfl

theorem State.handLock_only (p : Nat) (s : State) :
    s.handLock p = { s with portals := (s.handLock p).portals, nodes := (s.handLock p).nodes } := by
  unfold State.handLock
  split
  · rfl
  · dsimp only
    rw [State.updNode_only]
    rfl

theorem State.handFloors_only (c : Nat) (s : State) : s.handFloors c = { s with nodes := (s.handFloors c).nodes } := by
  unfold State.handFloors
  split
  · rfl
  · exact State.updNode_only _ _ s

theorem State.releaseLockNode_only (n : NodeId) (s : State) :
    s.releaseLockNode n = { s with nodes := (s.releaseLockNode n).nodes } :=
  State.updNode_only n _ s

theorem State.releaseCarNode_only (n : NodeId) (s : State) :
    s.releaseCarNode n = { s with nodes := (s.releaseCarNode n).nodes } :=
  State.updNode_only n _ s

/-- R133: the soft reset of a portal channel changes portals and nodes alone. -/
theorem State.resetPortal_only (p : Nat) (s : State) :
    s.resetPortal p = { s with portals := (s.resetPortal p).portals, nodes := (s.resetPortal p).nodes } := by
  unfold State.resetPortal
  dsimp only
  split
  · rfl
  · rw [State.handLock_only]
    split
    · rw [State.releaseLockNode_only]
      rfl
    · rfl

/-- R145: the soft reset of a car channel changes cars and nodes alone. -/
theorem State.resetCar_only (c : Nat) (s : State) :
    s.resetCar c = { s with cars := (s.resetCar c).cars, nodes := (s.resetCar c).nodes } := by
  unfold State.resetCar
  dsimp only
  split
  · rfl
  · rw [State.handFloors_only]
    split
    · rw [State.releaseCarNode_only]
      rfl
    · rfl

theorem State.resetPortals_only (ps : List Nat) (s : State) :
    s.forEach ps State.resetPortal = { s with
      portals := (s.forEach ps State.resetPortal).portals, nodes := (s.forEach ps State.resetPortal).nodes } :=
  State.forEach_frame (fun s t => t = { s with portals := t.portals, nodes := t.nodes }) (fun _ => rfl)
    (fun _ _ _ h g => by rw [g, h]) _ State.resetPortal_only ps s

theorem State.resetCars_only (cs : List Nat) (s : State) :
    s.forEach cs State.resetCar = { s with
      cars := (s.forEach cs State.resetCar).cars, nodes := (s.forEach cs State.resetCar).nodes } :=
  State.forEach_frame (fun s t => t = { s with cars := t.cars, nodes := t.nodes }) (fun _ => rfl)
    (fun _ _ _ h g => by rw [g, h]) _ State.resetCar_only cs s

/-- R25, R88: the soft reset of the blocks is seen by the journal and the bus port in the mirror alone, which is handed the
emptied register. -/
theorem State.resetBlocks_only (s : State) :
    s.resetBlocks = { s with
      mem := (State.emptyRegister s).mem, tenants := s.resetBlocks.tenants, units := s.resetBlocks.units
      register := s.resetBlocks.register, portals := s.resetBlocks.portals, cars := s.resetBlocks.cars
      lines := s.resetBlocks.lines, nodes := s.resetBlocks.nodes, reads := s.resetBlocks.reads } := by
  unfold State.resetBlocks
  dsimp only
  rw [State.resetCars_only, State.resetPortals_only]
  unfold State.flushReads State.emptyRegister
  dsimp only
  by_cases h : s.register.visits = []
  · simp only [h, ↓reduceIte]
  · simp only [h, ↓reduceIte]
    rfl

/-- R198: at a second event the journal counts its flush timer and re-examines the page it waits for, and nothing else. -/
theorem State.second_journal (s : State) :
    s.second.journal = { s.journal with
      flush := s.journal.flush.tick, reexamine := s.journal.stalled && s.pageState s.journal.page == pageEmpty } := rfl

end Sys2Proof.Machine
end

