-- ==== Sys2Proof/Laws/Log.lean ====
section
/-! SUPPORT. What logging an entry does depends on memory, the bus port, the settings, the clock and the journal alone: it
commutes with every change of the other fields. -/

namespace Sys2Proof.Machine

/-- The state `s` with the fields that no logging reads or writes taken from `u`. -/
def State.withRest (u s : State) : State :=
  { u with mem := s.mem, bus := s.bus, settings := s.settings, clock := s.clock, journal := s.journal }

theorem State.pokeBytes_withRest (u : State) (a : Nat) (bs : List Byte) (s : State) :
    (State.withRest u s).pokeBytes a bs = State.withRest u (s.pokeBytes a bs) := by
  induction bs generalizing a s with
  | nil => rfl
  | cons b bs ih => exact ih (a + 1) (s.pokeByte a b)

theorem State.pass_withRest (u : State) (l : List Access) (s : State) :
    (State.withRest u s).pass l = State.withRest u (s.pass l) := by
  induction l generalizing s with
  | nil => rfl
  | cons x l ih => rw [State.pass_cons, State.pokeBytes_withRest, ih, State.pass_cons]

theorem State.mirror_withRest (u : State) (a : Nat) (v : List Byte) (s : State) :
    (State.withRest u s).mirror a v = State.withRest u (s.mirror a v) :=
  State.pass_withRest u (s.mirrorAccesses a v) s

theorem State.mirrorJournal_withRest (u s : State) :
    (State.withRest u s).mirrorJournal = State.withRest u s.mirrorJournal :=
  State.mirror_withRest u _ _ s

theorem State.takePage_withRest (u : State) (p : Nat) (s : State) :
    (State.withRest u s).takePage p = State.withRest u (s.takePage p) := by
  simp only [State.takePage, State.pass_withRest]
  rfl

theorem State.raise_withRest (u : State) (c : Cause) (s : State) :
    State.raise c (State.withRest u s) = State.withRest u (State.raise c s) := rfl

theorem State.markFull_withRest (u : State) (r : CloseReason) (s : State) :
    (State.withRest u s).markFull r = State.withRest u (s.markFull r) := by
  have hp : (State.withRest u s).journal = s.journal := rfl
  simp only [State.markFull, State.pass_withRest, hp]
  rfl

theorem State.closePage_withRest (u : State) (r : CloseReason) (s : State) :
    (State.withRest u s).closePage r = State.withRest u (s.closePage r) := by
  have hp : (State.withRest u s).journal = s.journal := rfl
  have hq : ∀ (q : Nat) (t : State), (State.withRest u t).pageState q = t.pageState q := fun _ _ => rfl
  have hs : ∀ (q : Nat) (t : State), (State.withRest u t).stallOn q = State.withRest u (t.stallOn q) :=
    fun _ _ => rfl
  simp only [State.closePage, State.markFull_withRest, State.takePage_withRest, State.mirrorJournal_withRest, hp,
    hq, hs, ← apply_ite (State.withRest u)]

theorem State.placeEntry_withRest (u : State) (e : Entry) (s : State) :
    (State.withRest u s).placeEntry e = State.withRest u (s.placeEntry e) := by
  have hp : (State.withRest u s).journal = s.journal := rfl
  have hn : (State.withRest u s).entryCount s.journal.page = s.entryCount s.journal.page := rfl
  have ha : (State.withRest u s).entryAccesses e = s.entryAccesses e := rfl
  unfold State.placeEntry
  simp only [State.pass_withRest, hp, hn, ha]
  split <;> rfl

theorem State.writeEntry_withRest (u : State) (e : Entry) (s : State) :
    (State.withRest u s).writeEntry e = State.withRest u (s.writeEntry e) := by
  have hp : (State.withRest u s).entryCount (State.withRest u s).journal.page = s.entryCount s.journal.page := rfl
  simp only [State.writeEntry, State.placeEntry_withRest, State.raise_withRest, ← apply_ite (State.withRest u),
    State.closePage_withRest, hp]

theorem State.forEach_withRest {α : Type} (u : State) (f : α → State → State)
    (h : ∀ x s, f x (State.withRest u s) = State.withRest u (f x s)) (xs : List α) (s : State) :
    (State.withRest u s).forEach xs f = State.withRest u (s.forEach xs f) := by
  induction xs generalizing s with
  | nil => rfl
  | cons x xs ih => rw [State.forEach_cons, h, ih, State.forEach_cons]

theorem State.recover_withRest (u s : State) : (State.withRest u s).recover = State.withRest u s.recover := by
  have hp : (State.withRest u s).journal = s.journal := rfl
  have h : ∀ t : State, { State.withRest u t with journal := { (State.withRest u t).journal with holdover := [] } }
      = State.withRest u { t with journal := { t.journal with holdover := [] } } := fun _ => rfl
  have h2 : ∀ t : State, { State.withRest u t with
      journal := { (State.withRest u t).journal with routineDropped := 0, alarmDropped := 0 } }
      = State.withRest u { t with journal := { t.journal with routineDropped := 0, alarmDropped := 0 } } := fun _ => rfl
  unfold State.recover
  simp only [State.takePage_withRest, hp, h, State.forEach_withRest u _ (State.writeEntry_withRest u)]
  generalize State.forEach _ _ _ = t
  by_cases hd : t.journal.routineDropped = 0 ∧ t.journal.alarmDropped = 0
  · exact (if_pos hd).trans (congrArg (State.withRest u) (if_pos hd).symm)
  · refine (if_neg hd).trans (Eq.trans ?_ (congrArg (State.withRest u) (if_neg hd).symm))
    have he : ∀ n k d, (State.withRest u t).entry .journalGap n k d = t.entry .journalGap n k d := fun _ _ _ => rfl
    have hj : (State.withRest u t).journal = t.journal := rfl
    simp only [he, hj, State.writeEntry_withRest, h2, State.mirrorJournal_withRest]

theorem State.holdEntry_withRest (u : State) (e : Entry) (s : State) :
    (State.withRest u s).holdEntry e = State.withRest u (s.holdEntry e) := by
  have hp : ∀ t, (State.withRest u t).journal = t.journal := fun _ => rfl
  have h1 : ∀ (t : State) (j : Journal), { State.withRest u t with journal := j }
      = State.withRest u { t with journal := j } := fun _ _ => rfl
  simp only [State.holdEntry, State.dropRoutine, State.dropAlarm, State.raise_withRest, hp, h1,
    State.mirrorJournal_withRest, ← apply_ite (State.withRest u)]

theorem State.submit_withRest (u : State) (e : Entry) (s : State) :
    (State.withRest u s).submit e = State.withRest u (s.submit e) := by
  have hp : (State.withRest u s).journal = s.journal := rfl
  have hs : (State.withRest u s).pageState s.journal.page = s.pageState s.journal.page := rfl
  simp only [State.submit, hp, hs, State.recover_withRest, State.writeEntry_withRest, State.holdEntry_withRest,
    ← apply_ite (State.withRest u)]

/-- Logging commutes with a change of the fields that it neither reads nor writes. -/
theorem State.log_withRest (u : State) (kind : EntryKind) (subject tenant : Option Nat) (detail : List Byte)
    (s : State) : (State.withRest u s).log kind subject tenant detail =
      State.withRest u (s.log kind subject tenant detail) :=
  State.submit_withRest u _ s

end Sys2Proof.Machine
end

