-- ==== Sys2Proof/Laws/Vocabulary.lean ====
section
/-! SUPPORT. What shared operations do, in the vocabulary of the statements. -/

namespace Sys2Proof.Machine

/-- R110: a command energises under a polarity exactly where the statements say that the output stands energised. -/
theorem energises_eq_energised (c : PortalConfig) (command : LockCommand) :
    c.polarity.energises command = energised c command := by
  unfold energised Polarity.energises Polarity.deEnergised
  cases c.polarity <;> cases command <;> rfl

/-- R126: what a lock command does to the probe interval and its expiry. -/
theorem withCommand_eq (r : Portal) (c : PortalConfig) (command : LockCommand) :
    r.withCommand c.polarity command = { r with
      command := command
      probe := if r.probePending = true ∧ energised c command = true then
          (if r.probe = .stopped ∧ r.probeElapsed = false then .running 2 else r.probe)
        else .stopped
      probeElapsed := r.probeElapsed && r.probePending && energised c command } := by
  unfold Portal.withCommand
  simp only [energises_eq_energised]
  cases r.probePending <;> cases energised c command <;> simp [Config.probeSeconds]

/-- R110, R126: what handing on the lock command does to the portal. -/
theorem State.handLock_portal_self {p : Nat} {c : PortalConfig} {s : State} (h : (s.portal p).config = some c) :
    (s.handLock p).portal p = s.withCommandOf c (s.portal p) := by
  have hc : s.lockCommand (s.portal p) c =
      (s.withCommandOf c (s.portal p)).command := by
    unfold State.lockCommand State.withCommandOf State.overridden Polarity.deEnergised
    cases s.mode.mode <;> cases c.egress <;> cases (s.portal p).state <;> cases c.polarity <;> simp
  have hp : (s.handLock p).portals =
      (s.updPortal p (fun r => r.withCommand c.polarity (s.lockCommand (s.portal p) c))).portals := by
    simp [State.handLock, h]
  have hq : (s.handLock p).portal p = (s.portal p).withCommand c.polarity (s.lockCommand (s.portal p) c) := by
    rw [State.portal, hp, ← State.portal, State.portal_updPortal_self]
  rw [hq, withCommand_eq, hc]
  rfl

/-- R110: handing on the lock command changes no other portal. -/
theorem State.handLock_portal_ne {p q : Nat} (hq : q ≠ p) (s : State) : (s.handLock p).portal q = s.portal q := by
  unfold State.handLock
  split
  · rfl
  · rename_i c _
    have hn : ((s.updPortal p (fun r => r.withCommand c.polarity (s.lockCommand (s.portal p) c))).updNode c.node
        (fun n => { n with lock := s.lockCommand (s.portal p) c, polarity := c.polarity })).portals =
        (s.updPortal p (fun r => r.withCommand c.polarity (s.lockCommand (s.portal p) c))).portals := by
      simp
    rw [State.portal, hn, ← State.portal, State.portal_updPortal_ne hq]

/-! ## What a portal is after it enters SECURE, after a record is applied and after its sources are evaluated -/

/-- The two states agree in what the portals read of the rest of the part: the mode, the clock, the profiles and the
holidays. -/
abbrev State.SameAround (s t : State) : Prop :=
  t.mode = s.mode ∧ t.clock = s.clock ∧ t.profiles = s.profiles ∧ t.holidays = s.holidays

theorem State.sources_congr {s t : State} (h : t.mode = s.mode) (r : Portal) : t.sources r = s.sources r := by
  unfold State.sources State.overridden
  rw [h]

theorem State.withCommandOf_congr {s t : State} (h : t.mode = s.mode) (c : PortalConfig) (r : Portal) :
    t.withCommandOf c r = s.withCommandOf c r := by
  simp only [State.withCommandOf, State.sources_congr h, h]

theorem State.windowTest_congr {s t : State} (h : s.SameAround t) (n : Nat) : t.windowTest n = s.windowTest n := by
  simp only [State.windowTest, State.profile, State.closedToday, h.2.1, h.2.2.1, h.2.2.2]

theorem State.configApplied_congr {s t : State} (h : s.SameAround t) (old new : PortalConfig) (r : Portal) :
    t.configApplied old new r = s.configApplied old new r := by
  simp only [State.configApplied, State.windowTest_congr h, State.sources_congr h.1, State.withCommandOf_congr h.1]

theorem State.secured_congr {s t : State} (h : s.SameAround t) (c : PortalConfig) (r : Portal) :
    t.secured c r = s.secured c r := by
  simp only [State.secured, State.configApplied_congr h, State.withCommandOf_congr h.1]

theorem State.relocked_congr {s t : State} (h : s.SameAround t) (c : PortalConfig) (r : Portal) :
    t.relocked c r = s.relocked c r := by
  simp only [State.relocked, State.secured_congr h, State.withCommandOf_congr h.1]

theorem State.evaluated_congr {s t : State} (h : s.SameAround t) (c : PortalConfig) (r : Portal) :
    t.evaluated c r = s.evaluated c r := by
  simp only [State.evaluated, State.relocked_congr h, State.sources_congr h.1, State.withCommandOf_congr h.1]

/-- Logging changes no portal and nothing that the portals read. -/
theorem State.log_portal (kind : EntryKind) (subject tenant : Option Nat) (detail : List Byte) (p : Nat) (s : State) :
    (s.log kind subject tenant detail).portal p = s.portal p := by
  simp [State.portal]

theorem State.log_sameAround (kind : EntryKind) (subject tenant : Option Nat) (detail : List Byte) (s : State) :
    s.SameAround (s.log kind subject tenant detail) := by
  simp [State.SameAround]

/-- R122: what coming to HELD_UNLOCKED does to the portal. -/
theorem State.holdUnlocked_portal_self {p : Nat} {c : PortalConfig} {s : State} (h : (s.portal p).config = some c) :
    (s.holdUnlocked p).portal p = s.withCommandOf c (s.portal p).unlockedHeld := by
  unfold State.holdUnlocked
  dsimp only
  rw [State.handLock_portal_self (c := c), State.log_portal, State.portal_updPortal_self]
  · exact State.withCommandOf_congr (by simp) c _
  · rw [State.log_portal, State.portal_updPortal_self]
    exact h

theorem State.holdUnlocked_portal_ne {p q : Nat} (hq : q ≠ p) (s : State) :
    (s.holdUnlocked p).portal q = s.portal q := by
  unfold State.holdUnlocked
  dsimp only
  rw [State.handLock_portal_ne hq, State.log_portal, State.portal_updPortal_ne hq]

theorem State.releaseLockNode_portal (n : NodeId) (p : Nat) (s : State) :
    (s.releaseLockNode n).portal p = s.portal p := by
  rw [State.releaseLockNode_only]
  rfl

/-- R107: what the application of a record does to the portal. -/
theorem State.applyConfig_portal_self {p : Nat} {old new : PortalConfig} {s : State}
    (h : (s.portal p).config = some old) :
    (s.applyConfig p new).portal p = s.configApplied old new (s.portal p) := by
  have hw : s.windowOf new = new.free.any (fun n => s.windowTest n) := by
    unfold State.windowOf
    cases new.free <;> rfl
  unfold State.applyConfig State.configApplied
  simp only [h, hw]
  by_cases hn : new.node = old.node
  · have hb : ¬ Option.any (fun o => o.node != new.node) (some old) = true := by simp [hn]
    rw [if_neg hb, if_neg (not_not.2 hn)]
    simp only [State.portal_updPortal_self]
    rw [State.sources_congr (s := s) (by simp)]
    split
    · rw [State.holdUnlocked_portal_self (c := new) (by simp), State.portal_updPortal_self]
      exact State.withCommandOf_congr (by simp) new _
    · rw [State.handLock_portal_self (c := new) (by simp), State.portal_updPortal_self]
      exact State.withCommandOf_congr (by simp) new _
  · have hb : Option.any (fun o => o.node != new.node) (some old) = true := by
      simpa using fun e : old.node = new.node => hn e.symm
    rw [if_pos hb, if_pos hn]
    have hr : (((s.updPortal p (fun r => { r with
        config := some new, deferred := none, window := new.free.any (fun n => s.windowTest n) })).releaseLockNode
        old.node).updPortal p (fun r => r.enter .waiting)).portal p = { s.portal p with
          config := some new, deferred := none, window := new.free.any (fun n => s.windowTest n), state := .waiting,
          passageTimer := .stopped, holdTimer := .stopped } := by
      rw [State.portal_updPortal_self, State.releaseLockNode_portal, State.portal_updPortal_self]
      rfl
    rw [State.handLock_portal_self (c := new) (by rw [hr]), hr]
    exact State.withCommandOf_congr (by simp) new _

theorem State.applyConfig_portal_ne {p q : Nat} (hq : q ≠ p) (c : PortalConfig) (s : State) :
    (s.applyConfig p c).portal q = s.portal q := by
  unfold State.applyConfig
  dsimp only
  split
  · rw [State.handLock_portal_ne hq, State.portal_updPortal_ne hq]
    split
    · rw [State.releaseLockNode_portal, State.portal_updPortal_ne hq]
    · rw [State.portal_updPortal_ne hq]
  · split
    · rw [State.holdUnlocked_portal_ne hq, State.portal_updPortal_ne hq]
    · rw [State.handLock_portal_ne hq, State.portal_updPortal_ne hq]

theorem State.applyDeferred_portal_ne {p q : Nat} (hq : q ≠ p) (s : State) :
    (s.applyDeferred p).portal q = s.portal q := by
  unfold State.applyDeferred
  split
  · exact State.applyConfig_portal_ne hq _ s
  · exact State.handLock_portal_ne hq s

/-- R107: what entering SECURE does to the portal. -/
theorem State.enterSecure_portal_self {p : Nat} {c : PortalConfig} {s : State} (h : (s.portal p).config = some c) :
    (s.enterSecure p).portal p = s.secured c (s.portal p) := by
  have hc : ((s.updPortal p (fun r => r.enter .secure)).portal p).config = some c := by
    rw [State.portal_updPortal_self]
    exact h
  have hd : ((s.updPortal p (fun r => r.enter .secure)).portal p).deferred = (s.portal p).deferred := by
    rw [State.portal_updPortal_self]
    rfl
  unfold State.enterSecure State.applyDeferred State.secured
  rw [hd]
  dsimp only
  split
  · rename_i d hs
    rw [State.applyConfig_portal_self hc, State.portal_updPortal_self, hs]
    refine State.configApplied_congr ?_ c d _
    exact ⟨by simp, by simp, by simp, by simp⟩
  · rename_i hs
    rw [State.handLock_portal_self hc, State.portal_updPortal_self, hs]
    refine (State.withCommandOf_congr (s := s) (by simp) c _).trans ?_
    simp [Portal.enter, hs]

theorem State.enterSecure_portal_ne {p q : Nat} (hq : q ≠ p) (s : State) :
    (s.enterSecure p).portal q = s.portal q := by
  unfold State.enterSecure
  rw [State.applyDeferred_portal_ne hq, State.portal_updPortal_ne hq]

/-- R122: what relocking does to the portal. -/
theorem State.relock_portal_self {p : Nat} {c : PortalConfig} {s : State} (h : (s.portal p).config = some c) :
    (s.relock p).portal p = s.relocked c (s.portal p) := by
  have ha : s.relock p =
      let after := (s.portal p).relocksTo
      let s := s.log .portalRelocked (some p) none (bytesOf 1 after.code)
      match after with
      | .opened => (s.updPortal p (fun r => r.openTimed)).handLock p
      | .released => (s.updPortal p (fun r => r.enter .released)).handLock p
      | _ => s.enterSecure p := rfl
  rw [ha]
  unfold State.relocked
  generalize (s.portal p).relocksTo = k
  dsimp only
  generalize hw : s.log .portalRelocked (some p) none (bytesOf 1 k.code) = w
  have hp : w.portal p = s.portal p := by rw [← hw, State.log_portal]
  have hs : s.SameAround w := by rw [← hw]; exact State.log_sameAround _ _ _ _ s
  have hc : (w.portal p).config = some c := by rw [hp, h]
  have hsec : (w.enterSecure p).portal p = s.secured c (s.portal p) := by
    rw [State.enterSecure_portal_self hc, hp, State.secured_congr hs]
  cases k
  case opened =>
    have ht : (w.portal p).openTimed = (s.portal p).timedFrom c := by
      rw [hp]
      simp [Portal.openTimed, Portal.enter, Portal.startHold, Portal.startCount, Portal.timedFrom, h]
    have hx : ((w.updPortal p (fun r => r.openTimed)).portal p).config = some c := by
      rw [State.portal_updPortal_self]
      exact hc
    simp only
    rw [State.handLock_portal_self hx, State.portal_updPortal_self, ht]
    exact State.withCommandOf_congr (by simp [hs.1]) c _
  case released =>
    have hx : ((w.updPortal p (fun r => r.enter .released)).portal p).config = some c := by
      rw [State.portal_updPortal_self]
      exact hc
    simp only
    rw [State.handLock_portal_self hx, State.portal_updPortal_self, hp]
    exact State.withCommandOf_congr (by simp [hs.1]) c _
  all_goals exact hsec

theorem State.relock_portal_ne {p q : Nat} (hq : q ≠ p) (s : State) : (s.relock p).portal q = s.portal q := by
  unfold State.relock
  dsimp only
  split
  · rw [State.handLock_portal_ne hq, State.portal_updPortal_ne hq, State.log_portal]
  · rw [State.handLock_portal_ne hq, State.portal_updPortal_ne hq, State.log_portal]
  · rw [State.enterSecure_portal_ne hq, State.log_portal]

/-- R121, R122: what the evaluation of its sources does to the portal. -/
theorem State.evaluateSources_portal_self {p : Nat} {c : PortalConfig} {s : State}
    (h : (s.portal p).config = some c) :
    (s.evaluateSources p).portal p = s.evaluated c (s.portal p) := by
  have hold := State.holdUnlocked_portal_self h
  have hand := State.handLock_portal_self h
  have hlock := State.relock_portal_self h
  unfold State.evaluateSources State.evaluated
  dsimp only
  cases (s.portal p).state <;> simp only <;> by_cases hz : s.sources (s.portal p) = 0 <;>
    simp only [hz, ↓reduceIte, ne_eq, not_true_eq_false, not_false_eq_true, hold, hand, hlock]

theorem State.evaluateSources_portal_ne {p q : Nat} (hq : q ≠ p) (s : State) :
    (s.evaluateSources p).portal q = s.portal q := by
  unfold State.evaluateSources
  dsimp only
  split <;> first
    | exact State.handLock_portal_ne hq s
    | split <;> first
      | exact State.holdUnlocked_portal_ne hq s
      | exact State.relock_portal_ne hq s
      | exact State.handLock_portal_ne hq s

/-! ## What a car is after its release list has changed -/

theorem State.handFloors_car (c i : Nat) (s : State) : (s.handFloors c).car i = s.car i := by
  rw [State.handFloors_only]
  rfl

/-- R136, R139: what settling does to the car. -/
theorem State.settleCar_car_self {c : Nat} {old : CarConfig} {s : State} (h : (s.car c).config = some old) :
    (s.settleCar c).car c = s.carSettled (s.car c) := by
  have hx : ∀ (n : NodeId) (f : Car → Car) (t : State), ((t.releaseCarNode n).updCar c f).car c = f (t.car c) := by
    intro n f t
    rw [State.car_updCar_self, State.releaseCarNode_only]
    rfl
  unfold State.settleCar State.carSettled
  rw [h]
  cases hd : (s.car c).deferred with
  | none => exact State.handFloors_car c c s
  | some g =>
    simp only
    by_cases hr : (s.car c).releases = []
    · rw [if_pos hr, if_neg (not_not.2 hr)]
      unfold State.applyCar
      simp only [h]
      by_cases hn : old.node = g.node
      · rw [if_pos hn, if_pos hn.symm, State.handFloors_car, State.car_updCar_self]
      · rw [if_neg hn, if_neg (fun e => hn e.symm), State.handFloors_car, hx old.node,
          State.car_updCar_self]
        simp [State.carStateFor, State.carStateByMode, State.node]
        rfl
    · rw [if_neg hr, if_pos hr, State.handFloors_car]

end Sys2Proof.Machine
end

