-- ==== Sys2Proof/Laws/Entries.lean ====
section
/-! SUPPORT. Which entries shared operations write, in the vocabulary of the statements. -/

namespace Sys2Proof.Machine

/-- Memory, the bus port and the journal agree, and so does all else that an entry depends on: two such states are told the same
by the same entry. -/
abbrev State.SameJournal (w t : State) : Prop :=
  State.JournalOf w t ∧ t.settings = w.settings ∧ t.clock = w.clock

theorem State.SameJournal.refl (s : State) : State.SameJournal s s :=
  ⟨⟨rfl, rfl, rfl⟩, rfl, rfl⟩

theorem State.SameJournal.trans {u w t : State} (h : State.SameJournal u w) (k : State.SameJournal w t) :
    State.SameJournal u t :=
  ⟨⟨k.1.1.trans h.1.1, k.1.2.1.trans h.1.2.1, k.1.2.2.trans h.1.2.2⟩, k.2.1.trans h.2.1, k.2.2.trans h.2.2⟩

/-- Two states that agree in what an entry depends on agree in it after the entry. -/
theorem State.SameJournal.log {w t : State} (h : State.SameJournal w t) (kind : EntryKind) (subject tenant : Option Nat)
    (detail : List Byte) : State.SameJournal (w.log kind subject tenant detail) (t.log kind subject tenant detail) := by
  have ht : t = State.withRest t w := by
    obtain ⟨⟨hm, hb, hj⟩, hs, hc⟩ := h
    simp only [State.withRest, ← hm, ← hb, ← hj, ← hs, ← hc]
  rw [ht, State.log_withRest]
  exact ⟨⟨rfl, rfl, rfl⟩, rfl, rfl⟩

/-- One entry for each object of a list. -/
theorem State.SameJournal.foldl {α : Type} {f g : State → α → State}
    (step : ∀ x w t, State.SameJournal w t → State.SameJournal (f w x) (g t x)) (xs : List α) {w t : State}
    (h : State.SameJournal w t) : State.SameJournal (xs.foldl f w) (xs.foldl g t) := by
  induction xs generalizing w t with
  | nil => exact h
  | cons x xs ih => exact ih (step x _ _ h)

/-! ## Portals -/

/-- R110: handing on the lock command writes no entry. -/
theorem State.handLock_sameJournal (p : Nat) (s : State) : State.SameJournal s (s.handLock p) := by
  rw [State.handLock_only]
  exact State.SameJournal.refl s

/-- R122: coming to HELD_UNLOCKED writes PORTAL_UNLOCKED with the sources present. -/
theorem State.holdUnlocked_entries {w s : State} (p : Nat) (h : State.SameJournal w s) :
    State.SameJournal (w.log .portalUnlocked (some p) none (bytesOf 1 (s.sources (s.portal p)))) (s.holdUnlocked p) := by
  unfold State.holdUnlocked
  dsimp only
  rw [State.portal_updPortal_self,
    show (s.updPortal p (fun r => { r.enter .heldUnlocked with openCounting := false })).sources
      { (s.portal p).enter .heldUnlocked with openCounting := false } = s.sources (s.portal p) from rfl]
  exact State.SameJournal.trans (State.SameJournal.log (t := s.updPortal p _) h _ _ _ _) (State.handLock_sameJournal p _)

/-- R114: the cancelling of every pending passage writes GRANT_UNUSED for each, in list order. -/
theorem State.cancelAll_entries {w s : State} (p : Nat) (reason : CancelReason) (h : State.SameJournal w s) :
    State.SameJournal (w.unusedEntries p reason.code (s.portal p).passages) (s.cancelAll p reason) := by
  refine State.SameJournal.foldl (fun g w t h => ?_) _ h
  refine State.SameJournal.log (t := (t.unlist p g).unreserve g) (h.trans ?_) _ _ _ _
  unfold State.unlist
  simp [State.SameJournal, State.JournalOf]

/-! ## Cars -/

/-- R140: handing on the outputs writes no entry. -/
theorem State.handFloors_sameJournal (i : Nat) (s : State) : State.SameJournal s (s.handFloors i) := by
  rw [State.handFloors_only]
  exact State.SameJournal.refl s

/-- R136, R140: settling a car writes no entry. -/
theorem State.settleCar_sameJournal (i : Nat) (s : State) : State.SameJournal s (s.settleCar i) := by
  unfold State.settleCar State.applyCar State.releaseCarNode
  dsimp only
  (repeat' split) <;> refine State.SameJournal.trans ?_ (State.handFloors_sameJournal i _) <;>
    simp [State.SameJournal, State.JournalOf]

/-- R144: one LIFT_RELEASE_END for each entry. -/
theorem State.logReleases_entries (i : Nat) (reason : ReleaseReason) (releases : List Release) {w t : State}
    (h : State.SameJournal w t) :
    State.SameJournal (w.releaseEntries i reason.code releases) (t.forEach releases (State.logRelease i reason)) := by
  induction releases generalizing w t with
  | nil => exact h
  | cons e releases ih => exact ih (h.log _ _ _ _)

/-- R139, R144: the emptying of a release list writes LIFT_RELEASE_END for each entry, oldest first. -/
theorem State.emptyReleases_entries {w s : State} (i : Nat) (reason : ReleaseReason) (h : State.SameJournal w s) :
    State.SameJournal (w.releaseEntries i reason.code (s.car i).releases) (s.emptyReleases i reason) := by
  have hu : State.SameJournal w (s.updCar i (fun r => { r with releases := [] })) :=
    h.trans (by simp [State.SameJournal, State.JournalOf])
  unfold State.emptyReleases
  exact (State.logReleases_entries i reason _ hu).trans (State.settleCar_sameJournal i _)

end Sys2Proof.Machine
end

