-- ==== Sys2Proof/Laws/Holds.lean ====
section
/-! SUPPORT. What one gain and one loss of a hold do (R91, R92): the unit's record, and the entry, in the vocabulary of the
statements. -/

namespace Sys2Proof.Machine

/-- An entry leaves the unit table alone. -/
theorem State.log_unit (kind : EntryKind) (subject tenant : Option Nat) (detail : List Byte) (u : Nat) (s : State) :
    (s.log kind subject tenant detail).unit u = s.unit u := by
  simp [State.unit]

/-- R91, R92: everything a loss of one hold does: the record, and the entry of a DISARMED unit whose last hold goes. -/
theorem State.loseHold_eq {u : Nat} {x : UnitRecord} {s : State} (h : s.unit u = some x) (tenant : Nat) :
    s.loseHold u tenant =
      if x.holders = 1 ∧ x.arm = .disarmed then
        (if x.door = .opened then
          ((s.setUnit u { x with holders := 0 }).setUnit u x.unheld).log .unitLeftOpen (some u) (some tenant) []
        else
          ((s.setUnit u { x with holders := 0 }).setUnit u x.unheld).log .unitArmed (some u) (some tenant) [0, 0xFF])
      else s.setUnit u x.unheld := by
  obtain ⟨zone, contact, grantees, arm, door, holders, fresh⟩ := x
  rcases holders with _ | _ | n
  · cases arm <;>
      simp [State.loseHold, State.setHolders, h, UnitRecord.unheld]
  · cases arm <;> cases door <;>
      simp [State.loseHold, State.setHolders, State.holdEnds, State.logArmed, h, UnitRecord.unheld, ArmReason.code,
        bytesOf, bytesOfOption]
  · cases arm <;>
      simp [State.loseHold, State.setHolders, h, UnitRecord.unheld]

/-- R91, R92: everything a gain of one hold does: the record, and the entry of a unit with no holder. -/
theorem State.gainHold_eq {u : Nat} {x : UnitRecord} {s : State} (h : s.unit u = some x) (tenant : Nat) :
    s.gainHold u tenant =
      if x.holders = 0 ∧ (x.arm = .armed ∨ x.arm = .leftOpen) then
        ((s.setUnit u { x with holders := 1 }).setUnit u x.heldOnce).log .unitDisarmed (some u) (some tenant) [1]
      else if x.holders = 0 ∧ x.arm = .intrusion then
        (s.setUnit u x.heldOnce).log .unitHeldInAlarm (some u) (some tenant) [1]
      else s.setUnit u x.heldOnce := by
  obtain ⟨zone, contact, grantees, arm, door, holders, fresh⟩ := x
  rcases holders with _ | n
  · cases arm <;>
      simp [State.gainHold, State.setHolders, State.holdBegins, h, UnitRecord.heldOnce, bytesOf]
  · cases arm <;>
      simp [State.gainHold, State.setHolders, h, UnitRecord.heldOnce]

/-- R91, R92: the record of a unit after a loss of one hold. -/
theorem State.loseHold_unit_self (u tenant : Nat) (s : State) :
    (s.loseHold u tenant).unit u = (s.unit u).map UnitRecord.unheld := by
  cases h : s.unit u with
  | none => simp [State.loseHold, h]
  | some x =>
    rw [State.loseHold_eq h]
    (repeat' split) <;> simp [State.log_unit]

/-- R91, R92: the record of a unit after a gain of one hold. -/
theorem State.gainHold_unit_self (u tenant : Nat) (s : State) :
    (s.gainHold u tenant).unit u = (s.unit u).map UnitRecord.heldOnce := by
  cases h : s.unit u with
  | none => simp [State.gainHold, h]
  | some x =>
    rw [State.gainHold_eq h]
    (repeat' split) <;> simp [State.log_unit]

theorem State.loseHold_unit_ne {u v : Nat} (hv : v ≠ u) (tenant : Nat) (s : State) :
    (s.loseHold u tenant).unit v = s.unit v := by
  cases h : s.unit u with
  | none => simp [State.loseHold, h]
  | some x =>
    rw [State.loseHold_eq h]
    (repeat' split) <;> simp only [State.log_unit, State.unit_setUnit_ne hv]

theorem State.gainHold_unit_ne {u v : Nat} (hv : v ≠ u) (tenant : Nat) (s : State) :
    (s.gainHold u tenant).unit v = s.unit v := by
  cases h : s.unit u with
  | none => simp [State.gainHold, h]
  | some x =>
    rw [State.gainHold_eq h]
    (repeat' split) <;> simp only [State.log_unit, State.unit_setUnit_ne hv]

/-- A unit record written changes nothing that an entry depends on. -/
theorem State.setUnit_sameJournal (u : Nat) (x : UnitRecord) (s : State) : State.SameJournal s (s.setUnit u x) :=
  ⟨⟨rfl, rfl, rfl⟩, rfl, rfl⟩

/-- R92, R101: the entry of one loss of hold. -/
theorem State.loseHold_entries {w s : State} {u : Nat} {x : UnitRecord} (hx : s.unit u = some x) (tenant : Nat)
    (h : State.SameJournal w s) :
    State.SameJournal (s.holdLossEntries tenant x.zone [u] w) (s.loseHold u tenant) := by
  rw [State.loseHold_eq hx]
  have hw (y : UnitRecord) : State.SameJournal w (s.setUnit u y) := h.trans (State.setUnit_sameJournal u y s)
  have hw2 (y z : UnitRecord) : State.SameJournal w ((s.setUnit u y).setUnit u z) :=
    (hw y).trans (State.setUnit_sameJournal u z _)
  simp only [State.holdLossEntries, List.foldl_cons, List.foldl_nil, hx, true_and]
  split
  · split
    · exact State.SameJournal.log (hw2 _ _) _ _ _ _
    · exact State.SameJournal.log (hw2 _ _) _ _ _ _
  · exact hw _

/-- R92, R101: the entry of one gain of hold. -/
theorem State.gainHold_entries {w s : State} {u : Nat} {x : UnitRecord} (hx : s.unit u = some x) (tenant : Nat)
    (h : State.SameJournal w s) :
    State.SameJournal (s.holdGainEntries tenant x.zone [u] w) (s.gainHold u tenant) := by
  rw [State.gainHold_eq hx]
  have hw (y : UnitRecord) : State.SameJournal w (s.setUnit u y) := h.trans (State.setUnit_sameJournal u y s)
  have hw2 (y z : UnitRecord) : State.SameJournal w ((s.setUnit u y).setUnit u z) :=
    (hw y).trans (State.setUnit_sameJournal u z _)
  simp only [State.holdGainEntries, List.foldl_cons, List.foldl_nil, hx, true_and]
  by_cases h0 : x.holders = 0
  · cases ha : x.arm <;> simp only [h0, true_and, if_true, reduceCtorEq, or_true, or_false, if_false]
    · exact State.SameJournal.log (hw2 _ _) _ _ _ _
    · exact hw _
    · exact State.SameJournal.log (hw2 _ _) _ _ _ _
    · exact State.SameJournal.log (hw _) _ _ _ _
  · simp only [h0, false_and, if_false]
    exact hw _

/-- R78, R79, R17: one loss of hold for each unit of a list that stands in zone `z`, in list order: the units' records and the
entries, both told by the state `o` before the list is gone through. -/
theorem State.loseHolds_list (tenant z : Nat) (o : State) (units : List Nat) (nodup : units.Nodup) {w s : State}
    (same : ∀ u ∈ units, s.unit u = o.unit u) (h : State.SameJournal w s) :
    let t := s.forEach (o.unitsIn z units) (fun u s => s.loseHold u tenant)
    State.SameJournal (o.holdLossEntries tenant z units w) t ∧
      ∀ u, t.unit u = if u ∈ units ∧ (o.unit u).any (fun x => x.zone == z) then (s.unit u).map UnitRecord.unheld
        else s.unit u := by
  induction units generalizing w s with
  | nil => exact ⟨h, fun u => by simp [State.forEach, State.unitsIn]⟩
  | cons a units ih =>
    obtain ⟨ha, nodup⟩ := List.nodup_cons.1 nodup
    have same' : ∀ u ∈ units, s.unit u = o.unit u := fun u hu => same u (List.mem_cons_of_mem _ hu)
    have hs := same a (List.mem_cons_self ..)
    by_cases hz : (o.unit a).any (fun x => x.zone == z) = true
    · obtain ⟨x, hx, hxz⟩ : ∃ x, o.unit a = some x ∧ x.zone = z := by simpa [Option.any_eq_true] using hz
      have next := ih nodup (w := o.holdLossEntries tenant z [a] w) (s := s.loseHold a tenant)
        (fun u hu => by
          rw [State.loseHold_unit_ne (fun e : _ = a => ha (by rwa [← e])), same' u hu])
        (by
          subst hxz
          have := State.loseHold_entries (hs.trans hx) tenant h
          simpa only [State.holdLossEntries, List.foldl_cons, List.foldl_nil, hs] using this)
      have list : o.unitsIn z (a :: units) = a :: o.unitsIn z units := by simp [State.unitsIn, hz]
      simp only [list]
      refine ⟨next.1, fun u => ?_⟩
      refine (next.2 u).trans ?_
      by_cases hu : u = a
      · subst hu
        simp [ha, hz, State.loseHold_unit_self]
      · simp [hu, State.loseHold_unit_ne hu]
    · have list : o.unitsIn z (a :: units) = o.unitsIn z units := by simp [State.unitsIn, hz]
      have skip : o.holdLossEntries tenant z (a :: units) w = o.holdLossEntries tenant z units w := by
        simp only [State.holdLossEntries, List.foldl_cons]
        congr 1
        cases hx : o.unit a with
        | none => rfl
        | some x =>
          have : x.zone ≠ z := by simpa [hx] using hz
          simp [this]
      have next := ih nodup same' h
      simp only [list, skip]
      refine ⟨next.1, fun u => (next.2 u).trans ?_⟩
      by_cases hu : u = a
      · subst hu
        simp [ha, hz]
      · simp [hu]

/-- R78, R79, R17: one gain of hold for each unit of a list that stands in zone `z`, in list order: the units' records and the
entries, both told by the state `o` before the list is gone through. -/
theorem State.gainHolds_list (tenant z : Nat) (o : State) (units : List Nat) (nodup : units.Nodup) {w s : State}
    (same : ∀ u ∈ units, s.unit u = o.unit u) (h : State.SameJournal w s) :
    let t := s.forEach (o.unitsIn z units) (fun u s => s.gainHold u tenant)
    State.SameJournal (o.holdGainEntries tenant z units w) t ∧
      ∀ u, t.unit u = if u ∈ units ∧ (o.unit u).any (fun x => x.zone == z) then (s.unit u).map UnitRecord.heldOnce
        else s.unit u := by
  induction units generalizing w s with
  | nil => exact ⟨h, fun u => by simp [State.forEach, State.unitsIn]⟩
  | cons a units ih =>
    obtain ⟨ha, nodup⟩ := List.nodup_cons.1 nodup
    have same' : ∀ u ∈ units, s.unit u = o.unit u := fun u hu => same u (List.mem_cons_of_mem _ hu)
    have hs := same a (List.mem_cons_self ..)
    by_cases hz : (o.unit a).any (fun x => x.zone == z) = true
    · obtain ⟨x, hx, hxz⟩ : ∃ x, o.unit a = some x ∧ x.zone = z := by simpa [Option.any_eq_true] using hz
      have next := ih nodup (w := o.holdGainEntries tenant z [a] w) (s := s.gainHold a tenant)
        (fun u hu => by
          rw [State.gainHold_unit_ne (fun e : _ = a => ha (by rwa [← e])), same' u hu])
        (by
          subst hxz
          have := State.gainHold_entries (hs.trans hx) tenant h
          simpa only [State.holdGainEntries, List.foldl_cons, List.foldl_nil, hs] using this)
      have list : o.unitsIn z (a :: units) = a :: o.unitsIn z units := by simp [State.unitsIn, hz]
      simp only [list]
      refine ⟨next.1, fun u => ?_⟩
      refine (next.2 u).trans ?_
      by_cases hu : u = a
      · subst hu
        simp [ha, hz, State.gainHold_unit_self]
      · simp [hu, State.gainHold_unit_ne hu]
    · have list : o.unitsIn z (a :: units) = o.unitsIn z units := by simp [State.unitsIn, hz]
      have skip : o.holdGainEntries tenant z (a :: units) w = o.holdGainEntries tenant z units w := by
        simp only [State.holdGainEntries, List.foldl_cons]
        congr 1
        cases hx : o.unit a with
        | none => rfl
        | some x =>
          have : x.zone ≠ z := by simpa [hx] using hz
          simp [this]
      have next := ih nodup same' h
      simp only [list, skip]
      refine ⟨next.1, fun u => (next.2 u).trans ?_⟩
      by_cases hu : u = a
      · subst hu
        simp [ha, hz]
      · simp [hu]

end Sys2Proof.Machine
end

