-- ==== Sys2Proof/Laws/Service.lean ====
section
/-! SUPPORT. What serving a slip does: the owner's change and the stage it gives, or nothing. -/

namespace Sys2Proof.Machine

/-- A slip of the kind in service is the one that `taken` finds. -/
theorem State.taken_of_serves {kind : SlipKind} {v : Service} {s : State} (h : s.Serves kind v) :
    s.taken kind = some v := by
  obtain ⟨h1, h2, h3⟩ := h
  simp [State.taken, h1, h2, h3]

/-- `taken` finds a slip of the kind in service only. -/
theorem State.serves_of_taken {kind : SlipKind} {v : Service} {s : State} (h : s.taken kind = some v) :
    s.Serves kind v := by
  unfold State.taken at h
  rw [Option.filter_eq_some_iff] at h
  simpa [State.Serves] using h

/-- R186: serving a slip is its owner's change, and then the stage that the owner gives. -/
theorem State.serve_of_serves {kind : SlipKind} {v : Service} {s : State} (h : s.Serves kind v)
    (owner : Service → State → State × Stage) :
    s.serve kind owner = (owner v s).1.finishService (owner v s).2 := by
  simp [State.serve, State.taken_of_serves h]

/-- Without a slip of the kind in service nothing is served. -/
theorem State.serve_of_none {kind : SlipKind} {s : State} (h : s.taken kind = none)
    (owner : Service → State → State × Stage) : s.serve kind owner = s := by
  simp [State.serve, h]

/-- Everything a serve can do. -/
theorem State.serve_cases (kind : SlipKind) (owner : Service → State → State × Stage) (s : State) :
    s.serve kind owner = s ∨
      ∃ v, s.Serves kind v ∧ s.serve kind owner = (owner v s).1.finishService (owner v s).2 := by
  cases h : s.taken kind with
  | none => exact .inl (State.serve_of_none h owner)
  | some v => exact .inr ⟨v, State.serves_of_taken h, State.serve_of_serves (State.serves_of_taken h) owner⟩

/-- The slip in service stands at the stage given. -/
theorem State.serviceAt_finishService {v : Service} {s t : State} (hs : s.slips.serving = some v)
    (ht : t.slips = s.slips) (stage : Stage) : s.ServiceAt v stage (t.finishService stage) := by
  simp [State.ServiceAt, State.finishService, ht, hs]

/-- A finished service changes the slip unit alone. -/
theorem State.finishService_eq (stage : Stage) (s : State) :
    s.finishService stage = { s with slips := (s.finishService stage).slips } := rfl

/-- R187: a check that fails refuses, and nothing is changed. -/
@[simp] theorem checked_some (a : Answer) (work : State × Answer) (s : State) :
    checked (some a) work s = (s, .served a) := rfl

@[simp] theorem checked_none (work : State × Answer) (s : State) :
    checked none work s = (work.1, .served work.2) := rfl

/-- R10: every check passes. -/
theorem firstProblem_none {checks : List (Option Answer)} : firstProblem checks = none ↔ ∀ c ∈ checks, c = none := by
  simp [firstProblem, List.findSome?_eq_none_iff]

@[simp] theorem require_none {ok : Bool} {a : Answer} : require ok a = none ↔ ok = true := by
  simp [require]

end Sys2Proof.Machine
end

