-- ==== Sys2Proof/Laws/Refusals.lean ====
section
/-! SUPPORT. The refusals of PORTAL_PUT and CAR_PUT (R105, R135): the checks of the owners are those that the vocabulary of the
statements writes out. -/

namespace Sys2Proof.Machine

/-- R10: the first check of a list refuses, or the others decide. -/
theorem firstProblem_require (ok : Bool) (a : Answer) (cs : List (Option Answer)) :
    firstProblem (require ok a :: cs) = if ok = false then some a else firstProblem cs := by
  cases ok <;> rfl

theorem firstProblem_one (c : Option Answer) : firstProblem [c] = c := by cases c <;> rfl

/-- Section 4.3: a node that is not of the kind, out of range or vacant. -/
theorem nodeIs_eq_false (n : NodeId) (kind : NodeKind) (s : State) : s.nodeIs n kind = false ↔
    (3 < n.line ∨ n.address = 0 ∨ 30 < n.address ∨ (s.node n).all (fun x => x.kind != kind) = true) := by
  simp only [State.nodeIs, NodeId.ok]
  cases s.node n
  · simp
  · simp; grind

/-- A bound that a check finds broken. -/
theorem decide_le_false {a n : Nat} : decide (a ≤ n) = false ↔ n < a := by simp

theorem decide_lt_false {a n : Nat} : decide (a < n) = false ↔ n ≤ a := by simp

theorem some_bne_some (a b : Nat) : (some a != some b) = (a != b) := by simp [bne]

/-- R105: the checks of PORTAL_PUT. -/
theorem portalPutProblem_eq (v : Service) (s : State) : portalPutProblem v s = s.portalRefusal v := by
  have free : (v.portalConfig.free.all (fun n => decide (n ≤ 31)) = false) ↔ (31 < v.body 12 1 ∧ v.body 12 1 ≠ 255) := by
    simp only [Service.portalConfig, optionOf]
    split <;> simp_all
  simp only [portalPutProblem, firstProblem_require, firstProblem_one, nodeIs_eq_false, free, decide_lt_false,
    decide_le_false, Bool.and_eq_false_iff, State.portalClaim, Portal.names, flagOk, some_bne_some, bne_eq_false_iff_eq,
    Nat.lt_one_iff, or_assoc]
  rfl

/-- R135: the checks of CAR_PUT. -/
theorem carPutProblem_eq (v : Service) (s : State) : carPutProblem v s = s.carRefusal v := by
  have pub (hs : v.body 3 2 < 4096) (hp : v.body 5 2 < 4096) :
      (v.carConfig.pub &&& ~~~v.carConfig.served == 0#16) = false ↔ v.body 5 2 &&& v.body 3 2 ≠ v.body 5 2 := by
    simp only [Service.carConfig, beq_eq_false_iff_ne, ne_eq]
    refine not_congr ?_
    rw [show BitVec.ofNat 16 (v.body 5 2) &&& ~~~BitVec.ofNat 16 (v.body 3 2) = 0#16 ↔
      BitVec.ofNat 16 (v.body 5 2) &&& BitVec.ofNat 16 (v.body 3 2) = BitVec.ofNat 16 (v.body 5 2) from ?_]
    · rw [← BitVec.toNat_inj]
      simp only [BitVec.toNat_and, BitVec.toNat_ofNat]
      rw [Nat.mod_eq_of_lt (by omega), Nat.mod_eq_of_lt (by omega)]
    · constructor
      · intro h
        ext i hi
        have := congrArg (fun x => x.getLsbD i) h
        simp at this ⊢
        grind
      · intro h
        ext i hi
        have := congrArg (fun x => x.getLsbD i) h
        simp at this ⊢
        grind
  have both (hs : v.body 3 2 < 4096) :
      (4096 ≤ v.body 5 2 ∨ (v.carConfig.pub &&& ~~~v.carConfig.served == 0#16) = false) =
        (4096 ≤ v.body 5 2 ∨ v.body 5 2 &&& v.body 3 2 ≠ v.body 5 2) := by
    by_cases hp : 4096 ≤ v.body 5 2
    · simp [hp]
    · simp only [hp, false_or, pub hs (by omega)]
  simp only [carPutProblem, firstProblem_require, firstProblem_one, nodeIs_eq_false, decide_lt_false,
    decide_le_false, Bool.and_eq_false_iff, State.carClaim, Car.names, flagOk, some_bne_some]
  unfold State.carRefusal
  by_cases hs : 4096 ≤ v.body 3 2
  · simp only [hs, if_true]
    rfl
  · simp only [hs, both (by omega)]
    rfl

end Sys2Proof.Machine
end

