-- ==== Sys2Proof/Tests/Slice0.lean ====
section
/-! SUPPORT. Tests: the refusals of the well-formedness check, one small step per command with the result the spec's text or
tables give, and for each statement with hypotheses a state and operands that meet them. -/

open Sys2Proof Sys2Proof.Machine

namespace Sys2Proof.Tests

/-! ## Small states -/

/-- A taken slip 5 with tag 7, a kind code, an extent and a body (R205). -/
def slipOf (kind start length : Nat) (body : List Byte) : Service :=
  { slip := 5, stage := .taken, bulk := []
    copy := bytesOf 2 2 ++ bytesOf 2 kind ++ bytesOf 2 7 ++ List.replicate 6 0 ++ bytesOf 2 start ++
      bytesOf 2 length ++ List.replicate 16 0 ++ body }

/-- A state with a slip in service. -/
def serving (v : Service) (s : State) : State :=
  { s with slips := { queue := [], serving := some v } }

/-- A slip of a kind served from a state, without an extent. -/
def served (kind : Nat) (body : List Byte) (s : State) : State :=
  serving (slipOf kind 0 0 body) s

/-- A property of the next state. -/
def holds (p : State → Bool) : Host.Outcome State Fault Refusal → Bool
  | .next t => p t
  | _ => false

/-- The answer that the slip in service has been given. -/
def answer (s : State) : Option Answer :=
  match s.slips.serving with
  | some { slip := _, copy := _, bulk := _, stage := .served a } => some a
  | _ => none

/-- The slip in service is answered DONE with a detail and no flag. -/
def done (detail : List Byte) (s : State) : Bool :=
  answer s == some (.done detail)

/-- The slip in service is refused with a code and a detail. -/
def turnedAway (code : ResultCode) (detail : List Byte) (s : State) : Bool :=
  answer s == some (.refusal code detail)

/-- The clock SET at a minute. -/
def atMinute (minute : Nat) (s : State) : State :=
  { s with clock := { s.clock with minute := minute, isSet := true } }

/-- A tenant with unit 9 on the grant list, off site. -/
def tenant : Tenant :=
  { state := .active, staff := false, profile := 0, paid := none, grants := [9], mask := 0x0010, credCount := 1,
    visit := none, transit := none }

/-- Tenant 4095's visit in slot 6 and zone 4, with a deadline. -/
def visit : Visit :=
  { slot := 6, tenant := 4095, credential := none, party := 2, zone := 4, entry := 900, deadline := some 1000,
    warning := some 990, standing := .current, state := .active, unconfirmed := false }

/-- Unit 9 in zone 4. -/
def unit : UnitRecord :=
  { zone := 4, contact := none, grantees := 1, arm := .disarmed, door := .closed, holders := 1, fresh := false }

/-- The card of tenant 4095. -/
def card : Key := { kind := 0, length := 26, value := 1048577 }

/-- The site with tenant 4095 on its unit's floor, the clock SET at minute 960. -/
def site : State :=
  { State.reset with
    clock := { State.reset.clock with minute := 960, isSet := true }
    tenants := [(4095, { tenant with visit := some 6 })]
    creds := [(card.code, { key := card, tenant := 4095, state := .active, expiry := none })]
    units := [(9, unit)]
    register := { visits := [visit], creating := 0, walk := none,
                  zones := [(4, { limit := 20, common := false, floor := some 2, count := 2, reserved := 0 })] } }

/-- The site with its tenant off site. -/
def empty : State :=
  { site with
    tenants := [(4095, tenant)], units := [(9, { unit with arm := .armed, holders := 0 })]
    register := { site.register with visits := [], zones := [] } }

/-- A portal from the street to zone 4. -/
def door : PortalConfig :=
  { node := ⟨3, 30⟩, outer := 0, inner := 4, headB := true, passback := .strict, unlock := 5, hold := 20,
    polarity := .powerToRelease, egress := true, free := none }

/-- Its channel in SECURE. -/
def secure : Portal := { Portal.blank with state := .secure, config := some door, door := .closed }

/-- Its record with the free-access profile 31. -/
def windowed : PortalConfig := { door with free := some 31 }

/-- Another record, with another node. -/
def elsewhere : PortalConfig := { windowed with node := ⟨2, 29⟩ }

/-- Profile 31, open at minute 960 and closed at minute 961. -/
def withHours (s : State) : State :=
  { s with profiles := [(31, { intervals := [⟨900, 961⟩], honours := false })] }

/-- The portal stands in a state under a record, with no deferred one. -/
def stands (st : PortalState) (c : PortalConfig) (s : State) : Bool :=
  (s.portal 47).state == st && (s.portal 47).config == some c && (s.portal 47).deferred == none

/-- A pending CREATE of tenant 4095. -/
def passage : Passage :=
  { tenant := 4095, kind := .create, party := 1, target := 4, soft := false, standing := .current, key := some card,
    head := .a }

/-- A node in contact. -/
def node (kind : NodeKind) : Node :=
  { kind := kind, state := .online, faults := 0, restore := 0, tagA := none, tagB := none, tagCar := none,
    lastBad := none, verdictA := .none, verdictB := .none, lock := .locked, polarity := .powerToRelease,
    floors := 0, recallOn := false, tamper := false }

/-- A running line with its idle exchange and the nodes due. -/
def running (due : List Nat) (exchange : Exchange) : Line :=
  { record := some { enabled := true, rate := .r19200 }, state := .running, cycle := 7, check := .stopped,
    exchange := exchange, due := due }

/-- Portal 47 in a given channel state, its node at line 3, address 30. -/
def withPortal (r : Portal) (s : State) : State :=
  { s with portals := [(47, r)], nodes := [(126, node .portal)] }

/-- A car serving floors 0 to 3, floor 0 public. -/
def lift : CarConfig := { node := ⟨3, 29⟩, served := 0x000F, pub := 0x0001, needsVisit := false }

/-- Car 3 with a release list. -/
def withCar (releases : List Release) (s : State) : State :=
  { s with cars := [(3, { state := .inService, config := some lift, deferred := none, releases := releases,
                          recallDone := false })], nodes := [(125, node .car)] }

/-- Line 3 in a given state with a node of a kind at address 30. -/
def withLine (r : Line) (n : Node) (s : State) : State :=
  { s with lines := [(3, r)], nodes := [(126, n)] }

/-- A read of the card at head A of the node at line 3, address 30. -/
def read : Read :=
  { node := ⟨3, 30⟩, head := .a, key := card, companions := 0, clamped := false, tag := 1, orphan := false }

/-- A character with its stop bit at mark. -/
def char (n : Byte) (mark : Bool) : LineChar := { data := n, mark := mark, stopOk := true }

/-- The good reply of a PORTAL node at address 30: door closed, driver OK, no press, no read. -/
def goodReply : List LineChar := [char 30 true, char 4 false, char 0 false, char 0xDE false]

/-- A reply of a PORTAL or CAR node at address 30 with a status byte and its check, without a read. -/
def status (byte check : Byte) : List LineChar := [char 30 true, char 4 false, char byte false, char check false]

/-- The reply of a PORTAL node at address 30 with a read of the card at head A, 3 companions, tag 14. -/
def readReply : List LineChar :=
  [char 30 true, char 13 false, char 0 false, char 0 false, char 0 false, char 26 false, char 1 false, char 0 false,
   char 16 false, char 0 false, char 3 false, char 14 false, char 0x99 false]

/-- The reply of a UNIT node at address 30: input 31 open, tamper set. -/
def unitReply : List LineChar :=
  [char 30 true, char 8 false, char 0 false, char 0 false, char 0 false, char 0x80 false, char 1 false, char 0x59 false]

/-- Line 3 with the poll of its node at address 30 in progress. -/
def polled (s : State) : State :=
  { s with lines := [(3, running [] (.polled 30 .r19200 []))] }

/-- A stalled journal whose awaited page 31 is FULL. -/
def stalled : State :=
  { State.reset with
    mem := [(0xA000, 2)]
    journal := { State.reset.journal with page := 31, stalled := true, flush := .stopped, reexamine := true } }

/-- R207: the kind codes and the details of the entries after the first on page 0, where the site's next entries go. -/
def told (n : Nat) (s : State) : List (Byte × List Byte) :=
  (List.range n).map (fun i => (s.byteAt (0x2425 + 16 * i), s.peek (0x242A + 16 * i) 6))

theorem le_of_all {o : Option Nat} {n : Nat} (h : o.all (fun d => d ≤ n) = true) : ∀ d, o = some d → d ≤ n := by
  rintro d rfl
  simpa using h

theorem portalAlone {s : State} {r : Portal} (n : NodeId) (h : s.portals = [(47, r)]) : s.PortalAlone n 47 := by
  intro q hq d hd
  simp [State.portal, Table.read, Table.find, h, hq.symm, Portal.blank] at hd

theorem carAlone {s : State} {r : Car} (n : NodeId) (h : s.cars = [(3, r)]) : s.CarAlone n 3 := by
  intro q hq d hd
  simp [State.car, Table.read, Table.find, h, hq.symm, Car.blank] at hd

theorem portalUnnamed {s : State} {r : Portal} (n : NodeId) (h : s.portals = [(47, r)]) :
    s.NoPortalNames n (some 47) := by
  intro q hq d hd
  have hq : q ≠ 47 := fun e => hq (congrArg some e)
  simp [State.portal, Table.read, Table.find, h, hq.symm, Portal.blank] at hd

theorem carUnnamed {s : State} {r : Car} (n : NodeId) (h : s.cars = [(3, r)]) : s.NoCarNames n (some 3) := by
  intro q hq d hd
  have hq : q ≠ 3 := fun e => hq (congrArg some e)
  simp [State.car, Table.read, Table.find, h, hq.symm, Car.blank] at hd

theorem noPortalNames {s : State} (n : NodeId) (h : s.portals = []) : s.NoPortalNames n none := by
  intro q _ d hd
  simp [State.portal, Table.read, Table.find, h, Portal.blank] at hd

theorem noCarNames {s : State} (n : NodeId) (h : s.cars = []) : s.NoCarNames n none := by
  intro q _ d hd
  simp [State.car, Table.read, Table.find, h, Car.blank] at hd

/-! ## Well-formedness -/

theorem test_controlBad_run : (Instr.controlBad 1).wellFormed = false := by decide
theorem test_controlBad_halt : (Instr.controlBad 2).wellFormed = false := by decide
theorem test_controlBad_reset : (Instr.controlBad 3).wellFormed = false := by decide
theorem test_controlBad_zero : (Instr.controlBad 0).wellFormed = true := by decide
theorem test_no_portal_48 : ([Instr.passageTimerExpiry 48, .holdTimerExpiry 48, .cooldownExpiry 48,
    .probeIntervalExpiry 48].any Instr.wellFormed) = false := by decide
theorem test_portal_47 : ([Instr.passageTimerExpiry 47, .holdTimerExpiry 47, .cooldownExpiry 47,
    .probeIntervalExpiry 47].all Instr.wellFormed) = true := by decide
theorem test_no_car_4 : (Instr.releaseExpiry 4 0).wellFormed = false := by decide
theorem test_no_tenant_4096 : (Instr.releaseExpiry 3 4096).wellFormed = false := by decide
theorem test_no_line_4 : ([Instr.poll 4, .idleCycleEnd 4, .reply 4 goodReply, .replyWindowExpiry 4, .quietWaitEnd 4,
    .lineBreak 4, .noQuiet 4, .recoveryCheckExpiry 4 true, .collision 4, .gapLimitExpiry 4].any
      Instr.wellFormed) = false := by decide
theorem test_line_3 : ([Instr.poll 3, .idleCycleEnd 3, .reply 3 goodReply, .replyWindowExpiry 3, .quietWaitEnd 3,
    .lineBreak 3, .noQuiet 3, .recoveryCheckExpiry 3 true, .collision 3, .gapLimitExpiry 3].all
      Instr.wellFormed) = true := by decide
theorem test_no_empty_reply : (Instr.reply 0 []).wellFormed = false := by decide

/-- The table gives no row any bits. -/
theorem test_no_word_spells_a_command : decodeTableWord 16 0 = none := by decide

/-! ## The bus -/

/-- R204: RUN 0x0001, HALT 0x0002, RESET 0x0003 at 0x10000; 0 and 4 are none of them. -/
theorem test_commandOfWrite_control : [0, 1, 2, 3, 4].map (commandOfWrite 0x10000) =
    [some (.controlBad 0), some .run, some .halt, some .reset, some (.controlBad 4)] := by decide
/-- R204: STATUS, POST, CAUSE, CLEAR and MASK at 0x10002, 4, 6, 8 and A. -/
theorem test_commandOfWrite_registers : [0x10002, 0x10004, 0x10006, 0x10008, 0x1000A].map (fun a => commandOfWrite a 5) =
    [some (.registerReadOnly .status 5), some (.post 5), some (.registerReadOnly .cause 5), some (.clear 5),
      some (.mask 5)] := by decide
/-- R177, R204: the last word of common memory, an odd address, and the address above MASK. -/
theorem test_commandOfWrite_memory : [0xFFFE, 0xFFFF, 0x10001, 0x1000C].map (fun a => commandOfWrite a 7) =
    [some (.hostMemoryWrite 0x7FFF 7), none, none, none] := by decide
/-- R179, R190, R204: the part code, and RESTART alone in CAUSE, after power-on. -/
theorem test_busRead : [0, 0x10006, 0x1000A, 1].map (fun a => State.reset.busRead a) =
    [some 0x2640, some 0x40, some 0, none] := by decide
/-- R181, R185: a write of 63 to POST waits behind the command that came before it. -/
theorem test_busWrite : ({ State.reset with pending := [.run] }.busWrite 0x10004 63).pending = [.run, .post 63] := by
  decide

/-! ## The step -/

theorem test_step_takes_the_front :
    holds (fun t => t.bus.run == .run && t.pending == [.halt]) (step { State.reset with pending := [.run, .halt] }) =
      true := by decide
/-- R169: 0.5 s is 16,384 periods of the crystal. -/
theorem test_step_idle : holds (fun t => t.mode.hold == .running 16383)
    (step { State.reset with mode := { State.reset.mode with hold := .running 16383 } }) = true := by decide

/-! ## Bus port and slip unit -/

/-- R190. -/
theorem test_powerOn : holds (fun t => t == State.reset)
    (exec .powerOn site) = true := by decide
/-- R190: line 0 starts and block 0 shows RUN. -/
theorem test_run : holds (fun t => (t.line 0).state == .running && t.byteAt 24 == 1)
    (exec .run { State.reset with lines := [(0, { Line.blank with record := some ⟨true, .r19200⟩ })] }) = true := by
  decide
/-- R190, R164: the line stops and its node is UNKNOWN. -/
theorem test_halt : holds (fun t => (t.line 3).state == .stopped && (t.node ⟨3, 30⟩).any (fun n => n.state == .unknown))
    (exec .halt { withLine (running [] .idle) (node .unit) State.reset with bus := { State.reset.bus with run := .run } }) =
      true := by decide
/-- R191, R205: a queued slip reads ANSWERED with ABORTED. -/
theorem test_reset : holds (fun t => t.wordAt 0x400 == 3 && t.wordAt 0x406 == 14 && t.slips.queue.isEmpty)
    (exec .reset { State.reset with mem := [(0x400, 1)], slips := { queue := [0], serving := none } }) = true := by
  decide
/-- R181, R204: CONTROL_BAD is code 7, REFUSED is bit 4. -/
theorem test_controlBad : holds (fun t => t.bus.lastRefusal.code == 7 && t.bus.cause == 0x50)
    (exec (.controlBad 4) State.reset) = true := by decide
/-- R185: 64 names no slip. -/
theorem test_post_64 : holds (fun t => t.bus.lastRefusal == .postBadNumber) (exec (.post 64) State.reset) = true := by
  decide
/-- R185: a POSTED slip joins the queue. -/
theorem test_post : holds (fun t => t.slips.queue == [63])
    (exec (.post 63) { State.reset with mem := [(0x2380, 1)] }) = true := by decide
/-- R182. -/
theorem test_clear : holds (fun t => t.bus.cause == 0) (exec (.clear 0x0040) State.reset) = true := by decide
/-- R182: RESTART is set after power-on, and with its enable set IRQ is asserted. -/
theorem test_mask : holds (fun t => t.irq && !t.alert) (exec (.mask 0x0040) State.reset) = true := by decide
/-- R181. -/
theorem test_registerReadOnly : holds (fun t => t.bus.lastRefusal == .registerReadOnly)
    (exec (.registerReadOnly .cause 0) State.reset) = true := by decide
/-- R180: a FREE slip may be written POSTED. -/
theorem test_hostWrite_posts : holds (fun t => t.wordAt 0x400 == 1) (exec (.hostMemoryWrite 0x200 1) State.reset) =
    true := by decide
/-- R180: a journal entry may not be written. -/
theorem test_hostWrite_page : holds (fun t => t.bus.lastRefusal == .pageBody)
    (exec (.hostMemoryWrite 0x1208 1) State.reset) = true := by decide
/-- R186. -/
theorem test_slipTake : holds (fun t => t.wordAt 0x400 == 2 && t.slips.serving.any (fun v => v.slip == 0 && v.kind == 12))
    (exec .slipTake { State.reset with mem := [(0x400, 1), (0x402, 12)], slips := { queue := [0], serving := none } }) =
      true := by decide
/-- R186, R205: the tag 7 is echoed at byte 10, the detail stands at byte 16, ANSWER is bit 0. -/
theorem test_slipAnswer : holds (fun t => t.wordAt 0x68A == 7 && t.byteAt 0x690 == 5 && t.bus.cause == 0x41)
    (exec .slipAnswer (serving { slipOf 12 0 0 [] with stage := .served (.done [5]) } State.reset)) = true := by decide
/-- R205: kind 37 is refused. -/
theorem test_badKind : holds (turnedAway .badKind []) (exec .badKind (served 37 [] State.reset)) = true := by decide

/-! ## Tenant directory -/

/-- R11: a created record has the starting values of R1. -/
theorem test_tenantPut : holds (fun t => done [0] t && t.tenant 117 == some { tenant with
      profile := 3, paid := some 20330, grants := [], mask := 0, credCount := 0 })
    (exec .tenantPut (served 1 [117, 0, 0, 0, 3, 0x6A, 0x4F, 0] State.reset)) = true := by decide
/-- R11: profile 32 is the fourth field. -/
theorem test_tenantPut_profile : holds (turnedAway .badField [4])
    (exec .tenantPut (served 1 [117, 0, 0, 0, 32, 0, 0, 0] State.reset)) = true := by decide
/-- R12: a tenant with a visit link is ON_SITE. -/
theorem test_tenantDrop_on_site : holds (turnedAway .onSite [1]) (exec .tenantDrop (served 2 [0xFF, 0x0F, 0] site)) =
    true := by decide
/-- R13: with FORCE the visit ends, one credential and one grant go. -/
theorem test_tenantDrop_forced : holds (fun t => done [1, 1, 0, 1] t && t.tenants.isEmpty && t.creds.isEmpty &&
      t.register.visits.isEmpty && (t.unit 9).any (fun u => u.grantees == 0 && u.arm == .armed))
    (exec .tenantDrop (served 2 [0xFF, 0x0F, 1] site)) = true := by decide
/-- R14: the key belongs to another tenant. -/
theorem test_credPut_exists : holds (turnedAway .exists_ [0xFF, 0x0F])
    (exec .credPut (served 3 [0, 26, 1, 0, 0x10, 0, 5, 0, 0, 0xFF, 0xFF, 0xFF]
      { site with tenants := [(5, tenant), (4095, tenant)] })) = true := by decide
/-- R14: an inserted credential counts for its tenant. -/
theorem test_credPut : holds (fun t => done [0] t && t.creds.length == 2 && (t.tenant 4095).any (fun x => x.credCount == 2))
    (exec .credPut (served 3 [0, 32, 1, 0, 0x10, 0, 0xFF, 0x0F, 0, 0xFF, 0xFF, 0xFF] site)) = true := by decide
/-- R15: the answer names the owner. -/
theorem test_credDrop : holds (fun t => done [0xFF, 0x0F] t && t.creds.isEmpty &&
      (t.tenant 4095).any (fun x => x.credCount == 0))
    (exec .credDrop (served 4 [0, 26, 1, 0, 0x10, 0] site)) = true := by decide
/-- R16, R17: the unit that leaves the list loses its grantee and its hold. -/
theorem test_grantSet : holds (fun t => done [] t && (t.tenant 4095).any (fun x => x.grants.isEmpty && x.mask == 0) &&
      (t.unit 9).any (fun u => u.grantees == 0 && u.holders == 0 && u.arm == .armed))
    (exec .grantSet (served 5 [0xFF, 0x0F, 0] site)) = true := by decide
/-- R16: the vacant unit at position 1. -/
theorem test_grantSet_vacant : holds (turnedAway .notFound [2, 1])
    (exec .grantSet (served 5 [0xFF, 0x0F, 2, 9, 0, 8, 0] site)) = true := by decide
/-- R18. -/
theorem test_standingSet : holds (fun t => (t.tenant 4095).any (fun x => x.paid == some 20130))
    (exec .standingSet (served 6 [0xFF, 0x0F, 0xA2, 0x4E, 0] site)) = true := by decide
/-- R20: a unit moved out of its tenant's zone has no holder left. -/
theorem test_unitPut : holds (fun t => done [1] t && (t.unit 9).any (fun u => u.zone == 5 && u.holders == 0) &&
      (t.tenant 4095).any (fun x => x.mask == 0x0020))
    (exec .unitPut (served 7 [9, 0, 5, 0xFF, 0xFF, 0xFF] site)) = true := by decide
/-- R21: a unit with a grantee is IN_USE. -/
theorem test_unitDrop : holds (turnedAway .inUse [1]) (exec .unitDrop (served 8 [9, 0] site)) = true := by decide
/-- R178: TAKEN stands until the answer's last access, with the detail already written; then ANSWERED. -/
theorem test_slipAnswer_during :
    let s : State := { site with mem := [(0x680, 2)] }
    let l := answerAccesses 5 7 (.done [5])
    (s.during 11 l).wordAt 0x680 = 2 ∧ (s.during 11 l).byteAt 0x690 = 5 ∧ (s.during 12 l).wordAt 0x680 = 3 := by
  decide

/-- R179: the update count is odd while the five bytes of the clock are written, and wraps after them; the read halfway has
the flag and the first byte of the new minute, and the old other bytes. -/
theorem test_mirror_during :
    let s : State := { State.reset with mem := [(4, 0xFE), (5, 0xFF), (29, 9)] }
    let l := s.mirrorAccesses 27 [1, 2, 3, 4, 5]
    s.updateCount = 65534 ∧ l.length = 5 ∧ (s.during 1 l).updateCount = 65535 ∧ (s.during 3 l).updateCount = 65535 ∧
      (s.during 3 l).peek 27 5 = [1, 2, 3, 0, 0] ∧ (s.during 2 l).peek 27 5 = [1, 0, 9, 0, 0] ∧
      (s.during 5 l).updateCount = 0 := by
  decide

/-- R178: a page reads FILLING until its close reason stands, and FULL after the next access. -/
theorem test_fullAccesses_during :
    let s : State := { State.reset with mem := [(0x2400, 1), (0x2406, 63), (0x2407, 0xFF)] }
    (s.during 1 (fullAccesses .full 0)).peek 0x2400 8 = [1, 0, 0, 0, 0, 0, 63, 0] ∧
      (s.during 2 (fullAccesses .full 0)).wordAt 0x2400 = 2 := by
  decide

/-- R188: a host write between two words of an image stands where the part has passed the word, and else is lost. -/
theorem test_hostWriteDuring :
    let l := accessesOf 0xA400 [1, 2, 3, 4]
    (site.hostWriteDuring 1 l 0xA400 9).peek 0xA400 4 = [9, 0, 3, 4] ∧
      (site.hostWriteDuring 1 l 0xA402 9).peek 0xA400 4 = [1, 2, 3, 4] := by
  decide

/-- R22, R206: the tenant image begins with the index, and its standing is CURRENT. -/
theorem test_tenantRead : holds (fun t => done [1] t && t.wordAt 0xA400 == 4095 && t.byteAt 0xA41F == 0 &&
      t.peek 0xA420 8 == [0, 26, 1, 0, 0x10, 0, 0xFF, 0x0F])
    (exec .tenantRead (serving (slipOf 9 0xA400 48 [0xFF, 0x0F]) site)) = true := by decide
/-- R23: a list of none is answered at once. -/
theorem test_loadTenants : holds (done [0, 0, 0, 0]) (exec .loadTenants (serving (slipOf 10 0xA400 0 [0, 0]) site)) =
    true := by decide
/-- R188: an odd length. -/
theorem test_loadCredentials : holds (turnedAway .badField [0])
    (exec .loadCredentials (serving (slipOf 11 0xA400 15 [1, 0]) site)) = true := by decide
/-- R24: a record with a bad key is refused at position 0 with BAD_FIELD, code 2. -/
theorem test_loadRecordApply : holds (done [0, 0, 1, 0, 0, 0, 2])
    (exec .loadRecordApply (serving { slipOf 11 0xA400 16 [1, 0] with
      stage := .loading 0 0 0 none, bulk := List.replicate 16 0xFF } site)) = true := by decide

/-! ## Site clock and hours -/

/-- R31, R32: an hour on moves the deadline by an hour. -/
theorem test_clockSet : holds (fun t => done [0xC0, 3, 0, 0] t && t.clock.minute == 1020 &&
      t.register.visits.all (fun w => w.deadline == some 1060))
    (exec .clockSet (served 12 [0xFC, 3, 0, 0, 0, 6] site)) = true := by decide
/-- R35: an interval whose start is its end, at position 0. -/
theorem test_profilePut : holds (turnedAway .badField [3, 0])
    (exec .profilePut (served 13 [31, 1, 5, 0, 5, 0, 0] site)) = true := by decide
/-- R36: days are sorted and repeats merged. -/
theorem test_holidaySet : holds (fun t => done [2] t && t.holidays == [1, 3])
    (exec .holidaySet (served 14 [3, 3, 0, 0, 1, 0, 0, 3, 0, 0] site)) = true := by decide
/-- R27: 59 wraps to 0 and carries a minute event. -/
theorem test_secondEvent : holds (fun t => t.clock.second == 0 && t.clock.minute == 961 && t.clock.minuteDue)
    (exec .secondEvent { site with clock := { site.clock with second := 59 } }) = true := by decide
/-- R198: a stalled journal's recovery is due where the page it waits for reads EMPTY, and not where it reads FULL. -/
theorem test_secondEvent_stalled : holds (fun t => !t.journal.reexamine) (exec .secondEvent stalled) = true ∧
    holds (fun t => t.journal.reexamine) (exec .secondEvent { stalled with mem := [] }) = true := by decide
/-- R81: at its deadline a visit is OVERSTAY, which is an alarm. -/
theorem test_minuteEvent : holds (fun t => t.alert && t.register.visits.all (fun w => w.state == .overstay))
    (exec (.minuteEvent .registerFirst) { site with clock := { site.clock with minute := 1000, minuteDue := true } }) =
      true := by decide

/-! ## Visits, zones and units -/

/-- R72: a limit above 250 is clamped; the counts are answered. -/
theorem test_zonePut : holds (fun t => answer t == some { Answer.done [2, 0, 0, 0] with clamped := true } &&
      (t.zone 4).limit == 250 && (t.zone 4).count == 2)
    (exec .zonePut (served 15 [4, 251, 0, 11] site)) = true := by decide
/-- R73, R206: zone 4's image is the fourth. -/
theorem test_zoneRead : holds (fun t => t.peek 0xA418 8 == [4, 20, 0, 2, 2, 0, 0, 0] && t.wordAt 0xA478 == 1)
    (exec .zoneRead (serving (slipOf 16 0xA400 124 []) site)) = true := by decide +kernel
/-- R83: 30 minutes from minute 960, the warning 10 minutes before. -/
theorem test_visitExtend : holds (fun t => done [6, 0, 0xDE, 3, 0, 0, 0xD4, 3, 0, 0] t)
    (exec .visitExtend (served 17 [0xFF, 0x0F, 30, 0] site)) = true := by decide
/-- R84: the visit, 60 minutes old, is ended from the host. -/
theorem test_visitEnd : holds (fun t => done [0, 1, 6, 0, 60, 0, 0, 0] t && (t.zone 4).count == 0)
    (exec .visitEnd (served 18 [0xFF, 0x0F] site)) = true := by decide +kernel
/-- R85: a skip of the whole list. -/
theorem test_visitList : holds (done [0, 0]) (exec .visitList (serving (slipOf 19 0xA400 32 [1, 0]) site)) = true := by
  decide
/-- R85, R206: the image begins with the slot and the tenant; the list ends. -/
theorem test_visitImageCopy : holds (fun t => done [1, 0] t && t.peek 0xA400 4 == [6, 0, 0xFF, 0x0F])
    (exec .visitImageCopy (serving { slipOf 19 0xA400 32 [0, 0] with stage := .listing 0 }
      { site with register := { site.register with walk := some 0 } })) = true := by decide
/-- R96: an open unit with no holder is LEFT_OPEN, an alarm. -/
theorem test_unitClear : holds (fun t => done [2, 1, 0] t && t.alert)
    (exec .unitClear (served 20 [9, 0]
      { site with units := [(9, { unit with arm := .intrusion, door := .opened, holders := 0 })] })) = true := by decide
/-- R96: a unit that is not in INTRUSION. -/
theorem test_unitClear_disarmed : holds (turnedAway .notApplicable [1, 0, 1]) (exec .unitClear (served 20 [9, 0] site)) =
    true := by decide

/-! ## Portals -/

/-- R105: the new channel waits for its node; the hold seconds are clamped to 600. -/
theorem test_portalPut : holds (fun t => (t.portal 47).state == .waiting && (answer t).any (fun a => a.clamped) &&
      (t.portal 47).config.any (fun c => c.hold == 600))
    (exec .portalPut (served 21 [47, 3, 30, 0, 4, 0, 0, 5, 0x59, 2, 1, 1, 0xFF]
      { State.reset with nodes := [(126, node .portal)] })) = true := by decide
/-- R108: a pending passage. -/
theorem test_portalDrop : holds (turnedAway .busy [1])
    (exec .portalDrop (served 22 [47] (withPortal { secure with passages := [passage] } site))) = true := by decide
/-- R120. -/
theorem test_portalPulse : holds (fun t => done [3] t && (t.portal 47).state == .released &&
      (t.node ⟨3, 30⟩).any (fun n => n.lock == .released))
    (exec .portalPulse (served 23 [47] (withPortal secure site))) = true := by decide
/-- R123: HELD_UNLOCKED, code 7, by the host hold, bit 1. -/
theorem test_portalHold : holds (done [7, 2]) (exec .portalHold (served 24 [47] (withPortal secure site))) = true := by
  decide
/-- R122, R123: the last source gone, the door closed and nothing pending. -/
theorem test_portalSecure : holds (fun t => done [2, 0] t && (t.portal 47).command == .locked)
    (exec .portalSecure (served 25 [47]
      (withPortal { secure with state := .heldUnlocked, hostHold := true, command := .released } site))) = true := by
  decide
/-- R128: from FAULT_DRIVER to SECURE. -/
theorem test_portalReset : holds (fun t => done [2] t && (t.portal 47).faults == 0)
    (exec .portalReset (served 26 [47] (withPortal { secure with state := .faultDriver, faults := 3 } site))) = true := by
  decide
/-- R113: a grant not used is cancelled and the portal re-locks. -/
theorem test_passageTimerExpiry : holds (fun t => (t.portal 47).state == .secure && (t.tenant 4095).any
      (fun x => x.transit.isNone) && t.register.creating == 0)
    (exec (.passageTimerExpiry 47) { withPortal { secure with
        state := .released, passages := [passage], passageTimer := .due } empty with
      tenants := [(4095, { tenant with transit := some 47 })]
      register := { empty.register with creating := 1 } }) = true := by decide
/-- R118: a door held is an alarm. -/
theorem test_holdTimerExpiry : holds (fun t => (t.portal 47).state == .held && t.alert)
    (exec (.holdTimerExpiry 47) (withPortal { secure with state := .opened, door := .opened, holdTimer := .due } site)) =
      true := by decide
/-- R125: the third fault is latched. -/
theorem test_cooldownExpiry : holds (fun t => (t.portal 47).state == .faultDriver)
    (exec (.cooldownExpiry 47) (withPortal { secure with state := .cooldown, cooldown := .due, faults := 3 } site)) =
      true := by decide
/-- R126. -/
theorem test_probeIntervalExpiry : holds (fun t => (t.portal 47).probeElapsed && (t.portal 47).probe == .stopped)
    (exec (.probeIntervalExpiry 47) (withPortal { secure with probe := .due } site)) = true := by decide

/-! ## Lift cars -/

/-- R135, R140: in NORMAL the public floors stand in the output. -/
theorem test_carPut : holds (fun t => done [0] t && (t.node ⟨3, 29⟩).any (fun n => n.floors == 0x0001))
    (exec .carPut (served 27 [3, 3, 29, 0x0F, 0, 1, 0, 0] { site with nodes := [(125, node .car)] })) = true := by decide
/-- R137: one release entry. -/
theorem test_carDrop : holds (turnedAway .busy [1])
    (exec .carDrop (served 28 [3] (withCar [{ tenant := 4095, floors := 4, timer := .running 1 }] site))) = true := by
  decide
/-- R139, R140: the floor is gone from the output. -/
theorem test_releaseExpiry : holds (fun t => (t.car 3).releases.isEmpty && (t.node ⟨3, 29⟩).any (fun n => n.floors == 1))
    (exec (.releaseExpiry 3 4095) (withCar [{ tenant := 4095, floors := 4, timer := .due }] site)) = true := by decide

/-! ## Reader lines -/

/-- R147: an enabled line stays STOPPED in HALT. -/
theorem test_linePut : holds (done [0, 0]) (exec .linePut (served 29 [3, 1, 3] site)) = true := by decide
/-- R149: address 31 is none. -/
theorem test_nodePut : holds (turnedAway .badField [2]) (exec .nodePut (served 30 [3, 31, 0] site)) = true := by decide
/-- R150: a portal names the node. -/
theorem test_nodeDrop : holds (turnedAway .inUse [0]) (exec .nodeDrop (served 31 [3, 30] (withPortal secure site))) =
    true := by decide
/-- R151, R152, R209: the poll of a UNIT node: the marked address, length 5, code 2, no tag, and the check. -/
theorem test_poll : holds (fun t => (t.line 3).exchange ==
      .polled 30 .r19200 [char 30 true, char 5 false, char 2 false, char 15 false, char 0xCC false])
    (exec (.poll 3) (withLine (running [30] .idle) (node .unit) site)) = true := by decide
/-- R154: cycle 7 is followed by cycle 0, in which an OFFLINE node is due. -/
theorem test_idleCycleEnd : holds (fun t => (t.line 3).cycle == 0 && (t.line 3).due == [30])
    (exec (.idleCycleEnd 3) (withLine (running [] .idle) { node .unit with state := .offline } site)) = true := by
  decide
/-- R154: a node put in a line's first cycle is not due in it. -/
theorem test_nodePut_first_cycle : holds (fun t => (t.line 3).due == [] && (t.node ⟨3, 30⟩).isSome)
    (exec .nodePut (served 30 [3, 30, 2] { site with lines := [(3, running [] .idle)] })) = true := by decide
/-- R157: a good reply takes one from the fault counter. -/
theorem test_reply : holds (fun t => (t.node ⟨3, 30⟩).any (fun n => n.faults == 1) && (t.line 3).exchange == .idle)
    (exec (.reply 3 goodReply) (withLine (running [1] (.polled 30 .r19200 []))
      { node .portal with faults := 2 } site)) = true := by decide
/-- R156: the check character is wrong. -/
theorem test_reply_check : holds (fun t => (t.node ⟨3, 30⟩).any (fun n => n.lastBad == some .check))
    (exec (.reply 3 [char 30 true, char 4 false, char 0 false, char 0xDF false])
      (withLine (running [1] (.polled 30 .r19200 [])) (node .portal) site)) = true := by decide
/-- R157, R158: the fifth bad reply in a row, above the default limit 4. -/
theorem test_replyWindowExpiry : holds (fun t => (t.node ⟨3, 30⟩).any
      (fun n => n.state == .offline && n.lastBad == some .silent) && t.alert)
    (exec (.replyWindowExpiry 3) (withLine (running [1] (.polled 30 .r19200 []))
      { node .portal with faults := 4 } site)) = true := by decide
/-- R155. -/
theorem test_quietWaitEnd : holds (fun t => (t.line 3).exchange == .idle && (t.line 3).cycle == 7)
    (exec (.quietWaitEnd 3) (withLine (running [1] .quietWait) (node .portal) site)) = true := by decide
/-- R162: the recovery check runs 2 seconds. -/
theorem test_lineBreak : holds (fun t => (t.line 3).state == .fault && (t.line 3).check == .running 2 &&
      (t.node ⟨3, 30⟩).any (fun n => n.state == .offline))
    (exec (.lineBreak 3) (withLine (running [1] .idle) (node .portal) site)) = true := by decide
/-- R162. -/
theorem test_noQuiet : holds (fun t => (t.line 3).state == .fault)
    (exec (.noQuiet 3) (withLine (running [1] .quietWait) (node .portal) site)) = true := by decide
/-- R163. -/
theorem test_recoveryCheckExpiry : holds (fun t => (t.line 3).state == .running && (t.line 3).cycle == 0)
    (exec (.recoveryCheckExpiry 3 true) (withLine { running [] .idle with state := .fault, check := .due }
      (node .portal) site)) = true := by decide
/-- R155, R156. -/
theorem test_collision : holds (fun t => (t.node ⟨3, 30⟩).any (fun n => n.lastBad == some .collision))
    (exec (.collision 3) (withLine (running [1] (.polled 30 .r19200 [])) (node .portal) site)) = true := by decide
/-- R155, R156. -/
theorem test_gapLimitExpiry : holds (fun t => (t.node ⟨3, 30⟩).any (fun n => n.lastBad == some .cutShort))
    (exec (.gapLimitExpiry 3) (withLine (running [1] (.polled 30 .r19200 [])) (node .portal) site)) = true := by
  decide

/-! ## Decisions, modes and the journal -/

/-- R55, R58: a tenant from the street is granted a CREATE, pending behind the closed door. -/
theorem test_decision : holds (fun t => (t.portal 47).state == .released &&
      (t.portal 47).passages.map (fun g => (g.kind, g.party, g.target)) == [(.create, 1, 4)] &&
      (t.tenant 4095).any (fun x => x.transit == some 47) && (t.zone 4).reserved == 1 && t.register.creating == 1 &&
      (t.node ⟨3, 30⟩).any (fun n => n.verdictA == .given .grant))
    (exec .decision { withPortal secure empty with reads := [read] }) = true := by decide
/-- R54: a tenant whose visit stands in another zone, at a STRICT portal. -/
theorem test_decision_passback : holds (fun t => (t.node ⟨3, 30⟩).any (fun n => n.verdictA == .given .passback))
    (exec .decision { withPortal secure site with reads := [read] }) = true := by decide
/-- R172, R141: LOCKDOWN in NORMAL; MODE_CHANGE is an alarm and the mirror shows the mode. -/
theorem test_lockdown : holds (fun t => done [0, 1, 0xFF] t && t.alert && t.byteAt 25 == 1)
    (exec (.lockdown .portalsFirst) (served 32 [] site)) = true := by decide
/-- R172, R110: the egress portal is released. -/
theorem test_evacuate : holds (fun t => done [0, 2, 1] t && (t.portal 47).command == .released)
    (exec (.evacuate .carsFirst) (served 33 [] (withPortal secure site))) = true := by decide
/-- R173: refused in NORMAL. -/
theorem test_resume : holds (turnedAway .wrongMode [0, 0, 1]) (exec (.resume .portalsFirst) (served 34 [] site)) = true := by
  decide
/-- R189: grace days 31 are taken as 30; the other settings are absent. -/
theorem test_sitePut : holds (fun t => t.settings.grace == 30 && t.settings.flush == 10 && answer t == some
      { Answer.done [30, 14, 240, 0, 15, 10, 4, 10, 20, 0, 1, 0] with clamped := true })
    (exec .sitePut (served 35 (31 :: List.replicate 9 0xFF) site)) = true := by decide
/-- R200: POWER_UP is entry 0, so the mark is entry 1. -/
theorem test_journalMark : holds (done [1, 1, 0, 0, 0]) (exec .journalMark (served 36 [0x34, 0x12] State.reset)) = true := by
  decide
/-- R196: page 0 becomes FULL with reason FLUSH and page 1 FILLING. -/
theorem test_flushTimerExpiry : holds (fun t => t.wordAt 0x2400 == 2 && t.byteAt 0x2407 == 1 && t.wordAt 0x2800 == 1 &&
      t.bus.cause == 0x42)
    (exec .flushTimerExpiry { State.reset with journal := { State.reset.journal with flush := .due } }) = true := by decide
/-- R198: the awaited page reads EMPTY, and the dropped entries are told by a JOURNAL_GAP, kind 4. -/
theorem test_journalRecovery : holds (fun t => !t.journal.stalled && t.wordAt 0xA000 == 1 && t.byteAt 0xA015 == 4 &&
      t.journal.routineDropped == 0)
    (exec .journalRecovery { stalled with mem := [], journal := { stalled.journal with routineDropped := 2 } }) = true := by
  decide
/-- R169: the filter starts. -/
theorem test_fireInputChange : holds (fun t => t.mode.hold == .running 0) (exec (.fireInputChange true) site) = true := by
  decide
/-- R171: the site evacuates on FIRE. -/
theorem test_fireActive : holds (fun t => t.mode.mode == .evacuate && t.mode.source == some .fire && t.byteAt 26 == 0)
    (exec (.fireActive .carsFirst) { site with mode := { site.mode with contactClosed := true, hold := .running 16383 } }) =
      true := by decide
/-- R171: the mode stays EVACUATE. -/
theorem test_fireClear : holds (fun t => !t.mode.fireActive && t.mode.mode == .evacuate)
    (exec .fireClear { site with mode := { mode := .evacuate, source := some .fire, contactClosed := false,
                                           fireActive := true, hold := .running 0 } }) = true := by decide

/-! ## States and operands that meet the statements' hypotheses -/

/-- A state with two slips queued, slip 5 in service, a held unit and an evacuation at an egress portal. -/
def lawful : State :=
  { withPortal { secure with state := .heldUnlocked, command := .released } site with
    mem := [(0x400, 1), (0x680, 2), (0x2380, 1)]
    slips := { queue := [63, 0], serving := some (slipOf 20 0 0 [9, 0]) }
    mode := { site.mode with mode := .evacuate, source := some .host }
    pending := [.unitClear] }

theorem test_meets_StepRunsTheFrontCommand_idle : ({ site with mode := { site.mode with hold := .running 16383 } } : State).pending = [] := by
  decide

theorem test_meets_EveryStepKeepsTheMemoryForm : Memory.wf lawful.mem ∧ ∃ t, step lawful = .next t :=
  ⟨by decide, _, rfl⟩

theorem test_meets_EveryStepKeepsTheModeLaw : lawful.ModeLaw ∧ ∃ t, step lawful = .next t :=
  ⟨⟨by decide, by decide, by decide, by intro n h; exact absurd h (by simp [lawful, withPortal, site, State.reset])⟩, _, rfl⟩

theorem test_meets_EveryStepKeepsThePostQueueLaw : lawful.PostQueueLaw ∧ ∃ t, step lawful = .next t := by
  refine ⟨⟨by decide, by decide, ?_⟩, _, rfl⟩
  rintro v h
  obtain rfl : slipOf 20 0 0 [9, 0] = v := by simpa [lawful] using h
  exact ⟨by decide, by decide, fun n h => by simp [slipOf] at h⟩

/-- The numbers 64 and 255, slip 1 (FREE), slip 63 (queued), slip 5 (TAKEN), and slip 63 as it waits POSTED. -/
theorem test_meets_EveryStepKeepsThePostQueueLaw_post :
    let s : State := { State.reset with mem := [(0x2380, 1)] }
    63 < (64 : Word).toNat ∧ lawful.wordAt (0x400 + 128 * (1 : Word).toNat) ≠ 1 ∧
      lawful.wordAt (0x400 + 128 * (5 : Word).toNat) ≠ 1 ∧ lawful.wordAt (0x400 + 128 * (63 : Word).toNat) = 1 ∧
      63 ∈ lawful.slips.queue ∧ s.wordAt (0x400 + 128 * 63) = 1 ∧ 63 ∉ s.slips.queue ∧
      holds (fun t => t.slips.queue == [63] && (t.registerRead 1).toNat / 16 % 128 == 1) (exec (.post 63) s) = true := by
  decide

/-- A take of the head of the queue, slip 63, in a state that keeps the law. -/
theorem test_meets_EveryStepKeepsThePostQueueLaw_take :
    let s : State := { lawful with mem := [(0x400, 1), (0x2380, 1)], slips := { lawful.slips with serving := none } }
    s.PostQueueLaw ∧ s.slips.queue = [63, 0] ∧
      holds (fun t => t.slips.queue == [0] && t.wordAt 0x2380 == 2) (exec .slipTake s) = true :=
  ⟨⟨by decide, by decide, fun v h => by simp at h⟩, rfl, by decide⟩

/-- All 64 slips are queued. -/
theorem test_meets_EveryStepKeepsThePostQueueLaw_full :
    let s : State := { State.reset with
      mem := (List.range 64).map (fun n => (0x400 + 128 * n, 1))
      slips := { queue := List.range 64, serving := none } }
    s.PostQueueLaw ∧ s.slips.queue.length = 64 :=
  ⟨⟨List.nodup_range, by decide +kernel, fun v h => by simp at h⟩, rfl⟩

/-- A POST of slip 63 and a host write of FREE to it, in both orders. -/
theorem test_meets_EveryStepKeepsThePostQueueLaw_orders :
    let s : State := { State.reset with mem := [(0x2380, 1)] }
    let free : Instr := .hostMemoryWrite (BitVec.ofNat 15 (0x200 + 64 * 63)) 0
    s.PostQueueLaw ∧ s.wordAt (0x400 + 128 * 63) = 1 ∧ 63 ∉ s.slips.queue ∧
      holds (fun t => holds (fun u => u.bus.lastRefusal == .slipQueued) (exec free t)) (exec (.post 63) s) = true ∧
      holds (fun t => holds (fun u => u.bus.lastRefusal == .postNotPosted) (exec (.post 63) t)) (exec free s) = true :=
  ⟨⟨by decide, by decide, fun v h => by simp [State.reset] at h⟩, by decide, by decide, by decide, by decide⟩

theorem test_meets_EveryStepKeepsTheArmLaw : lawful.ArmLaw ∧ ∃ t, step lawful = .next t := by
  refine ⟨?_, _, rfl⟩
  intro u r h
  by_cases hu : 9 = u
  · simp [lawful, withPortal, site, State.unit, Table.find, hu] at h
    subst h
    decide
  · simp [lawful, withPortal, site, State.unit, Table.find, hu] at h

theorem test_meets_EveryStepKeepsTheEvacuationOverride : lawful.OverrideLaw ∧ ∃ t, step lawful = .next t := by
  refine ⟨?_, _, rfl⟩
  intro _ p _ c h _
  by_cases hp : 47 = p
  · simp [lawful, withPortal, State.portal, Table.read, Table.find, hp]
  · simp [lawful, withPortal, State.portal, Table.read, Table.find, hp, Portal.blank] at h

/-- Car 3 in NORMAL with an entry, its node handed the public floor 0 and the entry's floor 2. -/
theorem test_meets_EveryStepKeepsTheEvacuationOverride_cars :
    let s : State := { withCar [{ tenant := 4095, floors := 4, timer := .running 5 }] site with
      nodes := [(125, { node .car with floors := 5 })], pending := [.lockdown .carsFirst]
      slips := { queue := [], serving := some (slipOf 32 0 0 []) } }
    s.CarOutputLaw ∧ holds (fun t => (t.node ⟨3, 29⟩).any (fun n => n.floors == 0)) (step s) = true := by
  have named (i : Nat) (g : CarConfig) :
      let s : State := { withCar [{ tenant := 4095, floors := 4, timer := .running 5 }] site with
        nodes := [(125, { node .car with floors := 5 })], pending := [.lockdown .carsFirst]
        slips := { queue := [], serving := some (slipOf 32 0 0 []) } }
      (s.car i).config = some g ∨ (s.car i).deferred = some g → i = 3 ∧ g = lift := by
    intro s h
    by_cases hi : 3 = i
    · subst hi
      simpa [s, withCar, State.car, Table.read, Table.find, eq_comm] using h
    · simp [s, withCar, State.car, Table.read, Table.find, hi, Car.blank] at h
  refine ⟨⟨fun i g h => ?_, fun i g n h hn => ?_⟩, by decide⟩
  · obtain ⟨rfl, rfl⟩ := named i g h
    exact ⟨by decide, by decide, by decide, by decide, by decide, by decide, ⟨_, rfl, rfl⟩,
      fun j d hj hd => absurd (named j d hd).1 hj⟩
  · obtain ⟨rfl, rfl⟩ := named i g (.inl h)
    obtain rfl : { node .car with floors := 5 } = n := by simpa [State.node, Table.find, NodeId.code, lift] using hn
    decide

theorem test_meets_EveryStepKeepsTheBounds : lawful.BoundsLaw ∧ ∃ t, step lawful = .next t := by
  refine ⟨⟨by decide, by decide, fun p => ?_, fun c => ?_, fun n r h => ?_⟩, _, rfl⟩
  · by_cases hp : 47 = p <;>
      simp [lawful, withPortal, State.portal, Table.read, Table.find, hp, Portal.blank, secure]
  · simp [lawful, withPortal, site, State.reset, State.car, Table.read, Table.find, Car.blank]
  · by_cases hn : 126 = n.code
    · simp [lawful, withPortal, State.node, Table.find, hn] at h
      subst h
      decide
    · simp [lawful, withPortal, State.node, Table.find, hn] at h

theorem test_meets_ARefusedSlipChangesNothing :
    slipKindOf .unitDrop = some .unitDrop ∧ (served 8 [9, 0] site).Serves .unitDrop (slipOf 8 0 0 [9, 0]) ∧
      ∃ t, exec .unitDrop (served 8 [9, 0] site) = .next t ∧
        t.slips.serving = some { slipOf 8 0 0 [9, 0] with stage := .served (.refusal .inUse [1]) } ∧
        (Answer.refusal .inUse [1]).result ≠ .done :=
  ⟨rfl, by decide, _, rfl, by decide, by decide⟩

theorem test_meets_OnlyTheirCommandsChangeThem : ∃ t, exec .decision (withPortal secure empty) = .next t :=
  ⟨_, rfl⟩

theorem test_meets_OtherCommandsKeepTheRackAndTheBulkArea :
    State.reset.PageInPlace ∧ (∃ t, exec .decision State.reset = .next t) ∧ Instr.decision ≠ .powerOn ∧
      Instr.decision ≠ .reset ∧ (∀ w v, Instr.decision ≠ .hostMemoryWrite w v) ∧ Instr.decision ≠ .slipTake ∧
      Instr.decision ≠ .slipAnswer ∧ Instr.decision ≠ .tenantRead ∧ Instr.decision ≠ .zoneRead ∧
      Instr.decision ≠ .visitImageCopy :=
  ⟨by decide, ⟨_, rfl⟩, by decide, by decide, by simp, by decide, by decide, by decide, by decide, by decide⟩

/-! ### Bus port and slip unit -/

theorem test_meets_RegistersAndPins_control :
    ((0 : Word).toNat = 0 ∨ 3 < (0 : Word).toNat) ∧ ((4 : Word).toNat = 0 ∨ 3 < (4 : Word).toNat) := by
  decide

/-- The last word of block 0, the state word and the last word of slip 63, and of page 31, and the last word of all. -/
theorem test_meets_HostWritesAndPostsAreChecked :
    2 * (0x1FF : BitVec 15).toNat < 0x400 ∧ 2 * (0x11C0 : BitVec 15).toNat = 0x400 + 128 * 63 ∧
      2 * (0x11FF : BitVec 15).toNat = 0x400 + 128 * 63 + 126 ∧ 2 * (0x5000 : BitVec 15).toNat = 0x2400 + 1024 * 31 ∧
      2 * (0x51FF : BitVec 15).toNat = 0x2400 + 1024 * 31 + 1022 ∧ 0xA400 ≤ 2 * (0x7FFF : BitVec 15).toNat ∧
      lawful.wordAt (0x400 + 128 * 5) = 2 ∧ lawful.wordAt (0x400 + 128 * 63) ≠ 2 ∧ 63 ∈ lawful.slips.queue := by
  decide

/-- An image at the last even address before the end of memory, a host write to its last word, and a handing whose counts
before and after it are even. -/
theorem test_meets_HostWritesAndPostsAreChecked_during :
    0xFFFC % 2 = 0 ∧ ([1, 2, 3, 4] : List Byte).length % 2 = 0 ∧ 0xA400 ≤ 2 * (0x7FFF : BitVec 15).toNat ∧
      (let l := State.reset.mirrorAccesses 6 [1, 2, 3]
       State.reset.wordAt 4 % 2 = 0 ∧ (State.reset.during 0 l).wordAt 4 % 2 = 0 ∧
         (State.reset.during 4 l).wordAt 4 = (State.reset.during 5 l).wordAt 4) := by
  decide

/-- A word of an image whose access is the last of the first two, one whose access is the next, and the words before and after
the image; the bytes beside the word written read as the image lays them. -/
theorem test_meets_HostWritesAndPostsAreChecked_later :
    let image : List Byte := [1, 2, 3, 4, 5, 6]
    let u (word : BitVec 15) : State := State.reset.hostWriteDuring 2 (accessesOf 0xFFF8 image) (2 * word.toNat) 0x0707
    0xFFF8 % 2 = 0 ∧ image.length % 2 = 0 ∧
      [0x7FFB, 0x7FFC, 0x7FFD, 0x7FFE, 0x7FFF].map (fun w : BitVec 15 => (u w).wordAt (2 * w.toNat)) =
        [0x0707, 0x0707, 0x0707, 0x0605, 0x0707] ∧
      (u 0x7FFD).peek 0xFFF8 6 = [1, 2, 7, 7, 5, 6] := by
  decide

theorem test_meets_SlipsAreTakenAndAnswered_take :
    ({ lawful with slips := { lawful.slips with serving := none } } : State).slips.serving = none ∧
      ({ lawful with slips := { lawful.slips with serving := none } } : State).slips.queue = 63 :: [0] := by
  decide

theorem test_meets_SlipsAreTakenAndAnswered_answer :
    (serving { slipOf 20 0 0 [] with stage := .served (.done []) } site).slips.serving =
        some { slipOf 20 0 0 [] with stage := .served (.done []) } ∧
      ({ slipOf 20 0 0 [] with stage := .served (.done []) } : Service).stage = .served (.done []) := by
  decide

theorem test_meets_SlipsAreTakenAndAnswered_kind :
    (slipOf 0 0 0 []).stage = .taken ∧ (slipOf 0 0 0 []).kind = 0 ∧ (slipOf 37 0 0 []).stage = .taken ∧
      36 < (slipOf 37 0 0 []).kind ∧ (served 37 [] site).slips.serving = some (slipOf 37 0 0 []) := by
  decide

theorem test_meets_SitePutSetsTheSettings :
    (served 35 [0, 0, 0, 0, 0, 0, 1, 1, 5, 2] site).Serves .sitePut (slipOf 35 0 0 [0, 0, 0, 0, 0, 0, 1, 1, 5, 2]) ∧
      1 < (slipOf 35 0 0 [0, 0, 0, 0, 0, 0, 1, 1, 5, 2]).body 9 1 ∧
      (slipOf 35 0 0 [0, 0, 0, 0, 0, 0, 1, 1, 5, 2]).body 9 1 ≠ 255 ∧
      (served 35 [30, 60, 0xD0, 2, 60, 30, 15, 60, 60, 1] site).Serves .sitePut
        (slipOf 35 0 0 [30, 60, 0xD0, 2, 60, 30, 15, 60, 60, 1]) ∧
      (slipOf 35 0 0 [30, 60, 0xD0, 2, 60, 30, 15, 60, 60, 1]).body 9 1 ≤ 1 := by
  decide

theorem test_meets_RunAndHalt :
    site.bus.run = .halt ∧ ({ site with bus := { site.bus with run := .run } } : State).bus.run = .run ∧
      (withPortal secure site).node ⟨3, 30⟩ = some (node .portal) := by
  decide

/-- A portal, a car and a unit whose node enters UNKNOWN. -/
theorem test_meets_RunAndHalt_owners :
    let s : State := withPortal { secure with passages := [passage] } site
    let c : State := withCar [] site
    let u : State := { site with units := [(9, { unit with contact := some ⟨⟨3, 30⟩, 31⟩ })], nodes := [(126, node .unit)] }
    (s.portalOf ⟨3, 30⟩ = some 47 ∧ (s.portal 47).config = some door ∧ s.PortalAlone ⟨3, 30⟩ 47 ∧
      (s.portal 47).deferred = none ∧ passage ∈ (s.portal 47).passages) ∧
      (c.carOf ⟨3, 29⟩ = some 3 ∧ c.CarAlone ⟨3, 29⟩ 3 ∧ (c.car 3).deferred = none) ∧
      ∃ x, u.unit 9 = some x ∧ x.contact = some { node := ⟨3, 30⟩, input := 31 } :=
  ⟨⟨by decide, by decide, portalAlone _ rfl, by decide, by decide⟩, ⟨by decide, carAlone _ rfl, by decide⟩, _, rfl, rfl⟩

/-- A portal whose deferred record names another node, applied as its node enters UNKNOWN. -/
theorem test_meets_RunAndHalt_deferred :
    let s : State := withPortal { secure with state := .opened, deferred := some elsewhere }
      { site with bus := { site.bus with run := .run } }
    s.portalOf ⟨3, 30⟩ = some 47 ∧ s.PortalAlone ⟨3, 30⟩ 47 ∧ (s.portal 47).deferred = some elsewhere ∧
      s.bus.run = .run ∧ holds (stands .waiting elsewhere) (exec .halt s) = true :=
  ⟨by decide, portalAlone _ rfl, by decide, by decide, by decide⟩

theorem test_meets_ResetReturnsTheBlocks :
    lawful.PostQueueLaw ∧ Table.Sorted lawful.register.zones ∧ (lawful.portal 47).config = some door ∧
      ((withCar [] site).car 3).config = some lift ∧ lawful.slips.serving = some (slipOf 20 0 0 [9, 0]) :=
  ⟨test_meets_EveryStepKeepsThePostQueueLaw.1, by decide, by decide, by decide, rfl⟩

/-- The work done of a list half loaded, of a list half copied, of a TENANT_READ with two credentials, of a ZONE_READ and of a
refused slip, each aborted with the tag 7; and a slip neither queued nor in service. -/
theorem test_meets_ResetReturnsTheBlocks_aborted :
    let s (v : Service) : State := serving v { State.reset with mem := [(0x680, 2), (0x690, 9), (0x2306, 9)] }
    let work (v : Service) (bytes : List Byte) : Bool :=
      holds (fun t => t.wordAt 0x680 == 3 && t.wordAt 0x686 == 14 && t.wordAt 0x688 == 0 && t.wordAt 0x68A == 7 &&
        t.peek 0x690 16 == padTo 16 0 bytes && t.wordAt 0x2306 == 9) (exec .reset (s v))
    work { slipOf 10 0xA400 64 [2, 0] with stage := .loading 1 1 0 none } [1, 0, 0, 0] = true ∧
      work { slipOf 19 0xA400 64 [0, 0] with stage := .listing 1 } [1, 0] = true ∧
      work { slipOf 9 0xA400 96 [0, 0] with stage := .served (.done [2]) } [3] = true ∧
      work { slipOf 16 0xA400 124 [] with stage := .served (.done []) } [15] = true ∧
      work { slipOf 8 0 0 [9, 0] with stage := .served (.refusal .inUse [1]) } [0] = true ∧
      62 ∉ lawful.slips.queue ∧ (∀ v, lawful.slips.serving = some v → v.slip ≠ 62) ∧ lawful.PageInPlace :=
  ⟨by decide, by decide, by decide, by decide, by decide, by decide, by simp [lawful, slipOf], by decide⟩

/-- Node 30 of line 3, which portal 47 alone names, and node 29, which no portal names and car 3 alone does. -/
theorem test_meets_ResetReturnsTheBlocks_outputs :
    let s : State := withPortal secure site
    let c : State := withCar [] site
    (s.node ⟨3, 30⟩ = some (node .portal) ∧ s.NoPortalNames ⟨3, 30⟩ (some 47) ∧ s.NoCarNames ⟨3, 30⟩ none ∧
      holds (fun t => (t.portal 47).config == some door) (exec .reset s) = true) ∧
      c.node ⟨3, 29⟩ = some (node .car) ∧ c.NoCarNames ⟨3, 29⟩ (some 3) ∧ c.NoPortalNames ⟨3, 29⟩ none ∧
      holds (fun t => (t.car 3).config == some lift) (exec .reset c) = true :=
  ⟨⟨by decide, portalUnnamed _ rfl, noCarNames _ rfl, by decide⟩, by decide, carUnnamed _ rfl, noPortalNames _ rfl,
    by decide⟩

/-- A state with no slip posted keeps the law of the post queue. -/
theorem postQueueLaw_idle {s : State} (h : s.slips = { queue := [], serving := none }) : s.PostQueueLaw := by
  simp [State.PostQueueLaw, h]

/-- A page with no entries; page 0 with an entry and page 1 EMPTY; page 31 with 62 entries and page 0 FULL; a stalled journal
whose page 31 is FULL, and one whose page 31 has been returned. -/
theorem test_meets_ResetReturnsTheBlocks_journal :
    (lawful.PostQueueLaw ∧ lawful.journal.stalled = false ∧ lawful.entryCount lawful.journal.page = 0) ∧
      (State.reset.PostQueueLaw ∧ State.reset.journal.stalled = false ∧
        State.reset.entryCount State.reset.journal.page ≠ 0 ∧ State.reset.journal.page < 32 ∧ State.reset.wordAt 0x2800 = 0) ∧
      (let s : State := { State.reset with
         mem := [(0x2400, 2), (0xA000, 1), (0xA006, 62)], journal := { State.reset.journal with page := 31 } }
       s.PostQueueLaw ∧ s.journal.stalled = false ∧ s.entryCount s.journal.page ≠ 0 ∧ s.journal.page < 32 ∧
         s.wordAt 0x2400 ≠ 0) ∧
      (stalled.PostQueueLaw ∧ stalled.journal.stalled = true ∧
        stalled.wordAt (0x2400 + 1024 * stalled.journal.page) ≠ 0) ∧
      (let s : State := { stalled with mem := [] }
       s.PostQueueLaw ∧ s.journal.stalled = true ∧ s.wordAt (0x2400 + 1024 * s.journal.page) = 0 ∧
         s.journal.holdover.length ≤ 8 ∧ s.journal.page < 32) :=
  ⟨⟨test_meets_EveryStepKeepsThePostQueueLaw.1, by decide⟩, ⟨postQueueLaw_idle rfl, by decide⟩,
    ⟨postQueueLaw_idle rfl, by decide⟩, ⟨postQueueLaw_idle rfl, by decide⟩, postQueueLaw_idle rfl, by decide⟩

/-! ### Tenant directory -/

theorem test_meets_StandingFollowsThePaidThroughDay : State.reset.clock.isSet = false ∧ site.clock.isSet = true := by
  decide

/-- Tenant 4095, BLOCKED, staff, profile 31, the last day. -/
theorem test_meets_TenantPutAndStandingSet_put :
    let v := slipOf 1 0 0 [0xFF, 0x0F, 1, 1, 31, 0xD8, 0x82, 0x2D]
    (serving v site).Serves .tenantPut v ∧ v.body 0 2 < 4096 ∧ v.body 2 1 ≤ 1 ∧ v.body 3 1 ≤ 1 ∧ v.body 4 1 ≤ 31 ∧
      (∀ d, optionOf 3 (v.body 5 3) = some d → d ≤ 2982616) ∧ (serving v site).tenant (v.body 0 2) ≠ none :=
  ⟨by decide, by decide, by decide, by decide, by decide, le_of_all (by decide), by decide⟩

theorem test_meets_TenantPutAndStandingSet_create :
    let v := slipOf 1 0 0 [0, 0, 0, 0, 0, 0xFF, 0xFF, 0xFF]
    (serving v site).Serves .tenantPut v ∧ v.body 0 2 < 4096 ∧ v.body 2 1 ≤ 1 ∧ v.body 3 1 ≤ 1 ∧ v.body 4 1 ≤ 31 ∧
      (∀ d, optionOf 3 (v.body 5 3) = some d → d ≤ 2982616) ∧ (serving v site).tenant (v.body 0 2) = none :=
  ⟨by decide, by decide, by decide, by decide, by decide, le_of_all (by decide), by decide⟩

theorem test_meets_TenantPutAndStandingSet_standing :
    let v := slipOf 6 0 0 [0xFF, 0x0F, 0xD8, 0x82, 0x2D]
    (serving v site).Serves .standingSet v ∧ v.body 0 2 < 4096 ∧
      (∀ d, optionOf 3 (v.body 2 3) = some d → d ≤ 2982616) ∧
      (serving v site).tenant (v.body 0 2) = some { tenant with visit := some 6 } :=
  ⟨by decide, by decide, le_of_all (by decide), by decide⟩

theorem test_meets_CredentialSlips_put :
    let v := slipOf 3 0 0 [0, 32, 0xFF, 0xFF, 0xFF, 0xFF, 0xFF, 0x0F, 1, 0xD8, 0x82, 0x2D]
    (keyAt 32 v.copy).valid = true ∧ (serving v site).Serves .credPut v ∧ v.body 6 2 < 4096 ∧ v.body 8 1 ≤ 1 ∧
      (∀ d, optionOf 3 (v.body 9 3) = some d → d ≤ 2982616) ∧
      (serving v site).tenant (v.body 6 2) = some { tenant with visit := some 6 } :=
  ⟨by decide, by decide, by decide, by decide, le_of_all (by decide), by decide⟩

theorem test_meets_CredentialSlips_drop :
    let v := slipOf 4 0 0 [0, 26, 1, 0, 0x10, 0]
    (keyAt 32 v.copy).valid = true ∧ (serving v site).Serves .credDrop v ∧
      ∃ c, Table.find (keyAt 32 v.copy).code (serving v site).creds = some c ∧ c.key = keyAt 32 v.copy :=
  ⟨by decide, by decide, { key := card, tenant := 4095, state := .active, expiry := none }, by decide, by decide⟩

theorem test_meets_GrantSetReplacesTheList :
    let v := slipOf 5 0 0 [0xFF, 0x0F, 1, 9, 0]
    let items := (List.range (v.body 2 1)).map (fun i => v.body (3 + 2 * i) 2)
    (serving v site).Serves .grantSet v ∧ v.body 0 2 < 4096 ∧ v.body 2 1 ≤ 8 ∧ items.Nodup ∧
      (serving v site).tenant (v.body 0 2) = some { tenant with visit := some 6 } ∧ tenant.grants.Nodup ∧
      ∀ u ∈ items, u < 4096 ∧ ∃ ru, (serving v site).unit u = some ru ∧ (u ∉ tenant.grants → ru.grantees < 4) := by
  refine ⟨by decide, by decide, by decide, by decide, by decide, by decide, fun u hu => ?_⟩
  obtain rfl : u = 9 := by
    have : (List.range ((slipOf 5 0 0 [0xFF, 0x0F, 1, 9, 0]).body 2 1)).map
      (fun i => (slipOf 5 0 0 [0xFF, 0x0F, 1, 9, 0]).body (3 + 2 * i) 2) = [9] := by decide
    have hu : u ∈ [9] := this ▸ hu
    simpa using hu
  exact ⟨by decide, unit, by decide, by decide⟩

/-- The hold moves from unit 9 to unit 8, in the same zone (UNIT_ARMED, reason 0, its flag absent, and then UNIT_DISARMED with one
holder), and with unit 9's door open (UNIT_LEFT_OPEN). -/
theorem test_meets_GrantSetReplacesTheList_moved :
    let other : UnitRecord := { unit with arm := .armed, holders := 0, grantees := 3 }
    let v := slipOf 5 0 0 [0xFF, 0x0F, 1, 8, 0]
    let s (door : DoorState) : State := serving v { site with units := [(8, other), (9, { unit with door := door })] }
    (s .closed).Serves .grantSet v ∧ (s .closed).visitOf 4095 = some visit ∧ HoldsUnits visit.standing ∧
      (s .closed).unit 8 = some other ∧ other.grantees < 4 ∧ visit.zone = other.zone ∧ 8 ∉ tenant.grants ∧
      holds (fun t => told 2 t == [(13, [0, 0xFF, 0, 0, 0, 0]), (12, [1, 0, 0, 0, 0, 0])] &&
        t.unit 8 == some { other with arm := .disarmed, holders := 1, grantees := 4 } &&
        t.unit 9 == some { unit with arm := .armed, holders := 0, grantees := 0 }) (exec .grantSet (s .closed)) = true ∧
      holds (fun t => told 2 t == [(17, [0, 0, 0, 0, 0, 0]), (12, [1, 0, 0, 0, 0, 0])] &&
        (t.unit 9).any (fun x => x.arm == .leftOpen)) (exec .grantSet (s .opened)) = true := by
  decide

theorem test_meets_TenantDropVacatesTheEntry_on_site :
    let v := slipOf 2 0 0 [0xFF, 0x0F, 0]
    (serving v site).Serves .tenantDrop v ∧ v.body 0 2 < 4096 ∧
      (serving v site).tenant (v.body 0 2) = some { tenant with visit := some 6 } ∧ v.body 2 1 = 0 := by
  decide

theorem test_meets_TenantDropVacatesTheEntry_forced :
    let v := slipOf 2 0 0 [0xFF, 0x0F, 1]
    (serving v site).Serves .tenantDrop v ∧ v.body 0 2 < 4096 ∧
      (serving v site).tenant (v.body 0 2) = some { tenant with visit := some 6 } ∧ v.body 2 1 = 1 ∧
      Table.Sorted (serving v site).creds ∧ (∀ e ∈ (serving v site).creds, e.2.key.code = e.1) ∧ tenant.grants.Nodup := by
  decide

/-- A forced drop with a visit, a pending MOVE at portal 47 and a release entry at car 3: GRANT_UNUSED, UNIT_ARMED, VISIT_END and
LIFT_RELEASE_END, and the answer of both links; the other tenant's record, passage and release entry stay. -/
theorem test_meets_TenantDropVacatesTheEntry_entries :
    let v := slipOf 2 0 0 [0xFF, 0x0F, 1]
    let g : Passage := { passage with kind := .move, party := 2, target := 5 }
    let h : Passage := { passage with tenant := 7, key := none }
    let e : Release := { tenant := 4095, floors := 4, timer := .running 5 }
    let s : State := serving v { withCar [{ e with tenant := 7 }, e] site with
      tenants := [(7, { tenant with grants := [] }), (4095, { tenant with visit := some 6, transit := some 47 })]
      portals := [(47, { secure with state := .released, passages := [h, g] })] }
    s.Serves .tenantDrop v ∧ s.tenant (v.body 0 2) = some { tenant with visit := some 6, transit := some 47 } ∧
      v.body 2 1 = 1 ∧ s.visitOf 4095 = some visit ∧ (s.car 3).config = some lift ∧
      Table.Sorted s.creds ∧ (∀ e ∈ s.creds, e.2.key.code = e.1) ∧
      holds (fun t => done [1, 1, 1, 1] t &&
        told 4 t == [(21, [1, 2, 5, 6, 0, 0]), (13, [0, 0xFF, 0, 0, 0, 0]), (10, [0x22, 4, 60, 0, 0, 0]),
          (35, [2, 4, 0, 0, 0, 0])] &&
        (t.portal 47).passages == [h] && (t.car 3).releases == [{ e with tenant := 7 }] &&
        t.tenant 7 == some { tenant with grants := [] }) (exec .tenantDrop s) = true := by
  decide +kernel

theorem test_meets_UnitPutCreatesOrReplaces_contact :
    let v := slipOf 7 0 0 [0xFF, 0x0F, 15, 3, 30, 31]
    let c : Contact := { node := ⟨3, 30⟩, input := 31 }
    let s := serving v { site with nodes := [(126, node .unit)] }
    s.Serves .unitPut v ∧ v.body 0 2 < 4096 ∧ 1 ≤ v.body 2 1 ∧ v.body 2 1 ≤ 15 ∧ v.body 3 3 ≠ 0xFFFFFF ∧
      c = { node := { line := v.body 3 1, address := v.body 4 1 }, input := v.body 5 1 } ∧
      s.node c.node = some (node .unit) ∧ ∀ e ∈ s.units, e.1 ≠ v.body 0 2 → e.2.contact ≠ some c := by
  decide

theorem test_meets_UnitPutCreatesOrReplaces_moved :
    let v := slipOf 7 0 0 [9, 0, 1, 0xFF, 0xFF, 0xFF]
    (serving v site).Serves .unitPut v ∧ v.body 0 2 < 4096 ∧ 1 ≤ v.body 2 1 ∧ v.body 2 1 ≤ 15 ∧
      v.body 3 3 = 0xFFFFFF ∧ (serving v site).unit (v.body 0 2) = some unit ∧ unit.zone ≠ v.body 2 1 := by
  decide

theorem test_meets_UnitDropVacatesTheUnit :
    (served 8 [0, 0x10] site).Serves .unitDrop (slipOf 8 0 0 [0, 0x10]) ∧ 4095 < (slipOf 8 0 0 [0, 0x10]).body 0 2 ∧
      (slipOf 8 0 0 [0xFF, 0x0F]).body 0 2 ≤ 4095 ∧ (served 8 [0xFF, 0x0F] site).unit 4095 = none ∧
      (slipOf 8 0 0 [9, 0]).body 0 2 = 9 ∧ (served 8 [9, 0] site).unit 9 = some unit ∧ 0 < unit.grantees := by
  decide

theorem test_meets_TenantReadWritesTheImages :
    let v := slipOf 9 0xFFD0 0x30 [0xFF, 0x0F]
    (serving v site).Serves .tenantRead v ∧ v.body 0 2 < 4096 ∧
      (serving v site).tenant (v.body 0 2) = some { tenant with visit := some 6 } ∧ v.start % 2 = 0 ∧
      v.length % 2 = 0 ∧ 0xA400 ≤ v.start ∧ v.start + v.length ≤ 0x10000 ∧ 32 ≤ v.length := by
  decide

theorem test_meets_ListsAreLoadedRecordByRecord_tenants :
    let v := slipOf 10 0xA400 0x20 [1, 0]
    (serving v site).Serves .loadTenants v ∧ 32 * v.body 0 2 ≤ v.length ∧ v.start % 2 = 0 ∧ v.length % 2 = 0 ∧
      0xA400 ≤ v.start ∧ v.start + v.length ≤ 0x10000 := by
  decide

theorem test_meets_ListsAreLoadedRecordByRecord_credentials :
    let v := slipOf 11 0xFFF0 0x10 [1, 0]
    (serving v site).Serves .loadCredentials v ∧ 16 * v.body 0 2 ≤ v.length ∧ v.start % 2 = 0 ∧ v.length % 2 = 0 ∧
      0xA400 ≤ v.start ∧ v.start + v.length ≤ 0x10000 := by
  decide

theorem test_meets_ListsAreLoadedRecordByRecord_record :
    let v : Service := { slipOf 10 0xA400 0x20 [1, 0] with stage := .loading 0 0 0 none, bulk := List.replicate 32 0 }
    let w : Service := { slipOf 11 0xA400 0x10 [1, 0] with stage := .loading 0 0 0 none, bulk := List.replicate 16 0 }
    (serving v site).slips.serving = some v ∧ v.stage = .loading 0 0 0 none ∧ v.kind = 10 ∧
      (serving w site).slips.serving = some w ∧ w.stage = .loading 0 0 0 none ∧ w.kind = 11 := by
  decide

/-! ### Clock, hours, visits and zones -/

theorem test_meets_ClockSetShiftsTheVisits :
    let v := slipOf 12 0 0 [0xFF, 0xFF, 0xFF, 0xFF, 59, 6]
    (serving v site).Serves .clockSet v ∧ v.body 4 1 ≤ 59 ∧ v.body 5 1 ≤ 6 := by
  decide

/-- A window that closes at the minute set, 961. -/
theorem test_meets_ClockSetShiftsTheVisits_windows :
    let v := slipOf 12 0 0 [0xC1, 3, 0, 0, 59, 0]
    let s := serving v (withHours (withPortal
      { secure with config := some windowed, state := .heldUnlocked, window := true } site))
    s.Serves .clockSet v ∧ v.body 4 1 ≤ 59 ∧ v.body 5 1 ≤ 6 ∧ (s.portal 47).config = some windowed ∧
      holds (stands .secure windowed) (exec .clockSet s) = true := by
  decide

/-- R31, R33, R121: the old minute 960, and then the portal's relock to SECURE (state 2). -/
theorem test_clockSet_entries :
    let s := served 12 [0xC1, 3, 0, 0, 59, 0] (withHours (withPortal
      { secure with config := some windowed, state := .heldUnlocked, window := true } site))
    holds (fun t => told 2 t == [(5, [0xC0, 3, 0, 0, 0, 0]), (26, [2, 0, 0, 0, 0, 0])]) (exec .clockSet s) = true := by
  decide

theorem test_meets_ProfileAndHolidaySlips_profile :
    let v := slipOf 13 0 0 [31, 1, 0x5F, 0x27, 0, 0, 1]
    let intervals := (List.range (v.body 1 1)).map
      (fun i => ({ start := v.body (2 + 4 * i) 2, finish := v.body (4 + 4 * i) 2 } : Interval))
    (serving v site).Serves .profilePut v ∧ 1 ≤ v.body 0 1 ∧ v.body 0 1 ≤ 31 ∧ v.body 1 1 ≤ 6 ∧
      v.body (2 + 4 * v.body 1 1) 1 ≤ 1 ∧
      ∀ i ∈ intervals, i.start < 10080 ∧ i.finish < 10080 ∧ i.start ≠ i.finish := by
  decide

theorem test_meets_ProfileAndHolidaySlips_holidays :
    let v := slipOf 14 0 0 [2, 0xD8, 0x82, 0x2D, 0, 0, 0]
    let days := (List.range (v.body 0 1)).map (fun i => v.body (1 + 3 * i) 3)
    (serving v site).Serves .holidaySet v ∧ v.body 0 1 ≤ 24 ∧ ∀ d ∈ days, d ≤ 2982616 := by
  decide

/-- The last minute of an interval, the first after it, a holiday, and no interval. -/
theorem test_meets_ProfileAndHolidaySlips_window :
    let s : State := { site with profiles := [(31, { intervals := [⟨900, 961⟩], honours := true })] }
    (s.clock.isSet = true ∧ (¬ ((s.profile 31).honours = true ∧ s.clock.minute / 1440 ∈ s.holidays)) ∧
      ∃ i ∈ (s.profile 31).intervals, i.start < i.finish ∧ i.start ≤ s.clock.minute ∧ s.clock.minute < i.finish) ∧
      (¬ ∃ i ∈ ((atMinute 961 s).profile 31).intervals, 961 < i.finish) ∧
      (({ s with holidays := [0] } : State).profile 31).honours = true ∧
      s.clock.minute / 1440 ∈ ({ s with holidays := [0] } : State).holidays ∧ State.reset.clock.isSet = false := by
  decide

theorem test_meets_MinuteEventReachesItsConsumers :
    ({ site with clock := { site.clock with minuteDue := true } } : State).clock.minuteDue = true := by
  decide

/-- A visit that comes to its warning minute 990 and one that comes past it to its deadline 1000 at once; the entries of the
visits (VISIT_WARN with the deadline, VISIT_OVERSTAY with zone and party) stand before the portal's, or after it. -/
theorem test_meets_MinuteEventReachesItsConsumers_visits :
    let late : Visit := { visit with slot := 7, tenant := 4094, deadline := some 985, warning := some 980 }
    let s : State := withHours (withPortal { secure with config := some windowed, state := .heldUnlocked, window := true }
      { site with clock := { site.clock with minute := 990, minuteDue := true }
                  register := { site.register with visits := [visit, late] } })
    let visits : List (Byte × List Byte) :=
      [(8, [0xE8, 3, 0, 0, 0, 0]), (8, [0xD9, 3, 0, 0, 0, 0]), (11, [4, 2, 0, 0, 0, 0])]
    let portals : List (Byte × List Byte) := [(26, [2, 0, 0, 0, 0, 0])]
    s.clock.minuteDue = true ∧ holds (fun t => told 4 t == visits ++ portals) (exec (.minuteEvent .registerFirst) s) = true ∧
      holds (fun t => told 4 t == portals ++ visits) (exec (.minuteEvent .portalsFirst) s) = true := by
  decide

/-- A window that opens, and one that closes at a portal with a deferred record. -/
theorem test_meets_MinuteEventReachesItsConsumers_windows :
    let s (minute : Nat) (r : Portal) : State := withHours (withPortal { r with config := some windowed }
      { site with clock := { site.clock with minute := minute, minuteDue := true } })
    let held : Portal := { secure with state := .heldUnlocked, window := true, deferred := some elsewhere }
    (s 960 secure).clock.minuteDue = true ∧ ((s 960 secure).portal 47).config = some windowed ∧
      holds (stands .heldUnlocked windowed) (exec (.minuteEvent .registerFirst) (s 960 secure)) = true ∧
      (s 961 held).clock.minuteDue = true ∧ ((s 961 held).portal 47).config = some windowed ∧
      holds (stands .waiting elsewhere) (exec (.minuteEvent .portalsFirst) (s 961 held)) = true := by
  decide

theorem test_meets_ZoneSlips_put :
    let v := slipOf 15 0 0 [15, 255, 1, 11]
    (serving v site).Serves .zonePut v ∧ 1 ≤ v.body 0 1 ∧ v.body 0 1 ≤ 15 ∧ v.body 2 1 ≤ 1 ∧
      ∀ f, optionOf 1 (v.body 3 1) = some f → f ≤ 11 :=
  ⟨by decide, by decide, by decide, by decide, le_of_all (by decide)⟩

theorem test_meets_ZoneSlips_read :
    let v := slipOf 16 0xFF84 124 []
    (serving v site).Serves .zoneRead v ∧ v.start % 2 = 0 ∧ v.length % 2 = 0 ∧ 0xA400 ≤ v.start ∧
      v.start + v.length ≤ 0x10000 ∧ 124 ≤ v.length := by
  decide

theorem test_meets_VisitExtendMovesTheDeadline_refused :
    (served 17 [0, 0x10, 1, 0] site).Serves .visitExtend (slipOf 17 0 0 [0, 0x10, 1, 0]) ∧
      4095 < (slipOf 17 0 0 [0, 0x10, 1, 0]).body 0 2 ∧ (slipOf 17 0 0 [0xFF, 0x0F, 0, 0]).body 2 2 = 0 ∧
      (slipOf 17 0 0 [0xFF, 0x0F, 1, 0]).body 0 2 = 4095 ∧ empty.visitOf 4095 = none := by
  decide

theorem test_meets_VisitExtendMovesTheDeadline :
    let v := slipOf 17 0 0 [0xFF, 0x0F, 0xFF, 0xFF]
    (serving v site).Serves .visitExtend v ∧ v.body 0 2 ≤ 4095 ∧ 0 < v.body 2 2 ∧
      (serving v site).tenant (v.body 0 2) = some { tenant with visit := some 6 } ∧
      (serving v site).visitOf (v.body 0 2) = some visit := by
  decide

theorem test_meets_VisitEndTakesTheTenantOffSite :
    let v := slipOf 18 0 0 [0xFF, 0x0F]
    (serving v site).Serves .visitEnd v ∧ v.body 0 2 < 4096 ∧
      (serving v site).tenant (v.body 0 2) = some { tenant with visit := some 6 } ∧
      (serving v site).visitOf (v.body 0 2) = some visit ∧ 1 ≤ visit.zone ∧ visit.zone ≤ 15 ∧ tenant.grants.Nodup ∧
      (serving v empty).tenant (v.body 0 2) = some tenant ∧ tenant.visit = none ∧ tenant.transit = none := by
  decide

/-- A visit with standing CURRENT and a pending MOVE, both ended. -/
theorem test_meets_VisitEndTakesTheTenantOffSite_both :
    let v := slipOf 18 0 0 [0xFF, 0x0F]
    let x : Tenant := { tenant with visit := some 6, transit := some 47 }
    let s := serving v { withPortal { secure with state := .released, passages := [{ passage with kind := .move }] } site with
      tenants := [(4095, x)] }
    s.Serves .visitEnd v ∧ v.body 0 2 < 4096 ∧ s.tenant (v.body 0 2) = some x ∧ x.visit.isSome ∧ x.transit = some 47 ∧
      (x.visit.isSome ↔ (s.visitOf (v.body 0 2)).isSome) ∧ s.visitOf (v.body 0 2) = some visit ∧ x.grants.Nodup := by
  decide

/-- A pending CREATE alone. -/
theorem test_meets_VisitEndTakesTheTenantOffSite_pending :
    let v := slipOf 18 0 0 [0xFF, 0x0F]
    let x : Tenant := { tenant with transit := some 47 }
    let s := serving v { withPortal { secure with state := .released, passages := [passage] } empty with
      tenants := [(4095, x)] }
    s.Serves .visitEnd v ∧ s.tenant (v.body 0 2) = some x ∧ x.transit = some 47 ∧
      (x.visit.isSome ↔ (s.visitOf (v.body 0 2)).isSome) ∧ s.visitOf (v.body 0 2) = none := by
  decide

theorem test_meets_VisitListWalksTheList_begin :
    let v := slipOf 19 0xA400 32 [0xFF, 1]
    (serving v site).Serves .visitList v ∧ v.body 0 2 ≤ 511 ∧ v.start % 2 = 0 ∧ v.length % 2 = 0 ∧ 0xA400 ≤ v.start ∧
      v.start + v.length ≤ 0x10000 ∧ 32 ≤ v.length := by
  decide

theorem test_meets_VisitListWalksTheList_copy :
    let v : Service := { slipOf 19 0xA400 32 [0, 0] with stage := .listing 0 }
    let s := serving v { site with register := { site.register with walk := some 0 } }
    s.slips.serving = some v ∧ v.stage = .listing 0 ∧ s.register.walk = some 0 ∧ s.register.visits[0]? = some visit := by
  decide

theorem test_meets_UnitClearLeavesIntrusion :
    (served 20 [0, 0x10] site).Serves .unitClear (slipOf 20 0 0 [0, 0x10]) ∧
      4095 < (slipOf 20 0 0 [0, 0x10]).body 0 2 ∧ (slipOf 20 0 0 [0xFF, 0x0F]).body 0 2 = 4095 ∧
      site.unit 4095 = none ∧ (slipOf 20 0 0 [9, 0]).body 0 2 = 9 ∧ site.unit 9 = some unit ∧ unit.arm ≠ .intrusion ∧
      ({ site with units := [(9, { unit with arm := .intrusion })] } : State).unit 9 =
        some { unit with arm := .intrusion } := by
  decide

/-- R101, R207: UNIT_CLEARED carries the new arm state, LEFT_OPEN, and UNIT_LEFT_OPEN follows it. -/
theorem test_meets_UnitClearLeavesIntrusion_entries :
    let s : State := served 20 [9, 0] { site with
      units := [(9, { unit with arm := .intrusion, door := .opened, holders := 0 })] }
    s.Serves .unitClear (slipOf 20 0 0 [9, 0]) ∧
      holds (fun t => told 2 t == [(15, [2, 0, 0, 0, 0, 0]), (17, [0, 0, 0, 0, 0, 0])]) (exec .unitClear s) = true := by
  decide

/-- Unit 9 on the node's last input; with a node that is OFFLINE, the reply that restores it. -/
theorem test_meets_UnitClearLeavesIntrusion_report :
    let x : UnitRecord := { unit with contact := some ⟨⟨3, 30⟩, 31⟩, arm := .armed, holders := 0 }
    let s (n : Node) : State := polled { site with units := [(9, x)], nodes := [(126, n)] }
    let n := node .unit
    let back := { n with state := .offline, restore := 2 }
    (s n).HandsOn 3 30 unitReply n ∧ (s back).HandsOn 3 30 unitReply back ∧ Table.Sorted (s n).units ∧
      (s n).unit 9 = some x ∧ x.contact = some { node := ⟨3, 30⟩, input := 31 } ∧
      (∀ e ∈ (s n).units, e.2.contact = x.contact → e.1 = 9) ∧
      ({ unit with contact := some ⟨⟨3, 29⟩, 31⟩ } : UnitRecord).contact.any (fun c => c.node == ⟨3, 30⟩) = false := by
  decide

/-! ### Portals and cars -/

theorem test_meets_PortalPutConfiguresOrDefers :
    let v := slipOf 21 0 0 [47, 3, 30, 0, 4, 0, 0, 5, 20, 0, 1, 1, 31]
    let s := serving v { site with nodes := [(126, node .portal)] }
    s.Serves .portalPut v ∧ s.portalRefusal v = none ∧ (s.portal 47).config = none ∧
      (serving v (withPortal { secure with state := .opened } site)).portalRefusal v = none ∧
      ((withPortal { secure with state := .opened } site).portal 47).config = some door := by
  decide

/-- A record applied in SECURE: its window, now open, holds the portal unlocked. -/
theorem test_meets_PortalPutConfiguresOrDefers_applied :
    let v := slipOf 21 0 0 [47, 3, 30, 0, 4, 0, 0, 5, 20, 0, 1, 1, 31]
    let s := serving v (withHours (withPortal secure site))
    s.Serves .portalPut v ∧ s.portalRefusal v = none ∧ (s.portal 47).config = some door ∧
      (s.portal 47).state = .secure ∧ holds (stands .heldUnlocked v.portalConfig) (exec .portalPut s) = true := by
  decide

/-- R105: each check of PORTAL_PUT at its boundary, one field wrong at a time. -/
theorem test_meets_PortalPutConfiguresOrDefers_refused :
    let good : List Byte := [47, 3, 30, 0, 4, 0, 0, 5, 20, 0, 1, 1, 31]
    let s : State := { site with nodes := [(125, node .car), (126, node .portal)] }
    let refused (at_ : Nat) (b : Byte) : Option Answer := s.portalRefusal (slipOf 21 0 0 (good.set at_ b))
    s.portalRefusal (slipOf 21 0 0 good) = none ∧ refused 0 48 = some (.badField 1) ∧
      [(1, 4), (1, 2), (2, 0), (2, 31), (2, 29)].map (fun x => refused x.1 x.2) =
        List.replicate 5 (some (.badField 2)) ∧
      refused 3 15 = none ∧ refused 3 16 = some (.badField 3) ∧
      [(4, 0), (4, 16), (3, 4)].map (fun x => refused x.1 x.2) = List.replicate 3 (some (.badField 4)) ∧
      [(5, 2), (6, 2), (10, 2), (11, 2), (12, 32), (12, 254)].map (fun x => refused x.1 x.2) =
        [5, 6, 9, 10, 11, 11].map (fun n => some (.badField n)) ∧ refused 12 255 = none := by
  decide

/-- R105: another portal's record, in force or deferred, names the node; the portal's own record does not stand in the way. -/
theorem test_meets_PortalPutConfiguresOrDefers_in_use :
    let v := slipOf 21 0 0 [46, 3, 30, 0, 4, 0, 0, 5, 20, 0, 1, 1, 31]
    let later : Portal := { secure with state := .opened, config := some elsewhere, deferred := some door }
    let inUse : Answer := .refusal .inUse [47]
    (serving v (withPortal secure site)).Serves .portalPut v ∧
      (serving v (withPortal secure site)).portalRefusal v = some inUse ∧
      (withPortal later site).portalRefusal v = some inUse ∧
      holds (turnedAway .inUse [47]) (exec .portalPut (serving v (withPortal later site))) = true := by
  decide

theorem test_meets_ChannelsAreDropped :
    (served 22 [47] (withPortal secure site)).Serves .portalDrop (slipOf 22 0 0 [47]) ∧
      (slipOf 22 0 0 [47]).body 0 1 < 48 ∧ ((withPortal secure site).portal 47).config = some door ∧
      (served 28 [3] (withCar [] site)).Serves .carDrop (slipOf 28 0 0 [3]) ∧ (slipOf 28 0 0 [3]).body 0 1 < 4 ∧
      ((withCar [] site).car 3).config = some lift := by
  decide

theorem test_meets_PortalPulseReleasesTheLock :
    (served 23 [47] (withPortal secure site)).Serves .portalPulse (slipOf 23 0 0 [47]) ∧
      (slipOf 23 0 0 [47]).body 0 1 < 48 ∧ ((withPortal secure site).portal 47).config = some door ∧ 1 ≤ door.unlock := by
  decide

/-- A press whose count, 15, is new, and one that is not. -/
theorem test_meets_PortalPulseReleasesTheLock_press :
    let s (rex : Nat) : State := polled (withPortal { secure with rex := some rex } site)
    (∀ rex, rex = 14 ∨ rex = 15 → (s rex).HandsPortal 3 30 (status 0xF0 0xEE) (node .portal) 47 door) ∧ 1 ≤ door.unlock ∧
      ((s 15).portal 47).rex = some (statusByte (status 0xF0 0xEE) / 16) ∧
      ((s 14).portal 47).rex ≠ some (statusByte (status 0xF0 0xEE) / 16) ∧
      ((s 14).portal 47).state = .secure ∧ ((s 14).portal 47).door = reportedDoor (status 0xF0 0xEE) ∧
      statusByte (status 0xF0 0xEE) / 2 % 4 = 0 ∧ ¬ ((s 14).portal 47).ProbeDone door := by
  refine ⟨?_, by decide, by decide, by decide, by decide, by decide, by decide, by decide⟩
  rintro rex (rfl | rfl) <;> decide

theorem test_meets_PortalHoldAndSecure :
    (served 24 [47] (withPortal secure site)).Serves .portalHold (slipOf 24 0 0 [47]) ∧
      (served 25 [47] (withPortal secure site)).Serves .portalSecure (slipOf 25 0 0 [47]) ∧
      (slipOf 25 0 0 [47]).body 0 1 < 48 ∧ ((withPortal secure site).portal 47).config = some door ∧
      ((withPortal secure site).portal 47).deferred = none := by
  decide

/-- A portal that only the host holds, with a deferred record. -/
theorem test_meets_PortalHoldAndSecure_deferred :
    let s := served 25 [47]
      (withPortal { secure with state := .heldUnlocked, hostHold := true, deferred := some elsewhere } site)
    s.Serves .portalSecure (slipOf 25 0 0 [47]) ∧ (s.portal 47).config = some door ∧
      (s.portal 47).state = .heldUnlocked ∧ holds (stands .waiting elsewhere) (exec .portalSecure s) = true := by
  decide

theorem test_meets_PortalResetLeavesTheFault :
    let s := withPortal { secure with state := .faultDriver, faults := 3 } site
    (served 26 [47] s).Serves .portalReset (slipOf 26 0 0 [47]) ∧ (slipOf 26 0 0 [47]).body 0 1 < 48 ∧
      (s.portal 47).config = some door ∧ 1 ≤ door.hold ∧ (s.portal 47).state = .faultDriver ∧
      (s.portal 47).deferred = none := by
  decide

/-- A closed door and a deferred record whose window is open. -/
theorem test_meets_PortalResetLeavesTheFault_deferred :
    let s := served 26 [47]
      (withHours (withPortal { secure with state := .faultDriver, faults := 3, deferred := some windowed } site))
    s.Serves .portalReset (slipOf 26 0 0 [47]) ∧ (s.portal 47).config = some door ∧
      (s.portal 47).state = .faultDriver ∧ s.sources (s.portal 47) = 0 ∧
      holds (fun t => stands .heldUnlocked windowed t && done [7] t) (exec .portalReset s) = true := by
  decide

/-- SHORT and OPEN_LOAD in service, OPEN_LOAD in COOLDOWN, and OK that completes a probe. -/
theorem test_meets_PortalResetLeavesTheFault_report :
    let s (r : Portal) : State := polled (withPortal { r with rex := some 0 } site)
    let probing : Portal := { secure with
      state := .released, command := .released, probePending := true, probeElapsed := true }
    (s secure).HandsPortal 3 30 (status 2 0xDC) (node .portal) 47 door ∧ statusByte (status 2 0xDC) / 2 % 4 = 1 ∧
      (s { secure with state := .cooldown }).HandsPortal 3 30 (status 4 0xDA) (node .portal) 47 door ∧
      statusByte (status 4 0xDA) / 2 % 4 = 2 ∧ ((s secure).portal 47).door = reportedDoor (status 2 0xDC) ∧
      ((s secure).portal 47).rex = some (statusByte (status 2 0xDC) / 16) ∧
      ((s secure).portal 47).door = reportedDoor (status 4 0xDA) ∧
      ((s secure).portal 47).rex = some (statusByte (status 4 0xDA) / 16) ∧
      (s probing).HandsPortal 3 30 (status 0 0xDE) (node .portal) 47 door ∧ ((s probing).portal 47).ProbeDone door ∧
      statusByte (status 0 0xDE) / 2 % 4 = 0 := by
  decide

/-- A door that opens in SECURE and one that closes in HELD. -/
theorem test_meets_PortalTimersExpire_door :
    let s (r : Portal) : State := polled (withPortal { r with rex := some 0 } site)
    let held : Portal := { secure with state := .held, door := .opened }
    (s secure).HandsPortal 3 30 (status 1 0xDD) (node .portal) 47 door ∧ 1 ≤ door.hold ∧
      ((s secure).portal 47).passages = [] ∧ ((s secure).portal 47).door ≠ reportedDoor (status 1 0xDD) ∧
      ((s secure).portal 47).rex = some (statusByte (status 1 0xDD) / 16) ∧ statusByte (status 1 0xDD) / 2 % 4 = 0 ∧
      ¬ ((s secure).portal 47).ProbeDone door ∧ reportedDoor (status 1 0xDD) = .opened ∧
      (s held).HandsPortal 3 30 (status 0 0xDE) (node .portal) 47 door ∧ ((s held).portal 47).passages = [] ∧
      ((s held).portal 47).door ≠ reportedDoor (status 0 0xDE) ∧
      ((s held).portal 47).rex = some (statusByte (status 0 0xDE) / 16) ∧ statusByte (status 0 0xDE) / 2 % 4 = 0 ∧
      ¬ ((s held).portal 47).ProbeDone door ∧ ((s held).portal 47).deferred = none ∧
      reportedDoor (status 0 0xDE) = .closed := by
  decide

theorem test_meets_PortalTimersExpire :
    let s := withPortal { secure with state := .opened, passageTimer := .due, holdTimer := .due, probe := .due } site
    (s.portal 47).passageTimer = .due ∧ (s.portal 47).deferred = none ∧ (s.portal 47).holdTimer = .due ∧
      (s.portal 47).state = .opened ∧ (s.portal 47).probe = .due := by
  decide

/-- A RELEASED portal with a passage and a deferred record, of another node and of the same with an open window. -/
theorem test_meets_PortalTimersExpire_deferred :
    let s (d : PortalConfig) : State := withHours (withPortal { secure with
      state := .released, passageTimer := .due, passages := [passage], deferred := some d } site)
    ((s elsewhere).portal 47).passageTimer = .due ∧ ((s elsewhere).portal 47).state = .released ∧
      ((s elsewhere).portal 47).config = some door ∧
      holds (stands .waiting elsewhere) (exec (.passageTimerExpiry 47) (s elsewhere)) = true ∧
      holds (stands .heldUnlocked windowed) (exec (.passageTimerExpiry 47) (s windowed)) = true := by
  decide

/-- A door that closes in HELD at a portal with a deferred record. -/
theorem test_meets_PortalTimersExpire_door_deferred :
    let s : State := polled (withPortal { secure with
      state := .held, door := .opened, rex := some 0, deferred := some elsewhere } site)
    s.HandsPortal 3 30 (status 0 0xDE) (node .portal) 47 door ∧ (s.portal 47).passages = [] ∧
      (s.portal 47).door ≠ reportedDoor (status 0 0xDE) ∧
      (s.portal 47).rex = some (statusByte (status 0 0xDE) / 16) ∧ statusByte (status 0 0xDE) / 2 % 4 = 0 ∧
      ¬ (s.portal 47).ProbeDone door ∧ reportedDoor (status 0 0xDE) = .closed ∧
      holds (stands .waiting elsewhere) (exec (.reply 3 (status 0 0xDE)) s) = true := by
  decide

theorem test_meets_CooldownEnds :
    let s := withPortal { secure with state := .cooldown, cooldown := .due, faults := 3 } site
    (s.portal 47).cooldown = .due ∧ (s.portal 47).state = .cooldown ∧ (s.portal 47).config = some door ∧
      (s.portal 47).deferred = none ∧ 1 ≤ door.unlock ∧ 1 ≤ door.hold := by
  decide

/-- A first reply in WAITING, and the third good one of a node that was OFFLINE. -/
theorem test_meets_CooldownEnds_return :
    let back : Node := { node .portal with state := .offline, restore := 2 }
    let s (r : Portal) (n : Node) : State := polled { withPortal r site with nodes := [(126, n)] }
    let waiting : Portal := { secure with state := .waiting, door := .unknown }
    let offline : Portal := { secure with state := .faultOffline, door := .unknown, faults := 3 }
    (s waiting (node .portal)).HandsPortal 3 30 (status 1 0xDD) (node .portal) 47 door ∧
      ((s waiting (node .portal)).portal 47).deferred = none ∧ ((s waiting (node .portal)).portal 47).state = .waiting ∧
      (s offline back).HandsPortal 3 30 (status 4 0xDA) back 47 door ∧ ((s offline back).portal 47).deferred = none ∧
      ((s offline back).portal 47).state = .faultOffline := by
  decide

/-- A cooldown that ends, and a first reply in WAITING, at a portal with a deferred record. -/
theorem test_meets_CooldownEnds_deferred :
    let s (r : Portal) : State := polled (withHours (withPortal r site))
    let cooling : Portal := { secure with state := .cooldown, cooldown := .due, deferred := some elsewhere }
    let waiting : Portal := { secure with state := .waiting, door := .unknown, deferred := some windowed }
    ((s cooling).portal 47).cooldown = .due ∧ ((s cooling).portal 47).state = .cooldown ∧
      ((s cooling).portal 47).config = some door ∧
      holds (stands .waiting elsewhere) (exec (.cooldownExpiry 47) (s cooling)) = true ∧
      (s waiting).HandsPortal 3 30 (status 0 0xDE) (node .portal) 47 door ∧
      ((s waiting).portal 47).state = .waiting ∧
      holds (stands .heldUnlocked windowed) (exec (.reply 3 (status 0 0xDE)) (s waiting)) = true := by
  decide

theorem test_meets_CarPutConfiguresOrDefers :
    let v := slipOf 27 0 0 [3, 3, 29, 0xFF, 0x0F, 1, 0, 1]
    let s := serving v { site with nodes := [(125, node .car)] }
    s.Serves .carPut v ∧ s.carRefusal v = none ∧ (s.car 3).config = none ∧
      (serving v (withCar [] site)).carRefusal v = none ∧ ((withCar [] site).car 3).config = some lift := by
  decide

/-- R135: each check of CAR_PUT at its boundary, one field wrong at a time, and the node of another car, named in force or
deferred. -/
theorem test_meets_CarPutConfiguresOrDefers_refused :
    let good : List Byte := [3, 3, 29, 0xFF, 0x0F, 1, 0, 1]
    let s : State := { site with nodes := [(125, node .car), (126, node .portal)] }
    let refused (at_ : Nat) (b : Byte) : Option Answer := s.carRefusal (slipOf 27 0 0 (good.set at_ b))
    let second := slipOf 27 0 0 (good.set 0 2)
    let deferring : State := { withCar [] site with
      cars := [(3, { ((withCar [] site).car 3) with config := some { lift with node := ⟨2, 29⟩ }, deferred := some lift })] }
    s.carRefusal (slipOf 27 0 0 good) = none ∧ refused 0 4 = some (.badField 1) ∧
      [(1, 4), (1, 2), (2, 0), (2, 31), (2, 30)].map (fun x => refused x.1 x.2) =
        List.replicate 5 (some (.badField 2)) ∧
      refused 4 0x10 = some (.badField 3) ∧ refused 6 0x10 = some (.badField 4) ∧
      refused 3 0xFE = some (.badField 4) ∧ refused 7 2 = some (.badField 5) ∧
      (serving second (withCar [] site)).Serves .carPut second ∧
      (withCar [] site).carRefusal second = some (.refusal .inUse [3]) ∧
      deferring.carRefusal second = some (.refusal .inUse [3]) := by
  decide

/-- R140: a record applied to the same node, one that names another node, which gets the outputs while the old node is handed
floors empty and recall off, and one that is deferred behind an entry. -/
theorem test_meets_CarPutConfiguresOrDefers_applied :
    let v := slipOf 27 0 0 [3, 3, 29, 0xFF, 0x0F, 3, 0, 0]
    let w := slipOf 27 0 0 [3, 3, 28, 0xFF, 0x0F, 3, 0, 0]
    let s (v : Service) (list : List Release) : State := serving v { withCar list site with
      nodes := [(124, node .car), (125, { node .car with floors := 1 })] }
    let floors (t : State) (a : Nat) : Option Word := (t.node ⟨3, a⟩).map (fun n => n.floors)
    let e : Release := { tenant := 4095, floors := 4, timer := .running 5 }
    (s v []).carRefusal v = none ∧ ((s v []).car 3).config = some lift ∧ (s w []).carRefusal w = none ∧
      ((s w [e]).car 3).releases ≠ [] ∧
      holds (fun t => done [1] t && floors t 29 == some 3 && floors t 28 == some 0) (exec .carPut (s v [])) = true ∧
      holds (fun t => done [1] t && floors t 29 == some 0 && floors t 28 == some 3) (exec .carPut (s w [])) = true ∧
      holds (fun t => (t.car 3).deferred == some w.carConfig && floors t 29 == some 1) (exec .carPut (s w [e])) = true := by
  decide

theorem test_meets_ReleaseEntriesExpire :
    let e : Release := { tenant := 4095, floors := 4, timer := .due }
    let s := withCar [e] site
    (s.car 3).releases.find? (fun e => e.tenant == 4095) = some e ∧ e.timer = .due ∧ (s.car 3).config = some lift := by
  decide

/-- A car in IN_RECALL whose node reports the recall complete. -/
theorem test_meets_ReleaseEntriesExpire_reply :
    let g : CarConfig := { lift with node := ⟨3, 30⟩ }
    let x : Car := { state := .inRecall, config := some g, deferred := none, releases := [], recallDone := false }
    let s : State := polled { site with cars := [(3, x)], nodes := [(126, node .car)] }
    s.HandsOn 3 30 (status 1 0xDD) (node .car) ∧ s.carOf ⟨3, 30⟩ = some 3 ∧ (s.car 3).state = .inRecall ∧
      (statusByte (status 1 0xDD)).testBit 0 = true := by
  decide

/-! ### Reader lines -/

theorem test_meets_LinePutStartsAndStopsTheLine :
    let s := withLine (running [] .idle) (node .unit) site
    (served 29 [3, 0, 3] s).Serves .linePut (slipOf 29 0 0 [3, 0, 3]) ∧ (slipOf 29 0 0 [3, 0, 3]).body 0 1 ≤ 3 ∧
      (slipOf 29 0 0 [3, 0, 3]).body 1 1 ≤ 1 ∧ (slipOf 29 0 0 [3, 0, 3]).body 2 1 ≤ 3 ∧ (s.line 3).state ≠ .stopped ∧
      s.node ⟨3, 30⟩ = some (node .unit) ∧ (site.line 3).state = .stopped := by
  decide

theorem test_meets_LinePutStartsAndStopsTheLine_start :
    let v := slipOf 29 0 0 [3, 1, 0]
    let s : State := { site with bus := { site.bus with run := .run } }
    (serving v s).Serves .linePut v ∧ v.body 0 1 ≤ 3 ∧ v.body 1 1 = 1 ∧ v.body 2 1 ≤ 3 ∧ (s.line 3).state = .stopped ∧
      s.bus.run = .run := by
  decide

/-- A PORTAL node put anew at its portal, with a passage pending. -/
theorem test_meets_NodeSlips_anew :
    let v := slipOf 30 0 0 [3, 30, 0]
    let s := serving v (withPortal { secure with state := .released, passages := [passage] } site)
    v.body 0 1 ≤ 3 ∧ 1 ≤ v.body 1 1 ∧ v.body 1 1 ≤ 30 ∧ s.Serves .nodePut v ∧ v.body 2 1 = 0 ∧
      s.node ⟨3, 30⟩ = some (node .portal) ∧ s.portalOf ⟨3, 30⟩ = some 47 ∧ (s.portal 47).deferred = none ∧
      s.PortalAlone ⟨3, 30⟩ 47 :=
  ⟨by decide, by decide, by decide, by decide, by decide, by decide, by decide, by decide, portalAlone _ rfl⟩

/-- A PORTAL node put anew at its portal, whose deferred record is applied. -/
theorem test_meets_NodeSlips_deferred :
    let s := served 30 [3, 30, 0] (withPortal { secure with deferred := some windowed } site)
    s.Serves .nodePut (slipOf 30 0 0 [3, 30, 0]) ∧ s.node ⟨3, 30⟩ = some (node .portal) ∧
      s.portalOf ⟨3, 30⟩ = some 47 ∧ (s.portal 47).deferred = some windowed ∧ s.PortalAlone ⟨3, 30⟩ 47 ∧
      holds (stands .waiting windowed) (exec .nodePut s) = true :=
  ⟨by decide, by decide, by decide, by decide, portalAlone _ rfl, by decide⟩

theorem test_meets_NodeSlips_put :
    let v := slipOf 30 0 0 [3, 30, 2]
    let s := withLine (running [] .idle) (node .unit) site
    v.body 0 1 ≤ 3 ∧ 1 ≤ v.body 1 1 ∧ v.body 1 1 ≤ 30 ∧ (serving v site).Serves .nodePut v ∧ v.body 2 1 ≤ 2 ∧
      site.node ⟨3, 30⟩ = none ∧ s.node ⟨3, 30⟩ = some (node .unit) ∧ s.claimant ⟨3, 30⟩ = none ∧
      (withPortal secure site).claimant ⟨3, 30⟩ = some 0 ∧ (node .portal).kind ≠ .unit := by
  decide

/-- R97: a UNIT node with tamper SET is put anew; the tamper state is CLEAR and the journal stands as before (assumption
55). -/
theorem test_nodePut_tamper :
    let s := served 30 [3, 30, 2] (withLine (running [] .idle) { node .unit with tamper := true } site)
    (s.node ⟨3, 30⟩).any (fun r => r.tamper && r.kind == .unit) = true ∧ s.claimant ⟨3, 30⟩ = none ∧
      holds (fun t => (t.node ⟨3, 30⟩).any (fun r => !r.tamper) && t.journal == s.journal && t.mem == s.mem)
        (exec .nodePut s) = true := by
  decide

theorem test_meets_NodeSlips_drop :
    let v := slipOf 31 0 0 [3, 30]
    let s := withLine (running [] (.polled 30 .r19200 [])) (node .unit) site
    v.body 0 1 ≤ 3 ∧ 1 ≤ v.body 1 1 ∧ v.body 1 1 ≤ 30 ∧ (serving v s).Serves .nodeDrop v ∧
      s.node ⟨3, 30⟩ = some (node .unit) ∧ s.claimant ⟨3, 30⟩ = none ∧
      (withPortal secure site).claimant ⟨3, 30⟩ = some 0 ∧ (s.line 3).state = .running ∧
      (s.line 3).exchange = .polled 30 .r19200 [] := by
  decide

theorem test_meets_LinesPollInCycles :
    ((withLine (running [30] .idle) (node .unit) site).line 3).state = .running ∧
      ((withLine (running [30] .idle) (node .unit) site).line 3).due = 30 :: [] ∧
      ((withLine (running [] .idle) (node .unit) site).line 3).due = [] ∧
      ((withLine (running [] .quietWait) (node .unit) site).line 3).exchange = .quietWait := by
  decide

theorem test_meets_GoodRepliesBringNodesOnline :
    let s := withLine (running [1] (.polled 30 .r19200 [])) { node .portal with state := .offline, restore := 2 } site
    (s.line 3).state = .running ∧ (s.line 3).exchange = .polled 30 .r19200 [] ∧
      s.node ⟨3, 30⟩ = some { node .portal with state := .offline, restore := 2 } ∧
      judge .portal 30 goodReply = none := by
  decide

/-- The last node due of cycle 7: the node restored and the one that stays OFFLINE are due in cycle 0, and the node restored
alone in the cycle after cycle 3. -/
theorem test_meets_GoodRepliesBringNodesOnline_last :
    let back : Node := { node .portal with state := .offline, restore := 2 }
    let s (cycle : Nat) : State := { site with
      nodes := [(125, { node .car with state := .offline }), (126, back)]
      lines := [(3, { running [] (.polled 30 .r19200 []) with cycle := cycle })] }
    ((s 7).line 3).due = [] ∧ (s 7).node ⟨3, 30⟩ = some back ∧ judge .portal 30 goodReply = none ∧
      holds (fun t => (t.line 3).cycle == 0 && (t.line 3).due == [29, 30]) (exec (.reply 3 goodReply) (s 7)) = true ∧
      holds (fun t => (t.line 3).cycle == 4 && (t.line 3).due == [30]) (exec (.reply 3 goodReply) (s 3)) = true := by
  decide

/-- A read joins a queue of 7. -/
theorem test_meets_GoodRepliesBringNodesOnline_read :
    (polled { site with nodes := [(126, node .portal)], reads := List.replicate 7 read }).HandsOn 3 30 readReply
      (node .portal) := by
  decide

/-- A door that opens on a pending CREATE, into the lowest free slot, by a tenant with no unit in the zone. -/
theorem test_meets_GoodRepliesBringNodesOnline_opening :
    let s : State := polled (withPortal { secure with state := .released, passages := [passage], rex := some 0 } empty)
    let alone : State := { s with tenants := [(4095, { tenant with grants := [] })] }
    s.HandsPortal 3 30 (status 1 0xDD) (node .portal) 47 door ∧ 1 ≤ door.hold ∧ (s.portal 47).state = .released ∧
      reportedDoor (status 1 0xDD) = .opened ∧ (s.portal 47).door ≠ .opened ∧
      (s.portal 47).rex = some (statusByte (status 1 0xDD) / 16) ∧ statusByte (status 1 0xDD) / 2 % 4 = 0 ∧
      (¬ (s.portal 47).ProbeDone door) ∧ s.LowestFreeSlot 0 ∧ tenant.grants.Nodup ∧
      (alone.tenant 4095).map (fun x => x.grants) = some [] ∧ alone.NoUnitIn [] none (some 4) ∧
      site.visitOf 4095 = some visit ∧ empty.visitOf 4095 = none := by
  refine ⟨by decide, by decide, by decide, by decide, by decide, by decide, by decide, by decide, ?_, by decide, by decide,
    ?_, by decide, by decide⟩
  · exact ⟨by decide, by decide, fun m h => absurd h (Nat.not_lt_zero m)⟩
  · intro x hx
    simp at hx

theorem test_meets_BadRepliesAreCounted :
    let s := withLine (running [1] (.polled 30 .r19200 [])) { node .portal with faults := 15 } site
    (s.line 3).state = .running ∧ (s.line 3).exchange = .polled 30 .r19200 [] ∧
      s.node ⟨3, 30⟩ = some { node .portal with faults := 15 } ∧
      judge .portal 30 [char 30 true, char 4 false] = some .cutShort := by
  decide

/-- A PORTAL node in contact whose fault counter passes the greatest limit; a portal in service names it. -/
theorem test_meets_BadRepliesAreCounted_offline :
    let n : Node := { node .portal with faults := 15 }
    let s : State := polled { withPortal { secure with state := .released, passages := [passage] } site with
      nodes := [(126, n)] }
    s.node ⟨3, 30⟩ = some n ∧ n.state ≠ .offline ∧ s.settings.faultLimit < min 15 (n.faults + 1) ∧
      s.portalOf ⟨3, 30⟩ = some 47 ∧ (s.portal 47).config = some door ∧ (s.portal 47).state ≠ .waiting ∧
      (s.portal 47).state ≠ .unconfigured ∧ (s.portal 47).state ≠ .cooldown ∧ passage ∈ (s.portal 47).passages ∧
      (withCar [] site).carOf ⟨3, 29⟩ = some 3 ∧ (withCar [] site).CarAlone ⟨3, 29⟩ 3 :=
  ⟨by decide, by decide, by decide, by decide, by decide, by decide, by decide, by decide, by decide, by decide,
    carAlone _ rfl⟩

/-- A node whose portal leaves COOLDOWN with three driver faults, one whose portal is WAITING, one that nothing names, and a car
node, each going OFFLINE as COLLISION (code 1) is counted as the fifth bad reply: NODE_OFFLINE, and what its owner adds. -/
theorem test_meets_BadRepliesAreCounted_owners :
    let n (kind : NodeKind) : Node := { node kind with faults := 4 }
    let at30 (kind : NodeKind) (s : State) : State := polled { s with nodes := [(126, n kind)] }
    let failed : Portal := { secure with state := .cooldown, faults := 3, cooldown := .running 5 }
    let lifted : CarConfig := { lift with node := ⟨3, 30⟩ }
    let ridden : Car := { state := .inService, config := some lifted, deferred := none, recallDone := false,
                          releases := [{ tenant := 4095, floors := 4, timer := .running 5 }] }
    let lost : Byte × List Byte := (39, [5, 1, 0, 0, 0, 0])
    let s : State := at30 .car { site with cars := [(3, ridden)] }
    (at30 .portal (withPortal failed site)).portalOf ⟨3, 30⟩ = some 47 ∧
      holds (fun t => told 3 t == [lost, (34, [0, 0, 0, 0, 0, 0]), (0, [0, 0, 0, 0, 0, 0])])
        (exec (.collision 3) (at30 .portal (withPortal failed site))) = true ∧
      holds (fun t => told 2 t == [lost, (0, [0, 0, 0, 0, 0, 0])])
        (exec (.collision 3) (at30 .portal (withPortal { secure with state := .waiting } site))) = true ∧
      (at30 .portal site).portalOf ⟨3, 30⟩ = none ∧
      holds (fun t => told 2 t == [lost, (0, [0, 0, 0, 0, 0, 0])]) (exec (.collision 3) (at30 .portal site)) = true ∧
      s.node ⟨3, 30⟩ = some (n .car) ∧ s.settings.faultLimit < 5 ∧ s.carOf ⟨3, 30⟩ = some 3 ∧ s.CarAlone ⟨3, 30⟩ 3 ∧
      holds (fun t => told 2 t == [lost, (35, [5, 4, 0, 0, 0, 0])]) (exec (.collision 3) s) = true :=
  ⟨by decide, by decide, by decide, by decide, by decide, by decide, by decide, by decide, carAlone _ rfl, by decide⟩

/-- A line with a portal's node and a car's node in contact: LINE_FAULT, reason BREAK, count 2, and then each node's entries in
ascending order of address, cause LINE_FAULT (code 9). -/
theorem test_meets_LineFaultsAndRecovery_entries :
    let r : Car := { state := .inService, config := some lift, deferred := none, recallDone := false,
                     releases := [{ tenant := 4095, floors := 4, timer := .running 5 }] }
    let s : State := { withPortal { secure with state := .released, passages := [passage] } site with
      cars := [(3, r)], nodes := [(125, { node .car with faults := 1 }), (126, node .portal)]
      lines := [(3, running [] .idle)] }
    (s.line 3).state = .running ∧ (s.line 3).exchange = .idle ∧ (∀ a i, s.carOf ⟨3, a⟩ = some i → s.CarAlone ⟨3, a⟩ i) ∧
      holds (fun t => told 5 t == [(40, [0, 2, 0, 0, 0, 0]), (39, [1, 9, 0, 0, 0, 0]), (35, [5, 4, 0, 0, 0, 0]),
        (39, [0, 9, 0, 0, 0, 0]), (21, [0, 1, 4, 3, 0, 0])]) (exec (.lineBreak 3) s) = true := by
  refine ⟨by decide, by decide, ?_, by decide⟩
  intro a i _ q _ d hd
  have hq : q = 3 ∨ q ≠ 3 := em _
  obtain rfl | hq := hq
  · simp [State.car, Table.read, Table.find] at hd
  · simp [State.car, Table.read, Table.find, hq.symm, Car.blank] at hd

theorem test_meets_LineFaultsAndRecovery :
    ((withLine (running [] .idle) (node .unit) site).line 3).state = .running ∧
      ((withLine (running [] .idle) (node .unit) site).line 3).exchange = .idle ∧
      ((withLine (running [] .quietWait) (node .unit) site).line 3).exchange = .quietWait ∧
      ((withLine { running [] .idle with state := .fault, check := .due } (node .unit) site).line 3).state = .fault ∧
      ((withLine { running [] .idle with state := .fault, check := .due } (node .unit) site).line 3).check = .due := by
  decide

/-! ### Decisions, modes and the journal -/

theorem test_meets_PortalReadsAreDecidedInOrder :
    (withPortal secure empty).asked read = .portal 47 door ∧
      (withPortal secure empty).presented read =
        some ({ key := card, tenant := 4095, state := .active, expiry := none }, tenant) := by
  decide

/-- A repeat, by the tenant whose passage was granted at this head, and IN_TRANSIT at the other head. -/
theorem test_meets_PortalReadsAreDecidedInOrder_again :
    let s : State := { withPortal { secure with state := .released, passages := [passage] } empty with
      tenants := [(4095, { tenant with transit := some 47 })] }
    s.asked read = .portal 47 door ∧ (s.presented read).isSome ∧ s.ruling read = .again ∧
      s.asked { read with head := .b } = .portal 47 door ∧ s.ruling { read with head := .b } = .deny .inTransit := by
  decide

/-- A visit in zone 4 with a party of 2 ends at head B. -/
theorem test_meets_PortalReadsAreDecidedInOrder_exit :
    let s : State := withPortal secure site
    s.asked { read with head := .b } = .portal 47 door ∧ s.ruling { read with head := .b } =
      .pass .grant { passage with kind := .finish, party := 2, target := 0, head := .b } := by
  decide

/-- A key that is not in the index, and a head that nothing names. -/
theorem test_meets_PortalReadsAreDecidedInOrder_unknown :
    let s : State := { withPortal secure empty with creds := [] }
    s.asked read = .portal 47 door ∧ Table.find read.key.code s.creds = none ∧ empty.asked read = .nothing := by
  decide

theorem test_meets_CarReadsAreDecidedInOrder_unknown :
    let s : State := { withCar [] empty with creds := [] }
    let r : Read := { read with node := ⟨3, 29⟩, head := .car }
    s.asked r = .car 3 lift ∧ Table.find r.key.code s.creds = none := by
  decide

theorem test_meets_CarReadsAreDecidedInOrder :
    (withCar [] empty).asked { read with node := ⟨3, 29⟩, head := .car } = .car 3 lift ∧
      (withCar [] empty).presented { read with node := ⟨3, 29⟩, head := .car } =
        some ({ key := card, tenant := 4095, state := .active, expiry := none }, tenant) := by
  decide

theorem test_meets_TheOldestReadIsDecided_grant :
    let s : State := { withPortal secure empty with reads := [read, read] }
    s.reads = read :: [read] ∧ s.asked read = .portal 47 door ∧ s.ruling read = .pass .grant passage ∧
      (s.portal 47).state = .secure ∧ 1 ≤ door.unlock ∧ s.node read.node = some (node .portal) := by
  decide

/-- A grant that is pending behind another in RELEASED, and one that is applied at once in OPEN. -/
theorem test_meets_TheOldestReadIsDecided_placed :
    let s (r : Portal) : State := { withPortal r empty with reads := [read] }
    let released : Portal := { secure with state := .released, passages := [{ passage with tenant := 1 }] }
    let opened : Portal := { secure with state := .opened, door := .opened }
    (s released).asked read = .portal 47 door ∧ (s released).ruling read = .pass .grant passage ∧
      ((s released).portal 47).state = .released ∧ (s opened).asked read = .portal 47 door ∧
      (s opened).ruling read = .pass .grant passage ∧ ((s opened).portal 47).state = .opened ∧ 1 ≤ door.unlock ∧
      1 ≤ door.hold := by
  decide

theorem test_meets_TheOldestReadIsDecided_again :
    let s : State := { withPortal { secure with state := .released, passages := [passage] } empty with
      reads := [read], tenants := [(4095, { tenant with transit := some 47 })] }
    s.reads = read :: [] ∧ s.asked read = .portal 47 door ∧ s.ruling read = .again ∧ 1 ≤ door.unlock := by
  decide

theorem test_meets_TheOldestReadIsDecided_deny :
    let s : State := { withPortal secure site with reads := [read] }
    s.reads = read :: [] ∧ s.ruling read = .deny .passback := by
  decide

theorem test_meets_TheOldestReadIsDecided_ride :
    let r : Read := { read with node := ⟨3, 29⟩, head := .car }
    let s : State := { withCar [] site with reads := [r] }
    s.reads = r :: [] ∧ s.asked r = .car 3 lift ∧ s.ruling r = .ride .grant 0x0004 ∧
      (s.presented r).map (fun e => e.1.tenant) = some 4095 ∧ 5 ≤ s.settings.window := by
  decide

/-- A car grant beside four entries of other tenants, whose oldest is displaced (ACCESS_GRANTED at a car head, class 1, then
LIFT_RELEASE_END, reason DISPLACED, floors 8), and one beside the tenant's own entry, which is placed anew. -/
theorem test_meets_TheOldestReadIsDecided_displaced :
    let r : Read := { read with node := ⟨3, 29⟩, head := .car }
    let entry (tenant : Nat) : Release := { tenant := tenant, floors := 8, timer := .running 5 }
    let s (list : List Release) : State := { withCar list site with reads := [r] }
    let four : State := s [entry 1, entry 2, entry 3, entry 4]
    let own : State := s [entry 4095, entry 2, entry 3, entry 4]
    let granted : Byte × List Byte := (6, [0, 2, 0, 0, 0, 1])
    four.reads = r :: [] ∧ four.asked r = .car 3 lift ∧ four.ruling r = .ride .grant 0x0004 ∧
      (four.car 3).releases.any (fun e => e.tenant == 4095) = false ∧ 4 ≤ (four.car 3).releases.length ∧
      (four.car 3).releases.head? = some (entry 1) ∧
      holds (fun t => told 2 t == [granted, (35, [1, 8, 0, 0, 0, 0])] && (t.car 3).releases.map (fun e => e.tenant) ==
        [2, 3, 4, 4095] && (t.node ⟨3, 29⟩).any (fun n => n.floors == 0x000D)) (exec .decision four) = true ∧
      own.ruling r = .ride .grant 0x0004 ∧ (own.car 3).releases.any (fun e => e.tenant == 4095) = true ∧
      holds (fun t => told 2 t == [granted, (0, [0, 0, 0, 0, 0, 0])] && (t.car 3).releases.map (fun e => e.tenant) ==
        [2, 3, 4, 4095]) (exec .decision own) = true := by
  decide

theorem test_meets_TheOldestReadIsDecided_none : site.reads = [] := by decide

theorem test_meets_TheFireInputIsFiltered :
    true ≠ site.mode.contactClosed ∧
      (let s : State := { site with mode := { site.mode with contactClosed := true, hold := .running 16383 } }
       s.mode.hold = .running 16383 ∧ s.fireReading = true ∧ s.mode.fireActive = false) ∧
      (let s : State := { site with mode := { mode := .evacuate, source := some .fire, contactClosed := false,
                                              fireActive := true, hold := .running 16383 } }
       s.mode.hold = .running 16383 ∧ s.fireReading = false ∧ s.mode.fireActive = true) := by
  decide

/-- An egress portal in SECURE as the FIRE state becomes ACTIVE. -/
theorem test_meets_TheFireInputIsFiltered_portals :
    let s : State := withPortal secure { site with
      mode := { site.mode with contactClosed := true, hold := .running 16383 } }
    s.mode.hold = .running 16383 ∧ s.fireReading = true ∧ s.mode.fireActive = false ∧ s.mode.mode ≠ .evacuate ∧
      (s.portal 47).config = some door ∧
      holds (stands .heldUnlocked door) (exec (.fireActive .portalsFirst) s) = true := by
  decide

/-- R171, R174: FIRE_ACTIVE stands ahead of MODE_CHANGE (NORMAL to EVACUATE, source and trigger FIRE), and the entries of a
portal (PORTAL_UNLOCKED, source EVACUATION) and of a car (LIFT_RELEASE_END, reason EVACUATION) follow in either order. -/
theorem test_meets_TheFireInputIsFiltered_entries :
    let r : Car := { state := .inService, config := some lift, deferred := none, recallDone := false,
                     releases := [{ tenant := 4095, floors := 4, timer := .running 5 }] }
    let s : State := { withPortal secure site with
      cars := [(3, r)], mode := { site.mode with contactClosed := true, hold := .running 16383 } }
    let first : List (Byte × List Byte) := [(42, [0, 0, 0, 0, 0, 0]), (43, [0, 2, 0, 0, 0, 0])]
    s.mode.hold = .running 16383 ∧ s.fireReading = true ∧ s.mode.fireActive = false ∧ s.mode.mode ≠ .evacuate ∧
      holds (fun t => told 4 t == first ++ [(25, [1, 0, 0, 0, 0, 0]), (35, [4, 4, 0, 0, 0, 0])])
        (exec (.fireActive .portalsFirst) s) = true ∧
      holds (fun t => told 4 t == first ++ [(35, [4, 4, 0, 0, 0, 0]), (25, [1, 0, 0, 0, 0, 0])])
        (exec (.fireActive .carsFirst) s) = true := by
  decide

/-- R174: MODE_CHANGE of each slip: LOCKDOWN from NORMAL, no source, trigger 1, with a car's LIFT_RELEASE_END, reason LOCKDOWN,
behind it; EVACUATE from LOCKDOWN, source HOST, trigger 2; RESUME from LOCKDOWN, no source, trigger 3. -/
theorem test_meets_ModeSlipsChangeTheMode_entries :
    let s (m : SiteMode) : State := { withCar [{ tenant := 4095, floors := 4, timer := .running 5 }] site with
      mode := { site.mode with mode := m } }
    holds (fun t => told 2 t == [(43, [0, 1, 0xFF, 1, 0, 0]), (35, [3, 4, 0, 0, 0, 0])])
        (exec (.lockdown .carsFirst) (served 32 [] (s .normal))) = true ∧
      holds (fun t => told 2 t == [(43, [1, 2, 1, 2, 0, 0]), (35, [4, 4, 0, 0, 0, 0])])
        (exec (.evacuate .carsFirst) (served 33 [] (s .lockdown))) = true ∧
      holds (fun t => told 2 t == [(43, [1, 0, 0xFF, 3, 0, 0]), (0, [0, 0, 0, 0, 0, 0])])
        (exec (.resume .portalsFirst) (served 34 [] (s .lockdown))) = true := by
  decide

theorem test_meets_ModeSlipsChangeTheMode :
    (served 32 [] site).Serves .lockdown (slipOf 32 0 0 []) ∧ (served 33 [] site).Serves .evacuate (slipOf 33 0 0 []) ∧
      (served 34 [] site).Serves .resume (slipOf 34 0 0 []) ∧ ((withCar [] site).car 3).config.isSome ∧
      ((withCar [] site).car 3).deferred = none ∧ ((withCar [] site).car 3).state = .inService := by
  decide

/-- LOCKDOWN at a portal that its window alone holds, EVACUATE at one in SECURE, and RESUME at one whose window is open. -/
theorem test_meets_ModeSlipsChangeTheMode_portals :
    let s (m : SiteMode) (r : Portal) : State :=
      withPortal { r with config := some windowed, window := true } { site with mode := { site.mode with mode := m } }
    ((s .normal secure).portal 47).config = some windowed ∧
      (served 32 [] (s .normal { secure with state := .heldUnlocked })).Serves .lockdown (slipOf 32 0 0 []) ∧
      holds (stands .secure windowed)
        (exec (.lockdown .carsFirst) (served 32 [] (s .normal { secure with state := .heldUnlocked }))) = true ∧
      holds (stands .heldUnlocked windowed) (exec (.evacuate .carsFirst) (served 33 [] (s .lockdown secure))) = true ∧
      holds (stands .heldUnlocked windowed) (exec (.resume .portalsFirst) (served 34 [] (s .lockdown secure))) = true := by
  decide

/-- A car with a release entry and a deferred record, told of LOCKDOWN, and told that its node enters UNKNOWN. -/
theorem test_meets_ModeSlipsChangeTheMode_cars :
    let moved : CarConfig := { lift with node := ⟨2, 29⟩ }
    let r : Car := { state := .inService, config := some lift, deferred := some moved, recallDone := false,
                     releases := [{ tenant := 4095, floors := 4, timer := .running 5 }] }
    let s : State := { withCar [] site with cars := [(3, r)], bus := { site.bus with run := .run } }
    let applied (t : State) : Bool := (t.car 3).config == some moved && (t.car 3).deferred == none &&
      (t.car 3).releases == []
    (served 32 [] s).Serves .lockdown (slipOf 32 0 0 []) ∧ (s.car 3).config.isSome ∧ (s.car 3).state = .inService ∧
      holds applied (exec (.lockdown .portalsFirst) (served 32 [] s)) = true ∧
      s.carOf ⟨3, 29⟩ = some 3 ∧ s.CarAlone ⟨3, 29⟩ 3 ∧ holds applied (exec .halt s) = true :=
  ⟨by decide, by decide, by decide, by decide, by decide, carAlone _ rfl, by decide⟩

/-- An entry that is the first of its page, and one that takes the last place but one. -/
theorem test_meets_EntriesAreWrittenHeldOrDropped :
    State.reset.journal.stalled = false ∧ State.reset.entryCount State.reset.journal.page = 1 ∧
      ({ State.reset with mem := [(0x2400, 1), (0x2406, 61)] } : State).entryCount 0 ≤ 61 ∧
      ({ State.reset with mem := [(0x2400, 1)] } : State).entryCount 0 = 0 ∧ stalled.journal.stalled = true ∧
      stalled.wordAt (0x2400 + 1024 * stalled.journal.page) ≠ 0 := by
  decide

/-- The 63rd entry of page 31, and an entry submitted to a stalled journal with 8 held whose page 31 reads EMPTY. -/
theorem test_meets_EntriesAreWrittenHeldOrDropped_close :
    (let s : State := { State.reset with
       mem := [(0xA000, 1), (0xA006, 62)], journal := { State.reset.journal with page := 31 } }
     s.journal.stalled = false ∧ s.entryCount s.journal.page = 62 ∧ s.journal.page < 32) ∧
      (let e : Entry := { minute := 0, second := 0, kind := .doorHeld, subject := none, tenant := none, detail := [] }
       let s : State := { stalled with mem := [], journal := { stalled.journal with holdover := List.replicate 8 e } }
       s.journal.stalled = true ∧ s.wordAt (0x2400 + 1024 * s.journal.page) = 0 ∧ s.journal.holdover.length ≤ 8 ∧
         s.journal.page < 32) := by
  decide

theorem test_meets_PagesCloseStallAndRecover :
    (let s : State := { State.reset with journal := { State.reset.journal with page := 31, flush := .due } }
     s.journal.page < 32 ∧ s.journal.flush = .due ∧ s.journal.stalled = false) ∧
      (let s : State := { stalled with mem := [] }
       s.journal.page < 32 ∧ s.journal.stalled = true ∧ s.journal.reexamine = true ∧
         s.wordAt (0x2400 + 1024 * s.journal.page) = 0 ∧ s.journal.holdover.length ≤ 8) ∧
      (stalled.journal.stalled = true ∧ stalled.journal.reexamine = true ∧
        stalled.wordAt (0x2400 + 1024 * stalled.journal.page) ≠ 0) ∧
      (let s : State := { stalled with mem := [], journal := { stalled.journal with reexamine := false } }
       s.journal.page < 32 ∧ s.journal.reexamine = false) := by
  decide

theorem test_meets_JournalMarkIsSubmitted : (served 36 [1, 0] site).Serves .journalMark (slipOf 36 0 0 [1, 0]) := by
  decide

end Sys2Proof.Tests
end

section
/-! The standing of a paid-through day (chapter 1, R7): one equation per form of the paid-through day, then O19. -/

namespace Sys2Proof.Machine

/-- R26: 1,440 minutes to a day. -/
theorem Clock.today_eq (c : Clock) : c.today = c.minute / 1440 := rfl

/-- R7: no standing is given while the clock is UNSET. -/
theorem State.standing_of_clock_unset {s : State} (h : s.clock.isSet = false) (paid : Option Nat) :
    s.standing paid = none := by
  simp [State.standing, h]

/-- R7: an absent paid-through day. -/
theorem State.standing_of_absent_day {s : State} (h : s.clock.isSet = true) : s.standing none = some .current := by
  simp [State.standing, h]

/-- R7: the table, read from its first line. -/
theorem State.standing_of_day {s : State} (h : s.clock.isSet = true) (p : Nat) :
    s.standing (some p) = some (
      if s.clock.today ≤ p then .current
      else if s.clock.today ≤ p + s.settings.grace then .grace
      else if s.clock.today ≤ p + s.settings.grace + s.settings.overdue then .overdue
      else .lockedOut) := by
  simp only [State.standing, h, Bool.not_true, Bool.false_eq_true, if_false, apply_ite some]

/-- Settles O19, by the state of the clock and the form of the paid-through day. -/
theorem standingFollowsThePaidThroughDay : Obligations.StandingFollowsThePaidThroughDay := by
  intro s
  refine ⟨fun unset paid => State.standing_of_clock_unset unset paid,
    fun set => ⟨State.standing_of_absent_day set, fun p => ?_⟩⟩
  rw [State.standing_of_day set p, Clock.today_eq]

end Sys2Proof.Machine
end

section
/-! The slips (R177, R183 to R186): the bytes of the rack, and for every operation of the blocks one lemma that it leaves the
slip unit and the rack alone. -/

namespace Sys2Proof.Machine

/-! ## The rack -/

/-- R177: the bytes of the 64 slips of the rack, 0x0400 to 0x23FF. -/
def Memory.rack (m : List Host.Cell) (i : Fin 0x2000) : Byte :=
  Table.read blankByte (0x400 + i) m

/-- Two memories with the same rack read alike within it. -/
theorem State.byteAt_of_rack {s t : State} (h : Memory.rack t.mem = Memory.rack s.mem) {a : Nat} (lo : 0x400 ≤ a)
    (hi : a < 0x2400) : t.byteAt a = s.byteAt a := by
  have := congrFun h ⟨a - 0x400, by omega⟩
  simpa [Memory.rack, State.byteAt, Nat.add_sub_cancel' lo] using this

/-- What a word reads as depends on its two bytes. -/
theorem State.wordAt_congr {s t : State} {a : Nat} (h0 : t.byteAt a = s.byteAt a)
    (h1 : t.byteAt (a + 1) = s.byteAt (a + 1)) : t.wordAt a = s.wordAt a := by
  simp [State.wordAt, State.peek, List.range, List.range.loop, h0, h1]

/-- R184: two memories with the same rack hold the same slip states. -/
theorem State.slipWord_of_rack {s t : State} (h : Memory.rack t.mem = Memory.rack s.mem) {n : Nat} (hn : n < 64) :
    t.wordAt (0x400 + 128 * n) = s.wordAt (0x400 + 128 * n) :=
  State.wordAt_congr (State.byteAt_of_rack h (by omega) (by omega)) (State.byteAt_of_rack h (by omega) (by omega))

/-- A run of bytes that meets no slip leaves the rack alone. -/
theorem State.rack_poke {a : Nat} {bs : List Byte} (h : a + bs.length ≤ 0x400 ∨ 0x2400 ≤ a) (s : State) :
    Memory.rack (s.poke a bs).mem = Memory.rack s.mem :=
  funext fun i => State.byteAt_poke_outside (by omega) s

/-- From `s` to `t` the slip unit and the rack have not changed. -/
abbrev State.LeavesSlips (s t : State) : Prop :=
  t.slips = s.slips ∧ Memory.rack t.mem = Memory.rack s.mem

/-- A pass over a list leaves the slips alone when each of its steps does. -/
@[simp] theorem State.forEach_leavesSlips {α : Type} {f : α → State → State} (h : ∀ x s, State.LeavesSlips s (f x s))
    (xs : List α) (s : State) : State.LeavesSlips s (s.forEach xs f) :=
  State.forEach_frame State.LeavesSlips (fun _ => ⟨rfl, rfl⟩)
    (fun _ _ _ h k => ⟨k.1.trans h.1, k.2.trans h.2⟩) f h xs s

/-! ## Block 0 and the journal -/

/-- R179: a value handed to block 0 ends below the rack. -/
theorem State.mirror_leavesSlips {a : Nat} {v : List Byte} (h : a + v.length ≤ 0x400) (s : State) :
    State.LeavesSlips s (s.mirror a v) := by
  refine ⟨by simp, ?_⟩
  simp only [State.mirror_eq, State.pokeWord]
  rw [State.rack_poke (by simp), State.rack_poke (.inl h), State.rack_poke (by simp)]

@[simp] theorem State.mirrorRun_leavesSlips (s : State) : State.LeavesSlips s s.mirrorRun :=
  State.mirror_leavesSlips (by simp) s

@[simp] theorem State.mirrorMode_leavesSlips (s : State) : State.LeavesSlips s s.mirrorMode :=
  State.mirror_leavesSlips (by simp) s

@[simp] theorem State.mirrorClock_leavesSlips (s : State) : State.LeavesSlips s s.mirrorClock :=
  State.mirror_leavesSlips (by simp [flagByte]) s

@[simp] theorem State.mirrorVisits_leavesSlips (s : State) : State.LeavesSlips s s.mirrorVisits :=
  State.mirror_leavesSlips (by simp) s

@[simp] theorem State.mirrorJournal_leavesSlips (s : State) : State.LeavesSlips s s.mirrorJournal :=
  State.mirror_leavesSlips (by simp) s

/-- R177: the pages stand above the rack. -/
theorem rack_le_pageAddress (p : Nat) : 0x2400 ≤ pageAddress p := by
  simp [pageAddress, Config.pagesBase]

/-- R177: a run of bytes of a page leaves the rack alone. -/
@[simp] theorem State.rack_poke_page (p k : Nat) (bs : List Byte) (s : State) :
    Memory.rack (s.poke (pageAddress p + k) bs).mem = Memory.rack s.mem :=
  State.rack_poke (.inr (Nat.le_add_right_of_le (rack_le_pageAddress p))) s

@[simp] theorem State.rack_poke_pageState (p : Nat) (bs : List Byte) (s : State) :
    Memory.rack (s.poke (pageAddress p) bs).mem = Memory.rack s.mem :=
  State.rack_poke_page p 0 bs s

@[simp] theorem State.takePage_leavesSlips (p : Nat) (s : State) : State.LeavesSlips s (s.takePage p) := by
  refine ⟨by simp, ?_⟩
  simp only [State.takePage, takeAccesses, State.pass_append, State.pass_accessesOf, State.rack_poke_page,
    State.rack_poke_pageState]

@[simp] theorem State.markFull_leavesSlips (r : CloseReason) (s : State) : State.LeavesSlips s (s.markFull r) := by
  simp [State.LeavesSlips, State.markFull, fullAccesses]

@[simp] theorem State.placeEntry_leavesSlips (e : Entry) (s : State) : State.LeavesSlips s (s.placeEntry e) := by
  have h : State.LeavesSlips s (s.pass (s.entryAccesses e)) := by
    unfold State.entryAccesses
    dsimp only
    split <;> simp [State.LeavesSlips, Nat.add_assoc]
  unfold State.placeEntry State.beginPage
  dsimp only
  split <;> exact h

@[simp] theorem State.closePage_leavesSlips (r : CloseReason) (s : State) : State.LeavesSlips s (s.closePage r) := by
  unfold State.closePage State.stallOn
  dsimp only
  (repeat' split) <;> simp [State.LeavesSlips]

@[simp] theorem State.writeEntry_leavesSlips (e : Entry) (s : State) : State.LeavesSlips s (s.writeEntry e) := by
  unfold State.writeEntry
  dsimp only
  (repeat' split) <;> simp [State.LeavesSlips]

@[simp] theorem State.dropRoutine_leavesSlips (s : State) : State.LeavesSlips s s.dropRoutine := by
  unfold State.dropRoutine
  dsimp only
  (repeat' split) <;> simp [State.LeavesSlips]

@[simp] theorem State.dropAlarm_leavesSlips (s : State) : State.LeavesSlips s s.dropAlarm := by
  unfold State.dropAlarm
  dsimp only
  (repeat' split) <;> simp [State.LeavesSlips]

@[simp] theorem State.recover_leavesSlips (s : State) : State.LeavesSlips s s.recover := by
  unfold State.recover
  dsimp only
  (repeat' split) <;> simp [State.LeavesSlips]

@[simp] theorem State.holdEntry_leavesSlips (e : Entry) (s : State) : State.LeavesSlips s (s.holdEntry e) := by
  unfold State.holdEntry
  dsimp only
  (repeat' split) <;> simp [State.LeavesSlips]

@[simp] theorem State.submit_leavesSlips (e : Entry) (s : State) : State.LeavesSlips s (s.submit e) := by
  unfold State.submit
  (repeat' split) <;> simp [State.LeavesSlips]

@[simp] theorem State.log_leavesSlips (kind : EntryKind) (subject tenant : Option Nat) (detail : List Byte)
    (s : State) : State.LeavesSlips s (s.log kind subject tenant detail) :=
  State.submit_leavesSlips _ s

@[simp] theorem State.flushExpiry_leavesSlips (s : State) : State.LeavesSlips s s.flushExpiry := by
  unfold State.flushExpiry
  (repeat' split) <;> simp [State.LeavesSlips]

@[simp] theorem State.reexaminePage_leavesSlips (s : State) : State.LeavesSlips s s.reexaminePage := by
  unfold State.reexaminePage
  dsimp only
  (repeat' split) <;> simp [State.LeavesSlips]

/-! ## The unit monitor -/

@[simp] theorem State.logArmed_leavesSlips (u : Nat) (tenant : Option Nat) (reason : ArmReason) (flag : Option SeenFlag)
    (s : State) : State.LeavesSlips s (s.logArmed u tenant reason flag) := by
  simp [State.LeavesSlips, State.logArmed]

@[simp] theorem State.holdBegins_leavesSlips (u : Nat) (tenant : Option Nat) (s : State) :
    State.LeavesSlips s (s.holdBegins u tenant) := by
  unfold State.holdBegins
  (repeat' split) <;> simp [State.LeavesSlips]

@[simp] theorem State.holdEnds_leavesSlips (u : Nat) (tenant : Option Nat) (s : State) :
    State.LeavesSlips s (s.holdEnds u tenant) := by
  unfold State.holdEnds
  (repeat' split) <;> simp [State.LeavesSlips]

@[simp] theorem State.setHolders_leavesSlips (u n : Nat) (tenant : Option Nat) (s : State) :
    State.LeavesSlips s (s.setHolders u n tenant) := by
  unfold State.setHolders
  dsimp only
  (repeat' split) <;> simp [State.LeavesSlips]

@[simp] theorem State.gainHold_leavesSlips (u tenant : Nat) (s : State) :
    State.LeavesSlips s (s.gainHold u tenant) := by
  unfold State.gainHold
  (repeat' split) <;> simp [State.LeavesSlips]

@[simp] theorem State.loseHold_leavesSlips (u tenant : Nat) (s : State) :
    State.LeavesSlips s (s.loseHold u tenant) := by
  unfold State.loseHold
  (repeat' split) <;> simp [State.LeavesSlips]

@[simp] theorem State.contactReport_leavesSlips (u : Nat) (opened : Bool) (how : ReplyStanding) (s : State) :
    State.LeavesSlips s (s.contactReport u opened how) := by
  unfold State.contactReport
  dsimp only
  (repeat' split) <;> simp [State.LeavesSlips]

@[simp] theorem State.contactChange_leavesSlips (u : Nat) (contact : Option Contact) (s : State) :
    State.LeavesSlips s (s.contactChange u contact) := by
  unfold State.contactChange
  dsimp only
  (repeat' split) <;> simp [State.LeavesSlips]

@[simp] theorem State.tamperReport_leavesSlips (n : NodeId) (tamper : Bool) (how : ReplyStanding) (s : State) :
    State.LeavesSlips s (s.tamperReport n tamper how) := by
  unfold State.tamperReport
  dsimp only
  (repeat' split) <;> simp [State.LeavesSlips]

@[simp] theorem State.inputReport_leavesSlips (n : NodeId) (inputs : Nat) (how : ReplyStanding) (i : Nat)
    (s : State) : State.LeavesSlips s (s.inputReport n inputs how i) := by
  unfold State.inputReport
  (repeat' split) <;> simp [State.LeavesSlips]

@[simp] theorem State.unitReport_leavesSlips (n : NodeId) (inputs : Nat) (tamper : Bool) (how : ReplyStanding)
    (s : State) : State.LeavesSlips s (s.unitReport n inputs tamper how) := by
  simp [State.LeavesSlips, State.unitReport]

/-! ## The visit register -/

@[simp] theorem State.gainHolds_leavesSlips (tenant z : Nat) (s : State) :
    State.LeavesSlips s (s.gainHolds tenant z) := by
  simp [State.LeavesSlips, State.gainHolds]

@[simp] theorem State.loseHolds_leavesSlips (tenant z : Nat) (s : State) :
    State.LeavesSlips s (s.loseHolds tenant z) := by
  simp [State.LeavesSlips, State.loseHolds]

@[simp] theorem State.endVisit_leavesSlips (tenant : Nat) (reason : EndReason) (s : State) :
    State.LeavesSlips s (s.endVisit tenant reason) := by
  unfold State.endVisit
  dsimp only
  (repeat' split) <;> simp [State.LeavesSlips]

@[simp] theorem State.applyCreate_leavesSlips (p : Passage) (s : State) : State.LeavesSlips s (s.applyCreate p) := by
  unfold State.applyCreate
  dsimp only
  (repeat' split) <;> simp [State.LeavesSlips]

@[simp] theorem State.applyMove_leavesSlips (p : Passage) (s : State) : State.LeavesSlips s (s.applyMove p) := by
  unfold State.applyMove
  dsimp only
  (repeat' split) <;> simp [State.LeavesSlips]

@[simp] theorem State.completePassage_leavesSlips (p : Passage) (s : State) :
    State.LeavesSlips s (s.completePassage p) := by
  unfold State.completePassage
  (repeat' split) <;> simp [State.LeavesSlips]

@[simp] theorem State.minuteEntries_leavesSlips (v : Visit) (s : State) :
    State.LeavesSlips s (s.minuteEntries v) := by
  unfold State.minuteEntries
  dsimp only
  (repeat' split) <;> simp [State.LeavesSlips]

@[simp] theorem State.visitMinute_leavesSlips (s : State) : State.LeavesSlips s s.visitMinute := by
  simp [State.LeavesSlips, State.visitMinute]

/-! ## Portals -/

@[simp] theorem State.handLock_leavesSlips (p : Nat) (s : State) : State.LeavesSlips s (s.handLock p) := by
  unfold State.handLock
  dsimp only
  (repeat' split) <;> simp [State.LeavesSlips]

@[simp] theorem State.holdUnlocked_leavesSlips (p : Nat) (s : State) : State.LeavesSlips s (s.holdUnlocked p) := by
  simp [State.LeavesSlips, State.holdUnlocked]

@[simp] theorem State.applyConfig_leavesSlips (p : Nat) (c : PortalConfig) (s : State) :
    State.LeavesSlips s (s.applyConfig p c) := by
  unfold State.applyConfig
  dsimp only
  (repeat' split) <;> simp [State.LeavesSlips]

@[simp] theorem State.applyDeferred_leavesSlips (p : Nat) (s : State) : State.LeavesSlips s (s.applyDeferred p) := by
  unfold State.applyDeferred
  (repeat' split) <;> simp [State.LeavesSlips]

@[simp] theorem State.enterSecure_leavesSlips (p : Nat) (s : State) : State.LeavesSlips s (s.enterSecure p) := by
  simp [State.LeavesSlips, State.enterSecure]

@[simp] theorem State.relock_leavesSlips (p : Nat) (s : State) : State.LeavesSlips s (s.relock p) := by
  unfold State.relock
  dsimp only
  (repeat' split) <;> simp [State.LeavesSlips]

@[simp] theorem State.evaluateSources_leavesSlips (p : Nat) (s : State) :
    State.LeavesSlips s (s.evaluateSources p) := by
  unfold State.evaluateSources
  dsimp only
  (repeat' split) <;> simp [State.LeavesSlips]

@[simp] theorem State.refreshWindow_leavesSlips (p : Nat) (s : State) : State.LeavesSlips s (s.refreshWindow p) := by
  unfold State.refreshWindow
  (repeat' split) <;> simp [State.LeavesSlips]

@[simp] theorem State.refreshWindows_leavesSlips (s : State) : State.LeavesSlips s s.refreshWindows := by
  simp [State.LeavesSlips, State.refreshWindows]

@[simp] theorem State.evaluateAll_leavesSlips (s : State) : State.LeavesSlips s s.evaluateAll := by
  simp [State.LeavesSlips, State.evaluateAll]

@[simp] theorem State.unlist_leavesSlips (p : Nat) (g : Passage) (s : State) :
    State.LeavesSlips s (s.unlist p g) := by
  simp [State.LeavesSlips, State.unlist]

@[simp] theorem State.cancelPassage_leavesSlips (p : Nat) (reason : CancelReason) (g : Passage) (s : State) :
    State.LeavesSlips s (s.cancelPassage p reason g) := by
  simp [State.LeavesSlips, State.cancelPassage]

@[simp] theorem State.cancelAll_leavesSlips (p : Nat) (reason : CancelReason) (s : State) :
    State.LeavesSlips s (s.cancelAll p reason) := by
  simp [State.LeavesSlips, State.cancelAll]

@[simp] theorem State.cancelTransit_leavesSlips (tenant : Nat) (reason : CancelReason) (s : State) :
    State.LeavesSlips s (s.cancelTransit tenant reason) := by
  unfold State.cancelTransit
  (repeat' split) <;> simp [State.LeavesSlips]

@[simp] theorem State.logPassage_leavesSlips (p : Nat) (atOnce : Bool) (g : Passage) (s : State) :
    State.LeavesSlips s (s.logPassage p atOnce g) := by
  simp [State.LeavesSlips, State.logPassage]

@[simp] theorem State.applyAtOnce_leavesSlips (p : Nat) (g : Passage) (s : State) :
    State.LeavesSlips s (s.applyAtOnce p g) := by
  simp [State.LeavesSlips, State.applyAtOnce]

@[simp] theorem State.applyPending_leavesSlips (p : Nat) (g : Passage) (s : State) :
    State.LeavesSlips s (s.applyPending p g) := by
  simp [State.LeavesSlips, State.applyPending]

@[simp] theorem State.applyAll_leavesSlips (p : Nat) (s : State) : State.LeavesSlips s (s.applyAll p) := by
  simp [State.LeavesSlips, State.applyAll]

@[simp] theorem State.appendPassage_leavesSlips (p : Nat) (g : Passage) (s : State) :
    State.LeavesSlips s (s.appendPassage p g) := by
  simp [State.LeavesSlips, State.appendPassage]

@[simp] theorem State.placePassage_leavesSlips (p : Nat) (g : Passage) (s : State) :
    State.LeavesSlips s (s.placePassage p g) := by
  unfold State.placePassage
  dsimp only
  (repeat' split) <;> simp [State.LeavesSlips]

@[simp] theorem State.passageExpiry_leavesSlips (p : Nat) (s : State) : State.LeavesSlips s (s.passageExpiry p) := by
  unfold State.passageExpiry
  dsimp only
  (repeat' split) <;> simp [State.LeavesSlips]

@[simp] theorem State.holdExpiry_leavesSlips (p : Nat) (s : State) : State.LeavesSlips s (s.holdExpiry p) := by
  unfold State.holdExpiry
  dsimp only
  (repeat' split) <;> simp [State.LeavesSlips]

@[simp] theorem State.doorOpens_leavesSlips (p : Nat) (s : State) : State.LeavesSlips s (s.doorOpens p) := by
  unfold State.doorOpens
  dsimp only
  (repeat' split) <;> simp [State.LeavesSlips]

@[simp] theorem State.doorCloses_leavesSlips (p : Nat) (s : State) : State.LeavesSlips s (s.doorCloses p) := by
  unfold State.doorCloses
  dsimp only
  (repeat' split) <;> simp [State.LeavesSlips]

@[simp] theorem State.doorReport_leavesSlips (p : Nat) (opened : Bool) (s : State) :
    State.LeavesSlips s (s.doorReport p opened) := by
  unfold State.doorReport
  dsimp only
  (repeat' split) <;> simp [State.LeavesSlips]

@[simp] theorem State.egressPress_leavesSlips (p : Nat) (s : State) : State.LeavesSlips s (s.egressPress p) := by
  unfold State.egressPress
  (repeat' split) <;> simp [State.LeavesSlips]

@[simp] theorem State.rexReport_leavesSlips (p rex : Nat) (s : State) : State.LeavesSlips s (s.rexReport p rex) := by
  unfold State.rexReport
  (repeat' split) <;> simp [State.LeavesSlips]

@[simp] theorem State.logUnsecured_leavesSlips (p : Nat) (s : State) : State.LeavesSlips s (s.logUnsecured p) := by
  unfold State.logUnsecured
  (repeat' split) <;> simp [State.LeavesSlips]

@[simp] theorem State.shortFailure_leavesSlips (p : Nat) (s : State) : State.LeavesSlips s (s.shortFailure p) := by
  simp [State.LeavesSlips, State.shortFailure]

@[simp] theorem State.openLoadFailure_leavesSlips (p : Nat) (s : State) :
    State.LeavesSlips s (s.openLoadFailure p) := by
  simp [State.LeavesSlips, State.openLoadFailure]

@[simp] theorem State.probeComplete_leavesSlips (p : Nat) (s : State) : State.LeavesSlips s (s.probeComplete p) := by
  simp [State.LeavesSlips, State.probeComplete]

@[simp] theorem State.driverReport_leavesSlips (p : Nat) (d : Driver) (s : State) :
    State.LeavesSlips s (s.driverReport p d) := by
  unfold State.driverReport
  dsimp only
  (repeat' split) <;> simp [State.LeavesSlips]

@[simp] theorem State.cooldownExpiry_leavesSlips (p : Nat) (s : State) :
    State.LeavesSlips s (s.cooldownExpiry p) := by
  unfold State.cooldownExpiry
  dsimp only
  (repeat' split) <;> simp [State.LeavesSlips]

@[simp] theorem State.losePortal_leavesSlips (p : Nat) (st : PortalState) (reason : CancelReason) (s : State) :
    State.LeavesSlips s (s.losePortal p st reason) := by
  unfold State.losePortal
  dsimp only
  (repeat' split) <;> simp [State.LeavesSlips]

@[simp] theorem State.portalOffline_leavesSlips (p : Nat) (s : State) : State.LeavesSlips s (s.portalOffline p) := by
  unfold State.portalOffline
  (repeat' split) <;> simp [State.LeavesSlips]

@[simp] theorem State.portalUnknown_leavesSlips (p : Nat) (s : State) : State.LeavesSlips s (s.portalUnknown p) := by
  unfold State.portalUnknown
  (repeat' split) <;> simp [State.LeavesSlips]

@[simp] theorem State.portalReturn_leavesSlips (p : Nat) (opened : Bool) (rex : Nat) (d : Driver) (s : State) :
    State.LeavesSlips s (s.portalReturn p opened rex d) := by
  unfold State.portalReturn
  dsimp only
  (repeat' split) <;> simp [State.LeavesSlips]

@[simp] theorem State.portalStatus_leavesSlips (p : Nat) (opened : Bool) (rex : Nat) (d : Driver) (s : State) :
    State.LeavesSlips s (s.portalStatus p opened rex d) := by
  unfold State.portalStatus
  (repeat' split) <;> simp [State.LeavesSlips]

@[simp] theorem State.setHostHold_leavesSlips (p : Nat) (hold : Bool) (s : State) :
    State.LeavesSlips s (s.setHostHold p hold) := by
  simp [State.LeavesSlips, State.setHostHold]

@[simp] theorem State.resetDriver_leavesSlips (p : Nat) (s : State) : State.LeavesSlips s (s.resetDriver p) := by
  unfold State.resetDriver
  dsimp only
  (repeat' split) <;> simp [State.LeavesSlips]

/-! ## Lift cars -/

@[simp] theorem State.applyCar_leavesSlips (c : Nat) (g : CarConfig) (s : State) :
    State.LeavesSlips s (s.applyCar c g) := by
  unfold State.applyCar
  dsimp only
  (repeat' split) <;> simp [State.LeavesSlips]

@[simp] theorem State.settleCar_leavesSlips (c : Nat) (s : State) : State.LeavesSlips s (s.settleCar c) := by
  unfold State.settleCar
  (repeat' split) <;> simp [State.LeavesSlips]

@[simp] theorem State.logRelease_leavesSlips (c : Nat) (reason : ReleaseReason) (e : Release) (s : State) :
    State.LeavesSlips s (s.logRelease c reason e) := by
  simp [State.LeavesSlips, State.logRelease]

@[simp] theorem State.removeRelease_leavesSlips (c tenant : Nat) (reason : ReleaseReason) (s : State) :
    State.LeavesSlips s (s.removeRelease c tenant reason) := by
  unfold State.removeRelease
  (repeat' split) <;> simp [State.LeavesSlips]

@[simp] theorem State.emptyReleases_leavesSlips (c : Nat) (reason : ReleaseReason) (s : State) :
    State.LeavesSlips s (s.emptyReleases c reason) := by
  simp [State.LeavesSlips, State.emptyReleases]

@[simp] theorem State.placeRelease_leavesSlips (c tenant : Nat) (floors : Word) (s : State) :
    State.LeavesSlips s (s.placeRelease c tenant floors) := by
  unfold State.placeRelease
  dsimp only
  (repeat' split) <;> simp [State.LeavesSlips]

@[simp] theorem State.releaseExpiry_leavesSlips (c tenant : Nat) (s : State) :
    State.LeavesSlips s (s.releaseExpiry c tenant) := by
  unfold State.releaseExpiry
  (repeat' split) <;> simp [State.LeavesSlips]

@[simp] theorem State.removeReleases_leavesSlips (tenant : Nat) (s : State) :
    State.LeavesSlips s (s.removeReleases tenant) := by
  simp [State.LeavesSlips, State.removeReleases]

@[simp] theorem State.carMode_leavesSlips (c : Nat) (s : State) : State.LeavesSlips s (s.carMode c) := by
  unfold State.carMode
  dsimp only
  (repeat' split) <;> simp [State.LeavesSlips]

@[simp] theorem State.carModeAll_leavesSlips (s : State) : State.LeavesSlips s s.carModeAll := by
  simp [State.LeavesSlips, State.carModeAll]

@[simp] theorem State.carOffline_leavesSlips (c : Nat) (s : State) : State.LeavesSlips s (s.carOffline c) := by
  simp [State.LeavesSlips, State.carOffline]

@[simp] theorem State.carRestored_leavesSlips (c : Nat) (s : State) : State.LeavesSlips s (s.carRestored c) := by
  simp [State.LeavesSlips, State.carRestored]

@[simp] theorem State.carUnknown_leavesSlips (c : Nat) (s : State) : State.LeavesSlips s (s.carUnknown c) := by
  simp [State.LeavesSlips, State.carUnknown]

@[simp] theorem State.carStatus_leavesSlips (c : Nat) (complete : Bool) (s : State) :
    State.LeavesSlips s (s.carStatus c complete) := by
  unfold State.carStatus
  dsimp only
  (repeat' split) <;> simp [State.LeavesSlips]

/-! ## Reader lines -/

@[simp] theorem State.discardReads_leavesSlips (n : NodeId) (s : State) : State.LeavesSlips s (s.discardReads n) := by
  simp [State.LeavesSlips, State.discardReads]

@[simp] theorem State.ownersOffline_leavesSlips (n : NodeId) (kind : NodeKind) (s : State) :
    State.LeavesSlips s (s.ownersOffline n kind) := by
  unfold State.ownersOffline
  (repeat' split) <;> simp [State.LeavesSlips]

@[simp] theorem State.ownersUnknown_leavesSlips (n : NodeId) (kind : NodeKind) (s : State) :
    State.LeavesSlips s (s.ownersUnknown n kind) := by
  unfold State.ownersUnknown
  (repeat' split) <;> simp [State.LeavesSlips]

@[simp] theorem State.nodeUnknown_leavesSlips (n : NodeId) (s : State) : State.LeavesSlips s (s.nodeUnknown n) := by
  unfold State.nodeUnknown
  dsimp only
  (repeat' split) <;> simp [State.LeavesSlips]

@[simp] theorem State.nodeOffline_leavesSlips (n : NodeId) (cause : Nat) (s : State) :
    State.LeavesSlips s (s.nodeOffline n cause) := by
  unfold State.nodeOffline
  (repeat' split) <;> simp [State.LeavesSlips]

@[simp] theorem State.takeRead_leavesSlips (n : NodeId) (b : ReadBlock) (s : State) :
    State.LeavesSlips s (s.takeRead n b) := by
  unfold State.takeRead
  dsimp only
  (repeat' split) <;> simp [State.LeavesSlips]

@[simp] theorem State.handStatus_leavesSlips (n : NodeId) (kind : NodeKind) (how : ReplyStanding) (bytes : List Byte)
    (s : State) : State.LeavesSlips s (s.handStatus n kind how bytes) := by
  unfold State.handStatus
  dsimp only
  (repeat' split) <;> simp [State.LeavesSlips]

@[simp] theorem State.handOn_leavesSlips (n : NodeId) (kind : NodeKind) (how : ReplyStanding) (bytes : List Byte)
    (s : State) : State.LeavesSlips s (s.handOn n kind how bytes) := by
  unfold State.handOn
  dsimp only
  (repeat' split) <;> simp [State.LeavesSlips]

@[simp] theorem State.restoreNode_leavesSlips (n : NodeId) (r : Node) (s : State) :
    State.LeavesSlips s (s.restoreNode n r) := by
  unfold State.restoreNode
  dsimp only
  (repeat' split) <;> simp [State.LeavesSlips]

@[simp] theorem State.goodReply_leavesSlips (n : NodeId) (bytes : List Byte) (s : State) :
    State.LeavesSlips s (s.goodReply n bytes) := by
  unfold State.goodReply
  dsimp only
  (repeat' split) <;> simp [State.LeavesSlips]

@[simp] theorem State.badReply_leavesSlips (n : NodeId) (kind : BadReply) (s : State) :
    State.LeavesSlips s (s.badReply n kind) := by
  unfold State.badReply
  dsimp only
  (repeat' split) <;> simp [State.LeavesSlips]

@[simp] theorem State.exchangeBad_leavesSlips (l : Nat) (kind : BadReply) (s : State) :
    State.LeavesSlips s (s.exchangeBad l kind) := by
  unfold State.exchangeBad
  (repeat' split) <;> simp [State.LeavesSlips]

@[simp] theorem State.judgeReply_leavesSlips (l : Nat) (frame : List LineChar) (s : State) :
    State.LeavesSlips s (s.judgeReply l frame) := by
  unfold State.judgeReply
  (repeat' split) <;> simp [State.LeavesSlips]

@[simp] theorem State.faultNode_leavesSlips (l : Nat) (lost : List Nat) (a : Nat) (s : State) :
    State.LeavesSlips s (s.faultNode l lost a) := by
  unfold State.faultNode
  (repeat' split) <;> simp [State.LeavesSlips]

@[simp] theorem State.faultLine_leavesSlips (l : Nat) (reason : FaultReason) (s : State) :
    State.LeavesSlips s (s.faultLine l reason) := by
  simp [State.LeavesSlips, State.faultLine]

@[simp] theorem State.lineBreak_leavesSlips (l : Nat) (s : State) : State.LeavesSlips s (s.lineBreak l) := by
  unfold State.lineBreak
  (repeat' split) <;> simp [State.LeavesSlips]

@[simp] theorem State.lineNoQuiet_leavesSlips (l : Nat) (s : State) : State.LeavesSlips s (s.lineNoQuiet l) := by
  unfold State.lineNoQuiet
  (repeat' split) <;> simp [State.LeavesSlips]

@[simp] theorem State.recoveryCheck_leavesSlips (l : Nat) (idle : Bool) (s : State) :
    State.LeavesSlips s (s.recoveryCheck l idle) := by
  unfold State.recoveryCheck
  dsimp only
  (repeat' split) <;> simp [State.LeavesSlips]

@[simp] theorem State.stopLine_leavesSlips (l : Nat) (s : State) : State.LeavesSlips s (s.stopLine l) := by
  simp [State.LeavesSlips, State.stopLine]

@[simp] theorem State.stopLines_leavesSlips (s : State) : State.LeavesSlips s s.stopLines := by
  simp [State.LeavesSlips, State.stopLines]

@[simp] theorem State.disableLine_leavesSlips (l : Nat) (s : State) : State.LeavesSlips s (s.disableLine l) := by
  simp [State.LeavesSlips, State.disableLine]

@[simp] theorem State.settleLine_leavesSlips (l : Nat) (enabled : Bool) (s : State) :
    State.LeavesSlips s (s.settleLine l enabled) := by
  unfold State.settleLine
  (repeat' split) <;> simp [State.LeavesSlips]

@[simp] theorem State.renewNode_leavesSlips (n : NodeId) (r : Node) (kind : NodeKind) (s : State) :
    State.LeavesSlips s (s.renewNode n r kind) := by
  simp [State.LeavesSlips, State.renewNode]

@[simp] theorem State.removeNode_leavesSlips (n : NodeId) (s : State) : State.LeavesSlips s (s.removeNode n) := by
  simp [State.LeavesSlips, State.removeNode]

/-! ## Decisions -/

@[simp] theorem State.logAccess_leavesSlips (r : Read) (ruling : Ruling) (s : State) :
    State.LeavesSlips s (s.logAccess r ruling) := by
  simp [State.LeavesSlips, State.logAccess]

@[simp] theorem State.placeGrant_leavesSlips (a : Asked) (tenant : Option Nat) (ruling : Ruling) (s : State) :
    State.LeavesSlips s (s.placeGrant a tenant ruling) := by
  unfold State.placeGrant
  (repeat' split) <;> simp [State.LeavesSlips]

@[simp] theorem State.decide_leavesSlips (r : Read) (s : State) : State.LeavesSlips s (s.decide r) := by
  simp [State.LeavesSlips, State.decide]

@[simp] theorem State.decideNext_leavesSlips (s : State) : State.LeavesSlips s s.decideNext := by
  unfold State.decideNext
  (repeat' split) <;> simp [State.LeavesSlips]

/-! ## Site modes -/

@[simp] theorem State.tellMode_leavesSlips (order : ModeOrder) (s : State) :
    State.LeavesSlips s (s.tellMode order) := by
  unfold State.tellMode
  (repeat' split) <;> simp [State.LeavesSlips]

@[simp] theorem State.changeMode_leavesSlips (mode : SiteMode) (source : Option EvacuationSource) (trigger : Trigger)
    (order : ModeOrder) (s : State) : State.LeavesSlips s (s.changeMode mode source trigger order) := by
  simp [State.LeavesSlips, State.changeMode]

@[simp] theorem State.fireBecomesActive_leavesSlips (order : ModeOrder) (s : State) :
    State.LeavesSlips s (s.fireBecomesActive order) := by
  unfold State.fireBecomesActive
  dsimp only
  (repeat' split) <;> simp [State.LeavesSlips]

@[simp] theorem State.fireBecomesClear_leavesSlips (s : State) : State.LeavesSlips s s.fireBecomesClear := by
  simp [State.LeavesSlips, State.fireBecomesClear]

@[simp] theorem State.fireInput_leavesSlips (closed : Bool) (s : State) :
    State.LeavesSlips s (s.fireInput closed) := by
  unfold State.fireInput
  dsimp only
  (repeat' split) <;> simp [State.LeavesSlips]

@[simp] theorem State.setPolarity_leavesSlips (p : FirePolarity) (s : State) :
    State.LeavesSlips s (s.setPolarity p) := by
  unfold State.setPolarity
  dsimp only
  (repeat' split) <;> simp [State.LeavesSlips]

/-! ## The directory -/

@[simp] theorem State.putTenant_leavesSlips (f : TenantFields) (s : State) : State.LeavesSlips s (s.putTenant f) := by
  unfold State.putTenant
  (repeat' split) <;> simp [State.LeavesSlips]

@[simp] theorem State.addGrantee_leavesSlips (u : Nat) (s : State) : State.LeavesSlips s (s.addGrantee u) := by
  simp [State.LeavesSlips, State.addGrantee]

@[simp] theorem State.dropGrantee_leavesSlips (u : Nat) (s : State) : State.LeavesSlips s (s.dropGrantee u) := by
  simp [State.LeavesSlips, State.dropGrantee]

@[simp] theorem State.moveHolds_leavesSlips (index : Nat) (left joined : List Nat) (s : State) :
    State.LeavesSlips s (s.moveHolds index left joined) := by
  unfold State.moveHolds
  dsimp only
  (repeat' split) <;> simp [State.LeavesSlips]

@[simp] theorem State.setGrants_leavesSlips (index : Nat) (new : List Nat) (s : State) :
    State.LeavesSlips s (s.setGrants index new) := by
  simp [State.LeavesSlips, State.setGrants]

@[simp] theorem State.putCredential_leavesSlips (f : CredFields) (s : State) :
    State.LeavesSlips s (s.putCredential f) := by
  unfold State.putCredential
  dsimp only
  (repeat' split) <;> simp [State.LeavesSlips]

@[simp] theorem State.forgetKey_leavesSlips (k : Key) (s : State) : State.LeavesSlips s (s.forgetKey k) := by
  simp [State.LeavesSlips, State.forgetKey]

@[simp] theorem State.dropCredential_leavesSlips (c : Credential) (s : State) :
    State.LeavesSlips s (s.dropCredential c) := by
  simp [State.LeavesSlips, State.dropCredential]

@[simp] theorem State.dropCredentials_leavesSlips (index : Nat) (s : State) :
    State.LeavesSlips s (s.dropCredentials index) := by
  simp [State.LeavesSlips, State.dropCredentials]

@[simp] theorem State.dropTenant_leavesSlips (index : Nat) (s : State) :
    State.LeavesSlips s (s.dropTenant index) := by
  simp [State.LeavesSlips, State.dropTenant]

@[simp] theorem State.moveUnit_leavesSlips (number zone : Nat) (s : State) :
    State.LeavesSlips s (s.moveUnit number zone) := by
  simp [State.LeavesSlips, State.moveUnit]

@[simp] theorem State.putUnit_leavesSlips (number zone : Nat) (c : Option Contact) (s : State) :
    State.LeavesSlips s (s.putUnit number zone c) := by
  unfold State.putUnit
  dsimp only
  (repeat' split) <;> simp [State.LeavesSlips]

/-! ## The clock, the settings and the run state -/

@[simp] theorem State.minute_leavesSlips (order : MinuteOrder) (s : State) :
    State.LeavesSlips s (s.minute order) := by
  unfold State.minute
  dsimp only
  (repeat' split) <;> simp [State.LeavesSlips]

@[simp] theorem State.setClock_leavesSlips (minute second weekOffset : Nat) (s : State) :
    State.LeavesSlips s (s.setClock minute second weekOffset) := by
  unfold State.setClock
  dsimp only
  (repeat' split) <;> simp [State.LeavesSlips]

@[simp] theorem State.putSettings_leavesSlips (v : Service) (s : State) : State.LeavesSlips s (s.putSettings v) := by
  simp [State.LeavesSlips, State.putSettings]

@[simp] theorem State.flushReads_leavesSlips (s : State) : State.LeavesSlips s s.flushReads := by
  simp [State.LeavesSlips, State.flushReads]

@[simp] theorem State.startRun_leavesSlips (s : State) : State.LeavesSlips s s.startRun := by
  unfold State.startRun
  (repeat' split) <;> simp [State.LeavesSlips]

@[simp] theorem State.haltRun_leavesSlips (s : State) : State.LeavesSlips s s.haltRun := by
  unfold State.haltRun
  (repeat' split) <;> simp [State.LeavesSlips]

end Sys2Proof.Machine
end

section
/-! R185, R186: the law of the post queue, and what the owners of the slips do to it. -/

namespace Sys2Proof.Machine

/-! ## What keeps the law -/

/-- R185: with no slip queued and none in service the law holds. -/
theorem State.postQueueLaw_of_empty {s : State} (h : s.slips = { queue := [], serving := none }) :
    s.PostQueueLaw := by
  simp [State.PostQueueLaw, h]

/-- R185: a queued slip. -/
theorem State.PostQueueLaw.posted {s : State} (law : s.PostQueueLaw) {n : Nat} (hn : n ∈ s.slips.queue) :
    n < 64 ∧ s.wordAt (0x400 + 128 * n) = 1 :=
  law.2.1 n hn

/-- R85, R188: a VISIT_LIST that copies. -/
theorem State.PostQueueLaw.copies {s : State} (law : s.PostQueueLaw) {v : Service} {n : Nat}
    (serving : s.slips.serving = some v) (listing : v.stage = .listing n) : 0xA400 ≤ v.start :=
  (law.2.2 v serving).2.2 n listing

/-- R184, R185: slip `n` is queued and reads POSTED, or reads TAKEN. -/
abbrev State.Engaged (n : Nat) (s : State) : Prop :=
  n ∈ s.slips.queue ∧ s.wordAt (0x400 + 128 * n) = 1 ∨ s.wordAt (0x400 + 128 * n) = 2

/-- R185: the law rests on the slip unit and on the state words of the slips that are engaged. -/
theorem State.postQueueLaw_of_words {s t : State} (slips : t.slips = s.slips)
    (words : ∀ n < 64, s.Engaged n → t.wordAt (0x400 + 128 * n) = s.wordAt (0x400 + 128 * n)) (law : s.PostQueueLaw) : t.PostQueueLaw := by
  obtain ⟨nodup, posted, taken⟩ := law
  refine ⟨slips ▸ nodup, fun n hn => ?_, fun v hv => ?_⟩
  · rw [slips] at hn
    obtain ⟨lt, one⟩ := posted n hn
    exact ⟨lt, (words n lt (.inl ⟨hn, one⟩)).trans one⟩
  · rw [slips] at hv
    obtain ⟨lt, two, start⟩ := taken v hv
    exact ⟨lt, (words v.slip lt (.inr two)).trans two, start⟩

theorem State.LeavesSlips.postQueueLaw {s t : State} (h : s.LeavesSlips t) : s.PostQueueLaw → t.PostQueueLaw :=
  State.postQueueLaw_of_words h.1 fun _ hn _ => State.slipWord_of_rack h.2 hn

/-- R186: the law is kept where the slip in service takes another stage, a copying VISIT_LIST with its extent in the bulk
area. -/
theorem State.postQueueLaw_finishService {s : State} {stage : Stage} (law : s.PostQueueLaw)
    (start : ∀ v n, s.slips.serving = some v → stage = .listing n → 0xA400 ≤ v.start) :
    (s.finishService stage).PostQueueLaw := by
  obtain ⟨nodup, posted, taken⟩ := law
  refine ⟨nodup, posted, fun w hw => ?_⟩
  obtain ⟨v, hv, rfl⟩ := Option.map_eq_some_iff.1 hw
  obtain ⟨lt, two, -⟩ := taken v hv
  exact ⟨lt, two, fun n hn => start v n hv hn⟩

/-- R185: from `s` to `t` the queue is the same and the law is kept. -/
abbrev State.KeepsQueue (s t : State) : Prop :=
  t.slips.queue = s.slips.queue ∧ (s.PostQueueLaw → t.PostQueueLaw)

theorem State.LeavesSlips.keepsQueue {s t : State} (h : s.LeavesSlips t) : s.KeepsQueue t :=
  ⟨congrArg SlipUnit.queue h.1, h.postQueueLaw⟩

theorem State.LeavesSlips.finishService_keepsQueue {s t : State} {stage : Stage} (h : s.LeavesSlips t)
    (start : ∀ v n, s.slips.serving = some v → stage = .listing n → 0xA400 ≤ v.start) :
    s.KeepsQueue (t.finishService stage) :=
  ⟨h.keepsQueue.1, fun law => State.postQueueLaw_finishService (h.postQueueLaw law) (h.1 ▸ start)⟩

/-! ## The owners -/

/-- R186: what the owner of a slip gives: a state whose slips are those of `s`, and a stage that lets a VISIT_LIST copy to the
bulk area alone. -/
abbrev State.Owned (v : Service) (s : State) (given : State × Stage) : Prop :=
  s.LeavesSlips given.1 ∧ ∀ n, given.2 = .listing n → 0xA400 ≤ v.start

theorem State.LeavesSlips.owned {v : Service} {s t : State} {a : Answer} (h : s.LeavesSlips t) :
    s.Owned v (t, .served a) :=
  ⟨h, nofun⟩

theorem checked_owned {v : Service} {s : State} {problem : Option Answer} {work : State × Answer}
    (h : problem = none → s.LeavesSlips work.1) : s.Owned v (checked problem work s) := by
  cases problem with
  | none => exact (h rfl).owned
  | some a => exact State.LeavesSlips.owned ⟨rfl, rfl⟩

/-- R186: serving a slip keeps the queue and its law. -/
theorem State.serve_keepsQueue {kind : SlipKind} {owner : Service → State → State × Stage}
    (h : ∀ v s, State.Owned v s (owner v s)) (s : State) : s.KeepsQueue (s.serve kind owner) := by
  obtain same | ⟨v, serves, served⟩ := State.serve_cases kind owner s
  · rw [same]
    exact ⟨rfl, id⟩
  · rw [served]
    refine (h v s).1.finishService_keepsQueue fun w n hw hn => ?_
    obtain rfl : v = w := Option.some.inj (serves.1.symm.trans hw)
    exact (h v s).2 n hn

/-- R188: an extent that passes its checks begins in the bulk area. -/
theorem Service.start_of_extentProblem {v : Service} (h : v.extentProblem = none) : 0xA400 ≤ v.start := by
  by_contra low
  have outside : v.start < Config.bulkBase ∨ v.start + v.length > Config.memoryEnd := .inl (Nat.lt_of_not_le low)
  unfold Service.extentProblem at h
  rw [if_pos outside] at h
  split at h <;> cases h

/-- R177: what is written to the bulk area leaves the slips alone. -/
theorem State.poke_bulk_leavesSlips {a : Nat} (h : 0xA400 ≤ a) (bs : List Byte) (s : State) :
    s.LeavesSlips (s.poke a bs) :=
  ⟨by simp, State.rack_poke (.inr (by omega)) s⟩

theorem unitClear_owned (v : Service) (s : State) : s.Owned v (unitClear v s) := by
  unfold unitClear
  dsimp only
  (repeat' split) <;> exact State.LeavesSlips.owned (by simp [State.LeavesSlips])

theorem visitExtend_owned (v : Service) (s : State) : s.Owned v (visitExtend v s) := by
  unfold visitExtend
  dsimp only
  (repeat' split) <;> exact State.LeavesSlips.owned (by simp [State.LeavesSlips])

theorem zoneRead_owned (v : Service) (s : State) : s.Owned v (zoneRead v s) :=
  checked_owned fun h => State.poke_bulk_leavesSlips
    (Service.start_of_extentProblem (firstProblem_none.1 h _ (by simp))) _ s

theorem visitList_owned (v : Service) (s : State) : s.Owned v (visitList v s) := by
  unfold visitList
  dsimp only
  split
  · exact State.LeavesSlips.owned ⟨rfl, rfl⟩
  · next h =>
    split
    · exact State.LeavesSlips.owned ⟨rfl, rfl⟩
    · exact ⟨⟨rfl, rfl⟩, fun _ _ => Service.start_of_extentProblem (firstProblem_none.1 h _ (by simp))⟩

theorem tenantRead_owned (v : Service) (s : State) : s.Owned v (tenantRead v s) := by
  unfold tenantRead
  dsimp only
  split
  · exact State.LeavesSlips.owned ⟨rfl, rfl⟩
  · exact State.LeavesSlips.owned ⟨rfl, rfl⟩
  · next h _ =>
    split
    · exact State.LeavesSlips.owned ⟨rfl, rfl⟩
    · exact State.LeavesSlips.owned (State.poke_bulk_leavesSlips
        (Service.start_of_extentProblem (firstProblem_none.1 h _ (by simp))) _ s)

theorem loadList_owned (v : Service) (s : State) : s.Owned v (loadList v s) := by
  unfold loadList
  dsimp only
  (repeat' split) <;> exact ⟨⟨rfl, rfl⟩, nofun⟩

theorem withPortal_owned {v : Service} {s : State} {work : Nat → Portal → State × Answer}
    (h : ∀ p r, s.LeavesSlips (work p r).1) : s.Owned v (withPortal v s work) := by
  unfold withPortal
  dsimp only
  (repeat' split) <;> exact State.LeavesSlips.owned (by simp [State.LeavesSlips, h])

theorem portalPut_owned (v : Service) (s : State) : s.Owned v (portalPut v s) := by
  unfold portalPut
  dsimp only
  (repeat' split) <;> exact State.LeavesSlips.owned (by simp [State.LeavesSlips])

theorem portalDrop_owned (v : Service) (s : State) : s.Owned v (portalDrop v s) :=
  withPortal_owned fun p r => by
    (repeat' split) <;> simp [State.LeavesSlips]

theorem portalPulse_owned (v : Service) (s : State) : s.Owned v (portalPulse v s) :=
  withPortal_owned fun p r => by
    split <;> simp [State.LeavesSlips]

theorem portalHold_owned (v : Service) (s : State) : s.Owned v (portalHold v s) :=
  withPortal_owned fun p _ => State.setHostHold_leavesSlips p true s

theorem portalSecure_owned (v : Service) (s : State) : s.Owned v (portalSecure v s) :=
  withPortal_owned fun p _ => State.setHostHold_leavesSlips p false s

theorem portalReset_owned (v : Service) (s : State) : s.Owned v (portalReset v s) :=
  withPortal_owned fun p r => by
    split <;> simp [State.LeavesSlips]

theorem carPut_owned (v : Service) (s : State) : s.Owned v (carPut v s) := by
  unfold carPut
  dsimp only
  (repeat' split) <;> exact State.LeavesSlips.owned (by simp [State.LeavesSlips])

theorem carDrop_owned (v : Service) (s : State) : s.Owned v (carDrop v s) := by
  unfold carDrop
  dsimp only
  (repeat' split) <;> exact State.LeavesSlips.owned (by simp [State.LeavesSlips])

theorem linePut_owned (v : Service) (s : State) : s.Owned v (linePut v s) :=
  checked_owned fun _ => by simp [State.LeavesSlips]

theorem nodePut_owned (v : Service) (s : State) : s.Owned v (nodePut v s) := by
  unfold nodePut
  dsimp only
  (repeat' split) <;> exact State.LeavesSlips.owned (by simp [State.LeavesSlips])

theorem nodeDrop_owned (v : Service) (s : State) : s.Owned v (nodeDrop v s) := by
  unfold nodeDrop
  dsimp only
  (repeat' split) <;> exact State.LeavesSlips.owned (by simp [State.LeavesSlips])

theorem lockdown_owned (order : ModeOrder) (v : Service) (s : State) : s.Owned v (lockdown order v s) := by
  unfold lockdown
  dsimp only
  split <;> exact State.LeavesSlips.owned (by simp [State.LeavesSlips])

theorem evacuate_owned (order : ModeOrder) (v : Service) (s : State) : s.Owned v (evacuate order v s) := by
  unfold evacuate
  dsimp only
  split <;> exact State.LeavesSlips.owned (by simp [State.LeavesSlips])

theorem resume_owned (order : ModeOrder) (v : Service) (s : State) : s.Owned v (resume order v s) := by
  unfold resume
  dsimp only
  (repeat' split) <;> exact State.LeavesSlips.owned (by simp [State.LeavesSlips])

theorem tenantPut_owned (v : Service) (s : State) : s.Owned v (tenantPut v s) :=
  checked_owned fun _ => State.putTenant_leavesSlips _ s

theorem standingSet_owned (v : Service) (s : State) : s.Owned v (standingSet v s) :=
  checked_owned fun _ => by simp [State.LeavesSlips]

theorem grantSet_owned (v : Service) (s : State) : s.Owned v (grantSet v s) :=
  checked_owned fun _ => State.setGrants_leavesSlips _ _ s

theorem credPut_owned (v : Service) (s : State) : s.Owned v (credPut v s) :=
  checked_owned fun _ => State.putCredential_leavesSlips _ s

theorem credDrop_owned (v : Service) (s : State) : s.Owned v (credDrop v s) := by
  unfold credDrop
  dsimp only
  (repeat' split) <;> exact State.LeavesSlips.owned (by simp [State.LeavesSlips])

theorem tenantDrop_owned (v : Service) (s : State) : s.Owned v (tenantDrop v s) := by
  unfold tenantDrop
  dsimp only
  (repeat' split) <;> exact State.LeavesSlips.owned (by simp [State.LeavesSlips])

theorem unitPut_owned (v : Service) (s : State) : s.Owned v (unitPut v s) :=
  checked_owned fun _ => State.putUnit_leavesSlips _ _ _ s

theorem unitDrop_owned (v : Service) (s : State) : s.Owned v (unitDrop v s) := by
  unfold unitDrop
  dsimp only
  (repeat' split) <;> exact State.LeavesSlips.owned ⟨rfl, rfl⟩

theorem zonePut_owned (v : Service) (s : State) : s.Owned v (zonePut v s) :=
  checked_owned fun _ => by
    dsimp only
    split <;> simp [State.LeavesSlips]

theorem visitEnd_owned (v : Service) (s : State) : s.Owned v (visitEnd v s) := by
  unfold visitEnd
  dsimp only
  (repeat' split) <;> exact State.LeavesSlips.owned (by simp [State.LeavesSlips])

theorem clockSet_owned (v : Service) (s : State) : s.Owned v (clockSet v s) :=
  checked_owned fun _ => State.setClock_leavesSlips _ _ _ s

theorem profilePut_owned (v : Service) (s : State) : s.Owned v (profilePut v s) := by
  unfold profilePut
  dsimp only
  exact checked_owned fun _ => ⟨rfl, rfl⟩

theorem holidaySet_owned (v : Service) (s : State) : s.Owned v (holidaySet v s) := by
  unfold holidaySet
  dsimp only
  exact checked_owned fun _ => ⟨rfl, rfl⟩

theorem sitePut_owned (v : Service) (s : State) : s.Owned v (sitePut v s) :=
  checked_owned fun _ => State.putSettings_leavesSlips v s

theorem journalMark_owned (v : Service) (s : State) : s.Owned v (journalMark v s) :=
  State.LeavesSlips.owned (State.log_leavesSlips _ _ _ _ s)

/-! ## The slip unit -/

/-- R23: a tenant record. -/
theorem applyTenantRecord_leavesSlips (image : List Byte) (s : State) :
    s.LeavesSlips (applyTenantRecord image s).1 := by
  unfold applyTenantRecord
  dsimp only
  split <;> simp [State.LeavesSlips]

/-- R24: a credential record. -/
theorem applyCredRecord_leavesSlips (image : List Byte) (s : State) : s.LeavesSlips (applyCredRecord image s).1 := by
  unfold applyCredRecord
  dsimp only
  split <;> simp [State.LeavesSlips]

theorem Service.applyRecord_leavesSlips (v : Service) (position : Nat) (s : State) :
    s.LeavesSlips (v.applyRecord position s).1 := by
  unfold Service.applyRecord
  dsimp only
  split
  · exact applyTenantRecord_leavesSlips _ s
  · exact applyCredRecord_leavesSlips _ s

/-- R23, R24: a load is no walk of the visit list. -/
theorem loadStage_ne_listing (count next applied refused : Nat) (first : Option (Nat × ResultCode)) (n : Nat) :
    loadStage count next applied refused first ≠ .listing n := by
  unfold loadStage
  split <;> nofun

theorem State.applyNextRecord_keepsQueue (s : State) : s.KeepsQueue s.applyNextRecord := by
  unfold State.applyNextRecord
  dsimp only
  split
  · exact ⟨rfl, id⟩
  · split
    · refine (Service.applyRecord_leavesSlips _ _ s).finishService_keepsQueue fun _ n _ h => ?_
      split at h <;> exact absurd h (loadStage_ne_listing _ _ _ _ _ n)
    all_goals exact ⟨rfl, id⟩

theorem State.refuseKind_keepsQueue (s : State) : s.KeepsQueue s.refuseKind := by
  unfold State.refuseKind
  (repeat' split)
  · exact ⟨rfl, id⟩
  · exact State.LeavesSlips.finishService_keepsQueue ⟨rfl, rfl⟩ nofun
  · exact ⟨rfl, id⟩

end Sys2Proof.Machine
end

section
/-! R180, R185, R186: the slip unit's own operations, every command, and O4. -/

namespace Sys2Proof.Machine

/-! ## The copies of a VISIT_LIST -/

theorem State.copyVisitImage_queue (s : State) : s.copyVisitImage.slips.queue = s.slips.queue := by
  unfold State.copyVisitImage State.endWalk State.finishService
  dsimp only
  (repeat' split) <;> simp

theorem State.LeavesSlips.withRegister {s t : State} (h : s.LeavesSlips t) (r : Register) :
    s.LeavesSlips { t with register := r } := h

/-- R85: a VISIT_LIST that copies under the law writes to the bulk area alone. -/
theorem State.copyVisitImage_postQueueLaw {s : State} (law : s.PostQueueLaw) : s.copyVisitImage.PostQueueLaw := by
  unfold State.copyVisitImage State.endWalk
  split
  next v place hv _ =>
    split
    next written stage =>
      have start : 0xA400 ≤ v.start := law.copies hv stage
      have finish {t : State} (h : s.LeavesSlips t) (stage : Stage) : (t.finishService stage).PostQueueLaw :=
        (h.finishService_keepsQueue fun w _ hw _ => Option.some.inj (hv.symm.trans hw) ▸ start).2 law
      split
      · exact finish ⟨rfl, rfl⟩ _
      next visit _ =>
        have copied := State.poke_bulk_leavesSlips (a := v.start + 32 * written) (by omega) visit.image s
        dsimp only
        split
        · exact finish (copied.withRegister _) _
        · exact finish (copied.withRegister _) _
    · exact law
  · exact law

/-! ## Host writes -/

/-- R180: the check of a write to a slip's state word. -/
theorem State.writeRefusal_slipWord {n : Nat} (hn : n < 64) (value : Nat) (s : State) :
    s.writeRefusal (0x400 + 128 * n) value = s.slipStateRefusal n value := by
  have inRack : 0x400 + 128 * n < Config.pagesBase := by simp [Config.pagesBase]; omega
  simp [State.writeRefusal, slipAddress, Config.rackBase, inRack]

/-- R180: no host write to the state word of an engaged slip is accepted. -/
theorem State.slipStateRefusal_ne_none {s : State} {n : Nat} (h : s.Engaged n) (value : Nat) :
    s.slipStateRefusal n value ≠ none := by
  have now : s.slipState n = s.wordAt (0x400 + 128 * n) := rfl
  obtain ⟨queued, posted⟩ | taken := h
  · by_cases hv : value = 0 <;>
      simp [State.slipStateRefusal, now, posted, slipFree, slipPosted, slipAnswered, queued, hv]
  · simp [State.slipStateRefusal, now, taken, slipFree, slipPosted, slipAnswered]

/-- R180: a host write leaves the state word of an engaged slip alone. -/
theorem State.slipWord_hostWrite {s : State} {n : Nat} (hn : n < 64) (h : s.Engaged n) (word value : Nat) :
    (s.hostWrite (2 * word) value).wordAt (0x400 + 128 * n) = s.wordAt (0x400 + 128 * n) := by
  unfold State.hostWrite
  split
  · rfl
  · next accepted =>
    refine State.wordAt_poke_outside ?_ s
    by_cases same : 2 * word = 0x400 + 128 * n
    · rw [same, State.writeRefusal_slipWord hn] at accepted
      exact absurd accepted (State.slipStateRefusal_ne_none h value)
    · rw [length_bytesOf]
      omega

theorem State.hostWrite_slips (a value : Nat) (s : State) : (s.hostWrite a value).slips = s.slips := by
  unfold State.hostWrite
  split <;> simp

theorem State.hostWrite_keepsQueue (word value : Nat) (s : State) : s.KeepsQueue (s.hostWrite (2 * word) value) :=
  ⟨congrArg SlipUnit.queue (State.hostWrite_slips _ _ s),
    State.postQueueLaw_of_words (State.hostWrite_slips _ _ s) fun _ hn h => State.slipWord_hostWrite hn h word value⟩

/-! ## Take and answer -/

/-- R205: an answer is written within its slip. -/
theorem State.slipWord_writeAnswer {m n : Nat} (h : m ≠ n) (tag : Nat) (a : Answer) (s : State) :
    (s.writeAnswer n tag a).wordAt (0x400 + 128 * m) = s.wordAt (0x400 + 128 * m) := by
  have words : (s.writeAnswer n tag a).wordAt (0x400 + 128 * m) =
      (((s.poke (slipAddress n + 6) (bytesOf 2 a.result.code ++ bytesOf 2 a.flags ++ bytesOf 2 tag)).poke
        (slipAddress n + 16) (padTo 16 0 a.detail)).poke (slipAddress n) (bytesOf 2 slipAnswered)).wordAt
        (0x400 + 128 * m) := by
    unfold State.writeAnswer answerAccesses
    rw [State.pass_append, State.pass_append]
    rfl
  have place : slipAddress n = 0x400 + 128 * n := rfl
  rw [words, State.wordAt_poke_outside, State.wordAt_poke_outside, State.wordAt_poke_outside] <;>
    simp only [place, List.length_append, length_bytesOf, length_padTo] <;> omega

@[simp] theorem State.writeAnswer_slips (n tag : Nat) (a : Answer) (s : State) :
    (s.writeAnswer n tag a).slips = s.slips := by
  simp [State.writeAnswer]

/-- R186: the answer to the slip in service. -/
theorem State.answerSlip_keepsQueue (s : State) : s.KeepsQueue s.answerSlip := by
  unfold State.answerSlip
  split
  · exact ⟨rfl, id⟩
  next v hv =>
    split
    · refine ⟨by simp, fun ⟨nodup, posted, taken⟩ => ⟨by simpa, fun n hn => ?_, by simp⟩⟩
      obtain ⟨lt, one⟩ := posted n (by simpa using hn)
      have other : n ≠ v.slip := by
        rintro rfl
        exact absurd (one.symm.trans (taken v hv).2.1) (by decide)
      exact ⟨lt, (State.slipWord_writeAnswer other _ _ _).trans one⟩
    all_goals exact ⟨rfl, id⟩

/-- R186: everything a take can do. -/
theorem State.takeSlip_cases (s : State) :
    s.takeSlip = s ∨ ∃ n rest, s.slips = { queue := n :: rest, serving := none } ∧
      s.takeSlip = State.setSlipState n slipTaken
        { s with slips := { queue := rest, serving := some (s.beginService n) } } := by
  unfold State.takeSlip
  split
  next n rest serving queue =>
    exact .inr ⟨n, rest, by rw [← serving, ← queue], rfl⟩
  · exact .inl rfl

theorem State.slipWord_setSlipState_self (n st : Nat) (s : State) :
    (s.setSlipState n st).wordAt (0x400 + 128 * n) = st % 65536 :=
  State.wordAt_pokeWord_self _ _ s

theorem State.slipWord_setSlipState_ne {m n : Nat} (h : m ≠ n) (st : Nat) (s : State) :
    (s.setSlipState n st).wordAt (0x400 + 128 * m) = s.wordAt (0x400 + 128 * m) := by
  refine State.wordAt_poke_outside ?_ s
  simp only [slipAddress, Config.rackBase, length_bytesOf]
  omega

/-- R186: a service begins on the slip taken, not yet served. -/
theorem State.beginService_slip (n : Nat) (s : State) : (s.beginService n).slip = n := by
  unfold State.beginService
  dsimp only
  split <;> rfl

theorem State.beginService_stage (n : Nat) (s : State) : (s.beginService n).stage = .taken := by
  unfold State.beginService
  dsimp only
  split <;> rfl

theorem State.takeSlip_postQueueLaw {s : State} (law : s.PostQueueLaw) : s.takeSlip.PostQueueLaw := by
  obtain same | ⟨n, rest, before, after⟩ := s.takeSlip_cases
  · rwa [same]
  obtain ⟨nodup, posted, -⟩ := law
  rw [before] at nodup posted
  obtain ⟨notQueued, nodup⟩ := List.nodup_cons.1 nodup
  rw [after]
  refine ⟨by simpa, fun m hm => ?_, fun v hv => ?_⟩
  · have hm : m ∈ rest := by simpa using hm
    obtain ⟨lt, one⟩ := posted m (List.mem_cons_of_mem _ hm)
    exact ⟨lt, (State.slipWord_setSlipState_ne (fun e : m = n => notQueued (e ▸ hm)) _ _).trans one⟩
  · obtain rfl : s.beginService n = v := by simpa using hv
    rw [State.beginService_slip, State.beginService_stage]
    exact ⟨(posted n (List.mem_cons_self ..)).1, State.slipWord_setSlipState_self n slipTaken _, nofun⟩

/-! ## POST -/

/-- R185: everything a POST can do, in the order of its checks. -/
theorem State.postSlip_eq (n : Nat) (s : State) : s.postSlip n =
    if 63 < n then s.refuse .postBadNumber
    else if s.wordAt (0x400 + 128 * n) ≠ 1 then s.refuse .postNotPosted
    else if n ∈ s.slips.queue then s.refuse .postQueued
    else { s with slips := { s.slips with queue := s.slips.queue ++ [n] } } := by
  have bound : Config.slips ≤ n ↔ 63 < n := Iff.rfl
  have now : s.slipState n = s.wordAt (0x400 + 128 * n) := rfl
  unfold State.postSlip State.postRefusal
  simp only [bound, now, slipPosted, List.contains_iff_mem]
  (repeat' split) <;> simp_all

theorem State.postSlip_postQueueLaw {s : State} (law : s.PostQueueLaw) (n : Nat) : (s.postSlip n).PostQueueLaw := by
  rw [State.postSlip_eq]
  split
  · exact law
  · next lt =>
    split
    · exact law
    · next posted =>
      split
      · exact law
      · next new =>
        obtain ⟨nodup, reads, taken⟩ := law
        refine ⟨?_, fun m hm => ?_, taken⟩
        · exact List.nodup_append_comm.1 (List.nodup_cons.2 ⟨new, nodup⟩ : ([n] ++ s.slips.queue).Nodup)
        · obtain hm | rfl : m ∈ s.slips.queue ∨ m = n := by simpa using hm
          · exact reads m hm
          · exact ⟨by omega, not_not.1 posted⟩

/-! ## RESET and POWER_ON -/

theorem State.softReset_slips (s : State) : s.softReset.slips = { queue := [], serving := none } := by
  have blocks (t : State) : t.resetBlocks.slips = t.slips := by rw [State.resetBlocks_only]
  have run (t : State) : t.resetRun.slips = t.slips := by
    unfold State.resetRun
    split <;> simp
  have queue (t : State) : t.abortQueue.slips = { t.slips with queue := [] } :=
    State.forEach_keeps State.slips State.abortQueued (fun _ _ => State.writeAnswer_slips _ _ _ _) _ _
  have serving (t : State) : t.abortServing.slips = { t.slips with serving := none } := by
    unfold State.abortServing
    split
    next h => rw [← h]
    · simp
  simp [State.softReset, blocks, run, queue, serving]

theorem State.powerUp_slips (s : State) : s.powerUp.slips = { queue := [], serving := none } := by
  unfold State.powerUp
  simp [State.powerUpValues, State.reset]

/-! ## Every command -/

/-- R185: every command but POWER_ON, RESET, POST and a take keeps the queue and its law. -/
theorem exec_keepsQueue (c : Instr) (s : State) (power : c ≠ .powerOn) (reset : c ≠ .reset) (take : c ≠ .slipTake)
    (post : ∀ value, c ≠ .post value) : ∃ t, exec c s = .next t ∧ s.KeepsQueue t := by
  cases c with
  | powerOn => exact absurd rfl power
  | reset => exact absurd rfl reset
  | slipTake => exact absurd rfl take
  | post value => exact absurd rfl (post value)
  | hostMemoryWrite word value => exact ⟨_, rfl, State.hostWrite_keepsQueue _ _ s⟩
  | slipAnswer => exact ⟨_, rfl, State.answerSlip_keepsQueue s⟩
  | badKind => exact ⟨_, rfl, State.refuseKind_keepsQueue s⟩
  | loadRecordApply => exact ⟨_, rfl, State.applyNextRecord_keepsQueue s⟩
  | visitImageCopy => exact ⟨_, rfl, State.copyVisitImage_queue s, State.copyVisitImage_postQueueLaw⟩
  | tenantPut => exact ⟨_, rfl, State.serve_keepsQueue tenantPut_owned s⟩
  | tenantDrop => exact ⟨_, rfl, State.serve_keepsQueue tenantDrop_owned s⟩
  | credPut => exact ⟨_, rfl, State.serve_keepsQueue credPut_owned s⟩
  | credDrop => exact ⟨_, rfl, State.serve_keepsQueue credDrop_owned s⟩
  | grantSet => exact ⟨_, rfl, State.serve_keepsQueue grantSet_owned s⟩
  | standingSet => exact ⟨_, rfl, State.serve_keepsQueue standingSet_owned s⟩
  | unitPut => exact ⟨_, rfl, State.serve_keepsQueue unitPut_owned s⟩
  | unitDrop => exact ⟨_, rfl, State.serve_keepsQueue unitDrop_owned s⟩
  | tenantRead => exact ⟨_, rfl, State.serve_keepsQueue tenantRead_owned s⟩
  | loadTenants => exact ⟨_, rfl, State.serve_keepsQueue loadList_owned s⟩
  | loadCredentials => exact ⟨_, rfl, State.serve_keepsQueue loadList_owned s⟩
  | clockSet => exact ⟨_, rfl, State.serve_keepsQueue clockSet_owned s⟩
  | profilePut => exact ⟨_, rfl, State.serve_keepsQueue profilePut_owned s⟩
  | holidaySet => exact ⟨_, rfl, State.serve_keepsQueue holidaySet_owned s⟩
  | zonePut => exact ⟨_, rfl, State.serve_keepsQueue zonePut_owned s⟩
  | zoneRead => exact ⟨_, rfl, State.serve_keepsQueue zoneRead_owned s⟩
  | visitExtend => exact ⟨_, rfl, State.serve_keepsQueue visitExtend_owned s⟩
  | visitEnd => exact ⟨_, rfl, State.serve_keepsQueue visitEnd_owned s⟩
  | visitList => exact ⟨_, rfl, State.serve_keepsQueue visitList_owned s⟩
  | unitClear => exact ⟨_, rfl, State.serve_keepsQueue unitClear_owned s⟩
  | portalPut => exact ⟨_, rfl, State.serve_keepsQueue portalPut_owned s⟩
  | portalDrop => exact ⟨_, rfl, State.serve_keepsQueue portalDrop_owned s⟩
  | portalPulse => exact ⟨_, rfl, State.serve_keepsQueue portalPulse_owned s⟩
  | portalHold => exact ⟨_, rfl, State.serve_keepsQueue portalHold_owned s⟩
  | portalSecure => exact ⟨_, rfl, State.serve_keepsQueue portalSecure_owned s⟩
  | portalReset => exact ⟨_, rfl, State.serve_keepsQueue portalReset_owned s⟩
  | carPut => exact ⟨_, rfl, State.serve_keepsQueue carPut_owned s⟩
  | carDrop => exact ⟨_, rfl, State.serve_keepsQueue carDrop_owned s⟩
  | linePut => exact ⟨_, rfl, State.serve_keepsQueue linePut_owned s⟩
  | nodePut => exact ⟨_, rfl, State.serve_keepsQueue nodePut_owned s⟩
  | nodeDrop => exact ⟨_, rfl, State.serve_keepsQueue nodeDrop_owned s⟩
  | sitePut => exact ⟨_, rfl, State.serve_keepsQueue sitePut_owned s⟩
  | journalMark => exact ⟨_, rfl, State.serve_keepsQueue journalMark_owned s⟩
  | lockdown order => exact ⟨_, rfl, State.serve_keepsQueue (lockdown_owned order) s⟩
  | evacuate order => exact ⟨_, rfl, State.serve_keepsQueue (evacuate_owned order) s⟩
  | resume order => exact ⟨_, rfl, State.serve_keepsQueue (resume_owned order) s⟩
  | run => exact ⟨_, rfl, (State.startRun_leavesSlips s).keepsQueue⟩
  | halt => exact ⟨_, rfl, (State.haltRun_leavesSlips s).keepsQueue⟩
  | controlBad value => exact ⟨_, rfl, State.LeavesSlips.keepsQueue (by split <;> simp [State.LeavesSlips])⟩
  | clear bits => exact ⟨_, rfl, State.LeavesSlips.keepsQueue ⟨rfl, rfl⟩⟩
  | mask bits => exact ⟨_, rfl, State.LeavesSlips.keepsQueue ⟨rfl, rfl⟩⟩
  | registerReadOnly register value => exact ⟨_, rfl, State.LeavesSlips.keepsQueue ⟨rfl, rfl⟩⟩
  | secondEvent => exact ⟨_, rfl, State.LeavesSlips.keepsQueue ⟨rfl, rfl⟩⟩
  | minuteEvent order => exact ⟨_, rfl, State.LeavesSlips.keepsQueue (by split <;> simp [State.LeavesSlips])⟩
  | passageTimerExpiry p => exact ⟨_, rfl, (State.passageExpiry_leavesSlips p s).keepsQueue⟩
  | holdTimerExpiry p => exact ⟨_, rfl, (State.holdExpiry_leavesSlips p s).keepsQueue⟩
  | cooldownExpiry p => exact ⟨_, rfl, (State.cooldownExpiry_leavesSlips p s).keepsQueue⟩
  | probeIntervalExpiry p => exact ⟨_, rfl, State.LeavesSlips.keepsQueue (by simp [State.LeavesSlips])⟩
  | releaseExpiry car tenant => exact ⟨_, rfl, (State.releaseExpiry_leavesSlips car tenant s).keepsQueue⟩
  | flushTimerExpiry => exact ⟨_, rfl, (State.flushExpiry_leavesSlips s).keepsQueue⟩
  | journalRecovery => exact ⟨_, rfl, (State.reexaminePage_leavesSlips s).keepsQueue⟩
  | fireInputChange closed => exact ⟨_, rfl, (State.fireInput_leavesSlips closed s).keepsQueue⟩
  | fireActive order => exact ⟨_, rfl, State.LeavesSlips.keepsQueue (by split <;> simp [State.LeavesSlips])⟩
  | fireClear => exact ⟨_, rfl, State.LeavesSlips.keepsQueue (by split <;> simp [State.LeavesSlips])⟩
  | decision => exact ⟨_, rfl, (State.decideNext_leavesSlips s).keepsQueue⟩
  | poll l => exact ⟨_, rfl, State.LeavesSlips.keepsQueue (by simp [State.LeavesSlips])⟩
  | idleCycleEnd l => exact ⟨_, rfl, State.LeavesSlips.keepsQueue (by simp [State.LeavesSlips])⟩
  | reply l frame => exact ⟨_, rfl, (State.judgeReply_leavesSlips l frame s).keepsQueue⟩
  | replyWindowExpiry l => exact ⟨_, rfl, (State.exchangeBad_leavesSlips l .silent s).keepsQueue⟩
  | quietWaitEnd l => exact ⟨_, rfl, State.LeavesSlips.keepsQueue (by simp [State.LeavesSlips])⟩
  | lineBreak l => exact ⟨_, rfl, (State.lineBreak_leavesSlips l s).keepsQueue⟩
  | noQuiet l => exact ⟨_, rfl, (State.lineNoQuiet_leavesSlips l s).keepsQueue⟩
  | recoveryCheckExpiry l idle => exact ⟨_, rfl, (State.recoveryCheck_leavesSlips l idle s).keepsQueue⟩
  | collision l => exact ⟨_, rfl, (State.exchangeBad_leavesSlips l .collision s).keepsQueue⟩
  | gapLimitExpiry l => exact ⟨_, rfl, (State.exchangeBad_leavesSlips l .cutShort s).keepsQueue⟩

/-- R185: every command keeps the law of the post queue. -/
theorem exec_postQueueLaw {c : Instr} {s t : State} (h : exec c s = .next t) (law : s.PostQueueLaw) :
    t.PostQueueLaw := by
  by_cases power : c = .powerOn
  · subst power
    obtain rfl : s.powerUp = t := Host.Outcome.next.inj h
    exact State.postQueueLaw_of_empty (State.powerUp_slips s)
  by_cases reset : c = .reset
  · subst reset
    obtain rfl : s.softReset = t := Host.Outcome.next.inj h
    exact State.postQueueLaw_of_empty (State.softReset_slips s)
  by_cases take : c = .slipTake
  · subst take
    obtain rfl : s.takeSlip = t := Host.Outcome.next.inj h
    exact State.takeSlip_postQueueLaw law
  by_cases post : ∃ value, c = .post value
  · obtain ⟨value, rfl⟩ := post
    obtain rfl : s.postSlip value.toNat = t := Host.Outcome.next.inj h
    exact State.postSlip_postQueueLaw law value.toNat
  · obtain ⟨u, hu, keeps⟩ := exec_keepsQueue c s power reset take (not_exists.1 post)
    obtain rfl : u = t := Host.Outcome.next.inj (hu.symm.trans h)
    exact keeps.2 law

/-- R185: every step keeps the law of the post queue. -/
theorem step_postQueueLaw {s t : State} (law : s.PostQueueLaw) (h : step s = .next t) : t.PostQueueLaw := by
  unfold step at h
  split at h
  · obtain rfl : s.idle = t := Host.Outcome.next.inj h
    exact law
  · exact exec_postQueueLaw h law

/-! ## What a POST shows and refuses -/

/-- R180, R181: a refusal of a host access. -/
theorem State.refuse_refused (code : RefusalCode) (s : State) : s.Refused code (s.refuse code) := rfl

/-- R185: at most 64 slips are queued. -/
theorem State.queue_length_le {s : State} (law : s.PostQueueLaw) : s.slips.queue.length ≤ 64 := by
  have within : s.slips.queue ⊆ List.range 64 := fun _ hn => List.mem_range.2 (law.posted hn).1
  simpa using (List.subperm_of_subset law.1 within).length_le

/-- R185: with 64 slips queued, every slip is. -/
theorem State.mem_queue_of_full {s : State} (law : s.PostQueueLaw) (full : s.slips.queue.length = 64) {n : Nat}
    (hn : n < 64) : n ∈ s.slips.queue := by
  have within : s.slips.queue ⊆ List.range 64 := fun _ hn => List.mem_range.2 (law.posted hn).1
  have perm := (List.subperm_of_subset law.1 within).perm_of_length_le (by simp [full])
  exact perm.mem_iff.2 (List.mem_range.2 hn)

/-- R181, R204: STATUS shows the queue's length in its bits 4 to 10. -/
theorem State.depth_eq {s : State} (h : s.slips.queue.length < 128) :
    (s.registerRead 1).toNat / 16 % 128 = s.slips.queue.length := by
  have run : s.bus.run.code ≤ 1 := by cases s.bus.run <;> decide
  have mode : s.mode.mode.code ≤ 2 := by cases s.mode.mode <;> decide
  simp only [State.registerRead, State.statusRegister, BitVec.toNat_ofNat]
  split <;> omega

/-- R185: STATUS shows one slip more once a number has joined the queue. -/
theorem State.depth_append {s : State} (law : s.PostQueueLaw) (n : Nat) :
    (State.registerRead 1 { s with slips := { s.slips with queue := s.slips.queue ++ [n] } }).toNat / 16 % 128 =
      (s.registerRead 1).toNat / 16 % 128 + 1 := by
  have le := State.queue_length_le law
  rw [State.depth_eq (s := s) (by omega), State.depth_eq] <;> simp only [List.length_append, List.length_singleton]
  omega

/-- R185: a POST in the order of its checks. -/
theorem exec_post_cases (s : State) (value : Word) : ∃ t, exec (.post value) s = .next t ∧
    if 63 < value.toNat then s.Refused .postBadNumber t
    else if s.wordAt (0x400 + 128 * value.toNat) ≠ 1 then s.Refused .postNotPosted t
    else if value.toNat ∈ s.slips.queue then s.Refused .postQueued t
    else t = { s with slips := { s.slips with queue := s.slips.queue ++ [value.toNat] } } ∧
      (s.PostQueueLaw → (t.registerRead 1).toNat / 16 % 128 = (s.registerRead 1).toNat / 16 % 128 + 1) := by
  refine ⟨s.postSlip value.toNat, rfl, ?_⟩
  rw [State.postSlip_eq]
  split
  · rfl
  · split
    · rfl
    · split
      · rfl
      · exact ⟨rfl, fun law => State.depth_append law _⟩

/-- R185: with 64 slips queued every POST is refused. -/
theorem exec_post_full {s : State} (value : Word) (law : s.PostQueueLaw) (full : s.slips.queue.length = 64) :
    ∃ t code, exec (.post value) s = .next t ∧ s.Refused code t := by
  obtain ⟨t, runs, outcome⟩ := exec_post_cases s value
  split at outcome
  · exact ⟨t, _, runs, outcome⟩
  · next small =>
    have queued := State.mem_queue_of_full law full (n := value.toNat) (by omega)
    rw [if_neg (not_not.2 (law.posted queued).2), if_pos queued] at outcome
    exact ⟨t, _, runs, outcome⟩

/-! ## How a queued slip leaves the queue -/

/-- R185, R186: a take takes the head of the queue, and every other queued slip still reads POSTED. -/
theorem State.takeSlip_head {s : State} (law : s.PostQueueLaw) {n : Nat} (hn : n ∈ s.slips.queue)
    (left : s.takeSlip.wordAt (0x400 + 128 * n) ≠ 1) :
    s.slips.queue = n :: s.takeSlip.slips.queue ∧ n ∉ s.takeSlip.slips.queue := by
  have still : n ∉ s.takeSlip.slips.queue := fun h => left ((State.takeSlip_postQueueLaw law).posted h).2
  obtain same | ⟨m, rest, before, after⟩ := s.takeSlip_cases
  · exact absurd (by rwa [same]) still
  · have queue : s.takeSlip.slips.queue = rest := by simp [after]
    rw [queue] at still ⊢
    rw [before] at hn ⊢
    obtain rfl | hn := List.mem_cons.1 hn
    · exact ⟨rfl, still⟩
    · exact absurd hn still

/-- R185: which commands change the queue, and how a queued slip leaves POSTED. -/
theorem exec_queue {c : Instr} {s t : State} (h : exec c s = .next t) (power : c ≠ .powerOn) (reset : c ≠ .reset) :
    (c ≠ .slipTake → (∀ value, c ≠ .post value) → t.slips.queue = s.slips.queue) ∧
      (s.PostQueueLaw → ∀ n ∈ s.slips.queue,
        (c ≠ .slipTake → n ∈ t.slips.queue ∧ t.wordAt (0x400 + 128 * n) = 1) ∧
          (t.wordAt (0x400 + 128 * n) ≠ 1 → s.slips.queue = n :: t.slips.queue ∧ n ∉ t.slips.queue)) := by
  have same (take : c ≠ .slipTake) (post : ∀ value, c ≠ .post value) : t.slips.queue = s.slips.queue := by
    obtain ⟨u, hu, keeps⟩ := exec_keepsQueue c s power reset take post
    obtain rfl : u = t := Host.Outcome.next.inj (hu.symm.trans h)
    exact keeps.1
  refine ⟨same, fun law n hn => ?_⟩
  have stays (take : c ≠ .slipTake) : n ∈ t.slips.queue ∧ t.wordAt (0x400 + 128 * n) = 1 := by
    have queued : n ∈ t.slips.queue := by
      by_cases post : ∃ value, c = .post value
      · obtain ⟨value, rfl⟩ := post
        obtain rfl : s.postSlip value.toNat = t := Host.Outcome.next.inj h
        rw [State.postSlip_eq]
        (repeat' split) <;> simp [State.refuse, hn]
      · rwa [same take (not_exists.1 post)]
    exact ⟨queued, ((exec_postQueueLaw h law).posted queued).2⟩
  refine ⟨stays, fun left => ?_⟩
  by_cases take : c = .slipTake
  · subst take
    obtain rfl : s.takeSlip = t := Host.Outcome.next.inj h
    exact State.takeSlip_head law hn left
  · exact absurd (stays take).2 left

/-! ## A POST and a write of FREE for one slip -/

/-- R177: the address of the host write to a slip's state word. -/
theorem exec_hostMemoryWrite_slipWord {n : Nat} (hn : n < 64) (s : State) :
    exec (.hostMemoryWrite (BitVec.ofNat 15 (0x200 + 64 * n)) 0) s = .next (s.hostWrite (0x400 + 128 * n) 0) := by
  have address : 2 * (BitVec.ofNat 15 (0x200 + 64 * n)).toNat = 0x400 + 128 * n := by
    rw [BitVec.toNat_ofNat]
    omega
  rw [← address]
  rfl

theorem exec_post_ofNat {n : Nat} (hn : n < 64) (s : State) :
    exec (.post (BitVec.ofNat 16 n)) s = .next (s.postSlip n) := by
  have number : (BitVec.ofNat 16 n).toNat = n := by
    rw [BitVec.toNat_ofNat]
    omega
  conv => rhs; rw [← number]
  rfl

/-- R180: a write of FREE to a POSTED slip is refused where the slip is queued, and stored otherwise. -/
theorem State.hostWrite_free {s : State} {n : Nat} (hn : n < 64) (posted : s.wordAt (0x400 + 128 * n) = 1) :
    s.hostWrite (0x400 + 128 * n) 0 =
      if n ∈ s.slips.queue then s.refuse .slipQueued else s.pokeWord (0x400 + 128 * n) 0 := by
  have now : s.slipState n = 1 := posted
  unfold State.hostWrite
  rw [State.writeRefusal_slipWord hn]
  by_cases queued : n ∈ s.slips.queue <;>
    simp [State.slipStateRefusal, now, slipFree, slipPosted, slipAnswered, queued]

/-- R180, R185: a write of FREE that is taken after the POST of its slip is refused. -/
theorem exec_post_free {s : State} {n : Nat} (hn : n < 64) (posted : s.wordAt (0x400 + 128 * n) = 1)
    (new : n ∉ s.slips.queue) :
    ∃ t u, exec (.post (BitVec.ofNat 16 n)) s = .next t ∧ n ∈ t.slips.queue ∧
      exec (.hostMemoryWrite (BitVec.ofNat 15 (0x200 + 64 * n)) 0) t = .next u ∧ t.Refused .slipQueued u := by
  have joined : s.postSlip n = { s with slips := { s.slips with queue := s.slips.queue ++ [n] } } := by
    rw [State.postSlip_eq, if_neg (by omega), if_neg (not_not.2 posted), if_neg new]
  have queued : n ∈ (s.postSlip n).slips.queue := by simp [joined]
  have still : (s.postSlip n).wordAt (0x400 + 128 * n) = 1 := by rwa [joined]
  refine ⟨_, _, exec_post_ofNat hn s, queued, exec_hostMemoryWrite_slipWord hn _, ?_⟩
  rw [State.hostWrite_free hn still, if_pos queued]
  exact State.refuse_refused _ _

/-- R180, R185: a POST that is taken after the write of FREE to its slip is refused. -/
theorem exec_free_post {s : State} {n : Nat} (hn : n < 64) (posted : s.wordAt (0x400 + 128 * n) = 1)
    (new : n ∉ s.slips.queue) :
    ∃ t u, exec (.hostMemoryWrite (BitVec.ofNat 15 (0x200 + 64 * n)) 0) s = .next t ∧
      t.wordAt (0x400 + 128 * n) = 0 ∧ exec (.post (BitVec.ofNat 16 n)) t = .next u ∧ t.Refused .postNotPosted u := by
  have free : (s.hostWrite (0x400 + 128 * n) 0).wordAt (0x400 + 128 * n) = 0 := by
    rw [State.hostWrite_free hn posted, if_neg new, State.wordAt_pokeWord_self]
  refine ⟨_, _, exec_hostMemoryWrite_slipWord hn s, free, exec_post_ofNat hn _, ?_⟩
  rw [State.postSlip_eq, if_neg (by omega), if_pos (by rw [free]; decide)]
  exact State.refuse_refused _ _

/-- Settles O4: the invariant of every step, the order of a POST's checks, the commands that change the queue, the full queue,
and the two orders of a POST and a write of FREE. -/
theorem everyStepKeepsThePostQueueLaw : Obligations.EveryStepKeepsThePostQueueLaw :=
  ⟨fun _ _ => step_postQueueLaw, exec_post_cases, fun _ _ _ h power reset => exec_queue h power reset,
    fun _ value law full => exec_post_full value law full,
    fun _ _ hn posted new => ⟨exec_post_free hn posted new, exec_free_post hn posted new⟩⟩

end Sys2Proof.Machine
end

section
/-! The step (assumption 5) and the state after power-on: O1 and O8. -/

namespace Sys2Proof.Machine

/-- R169: with no command waiting, one crystal period passes for the hold measurement. -/
theorem step_idle {s : State} (h : s.pending = []) : step s = .next s.idle := by
  simp [step, h]

theorem State.idle_stopped {s : State} (h : s.mode.hold = .stopped) : s.idle.mode.hold = .stopped := by
  simp [State.idle, h, HoldMeasurement.advance]

theorem State.idle_running {s : State} {n : Nat} (h : s.mode.hold = .running n) :
    s.idle.mode.hold = .running (min (n + 1) 16383) := by
  simp [State.idle, h, HoldMeasurement.advance, Config.holdPeriods]

/-- Settles O1: the front command runs on the queue's rest, and an empty queue lets one crystal period pass. -/
theorem stepRunsTheFrontCommand : Obligations.StepRunsTheFrontCommand :=
  ⟨fun _ _ => rfl, fun _ empty => ⟨_, step_idle empty, rfl, State.idle_stopped, fun _ => State.idle_running⟩⟩

/-- R190: no portal is configured after power-on. -/
theorem State.reset_portal (p : Nat) : State.reset.portal p = Portal.blank := rfl

/-- R190: no car is configured after power-on. -/
theorem State.reset_car (i : Nat) : State.reset.car i = Car.blank := rfl

theorem State.reset_modeLaw : State.reset.ModeLaw := by
  refine ⟨by decide, by decide, by decide, fun n running => ?_⟩
  exact absurd running nofun

theorem State.reset_boundsLaw : State.reset.BoundsLaw := by
  refine ⟨by decide, ⟨by decide, by decide⟩, fun p => ?_, fun i => ?_, fun n r stands => ?_⟩
  · rw [State.reset_portal]
    decide
  · rw [State.reset_car]
    decide
  · exact absurd stands (by simp [State.node, State.reset])

theorem State.reset_armLaw : State.reset.ArmLaw := fun u r stands =>
  absurd stands (by simp [State.unit, State.reset])

theorem State.reset_carOutputLaw : State.reset.CarOutputLaw := by
  refine ⟨fun i g named => ?_, fun i g n configured => ?_⟩
  · rw [State.reset_car] at named
    exact absurd named (by simp [Car.blank])
  · exact absurd configured (by simp [State.reset_car, Car.blank])

/-- Settles O8: each law holds of the blank tables and of the mode unit after power-on. -/
theorem resetSatisfiesTheLaws : Obligations.ResetSatisfiesTheLaws :=
  ⟨Memory.wf_reset, State.reset_modeLaw, State.postQueueLaw_of_empty rfl, State.reset_armLaw,
    fun evacuate => absurd evacuate nofun, State.reset_boundsLaw, State.reset_carOutputLaw⟩

end Sys2Proof.Machine
end

section
/-! The journal, byte by byte (R193 to R198): what each of its operations writes to memory, what it does to the journal's own
record, and what it leaves alone. -/

namespace Sys2Proof.Machine

/-! ## Reading memory after a write -/

/-- R177: what every address reads as after a run of bytes has been written. -/
theorem State.byteAt_poke (a : Nat) (bs : List Byte) (s : State) (c : Nat) :
    (s.poke a bs).byteAt c = if a ≤ c ∧ c < a + bs.length then bs.getD (c - a) 0 else s.byteAt c := by
  split
  · next h =>
    obtain ⟨i, rfl⟩ := Nat.exists_eq_add_of_le h.1
    have hi : i < bs.length := by omega
    rw [State.byteAt_poke_inside hi]
    simp [hi]
  · next h => exact State.byteAt_poke_outside (by omega) s

theorem State.wordAt_eq (a : Nat) (s : State) : s.wordAt a = (s.byteAt a).toNat + 256 * (s.byteAt (a + 1)).toNat := by
  simp [State.wordAt, State.peek, List.range_succ, numberOf]

theorem State.peek_congr {a n : Nat} {s t : State} (h : ∀ i < n, t.byteAt (a + i) = s.byteAt (a + i)) :
    t.peek a n = s.peek a n :=
  List.map_congr_left fun i hi => h i (List.mem_range.1 hi)

theorem State.peek_of_mem {a n : Nat} {s t : State} (h : t.mem = s.mem) : t.peek a n = s.peek a n :=
  State.peek_congr fun _ _ => State.byteAt_congr h _

theorem State.wordAt_of_mem {a : Nat} {s t : State} (h : t.mem = s.mem) : t.wordAt a = s.wordAt a :=
  congrArg numberOf (State.peek_of_mem h)

theorem State.entryCount_of_mem {p : Nat} {s t : State} (h : t.mem = s.mem) : t.entryCount p = s.entryCount p :=
  congrArg BitVec.toNat (State.byteAt_congr h _)

theorem pageAddress_eq (p : Nat) : pageAddress p = 0x2400 + 1024 * p := rfl

theorem State.pageState_eq (p : Nat) (s : State) : s.pageState p = s.wordAt (0x2400 + 1024 * p) := rfl

theorem State.entryCount_eq (p : Nat) (s : State) : s.entryCount p = (s.byteAt (0x2400 + 1024 * p + 6)).toNat := rfl

theorem bytesOf_one (n : Nat) : bytesOf 1 n = [BitVec.ofNat 8 n] := rfl

theorem bytesOf_two (n : Nat) : bytesOf 2 n = [BitVec.ofNat 8 n, BitVec.ofNat 8 (n / 256)] := rfl

@[simp] theorem Entry.length_bytes (e : Entry) : e.bytes.length = 16 := by
  simp [Entry.bytes]

theorem State.OnlyMem.eq {s t : State} (h : s.OnlyMem t) : t = { s with mem := t.mem } := by
  cases s
  cases t
  simp_all [State.OnlyMem]

theorem State.OnlyJournal.eq {s t : State} (h : s.OnlyJournal t) :
    t = { s with mem := t.mem, journal := t.journal, bus := { s.bus with cause := t.bus.cause } } := by
  obtain ⟨_, ⟨_, _, _, _⟩⟩ := s
  obtain ⟨_, ⟨_, _, _, _⟩⟩ := t
  simp_all [State.OnlyJournal]

/-! ## An entry takes its place (R193, R195) -/

/-- R193: the memory after an entry has taken its place. -/
theorem State.pass_entryAccesses (e : Entry) (s : State) :
    let p := s.journal.page
    let n := s.entryCount p
    let t := s.poke (pageAddress p + 16 + 16 * n) e.bytes
    s.pass (s.entryAccesses e) =
      (if n = 0 then t.poke (pageAddress p + 2) (bytesOf 4 s.journal.sequence.toNat) else t).poke (pageAddress p + 6)
        (bytesOf 1 (n + 1)) := by
  dsimp only
  unfold State.entryAccesses
  dsimp only
  split <;> simp only [State.pass_append, State.pass_accessesOf, State.pass_nil]


/-- R193, R195: an entry that takes its place changes memory and the journal's sequence and flush timer alone. -/
theorem State.placeEntry_eq (e : Entry) (s : State) :
    s.placeEntry e = { s with
      mem := (s.pass (s.entryAccesses e)).mem
      journal := { s.journal with
        sequence := s.journal.sequence + 1
        flush := if s.entryCount s.journal.page = 0 then Timer.set s.settings.flush else s.journal.flush } } := by
  unfold State.placeEntry
  dsimp only
  rw [State.OnlyMem.eq (State.pass_frame (s.entryAccesses e) s)]
  split <;> rfl

/-- R193: the entry's 16 bytes, the first sequence with the first entry, the count, and no other byte. -/
theorem State.byteAt_placeEntry (e : Entry) (s : State) (c : Nat) :
    let base := 0x2400 + 1024 * s.journal.page
    let n := s.entryCount s.journal.page
    (s.placeEntry e).byteAt c =
      if c = base + 6 then BitVec.ofNat 8 (n + 1)
      else if n = 0 ∧ base + 2 ≤ c ∧ c < base + 6 then (bytesOf 4 s.journal.sequence.toNat).getD (c - (base + 2)) 0
      else if base + 16 + 16 * n ≤ c ∧ c < base + 32 + 16 * n then e.bytes.getD (c - (base + 16 + 16 * n)) 0
      else s.byteAt c := by
  dsimp only
  have mem : (s.placeEntry e).mem = (s.pass (s.entryAccesses e)).mem := by rw [State.placeEntry_eq]
  rw [State.byteAt_congr mem, State.pass_entryAccesses]
  by_cases first : s.entryCount s.journal.page = 0
  · simp only [first, if_true, true_and, pageAddress_eq, State.byteAt_poke, length_bytesOf, Entry.length_bytes]
    split_ifs <;> first | omega | rfl | simp [bytesOf_one, *]
  · simp only [first, if_false, false_and, pageAddress_eq, State.byteAt_poke, length_bytesOf, Entry.length_bytes]
    split_ifs <;> first | omega | rfl | simp [bytesOf_one, *]

/-- R195: the entry count after an entry has taken its place. -/
theorem State.entryCount_placeEntry (e : Entry) {s : State} (room : s.entryCount s.journal.page ≤ 254) :
    (s.placeEntry e).entryCount s.journal.page = s.entryCount s.journal.page + 1 := by
  rw [State.entryCount_eq, State.byteAt_placeEntry, if_pos rfl, BitVec.toNat_ofNat]
  omega

/-- R193: the 16 bytes of an entry stand at its place. -/
theorem State.peek_placeEntry (e : Entry) (s : State) :
    (s.placeEntry e).peek (0x2400 + 1024 * s.journal.page + 16 + 16 * s.entryCount s.journal.page) 16 = e.bytes := by
  refine List.ext_getElem (by simp [State.peek]) fun i hi hj => ?_
  simp only [State.peek, List.length_map, List.length_range] at hi
  simp only [State.peek, List.getElem_map, List.getElem_range]
  rw [State.byteAt_placeEntry, if_neg (by omega), if_neg (by omega), if_pos (by omega)]
  rw [Nat.add_sub_cancel_left, List.getD_eq_getElem _ _ hj]

/-! ## A page is closed, taken or waited for (R193, R196, R197) -/

theorem State.byteAt_markFull (r : CloseReason) (s : State) (c : Nat) :
    let base := 0x2400 + 1024 * s.journal.page
    (s.markFull r).byteAt c =
      if c = base then 2 else if c = base + 1 then 0 else if c = base + 7 then BitVec.ofNat 8 r.code else s.byteAt c := by
  dsimp only
  have mem : (s.markFull r).mem = (s.pass (fullAccesses r s.journal.page)).mem := rfl
  rw [State.byteAt_congr mem, fullAccesses]
  simp only [State.pass_append, State.pass_accessesOf, State.byteAt_poke, pageAddress_eq, length_bytesOf]
  split_ifs <;> first | omega | rfl | simp [bytesOf_one, bytesOf_two, pageFull, *]

theorem State.byteAt_takePage (p : Nat) (s : State) (c : Nat) :
    let base := 0x2400 + 1024 * p
    (s.takePage p).byteAt c =
      if c = base then 1 else if c = base + 1 then 0
      else if base + 2 ≤ c ∧ c < base + 8 then [0xFF, 0xFF, 0xFF, 0xFF, 0, 0xFF].getD (c - (base + 2)) 0
      else s.byteAt c := by
  dsimp only
  have mem : (s.takePage p).mem = (s.pass (takeAccesses p)).mem := rfl
  have header : List.replicate 4 (0xFF : Byte) ++ [0, 0xFF] = [0xFF, 0xFF, 0xFF, 0xFF, 0, 0xFF] := rfl
  rw [State.byteAt_congr mem, takeAccesses, header]
  simp only [State.pass_append, State.pass_accessesOf, State.byteAt_poke, pageAddress_eq, length_bytesOf,
    List.length_cons, List.length_nil]
  split_ifs <;> first | omega | rfl | simp [bytesOf_two, pageFilling, *]

/-- R193: a page that is taken holds no entry. -/
theorem State.entryCount_takePage (p : Nat) (s : State) : (s.takePage p).entryCount p = 0 := by
  rw [State.entryCount_eq, State.byteAt_takePage, if_neg (by omega), if_neg (by omega), if_pos (by omega)]
  simp

@[simp] theorem State.takePage_journal (p : Nat) (s : State) :
    (s.takePage p).journal = { s.journal with page := p, stalled := false, reexamine := false } := by
  simp [State.takePage]

@[simp] theorem State.takePage_bus (p : Nat) (s : State) : (s.takePage p).bus = s.bus := by
  simp [State.takePage]

@[simp] theorem State.markFull_journal (r : CloseReason) (s : State) :
    (s.markFull r).journal = { s.journal with flush := .stopped } := by
  simp [State.markFull]

@[simp] theorem State.markFull_cause (r : CloseReason) (s : State) :
    (s.markFull r).bus.cause = s.bus.cause ||| 2#7 := by
  simp [State.markFull, State.raise, Cause.bit]

@[simp] theorem State.stallOn_mem (q : Nat) (s : State) : (s.stallOn q).mem = s.mem := rfl

@[simp] theorem State.stallOn_journal (q : Nat) (s : State) :
    (s.stallOn q).journal = { s.journal with page := q, stalled := true, reexamine := false } := rfl

@[simp] theorem State.stallOn_cause (q : Nat) (s : State) : (s.stallOn q).bus.cause = s.bus.cause ||| 8#7 := rfl

/-- R196: the state word of the page that follows the current one, once the current one is closed. -/
abbrev State.nextState (r : CloseReason) (s : State) : Nat :=
  (s.markFull r).wordAt (0x2400 + 1024 * ((s.journal.page + 1) % 32))

theorem State.closePage_taken {r : CloseReason} {s : State} (h : s.nextState r = 0) :
    s.closePage r = ((s.markFull r).takePage ((s.journal.page + 1) % 32)).mirrorJournal :=
  if_pos h

theorem State.closePage_stalled {r : CloseReason} {s : State} (h : s.nextState r ≠ 0) :
    s.closePage r = ((s.markFull r).stallOn ((s.journal.page + 1) % 32)).mirrorJournal :=
  if_neg h

/-- R196: the journal's record after the current page is closed. -/
theorem State.closePage_journal (r : CloseReason) (s : State) :
    (s.closePage r).journal = { s.journal with
      page := (s.journal.page + 1) % 32, stalled := s.nextState r != 0, reexamine := false, flush := .stopped } := by
  by_cases h : s.nextState r = 0
  · simp [State.closePage_taken h, h]
  · simp [State.closePage_stalled h, h]

/-- R196: a closed page raises PAGE, and a next page that is not EMPTY raises STALL. -/
theorem State.closePage_cause (r : CloseReason) (s : State) :
    (s.closePage r).bus.cause = s.bus.cause ||| 2#7 ||| if s.nextState r = 0 then 0#7 else 8#7 := by
  by_cases h : s.nextState r = 0
  · simp [State.closePage_taken h, h]
  · simp [State.closePage_stalled h, h]

/-- R179: the mirror writes bytes of block 0 alone. -/
theorem State.byteAt_mirrorJournal {c : Nat} (h : 39 ≤ c) (s : State) : s.mirrorJournal.byteAt c = s.byteAt c :=
  State.byteAt_mirror_outside (.inr (by omega)) (.inr (by simp; omega)) s

/-- R196: the bytes of the pages after the current page is closed. -/
theorem State.byteAt_closePage (r : CloseReason) (s : State) {c : Nat} (h : 39 ≤ c) :
    let next := 0x2400 + 1024 * ((s.journal.page + 1) % 32)
    (s.closePage r).byteAt c =
      if s.nextState r = 0 then
        (if c = next then 1 else if c = next + 1 then 0
        else if next + 2 ≤ c ∧ c < next + 8 then [0xFF, 0xFF, 0xFF, 0xFF, 0, 0xFF].getD (c - (next + 2)) 0
        else (s.markFull r).byteAt c)
      else (s.markFull r).byteAt c := by
  dsimp only
  split
  · next taken => rw [State.closePage_taken taken, State.byteAt_mirrorJournal h, State.byteAt_takePage]
  · next stalled =>
    rw [State.closePage_stalled stalled, State.byteAt_mirrorJournal h]
    exact State.byteAt_congr (State.stallOn_mem _ _) c

/-- R196: closing a page changes its state word, so the state of the next page is as it was. -/
theorem State.nextState_eq (r : CloseReason) (s : State) :
    s.nextState r = s.wordAt (0x2400 + 1024 * ((s.journal.page + 1) % 32)) := by
  have lo : (s.markFull r).byteAt (0x2400 + 1024 * ((s.journal.page + 1) % 32)) =
      s.byteAt (0x2400 + 1024 * ((s.journal.page + 1) % 32)) := by
    rw [State.byteAt_markFull, if_neg (by omega), if_neg (by omega), if_neg (by omega)]
  have hi : (s.markFull r).byteAt (0x2400 + 1024 * ((s.journal.page + 1) % 32) + 1) =
      s.byteAt (0x2400 + 1024 * ((s.journal.page + 1) % 32) + 1) := by
    rw [State.byteAt_markFull, if_neg (by omega), if_neg (by omega), if_neg (by omega)]
  exact State.wordAt_congr lo hi

/-! ## An entry is written (R193 to R196) -/

/-- R197: an alarm entry raises ALARM. -/
def State.alarmOf (kind : EntryKind) (s : State) : State :=
  if kind.alarm then s.raise .alarm else s

@[simp] theorem State.alarmOf_mem (kind : EntryKind) (s : State) : (s.alarmOf kind).mem = s.mem := by
  unfold State.alarmOf
  split <;> rfl

@[simp] theorem State.alarmOf_journal (kind : EntryKind) (s : State) : (s.alarmOf kind).journal = s.journal := by
  unfold State.alarmOf
  split <;> rfl

theorem State.alarmOf_cause (kind : EntryKind) (s : State) :
    (s.alarmOf kind).bus.cause = if kind.alarm then s.bus.cause ||| 4#7 else s.bus.cause := by
  unfold State.alarmOf
  split <;> rfl

theorem State.writeEntry_room (e : Entry) {s : State} (h : s.entryCount s.journal.page ≠ 62) :
    s.writeEntry e = (s.placeEntry e).alarmOf e.kind :=
  if_neg (fun full => h (by simpa [Config.pageEntries] using full))

theorem State.writeEntry_last (e : Entry) {s : State} (h : s.entryCount s.journal.page = 62) :
    s.writeEntry e = ((s.placeEntry e).alarmOf e.kind).closePage .full :=
  if_pos (by simp [Config.pageEntries, h])

@[simp] theorem State.placeEntry_bus (e : Entry) (s : State) : (s.placeEntry e).bus = s.bus := by
  rw [State.placeEntry_eq]

@[simp] theorem State.placeEntry_journal (e : Entry) (s : State) :
    (s.placeEntry e).journal = { s.journal with
      sequence := s.journal.sequence + 1
      flush := if s.entryCount s.journal.page = 0 then Timer.set s.settings.flush else s.journal.flush } := by
  rw [State.placeEntry_eq]

theorem State.KeepsMemory.refl (s : State) : s.KeepsMemory s := fun _ _ => rfl

theorem State.KeepsMemory.trans {s t u : State} (h : s.KeepsMemory t) (k : t.KeepsMemory u) : s.KeepsMemory u :=
  fun a outside => (k a outside).trans (h a outside)

theorem State.KeepsMemory.of_mem {s t : State} (h : t.mem = s.mem) : s.KeepsMemory t :=
  fun a _ => State.byteAt_congr h a

theorem State.mirror_keepsMemory {a : Nat} {v : List Byte} (lo : 24 ≤ a) (hi : a + v.length ≤ 39) (s : State) :
    s.KeepsMemory (s.mirror a v) :=
  fun c _ => State.byteAt_mirror_outside (by omega) (by omega) s

theorem State.mirrorJournal_keepsMemory (s : State) : s.KeepsMemory s.mirrorJournal :=
  State.mirror_keepsMemory (by omega) (by simp) s

theorem State.markFull_keepsMemory (r : CloseReason) {s : State} (h : s.journal.page < 32) :
    s.KeepsMemory (s.markFull r) := fun c _ => by
  rw [State.byteAt_markFull, if_neg (by omega), if_neg (by omega), if_neg (by omega)]

theorem State.takePage_keepsMemory {p : Nat} (h : p < 32) (s : State) : s.KeepsMemory (s.takePage p) := fun c _ => by
  rw [State.byteAt_takePage, if_neg (by omega), if_neg (by omega), if_neg (by omega)]

theorem State.closePage_keepsMemory (r : CloseReason) {s : State} (h : s.journal.page < 32) :
    s.KeepsMemory (s.closePage r) := by
  by_cases taken : s.nextState r = 0
  · rw [State.closePage_taken taken]
    exact ((State.markFull_keepsMemory r h).trans (State.takePage_keepsMemory (by omega) _)).trans
      (State.mirrorJournal_keepsMemory _)
  · rw [State.closePage_stalled taken]
    exact ((State.markFull_keepsMemory r h).trans (State.KeepsMemory.of_mem (State.stallOn_mem _ _))).trans
      (State.mirrorJournal_keepsMemory _)

theorem State.placeEntry_keepsMemory (e : Entry) {s : State} (h : s.journal.page < 32)
    (room : s.entryCount s.journal.page ≤ 62) : s.KeepsMemory (s.placeEntry e) := fun c _ => by
  rw [State.byteAt_placeEntry, if_neg (by omega), if_neg (by omega), if_neg (by omega)]

/-- R193: the journal writes to a page, one of the 32, which holds `n` entries. -/
structure State.WritesTo (n : Nat) (s : State) : Prop where
  page : s.journal.page < 32
  open_ : s.journal.stalled = false
  count : s.entryCount s.journal.page = n

theorem State.WritesTo.placeEntry {n : Nat} {s : State} (h : s.WritesTo n) (room : n ≤ 62) (e : Entry) :
    (s.placeEntry e).WritesTo (n + 1) := by
  refine ⟨by simpa using h.page, by simpa using h.open_, ?_⟩
  have page : (s.placeEntry e).journal.page = s.journal.page := by simp
  rw [page, State.entryCount_placeEntry e (by rw [h.count]; omega), h.count]

/-- R193: an entry that does not fill the page leaves the journal at that page. -/
theorem State.WritesTo.writeEntry {n : Nat} {s : State} (h : s.WritesTo n) (room : n ≤ 61) (e : Entry) :
    (s.writeEntry e).WritesTo (n + 1) := by
  obtain ⟨page, open_, count⟩ := h.placeEntry (by omega) e
  rw [State.writeEntry_room e (by rw [h.count]; omega)]
  exact ⟨by simpa using page, by simpa using open_, by
    rw [State.alarmOf_journal, State.entryCount_of_mem (State.alarmOf_mem _ _), count]⟩

theorem State.WritesTo.keepsMemory {n : Nat} {s : State} (h : s.WritesTo n) (room : n ≤ 62) (e : Entry) :
    s.KeepsMemory (s.writeEntry e) := by
  have placed := State.placeEntry_keepsMemory e h.page (h.count ▸ room)
  by_cases last : s.entryCount s.journal.page = 62
  · rw [State.writeEntry_last e last]
    exact (placed.trans (State.KeepsMemory.of_mem (State.alarmOf_mem _ _))).trans
      (State.closePage_keepsMemory .full (by simpa using h.page))
  · rw [State.writeEntry_room e last]
    exact placed.trans (State.KeepsMemory.of_mem (State.alarmOf_mem _ _))

/-- R193: what writing an entry does to the journal's record, where the entry does not fill its page. -/
theorem State.writeEntry_journal (e : Entry) {s : State} (h : s.entryCount s.journal.page ≠ 62) :
    (s.writeEntry e).journal = { s.journal with
      sequence := s.journal.sequence + 1
      flush := if s.entryCount s.journal.page = 0 then Timer.set s.settings.flush else s.journal.flush } := by
  rw [State.writeEntry_room e h, State.alarmOf_journal, State.placeEntry_journal]

theorem State.byteAt_writeEntry (e : Entry) {s : State} (h : s.entryCount s.journal.page ≠ 62) (c : Nat) :
    (s.writeEntry e).byteAt c = (s.placeEntry e).byteAt c := by
  rw [State.writeEntry_room e h]
  exact State.byteAt_congr (State.alarmOf_mem _ _) c

/-! ## The page stays in place (R193, R195) -/

theorem State.pageInPlace_of_same {s t : State} (mem : t.mem = s.mem) (journal : t.journal = s.journal)
    (h : s.PageInPlace) : t.PageInPlace := by
  obtain ⟨page, count, held⟩ := h
  refine ⟨journal ▸ page, fun open_ => ?_, journal ▸ held⟩
  rw [journal, State.entryCount_of_mem mem]
  exact count (journal ▸ open_)

theorem State.WritesTo.pageInPlace {n : Nat} {s : State} (h : s.WritesTo n) (room : n ≤ 62)
    (held : s.journal.holdover.length ≤ 8) : s.PageInPlace :=
  ⟨h.page, fun _ => h.count ▸ room, held⟩

theorem State.closePage_pageInPlace (r : CloseReason) {s : State} (held : s.journal.holdover.length ≤ 8) :
    (s.closePage r).PageInPlace := by
  have journal := State.closePage_journal r s
  refine ⟨by rw [journal]; exact Nat.mod_lt _ (by omega), fun open_ => ?_, by rw [journal]; exact held⟩
  have taken : s.nextState r = 0 := by simpa [journal] using open_
  rw [journal, State.closePage_taken taken]
  refine (State.entryCount_eq _ _).trans_le ?_
  rw [State.byteAt_mirrorJournal (by omega)]
  exact (State.entryCount_takePage _ _).trans_le (by omega)

theorem State.writeEntry_pageInPlace (e : Entry) {s : State} (h : s.PageInPlace) (open_ : s.journal.stalled = false) :
    (s.writeEntry e).PageInPlace := by
  obtain ⟨page, count, held⟩ := h
  have writes : s.WritesTo (s.entryCount s.journal.page) := ⟨page, open_, rfl⟩
  by_cases last : s.entryCount s.journal.page = 62
  · rw [State.writeEntry_last e last]
    exact State.closePage_pageInPlace .full (by simpa using held)
  · have le := count open_
    refine (writes.writeEntry (by omega) e).pageInPlace (by omega) ?_
    rw [State.writeEntry_journal e last]
    exact held

/-! ## The recovery (R198) -/

/-- R198: entries written one after the other to a page with room for them all. -/
theorem State.WritesTo.writeEntries {n : Nat} {s : State} (h : s.WritesTo n) (es : List Entry)
    (room : n + es.length ≤ 62) :
    let t := s.forEach es State.writeEntry
    t.WritesTo (n + es.length) ∧ s.KeepsMemory t ∧
      t.journal = { s.journal with
        sequence := s.journal.sequence + BitVec.ofNat 32 es.length
        flush := if n = 0 ∧ es ≠ [] then Timer.set s.settings.flush else s.journal.flush } ∧
      (∀ c, 0x2400 + 1024 * s.journal.page ≤ c → c < 0x2400 + 1024 * s.journal.page + 16 + 16 * n →
        (c < 0x2400 + 1024 * s.journal.page + 2 ∨ 0x2400 + 1024 * s.journal.page + 8 ≤ c) → t.byteAt c = s.byteAt c) ∧
      ∀ i e, es[i]? = some e → t.peek (0x2400 + 1024 * s.journal.page + 16 + 16 * (n + i)) 16 = e.bytes := by
  dsimp only
  induction es generalizing n s with
  | nil => exact ⟨h, State.KeepsMemory.refl s, by simp, fun _ _ _ _ => rfl, by simp⟩
  | cons e es ih =>
    simp only [List.length_cons] at room
    have notLast : s.entryCount s.journal.page ≠ 62 := by rw [h.count]; omega
    have journal := State.writeEntry_journal e notLast
    have page : (s.writeEntry e).journal.page = s.journal.page := by rw [journal]
    have settings : (s.writeEntry e).settings = s.settings := by simp
    obtain ⟨writes, keeps, record, before, places⟩ := ih (h.writeEntry (by omega) e) (by omega)
    rw [page] at before places
    refine ⟨by simpa [Nat.add_assoc, Nat.add_comm 1] using writes, (h.keepsMemory (by omega) e).trans keeps, ?_,
      fun c lo hi header => ?_, fun i x hx => ?_⟩
    · have counted : s.journal.sequence + 1#32 + BitVec.ofNat 32 es.length = s.journal.sequence + BitVec.ofNat 32 (es.length + 1) := by
        rw [BitVec.ofNat_add, BitVec.add_assoc, BitVec.add_comm 1#32]
      rw [State.forEach_cons, record, settings, journal, h.count]
      simp [counted]
    · rw [State.forEach_cons, before c lo (by omega) header, State.byteAt_writeEntry e notLast, State.byteAt_placeEntry,
        h.count, if_neg (by omega), if_neg (by omega), if_neg (by omega)]
    · cases i with
      | zero =>
        obtain rfl : e = x := by simpa using hx
        have placed := State.peek_placeEntry e s
        rw [h.count] at placed
        rw [State.forEach_cons, Nat.add_zero, ← placed]
        refine State.peek_congr fun j hj => ?_
        rw [before _ (by omega) (by omega) (by omega), State.byteAt_writeEntry e notLast]
      | succ i =>
        rw [State.forEach_cons, ← places i x (by simpa using hx)]
        congr 1
        omega

/-- R198, step 1: the awaited page taken, the holdover in hand. -/
def State.takenToRecover (s : State) : State :=
  { s.takePage s.journal.page with journal := { (s.takePage s.journal.page).journal with holdover := [] } }

theorem State.takenToRecover_journal (s : State) :
    s.takenToRecover.journal = { s.journal with stalled := false, reexamine := false, holdover := [] } := by
  simp [State.takenToRecover]

theorem State.takenToRecover_mem (s : State) : s.takenToRecover.mem = (s.takePage s.journal.page).mem := rfl

theorem State.takenToRecover_writes {s : State} (page : s.journal.page < 32) : s.takenToRecover.WritesTo 0 := by
  have at_ : s.takenToRecover.journal.page = s.journal.page := by rw [State.takenToRecover_journal]
  refine ⟨at_ ▸ page, by rw [State.takenToRecover_journal], ?_⟩
  rw [at_, State.entryCount_of_mem s.takenToRecover_mem]
  exact State.entryCount_takePage _ s

/-- R198, steps 1 and 2: the awaited page taken and the holdover written to it. -/
def State.recovered (s : State) : State :=
  s.takenToRecover.forEach s.journal.holdover State.writeEntry

/-- R198: no entry was dropped while the journal was stalled. -/
abbrev State.NoneDropped (s : State) : Prop :=
  s.journal.routineDropped = 0 ∧ s.journal.alarmDropped = 0

/-- R198, step 3: the JOURNAL_GAP of a journal that has dropped entries. -/
def State.gapEntry (s : State) : Entry :=
  s.entry .journalGap (some s.journal.alarmDropped) none (bytesOf 2 s.journal.routineDropped)

/-- R198, step 3: the dropped counts told. -/
def State.gapTold (s : State) : State :=
  { s.writeEntry s.gapEntry with
    journal := { (s.writeEntry s.gapEntry).journal with routineDropped := 0, alarmDropped := 0 } }

theorem State.recover_eq (s : State) :
    s.recover = if s.recovered.NoneDropped then s.recovered else s.recovered.gapTold.mirrorJournal := rfl

theorem State.recovered_writes {s : State} (page : s.journal.page < 32) (held : s.journal.holdover.length ≤ 8) :
    s.recovered.WritesTo s.journal.holdover.length ∧ s.KeepsMemory s.recovered ∧
      s.recovered.journal = { s.journal with
        stalled := false, reexamine := false, holdover := []
        sequence := s.journal.sequence + BitVec.ofNat 32 s.journal.holdover.length
        flush := if s.journal.holdover ≠ [] then Timer.set s.settings.flush else s.journal.flush } ∧
      (∀ c, 0x2400 + 1024 * s.journal.page ≤ c → c < 0x2400 + 1024 * s.journal.page + 2 →
        s.recovered.byteAt c = (s.takePage s.journal.page).byteAt c) ∧
      ∀ i e, s.journal.holdover[i]? = some e →
        s.recovered.peek (0x2400 + 1024 * s.journal.page + 16 + 16 * i) 16 = e.bytes := by
  have settings : s.takenToRecover.settings = s.settings := by simp [State.takenToRecover]
  have at_ : s.takenToRecover.journal.page = s.journal.page := by rw [State.takenToRecover_journal]
  obtain ⟨writes, keeps, journal, before, places⟩ :=
    (State.takenToRecover_writes page).writeEntries s.journal.holdover (by omega)
  rw [at_] at before places
  rw [Nat.zero_add] at writes
  simp only [Nat.zero_add] at places
  have taken : s.KeepsMemory s.takenToRecover :=
    (State.takePage_keepsMemory page s).trans (State.KeepsMemory.of_mem s.takenToRecover_mem)
  refine ⟨writes, taken.trans keeps, journal.trans ?_, fun c lo hi => (before c lo (by omega) (by omega)).trans ?_, places⟩
  · rw [settings, State.takenToRecover_journal]
    simp
  · rw [State.byteAt, State.takenToRecover_mem, State.byteAt]

/-- R198: the count of JOURNAL_GAP entries that a recovery writes. -/
def State.gapCount (s : State) : Nat :=
  if s.NoneDropped then 0 else 1

theorem State.gapCount_none {s : State} (h : s.NoneDropped) : s.gapCount = 0 := if_pos h

theorem State.gapCount_some {s : State} (h : ¬ s.NoneDropped) : s.gapCount = 1 := if_neg h

/-- R198: a recovery leaves the journal at the awaited page, with the held entries and a JOURNAL_GAP, if any, on it. -/
theorem State.recover_writes {s : State} (page : s.journal.page < 32) (held : s.journal.holdover.length ≤ 8) :
    s.recover.WritesTo (s.journal.holdover.length + s.gapCount) ∧ s.KeepsMemory s.recover ∧
      s.recover.journal = { s.journal with
        stalled := false, reexamine := false, holdover := [], routineDropped := 0, alarmDropped := 0
        sequence := s.journal.sequence + BitVec.ofNat 32 (s.journal.holdover.length + s.gapCount)
        flush := if s.journal.holdover.length + s.gapCount = 0 then s.journal.flush
          else Timer.set s.settings.flush } := by
  obtain ⟨writes, keeps, journal, -, -⟩ := State.recovered_writes page held
  have dropped : s.recovered.NoneDropped ↔ s.NoneDropped := by rw [State.NoneDropped, journal]
  rw [State.recover_eq]
  by_cases none : s.NoneDropped
  · rw [if_pos (dropped.2 none), State.gapCount_none none]
    refine ⟨writes, keeps, journal.trans ?_⟩
    by_cases empty : s.journal.holdover = [] <;> simp [empty, none.1, none.2]
  · rw [if_neg (mt dropped.1 none), State.gapCount_some none]
    have settings : s.recovered.settings = s.settings := by simp [State.recovered, State.takenToRecover]
    have record := State.writeEntry_journal s.recovered.gapEntry (s := s.recovered) (by rw [writes.count]; omega)
    obtain ⟨page', open_, count⟩ := writes.writeEntry (by omega) s.recovered.gapEntry
    have told : s.recovered.gapTold.mirrorJournal.journal = { (s.recovered.writeEntry s.recovered.gapEntry).journal with
        routineDropped := 0, alarmDropped := 0 } := by simp [State.gapTold]
    have mem : ∀ c, 39 ≤ c → s.recovered.gapTold.mirrorJournal.byteAt c =
        (s.recovered.writeEntry s.recovered.gapEntry).byteAt c :=
      fun c hc => State.byteAt_mirrorJournal hc _
    refine ⟨⟨by rwa [told], by rwa [told], ?_⟩,
      (keeps.trans (writes.keepsMemory (by omega) _)).trans (State.mirrorJournal_keepsMemory s.recovered.gapTold), ?_⟩
    · rw [told, State.entryCount_eq, mem _ (by omega)]
      exact count
    · rw [told, record, writes.count, settings, journal]
      have counted : s.journal.sequence + BitVec.ofNat 32 s.journal.holdover.length + 1#32 =
          s.journal.sequence + BitVec.ofNat 32 (s.journal.holdover.length + 1) := by
        rw [BitVec.ofNat_add, BitVec.add_assoc]
      by_cases empty : s.journal.holdover = [] <;> simp [empty, ← counted]

/-- R198: the bytes of the page that a recovery takes: FILLING, the held entries in order, and the JOURNAL_GAP. -/
theorem State.recover_bytes {s : State} (page : s.journal.page < 32) (held : s.journal.holdover.length ≤ 8) :
    s.recover.wordAt (0x2400 + 1024 * s.journal.page) = 1 ∧
      (∀ i e, s.journal.holdover[i]? = some e →
        s.recover.peek (0x2400 + 1024 * s.journal.page + 16 + 16 * i) 16 = e.bytes) ∧
      (¬ s.NoneDropped → s.recover.peek (0x2400 + 1024 * s.journal.page + 16 + 16 * s.journal.holdover.length) 16 =
        s.gapEntry.bytes) := by
  obtain ⟨writes, -, journal, state, places⟩ := State.recovered_writes page held
  have dropped : s.recovered.NoneDropped ↔ s.NoneDropped := by rw [State.NoneDropped, journal]
  have at_ : s.recovered.journal.page = s.journal.page := by rw [journal]
  have count : s.recovered.entryCount s.journal.page = s.journal.holdover.length := at_ ▸ writes.count
  have filling : s.recovered.wordAt (0x2400 + 1024 * s.journal.page) = 1 := by
    rw [State.wordAt_eq, state _ (by omega) (by omega), state _ (by omega) (by omega), State.byteAt_takePage,
      State.byteAt_takePage]
    simp
  rw [State.recover_eq]
  by_cases none : s.NoneDropped
  · rw [if_pos (dropped.2 none)]
    exact ⟨filling, places, fun some => absurd none some⟩
  · rw [if_neg (mt dropped.1 none)]
    have mem : ∀ c, 39 ≤ c → s.recovered.gapTold.mirrorJournal.byteAt c = (s.recovered.placeEntry s.recovered.gapEntry).byteAt c :=
      fun c hc => (State.byteAt_mirrorJournal hc s.recovered.gapTold).trans
        (State.byteAt_writeEntry s.recovered.gapEntry (by rw [writes.count]; omega) c)
    have before : ∀ c, 0x2400 + 1024 * s.journal.page ≤ c →
        c < 0x2400 + 1024 * s.journal.page + 16 + 16 * s.journal.holdover.length →
        (c < 0x2400 + 1024 * s.journal.page + 2 ∨ 0x2400 + 1024 * s.journal.page + 8 ≤ c) →
        s.recovered.gapTold.mirrorJournal.byteAt c = s.recovered.byteAt c := fun c lo hi header => by
      rw [mem c (by omega), State.byteAt_placeEntry, at_, count, if_neg (by omega), if_neg (by omega),
        if_neg (by omega)]
    refine ⟨?_, fun i e hi => ?_, fun _ => ?_⟩
    · rw [State.wordAt_congr (before _ (by omega) (by omega) (by omega)) (before _ (by omega) (by omega) (by omega)),
        filling]
    · have lt : i < s.journal.holdover.length := (List.getElem?_eq_some_iff.1 hi).1
      rw [← places i e hi]
      exact State.peek_congr fun j _ => before _ (by omega) (by omega) (by omega)
    · have placed := State.peek_placeEntry s.recovered.gapEntry s.recovered
      rw [at_, count] at placed
      have same : s.recovered.gapEntry = s.gapEntry := by
        have clock : s.recovered.clock = s.clock := by simp [State.recovered, State.takenToRecover]
        simp [State.gapEntry, State.entry, clock, journal]
      rw [← same, ← placed]
      exact State.peek_congr fun j _ => mem _ (by omega)

/-! ## A submission (R195, R197, R198) -/

theorem State.submit_open (e : Entry) {s : State} (h : s.journal.stalled = false) : s.submit e = s.writeEntry e := by
  simp [State.submit, h]

theorem State.submit_returned (e : Entry) {s : State} (h : s.journal.stalled = true)
    (empty : s.wordAt (0x2400 + 1024 * s.journal.page) = 0) : s.submit e = s.recover.writeEntry e := by
  simp [State.submit, h, State.pageState_eq, empty, pageEmpty]

theorem State.submit_waits (e : Entry) {s : State} (h : s.journal.stalled = true)
    (waits : s.wordAt (0x2400 + 1024 * s.journal.page) ≠ 0) : s.submit e = s.holdEntry e := by
  simp [State.submit, h, State.pageState_eq, waits, pageEmpty]

/-- R197: what a submission to a journal that stays stalled does to the journal's record. -/
theorem State.holdEntry_journal (e : Entry) (s : State) :
    (s.holdEntry e).journal =
      if e.kind.alarm = false then
        { s.journal with routineDropped := if s.journal.routineDropped < 65535 then s.journal.routineDropped + 1
          else s.journal.routineDropped }
      else if s.journal.holdover.length < 8 then { s.journal with holdover := s.journal.holdover ++ [e] }
      else { s.journal with alarmDropped := if s.journal.alarmDropped < 65535 then s.journal.alarmDropped + 1
        else s.journal.alarmDropped } := by
  unfold State.holdEntry State.dropRoutine State.dropAlarm State.raise
  cases e.kind.alarm <;> simp only [if_true, if_false, Config.holdover, Bool.false_eq_true, reduceCtorEq] <;>
    split_ifs <;> simp

theorem State.byteAt_holdEntry (e : Entry) (s : State) {c : Nat} (h : c < 4 ∨ 6 ≤ c ∧ c < 24 ∨ 39 ≤ c) :
    (s.holdEntry e).byteAt c = s.byteAt c := by
  have mirror : ∀ t : State, t.mirrorJournal.byteAt c = t.byteAt c :=
    fun t => State.byteAt_mirror_outside (by omega) (by simp; omega) t
  unfold State.holdEntry State.dropRoutine State.dropAlarm
  dsimp only
  split_ifs <;> first | rfl | exact mirror _

theorem State.holdEntry_cause (e : Entry) (s : State) :
    (s.holdEntry e).bus.cause = if e.kind.alarm then s.bus.cause ||| 4#7 else s.bus.cause := by
  unfold State.holdEntry State.dropRoutine State.dropAlarm State.raise
  dsimp only
  split_ifs <;> simp [Cause.bit]

theorem State.holdEntry_pageInPlace (e : Entry) {s : State} (h : s.PageInPlace) (stalled : s.journal.stalled = true) :
    (s.holdEntry e).PageInPlace := by
  obtain ⟨page, -, held⟩ := h
  have journal := State.holdEntry_journal e s
  refine ⟨?_, fun open_ => ?_, ?_⟩
  · rw [journal]
    split_ifs <;> exact page
  · have same : (s.holdEntry e).journal.stalled = true := by
      rw [journal]
      split_ifs <;> exact stalled
    exact absurd (same.symm.trans open_) (by decide)
  · rw [journal]
    split_ifs <;> first | exact held | (simp; omega)

/-- R193, R195: a submission keeps the page in place and every byte outside block 0's live fields and the pages. -/
theorem State.submit_pageInPlace (e : Entry) {s : State} (h : s.PageInPlace) :
    (s.submit e).PageInPlace ∧ s.KeepsMemory (s.submit e) := by
  obtain ⟨page, count, held⟩ := id h
  by_cases stalled : s.journal.stalled = true
  · by_cases empty : s.wordAt (0x2400 + 1024 * s.journal.page) = 0
    · rw [State.submit_returned e stalled empty]
      obtain ⟨writes, keeps, journal⟩ := State.recover_writes page held
      have few : s.journal.holdover.length + s.gapCount ≤ 61 := by
        unfold State.gapCount
        split <;> omega
      have place := writes.pageInPlace (by omega) (by rw [journal]; exact Nat.zero_le 8)
      exact ⟨State.writeEntry_pageInPlace e place writes.open_, keeps.trans (writes.keepsMemory (by omega) e)⟩
    · rw [State.submit_waits e stalled empty]
      exact ⟨State.holdEntry_pageInPlace e h stalled, fun c _ => State.byteAt_holdEntry e s (by omega)⟩
  · have open_ : s.journal.stalled = false := by simpa using stalled
    rw [State.submit_open e open_]
    exact ⟨State.writeEntry_pageInPlace e h open_, State.WritesTo.keepsMemory ⟨page, open_, rfl⟩ (count open_) e⟩

theorem State.log_pageInPlace (kind : EntryKind) (subject tenant : Option Nat) (detail : List Byte) {s : State}
    (h : s.PageInPlace) :
    (s.log kind subject tenant detail).PageInPlace ∧ s.KeepsMemory (s.log kind subject tenant detail) :=
  State.submit_pageInPlace _ h

end Sys2Proof.Machine
end

section
/-! The journal's statements: O58, O59 and O60. -/

namespace Sys2Proof.Machine

theorem State.log_eq (kind : EntryKind) (subject tenant : Option Nat) (detail : List Byte) (s : State) :
    let t := s.log kind subject tenant detail
    t = { s with mem := t.mem, journal := t.journal, bus := { s.bus with cause := t.bus.cause } } :=
  State.OnlyJournal.eq (State.log_frame kind subject tenant detail s)

/-- R193 to R195: an entry submitted to an open journal with room after it on the page. -/
theorem State.submit_room (e : Entry) {s : State} (open_ : s.journal.stalled = false)
    (room : s.entryCount s.journal.page ≤ 61) : s.submit e = (s.placeEntry e).alarmOf e.kind := by
  rw [State.submit_open e open_, State.writeEntry_room e (by omega)]

theorem State.submit_last (e : Entry) {s : State} (open_ : s.journal.stalled = false)
    (last : s.entryCount s.journal.page = 62) : s.submit e = ((s.placeEntry e).alarmOf e.kind).closePage .full := by
  rw [State.submit_open e open_, State.writeEntry_last e last]

theorem State.entry_bytes (kind : EntryKind) (subject tenant : Option Nat) (detail : List Byte) (s : State) :
    (s.entry kind subject tenant detail).bytes = bytesOf 4 s.clock.minute ++ bytesOf 1 s.clock.second ++
      bytesOf 1 kind.code ++ bytesOfOption 2 subject ++ bytesOfOption 2 tenant ++ padTo 6 0 detail := rfl

/-! ## Word by word (R178) -/

/-- R178: while the accesses `l` are passed, the word at `w` reads as before them or as after them. -/
abbrev State.WholeAt (w : Nat) (l : List Access) (s : State) : Prop :=
  ∀ k, (s.during k l).wordAt w = s.wordAt w ∨ (s.during k l).wordAt w = (s.pass l).wordAt w

theorem State.wholeAt_run {w : Nat} (even : w % 2 = 0) (a : Nat) (bs : List Byte) (s : State) :
    s.WholeAt w (accessesOf a bs) := fun k => by
  rw [State.pass_accessesOf]
  exact State.wordAt_during_accessesOf even k a bs s

/-- R178: two runs of accesses, of which one at most changes the word at `w`. -/
theorem State.wholeAt_append {w : Nat} {l m : List Access} {s : State} (first : s.WholeAt w l)
    (rest : (s.pass l).WholeAt w m)
    (apart : (s.pass l).wordAt w = s.wordAt w ∨ ((s.pass l).pass m).wordAt w = (s.pass l).wordAt w) :
    s.WholeAt w (l ++ m) := by
  intro k
  rw [State.during_append, State.pass_append]
  by_cases early : k ≤ l.length
  · rw [Nat.sub_eq_zero_of_le early, State.during_zero]
    obtain before | after := first k
    · exact .inl before
    · rw [after]
      exact apart.imp_right Eq.symm
  · rw [State.during_all (l := l) (by omega)]
    obtain before | after := rest (k - l.length)
    · rw [before]
      exact apart.imp_right Eq.symm
    · exact .inr after

/-- R178: before the last of two runs has begun, a word that the first leaves alone reads as before. -/
theorem State.during_init {k : Nat} {l : List Access} (x : Access) (h : k ≤ l.length) (s : State) :
    s.during k (l ++ [x]) = s.during k l := by
  rw [State.during_append, Nat.sub_eq_zero_of_le h, State.during_zero]

theorem State.entryAccesses_eq (e : Entry) (s : State) :
    let base := 0x2400 + 1024 * s.journal.page
    let n := s.entryCount s.journal.page
    s.entryAccesses e = accessesOf (base + 16 + 16 * n) e.bytes ++
      (if n = 0 then accessesOf (base + 2) (bytesOf 4 s.journal.sequence.toNat) else []) ++
      accessesOf (base + 6) (bytesOf 1 (n + 1)) := rfl

/-- R178: an entry is written word by word. -/
theorem State.entryAccesses_readsWhole (e : Entry) (s : State) :
    s.ReadsWhole (s.entryAccesses e) (s.pass (s.entryAccesses e)) := by
  intro k w even
  revert k
  rw [State.entryAccesses_eq]
  have outside : ∀ (a : Nat) (bs : List Byte) (t : State), (w + 2 ≤ a ∨ a + bs.length ≤ w) →
      (t.pass (accessesOf a bs)).wordAt w = t.wordAt w := fun a bs t h => by
    rw [State.pass_accessesOf]
    exact State.wordAt_poke_outside h t
  refine State.wholeAt_append (State.wholeAt_append (State.wholeAt_run even _ _ _) ?_ ?_) (State.wholeAt_run even _ _ _) ?_
  · split
    · exact State.wholeAt_run even _ _ _
    · exact fun k => .inl (by simp [State.during])
  · split
    · by_cases header : w < 0x2400 + 1024 * s.journal.page + 16
      · exact .inl (outside _ _ _ (.inl (by omega)))
      · exact .inr (outside _ _ _ (.inr (by simp; omega)))
    · exact .inr (by simp)
  · by_cases count : w = 0x2400 + 1024 * s.journal.page + 6
    · refine .inl ?_
      split
      · rw [State.pass_append, outside _ _ _ (.inr (by simp; omega)), outside _ _ _ (.inl (by omega))]
      · rw [List.append_nil, outside _ _ _ (.inl (by omega))]
    · exact .inr (outside _ _ _ (by simp; omega))

/-- R178: the page state reads as before while an entry is written. -/
theorem State.entryAccesses_wordAt (e : Entry) (k : Nat) (s : State) :
    (s.during k (s.entryAccesses e)).wordAt (0x2400 + 1024 * s.journal.page) =
      s.wordAt (0x2400 + 1024 * s.journal.page) := by
  rw [State.entryAccesses_eq, State.during_append, State.during_append, State.wordAt_during_outside (.inl (by omega))]
  split
  · rw [State.wordAt_during_outside (.inl (by omega)), State.wordAt_during_outside (.inl (by omega))]
  · rw [State.during, List.take_nil, State.pass_nil, State.wordAt_during_outside (.inl (by omega))]

/-- R178: the accesses that close a page, the state word last. -/
theorem fullAccesses_eq (r : CloseReason) (p : Nat) :
    fullAccesses r p = [(0x2400 + 1024 * p + 7, bytesOf 1 r.code)] ++ [(0x2400 + 1024 * p, bytesOf 2 2)] := by
  rw [fullAccesses, pageAddress_eq, accessesOf_word (by omega)]
  rfl

/-- R178: a page whose entries and header stand reads FULL only with the last access. -/
theorem State.fullAccesses_last (r : CloseReason) (p : Nat) (l : List Access) (s : State)
    (keeps : ∀ k, (s.during k l).wordAt (0x2400 + 1024 * p) = s.wordAt (0x2400 + 1024 * p)) :
    let m := l ++ fullAccesses r p
    s.WordLast (0x2400 + 1024 * p) m ∧ (s.during m.length m).wordAt (0x2400 + 1024 * p) = 2 ∧
      ∀ b, 0x2400 + 1024 * p + 2 ≤ b → (s.during (m.length - 1) m).byteAt b = (s.pass m).byteAt b := by
  dsimp only
  have parts : l ++ fullAccesses r p = (l ++ [(0x2400 + 1024 * p + 7, bytesOf 1 r.code)]) ++ [(0x2400 + 1024 * p, bytesOf 2 2)] := by
    rw [fullAccesses_eq, List.append_assoc]
  have poke : ∀ (a : Nat) (bs : List Byte) (t : State), t.pass [(a, bs)] = t.poke a bs := fun a bs t => by
    rw [State.poke_eq_pokeBytes]
    simp
  refine ⟨fun k hk => ?_, ?_, fun b hb => ?_⟩
  · have le : k ≤ (l ++ [(0x2400 + 1024 * p + 7, bytesOf 1 r.code)]).length := by
      rw [parts, List.length_append] at hk
      simp only [List.length_cons, List.length_nil] at hk
      omega
    rw [parts, State.during_init _ le, State.during_append, State.during]
    by_cases more : k - l.length = 0
    · rw [more, List.take_zero, State.pass_nil, keeps k]
    · rw [List.take_of_length_le (by simp; omega), poke, State.wordAt_poke_outside (.inl (by omega)), keeps k]
  · rw [State.during_all le_rfl, parts, State.pass_append, poke]
    exact State.wordAt_pokeWord_self _ _ _
  · have len : (l ++ fullAccesses r p).length - 1 = (l ++ [(0x2400 + 1024 * p + 7, bytesOf 1 r.code)]).length := by
      rw [parts, List.length_append]
      simp
    rw [len, parts, State.during_init _ le_rfl, State.during_all le_rfl, State.pass_append (l ++ _) [_], poke _ (bytesOf 2 2),
      State.byteAt_poke_outside (.inr (by simpa using hb))]

/-! ## The page that follows (R196, R197) -/

theorem State.mem_pokeBytes_congr {s t : State} (h : t.mem = s.mem) (a : Nat) (bs : List Byte) :
    (t.pokeBytes a bs).mem = (s.pokeBytes a bs).mem := by
  induction bs generalizing a s t with
  | nil => exact h
  | cons b bs ih => exact ih (by rw [State.pokeByte, State.pokeByte, h]) (a + 1)

theorem State.mem_pass_congr {s t : State} (h : t.mem = s.mem) (l : List Access) : (t.pass l).mem = (s.pass l).mem := by
  induction l generalizing s t with
  | nil => exact h
  | cons x l ih =>
    rw [State.pass_cons, State.pass_cons]
    exact ih (State.mem_pokeBytes_congr h _ _)

theorem State.markFull_mem (r : CloseReason) (s : State) :
    (s.markFull r).mem = (s.pass (fullAccesses r s.journal.page)).mem := rfl

/-- R193, R196, R197: the bytes, the record and the causes after the current page is closed. -/
theorem State.closePage_bytes (r : CloseReason) {s : State} (page : s.journal.page < 32) :
    let p := s.journal.page
    let q := (p + 1) % 32
    let next := 0x2400 + 1024 * q
    let t := s.closePage r
    t.journal = { s.journal with page := q, stalled := s.wordAt next != 0, reexamine := false, flush := .stopped } ∧
      t.bus.cause = s.bus.cause ||| 2#7 ||| (if s.wordAt next = 0 then 0#7 else 8#7) ∧
      (∀ a, 0x2400 ≤ a → (a < next ∨ next + 8 ≤ a) → t.byteAt a = (s.pass (fullAccesses r p)).byteAt a) ∧
      if s.wordAt next = 0 then t.wordAt next = 1 ∧ t.peek (next + 2) 6 = [0xFF, 0xFF, 0xFF, 0xFF, 0, 0xFF]
      else t.peek next 8 = s.peek next 8 := by
  have state := State.nextState_eq r s
  have marked : ∀ c, (s.markFull r).byteAt c = (s.pass (fullAccesses r s.journal.page)).byteAt c := fun _ => rfl
  have here : ∀ c, 39 ≤ c → (s.closePage r).byteAt c = _ := fun c hc => State.byteAt_closePage r s hc
  rw [state] at here
  refine ⟨state ▸ State.closePage_journal r s, state ▸ State.closePage_cause r s, fun a lo outside => ?_, ?_⟩
  · rw [here a (by omega), ← marked]
    split
    · rw [if_neg (by omega), if_neg (by omega), if_neg (by omega)]
    · rfl
  · split
    · next empty =>
      simp only [empty, if_true] at here
      refine ⟨?_, ?_⟩
      · rw [State.wordAt_eq, here _ (by omega), here _ (by omega)]
        simp
      · refine List.ext_getElem (by simp [State.peek]) fun i hi hj => ?_
        simp only [List.length_cons, List.length_nil] at hj
        simp only [State.peek, List.getElem_map, List.getElem_range]
        rw [here _ (by omega), if_neg (by omega), if_neg (by omega), if_pos (by omega), Nat.add_sub_cancel_left,
          List.getD_eq_getElem]
    · next full =>
      simp only [full, if_false] at here
      exact State.peek_congr fun i _ => by
        rw [here _ (by omega), State.byteAt_markFull, if_neg (by omega), if_neg (by omega), if_neg (by omega)]

/-! ## O58 -/

section
variable (kind : EntryKind) (subject tenant : Option Nat) (detail : List Byte)

/-- R193 to R195: an entry with room left on the page after it. -/
theorem State.log_room {s : State} (open_ : s.journal.stalled = false) (room : s.entryCount s.journal.page ≤ 61) :
    let base := 0x2400 + 1024 * s.journal.page
    let n := s.entryCount s.journal.page
    let t := s.log kind subject tenant detail
    let now := s.entry kind subject tenant detail
    t.bus.cause = (if kind.alarm then s.bus.cause ||| 4#7 else s.bus.cause) ∧
      t.journal = { s.journal with
        sequence := s.journal.sequence + 1
        flush := if n = 0 then Timer.set s.settings.flush else s.journal.flush } ∧
      t.entryCount s.journal.page = n + 1 ∧ t.peek (base + 16 + 16 * n) 16 = now.bytes ∧
      (n = 0 → t.peek (base + 2) 4 = bytesOf 4 s.journal.sequence.toNat) ∧
      (∀ a, (a < base + 16 + 16 * n ∨ base + 32 + 16 * n ≤ a) → a ≠ base + 6 →
        (n = 0 → a < base + 2 ∨ base + 6 ≤ a) → t.byteAt a = s.byteAt a) ∧
      t.mem = (s.pass (s.entryAccesses now)).mem := by
  have placed : s.log kind subject tenant detail =
      (s.placeEntry (s.entry kind subject tenant detail)).alarmOf kind := State.submit_room _ open_ room
  have mem : (s.log kind subject tenant detail).mem = (s.placeEntry (s.entry kind subject tenant detail)).mem := by
    rw [placed, State.alarmOf_mem]
  refine ⟨by rw [placed, State.alarmOf_cause, State.placeEntry_bus],
    by rw [placed, State.alarmOf_journal, State.placeEntry_journal],
    by rw [State.entryCount_of_mem mem, State.entryCount_placeEntry _ (by omega)],
    by rw [State.peek_of_mem mem, State.peek_placeEntry], fun first => ?_, fun a place count header => ?_,
    by rw [mem, State.placeEntry_eq]⟩
  · rw [State.peek_of_mem mem]
    refine List.ext_getElem (by simp [State.peek]) fun i hi hj => ?_
    simp only [length_bytesOf] at hj
    simp only [State.peek, List.getElem_map, List.getElem_range]
    rw [State.byteAt_placeEntry, if_neg (by omega), if_pos ⟨first, by omega, by omega⟩, Nat.add_sub_cancel_left,
      List.getD_eq_getElem]
  · rw [State.byteAt_congr mem, State.byteAt_placeEntry, if_neg count, if_neg (by omega), if_neg (by omega)]

/-- R193, R196: the 63rd entry of a page. -/
theorem State.log_last {s : State} (open_ : s.journal.stalled = false) (last : s.entryCount s.journal.page = 62)
    (page : s.journal.page < 32) :
    let p := s.journal.page
    let q := (p + 1) % 32
    let next := 0x2400 + 1024 * q
    let now := s.entry kind subject tenant detail
    let t := s.log kind subject tenant detail
    let l := s.entryAccesses now ++ fullAccesses .full p
    t.journal = { s.journal with
        page := q, sequence := s.journal.sequence + 1, flush := .stopped, reexamine := false
        stalled := s.wordAt next != 0 } ∧
      t.bus.cause = (if kind.alarm then s.bus.cause ||| 4#7 else s.bus.cause) ||| 2#7 |||
        (if s.wordAt next = 0 then 0#7 else 8#7) ∧
      (∀ a, 0x2400 ≤ a → (a < next ∨ next + 8 ≤ a) → t.byteAt a = (s.pass l).byteAt a) ∧
      if s.wordAt next = 0 then t.wordAt next = 1 ∧ t.peek (next + 2) 6 = [0xFF, 0xFF, 0xFF, 0xFF, 0, 0xFF]
      else t.peek next 8 = s.peek next 8 := by
  have closed : s.log kind subject tenant detail =
      State.closePage .full ((s.placeEntry (s.entry kind subject tenant detail)).alarmOf kind) :=
    State.submit_last _ open_ last
  have cause := State.alarmOf_cause kind (s.placeEntry (s.entry kind subject tenant detail))
  have journal := State.alarmOf_journal kind (s.placeEntry (s.entry kind subject tenant detail))
  have mem : ((s.placeEntry (s.entry kind subject tenant detail)).alarmOf kind).mem =
      (s.pass (s.entryAccesses (s.entry kind subject tenant detail))).mem := by
    rw [State.alarmOf_mem, State.placeEntry_eq]
  have placed : ∀ c, (c < 0x2400 + 1024 * s.journal.page ∨ 0x2400 + 1024 * s.journal.page + 1024 ≤ c) →
      ((s.placeEntry (s.entry kind subject tenant detail)).alarmOf kind).byteAt c = s.byteAt c := fun c outside => by
    rw [State.byteAt_congr (State.alarmOf_mem _ _), State.byteAt_placeEntry, if_neg (by omega), if_neg (by omega),
      if_neg (by omega)]
  rw [State.placeEntry_bus] at cause
  rw [State.placeEntry_journal] at journal
  generalize (s.placeEntry (s.entry kind subject tenant detail)).alarmOf kind = u at *
  have at_ : u.journal.page = s.journal.page := by rw [journal]
  obtain ⟨record, causes, bytes, taken⟩ := State.closePage_bytes .full (s := u) (at_ ▸ page)
  rw [at_] at record causes bytes taken
  have word : u.wordAt (0x2400 + 1024 * ((s.journal.page + 1) % 32)) =
      s.wordAt (0x2400 + 1024 * ((s.journal.page + 1) % 32)) :=
    State.wordAt_congr (placed _ (by omega)) (placed _ (by omega))
  have peek : u.peek (0x2400 + 1024 * ((s.journal.page + 1) % 32)) 8 =
      s.peek (0x2400 + 1024 * ((s.journal.page + 1) % 32)) 8 := State.peek_congr fun i _ => placed _ (by omega)
  rw [word] at record causes taken
  rw [closed]
  refine ⟨by rw [record, journal], by rw [causes, cause], fun a lo outside => ?_, by rwa [peek] at taken⟩
  rw [bytes a lo outside, State.pass_append]
  exact State.byteAt_congr (State.mem_pass_congr mem _) a

end

/-- R198: the recovery of a stalled journal whose awaited page has been returned, as JOURNAL_RECOVERY makes it. -/
theorem exec_journalRecovery_returned {s : State} (stalled : s.journal.stalled = true) (due : s.journal.reexamine = true)
    (empty : s.wordAt (0x2400 + 1024 * s.journal.page) = 0) : exec .journalRecovery s = .next s.recover := by
  have returned : s.pageState s.journal.page = pageEmpty := empty
  exact congrArg Host.Outcome.next ((if_pos ⟨stalled, due⟩).trans (if_pos returned))

theorem State.takenToRecover_eq (s : State) :
    s.takenToRecover = { s with
      mem := (s.pass (takeAccesses s.journal.page)).mem
      journal := { s.journal with stalled := false, reexamine := false, holdover := [] } } := by
  unfold State.takenToRecover State.takePage
  rw [State.OnlyMem.eq (State.pass_frame (takeAccesses s.journal.page) s)]

/-- R198: the mark of the second event leaves no trace on the recovery. -/
theorem State.recover_congr {s t : State} (b : Bool) (h : t = { s with journal := { s.journal with reexamine := b } }) :
    t.recover = s.recover := by
  subst h
  have taken : State.takenToRecover { s with journal := { s.journal with reexamine := b } } = s.takenToRecover := by
    rw [State.takenToRecover_eq, State.takenToRecover_eq s]
    dsimp only
    rw [State.mem_pass_congr (s := s) (t := { s with journal := { s.journal with reexamine := b } }) rfl]
  rw [State.recover_eq, State.recover_eq, State.recovered, State.recovered, taken]

/-- R198, step 4: an entry submitted to a stalled journal whose awaited page has been returned follows the recovery. -/
theorem State.log_returned (kind : EntryKind) (subject tenant : Option Nat) (detail : List Byte) {s : State}
    (stalled : s.journal.stalled = true) (empty : s.wordAt (0x2400 + 1024 * s.journal.page) = 0)
    (held : s.journal.holdover.length ≤ 8) (page : s.journal.page < 32) :
    ∃ u, exec .journalRecovery { s with journal := { s.journal with reexamine := true } } = .next u ∧
      u.journal.stalled = false ∧ s.log kind subject tenant detail = u.log kind subject tenant detail := by
  obtain ⟨writes, -, journal⟩ := State.recover_writes page held
  refine ⟨s.recover, ?_, writes.open_, ?_⟩
  · rw [← State.recover_congr true rfl]
    exact exec_journalRecovery_returned stalled rfl empty
  · have clock : s.recover.clock = s.clock := by simp
    rw [State.log, State.log, State.submit_returned _ stalled empty, State.submit_open _ writes.open_]
    simp only [State.entry, clock]

/-- R197: an entry submitted to a journal that stays stalled. -/
theorem State.log_waits (kind : EntryKind) (subject tenant : Option Nat) (detail : List Byte) {s : State}
    (stalled : s.journal.stalled = true) (waits : s.wordAt (0x2400 + 1024 * s.journal.page) ≠ 0) :
    s.log kind subject tenant detail = s.holdEntry (s.entry kind subject tenant detail) :=
  State.submit_waits _ stalled waits

/-- Settles O58: by the four places an entry can be submitted to. -/
theorem entriesAreWrittenHeldOrDropped : Obligations.EntriesAreWrittenHeldOrDropped := by
  intro s kind subject tenant detail
  dsimp only
  have only := State.log_eq kind subject tenant detail s
  refine ⟨fun open_ room => ?_, fun open_ last page => ?_, fun stalled empty held page => ?_, fun stalled waits => ?_⟩
  · obtain ⟨cause, journal, count, place, first, bytes, mem⟩ := State.log_room kind subject tenant detail open_ room
    refine ⟨only, cause, journal, count, place, first, bytes, mem, fun k w even => ?_,
      fun k _ => State.entryAccesses_wordAt _ k s⟩
    rw [State.wordAt_of_mem mem]
    exact State.entryAccesses_readsWhole _ s k w even
  · obtain ⟨journal, cause, bytes, next⟩ := State.log_last kind subject tenant detail open_ last page
    obtain ⟨stateLast, full, stands⟩ := State.fullAccesses_last .full s.journal.page
      (s.entryAccesses (s.entry kind subject tenant detail)) s (fun k => State.entryAccesses_wordAt _ k s)
    have journal' : (s.placeEntry (s.entry kind subject tenant detail)).journal.page = s.journal.page := by simp
    have here : ∀ c, 0x2400 ≤ c → (c < 0x2400 + 1024 * ((s.journal.page + 1) % 32) ∨
        0x2400 + 1024 * ((s.journal.page + 1) % 32) + 8 ≤ c) → (s.log kind subject tenant detail).byteAt c =
          if c = 0x2400 + 1024 * s.journal.page then 2 else if c = 0x2400 + 1024 * s.journal.page + 1 then 0
          else if c = 0x2400 + 1024 * s.journal.page + 7 then 0
          else (s.placeEntry (s.entry kind subject tenant detail)).byteAt c := fun c lo outside => by
      have marked := State.byteAt_markFull .full (s.placeEntry (s.entry kind subject tenant detail)) c
      rw [journal'] at marked
      rw [bytes c lo outside, State.pass_append]
      refine (State.byteAt_congr ?_ c).trans marked
      rw [State.markFull_mem, journal']
      exact State.mem_pass_congr (by rw [State.placeEntry_eq]) _
    have placed := State.peek_placeEntry (s.entry kind subject tenant detail) s
    rw [last] at placed
    refine ⟨only, ?_, ?_, ?_, ?_, fun a lo outside next => ?_, ?_, cause, next, stateLast, full, fun b lo hi => ?_⟩
    · rw [State.wordAt_eq, here _ (by omega) (by omega), here _ (by omega) (by omega)]
      simp
    · rw [State.entryCount_eq, here _ (by omega) (by omega), if_neg (by omega), if_neg (by omega), if_neg (by omega),
        State.byteAt_placeEntry, if_pos rfl, last]
      rfl
    · rw [here _ (by omega) (by omega), if_neg (by omega), if_neg (by omega), if_pos rfl]
    · refine Eq.trans (State.peek_congr fun i hi => ?_) placed
      rw [here _ (by omega) (by omega), if_neg (by omega), if_neg (by omega), if_neg (by omega)]
    · rw [here a lo next, if_neg (by omega), if_neg (by omega), if_neg (by omega), State.byteAt_placeEntry,
        if_neg (by omega), if_neg (by omega), if_neg (by omega)]
    · rw [journal]
      simp [bne, beq_eq_decide]
    · exact (stands b lo).trans (bytes b (by omega) (by omega)).symm
  · exact State.log_returned kind subject tenant detail stalled empty held page
  · have waiting := State.log_waits kind subject tenant detail stalled waits
    exact ⟨only, waiting ▸ State.holdEntry_cause _ s, fun a ha => waiting ▸ State.byteAt_holdEntry _ s (by omega),
      waiting ▸ State.holdEntry_journal _ s⟩

/-! ## O59 -/

theorem State.gapCount_eq (s : State) :
    s.gapCount = if s.journal.routineDropped != 0 || s.journal.alarmDropped != 0 then 1 else 0 := by
  by_cases routine : s.journal.routineDropped = 0 <;> by_cases alarm : s.journal.alarmDropped = 0 <;>
    simp [State.gapCount, routine, alarm]

theorem State.flushExpiry_due {s : State} (due : s.journal.flush = .due) (open_ : s.journal.stalled = false) :
    exec .flushTimerExpiry s = .next (s.closePage .flush) :=
  congrArg Host.Outcome.next (if_pos ⟨due, open_⟩)

/-- Settles O59: the flush closes the page, and the recovery writes the holdover and the gap. -/
theorem pagesCloseStallAndRecover : Obligations.PagesCloseStallAndRecover := by
  intro s page
  dsimp only
  refine ⟨fun due open_ => ?_, fun stalled due empty held => ?_, fun stalled due full => ?_, fun idle => ?_⟩
  · have only := State.OnlyJournal.eq (State.closePage_frame .flush s)
    obtain ⟨journal, cause, bytes, next⟩ := State.closePage_bytes .flush page
    obtain ⟨stateLast, full, stands⟩ := State.fullAccesses_last .flush s.journal.page [] s fun k => by simp [State.during]
    rw [List.nil_append] at stateLast full stands
    have here : ∀ c, 0x2400 ≤ c → (c < 0x2400 + 1024 * ((s.journal.page + 1) % 32) ∨
        0x2400 + 1024 * ((s.journal.page + 1) % 32) + 8 ≤ c) → (s.closePage .flush).byteAt c =
          if c = 0x2400 + 1024 * s.journal.page then 2 else if c = 0x2400 + 1024 * s.journal.page + 1 then 0
          else if c = 0x2400 + 1024 * s.journal.page + 7 then 1 else s.byteAt c := fun c lo outside => by
      rw [bytes c lo outside, ← State.byteAt_congr (State.markFull_mem .flush s), State.byteAt_markFull]
      rfl
    refine ⟨_, State.flushExpiry_due due open_, only, ?_, ?_, stateLast, full, fun b lo hi => ?_, fun a lo outside next => ?_, ?_⟩
    · rw [State.wordAt_eq, here _ (by omega) (by omega), here _ (by omega) (by omega)]
      simp
    · rw [here _ (by omega) (by omega), if_neg (by omega), if_neg (by omega), if_pos rfl]
    · rw [stands b lo, bytes b (by omega) (by omega)]
    · rw [here a lo next, if_neg (by omega), if_neg (by omega), if_neg (by omega)]
    · split
      · next taken =>
        rw [if_pos taken] at next cause
        exact ⟨by rw [journal, taken]; rfl, by rw [cause, BitVec.or_zero], next⟩
      · next full =>
        rw [if_neg full] at next cause
        exact ⟨by rw [journal]; simp [full], by rw [cause, BitVec.or_assoc]; rfl, next⟩
  · obtain ⟨writes, -, journal⟩ := State.recover_writes page held
    obtain ⟨filling, places, gap⟩ := State.recover_bytes page held
    have at_ : s.recover.journal.page = s.journal.page := by rw [journal]
    have count := writes.count
    rw [at_] at count
    rw [State.gapCount_eq] at journal count
    refine ⟨_, exec_journalRecovery_returned stalled due empty, State.OnlyJournal.eq (State.recover_frame s), journal,
      filling, count, places, fun some => gap ?_⟩
    simpa [State.NoneDropped, Decidable.imp_iff_not_or] using some
  · have waits : s.pageState s.journal.page ≠ pageEmpty := full
    exact congrArg Host.Outcome.next ((if_pos ⟨stalled, due⟩).trans (if_neg waits))
  · refine congrArg Host.Outcome.next (if_neg fun both => ?_)
    obtain open_ | idle := idle
    · exact absurd (both.1.symm.trans open_) (by decide)
    · exact absurd (both.2.symm.trans idle) (by decide)

/-! ## O60 -/

theorem State.OnlyJournal.eq_bus {s t : State} (h : s.OnlyJournal t) :
    t = { s with mem := t.mem, bus := t.bus, journal := t.journal } := by
  rw [State.OnlyJournal.eq h]

/-- R195: a HOST_MARK is written exactly where the journal is not stalled or its awaited page has been returned. -/
theorem State.writesNow_iff (s : State) :
    s.writesNow = true ↔ s.journal.stalled = false ∨ s.wordAt (0x2400 + 1024 * s.journal.page) = 0 := by
  simp [State.writesNow, State.pageState_eq, pageEmpty]

/-- Settles O60: the entry is submitted and its sequence number, where it has one, answered. -/
theorem journalMarkIsSubmitted : Obligations.JournalMarkIsSubmitted := by
  intro s v serves
  dsimp only
  have slips : (s.log .hostMark (some v.slip) none (bytesOf 2 (v.body 0 2))).slips = s.slips := by simp
  have only := State.OnlyJournal.eq_bus (State.log_frame .hostMark (some v.slip) none (bytesOf 2 (v.body 0 2)) s)
  have served := State.serve_of_serves serves journalMark
  refine ⟨_, congrArg Host.Outcome.next served, ?_, ?_⟩
  · exact congrArg (fun w : State => { w with slips := ((journalMark v s).1.finishService (journalMark v s).2).slips }) only
  · have given : (journalMark v s).2 = .served (.done
        (if s.journal.stalled = false ∨ s.wordAt (0x2400 + 1024 * s.journal.page) = 0 then
          [1] ++ bytesOf 4 ((s.log .hostMark (some v.slip) none (bytesOf 2 (v.body 0 2))).journal.sequence - 1).toNat
        else [0, 0xFF, 0xFF, 0xFF, 0xFF])) := by
      simp only [journalMark, State.writesNow_iff, flagByte]
      rfl
    rw [given]
    exact State.serviceAt_finishService serves.1 slips _

end Sys2Proof.Machine
end

section
/-! Orderly changes: what every operation of the blocks keeps of memory's form (assumption 11), of the journal's page and the
bytes outside it, of the law of the arm state (R92) and of the bounds (R46, R103, R140, R148, R195). One lemma per operation;
the statements about every step follow from them. -/

namespace Sys2Proof.Machine

/-! ## The laws, record by record -/

/-- R92: a unit's arm state agrees with its holder count. -/
abbrev UnitRecord.ArmOk (r : UnitRecord) : Prop :=
  (0 < r.holders → r.arm = .disarmed ∨ r.arm = .intrusion) ∧
    (r.holders = 0 → r.arm = .armed ∨ r.arm = .leftOpen ∨ r.arm = .intrusion)

/-- R103: the bounds of a portal. -/
def Portal.InBounds (r : Portal) : Prop :=
  r.passages.length ≤ 2 ∧ r.faults ≤ 3

/-- R140: the bounds of a car. -/
def Car.InBounds (r : Car) : Prop :=
  r.releases.length ≤ 4 ∧ (r.releases.map (fun e => e.tenant)).Nodup

/-- R195: the bounds of the holdover. -/
abbrev HoldoverOk (held : List Entry) : Prop :=
  held.length ≤ 8 ∧ ∀ e ∈ held, e.kind.alarm = true

theorem State.closePage_holdover (r : CloseReason) (s : State) :
    (s.closePage r).journal.holdover = s.journal.holdover := by
  rw [State.closePage_journal]

theorem State.writeEntry_holdover (e : Entry) (s : State) :
    (s.writeEntry e).journal.holdover = s.journal.holdover := by
  by_cases last : s.entryCount s.journal.page = 62
  · rw [State.writeEntry_last e last, State.closePage_holdover, State.alarmOf_journal, State.placeEntry_journal]
  · rw [State.writeEntry_journal e last]

theorem State.recover_holdover (s : State) : s.recover.journal.holdover = [] := by
  have recovered : s.recovered.journal.holdover = [] :=
    (State.forEach_keeps (fun t => t.journal.holdover) State.writeEntry State.writeEntry_holdover _ _).trans
      (by rw [State.takenToRecover_journal])
  rw [State.recover_eq]
  split
  · exact recovered
  · simp [State.gapTold, State.writeEntry_holdover, recovered]

/-- R195: a submission adds at most an alarm entry to a holdover with room. -/
theorem State.submit_holdover (e : Entry) {s : State} (h : HoldoverOk s.journal.holdover) :
    HoldoverOk (s.submit e).journal.holdover := by
  unfold State.submit
  split
  · rwa [State.writeEntry_holdover]
  · split
    · rw [State.writeEntry_holdover, State.recover_holdover]
      exact ⟨Nat.zero_le 8, nofun⟩
    · rw [State.holdEntry_journal]
      split
      · exact h
      · next alarm =>
        split
        · next room =>
          refine ⟨by simpa using room, fun x hx => ?_⟩
          obtain held | last := List.mem_append.1 hx
          · exact h.2 x held
          · rw [List.mem_singleton.1 last]
            simpa using alarm
        · exact h

/-- The blocks that the laws of memory, of the journal's page, of the arm state and of the bounds speak of. -/
def State.lawful (s : State) :=
  (s.mem, s.journal, s.units, s.reads, s.portals, s.cars, s.nodes)

/-- From `s` to `t` memory keeps its form, the journal its page, the units their law and every block its bounds. -/
structure State.Orderly (s t : State) : Prop where
  form : Memory.wf s.mem → Memory.wf t.mem
  page : s.PageInPlace → t.PageInPlace ∧ s.KeepsMemory t
  arm : s.ArmLaw → t.ArmLaw
  bounds : s.BoundsLaw → t.BoundsLaw

namespace State.Orderly

variable {s t u : State}

theorem refl (s : State) : s.Orderly s :=
  ⟨id, fun place => ⟨place, State.KeepsMemory.refl s⟩, id, id⟩

theorem trans (h : s.Orderly t) (k : t.Orderly u) : s.Orderly u where
  form := k.form ∘ h.form
  page place := ⟨(k.page (h.page place).1).1, (h.page place).2.trans (k.page (h.page place).1).2⟩
  arm := k.arm ∘ h.arm
  bounds := k.bounds ∘ h.bounds

/-! ## Single updates -/

/-- A change that leaves memory, the journal, the units and the bounded tables and lists as they are. -/
theorem same (h : s.Orderly t) (eq : u.lawful = t.lawful) : s.Orderly u := by
  simp only [State.lawful, Prod.mk.injEq] at eq
  obtain ⟨mem, journal, units, reads, portals, cars, nodes⟩ := eq
  refine h.trans ⟨fun wf => mem ▸ wf, fun place =>
    ⟨State.pageInPlace_of_same mem journal place, State.KeepsMemory.of_mem mem⟩, fun law x r => ?_, fun law => ?_⟩
  · rw [State.unit, units]
    exact law x r
  · obtain ⟨waiting, held, portal, car, node⟩ := law
    refine ⟨reads ▸ waiting, journal ▸ held, fun p => ?_, fun c => ?_, fun n r => ?_⟩
    · rw [State.portal, portals]
      exact portal p
    · rw [State.car, cars]
      exact car c
    · rw [State.node, nodes]
      exact node n r

/-- A change of memory and the journal alone. -/
theorem journalled (h : s.Orderly t) (only : t.OnlyJournal u) (form : Memory.wf t.mem → Memory.wf u.mem)
    (page : t.PageInPlace → u.PageInPlace ∧ t.KeepsMemory u)
    (held : HoldoverOk t.journal.holdover → HoldoverOk u.journal.holdover) : s.Orderly u := by
  have eq := State.OnlyJournal.eq only
  generalize u.mem = m, u.journal = j, u.bus.cause = b at *
  subst eq
  exact h.trans ⟨form, page, id, fun ⟨waiting, entries, rest⟩ => ⟨waiting, held entries, rest⟩⟩

theorem setUnit {x : Nat} {r : UnitRecord} (h : s.Orderly t) (ok : t.ArmLaw → r.ArmOk) : s.Orderly (t.setUnit x r) :=
  h.trans ⟨id, fun place => ⟨place, State.KeepsMemory.refl t⟩, fun law y r' stands => by
    by_cases here : y = x
    · subst here
      rw [State.unit_setUnit_self] at stands
      exact Option.some.inj stands ▸ ok law
    · rw [State.unit_setUnit_ne here] at stands
      exact law y r' stands, id⟩

theorem updUnit {x : Nat} {f : UnitRecord → UnitRecord} (h : s.Orderly t)
    (ok : ∀ r : UnitRecord, r.ArmOk → (f r).ArmOk) : s.Orderly (t.updUnit x f) := by
  unfold State.updUnit
  split
  · next r stands => exact h.setUnit fun law => ok r (law x r stands)
  · exact h

theorem setPortal {p : Nat} {r : Portal} (h : s.Orderly t) (ok : t.BoundsLaw → r.InBounds) :
    s.Orderly (t.setPortal p r) :=
  h.trans ⟨id, fun place => ⟨place, State.KeepsMemory.refl t⟩, id, fun law => by
    obtain ⟨waiting, held, portal, rest⟩ := id law
    refine ⟨waiting, held, fun q => ?_, rest⟩
    by_cases here : q = p
    · rw [here, State.portal_setPortal_self]
      exact ok law
    · rw [State.portal_setPortal_ne here]
      exact portal q⟩

theorem updPortal {p : Nat} {f : Portal → Portal} (h : s.Orderly t)
    (ok : ∀ r : Portal, r.InBounds → (f r).InBounds) : s.Orderly (t.updPortal p f) :=
  h.setPortal fun law => ok _ (law.2.2.1 p)

theorem setCar {c : Nat} {r : Car} (h : s.Orderly t) (ok : t.BoundsLaw → r.InBounds) : s.Orderly (t.setCar c r) :=
  h.trans ⟨id, fun place => ⟨place, State.KeepsMemory.refl t⟩, id, fun law => by
    obtain ⟨waiting, held, portal, car, node⟩ := id law
    refine ⟨waiting, held, portal, fun d => ?_, node⟩
    by_cases here : d = c
    · rw [here, State.car_setCar_self]
      exact ok law
    · rw [State.car_setCar_ne here]
      exact car d⟩

theorem updCar {c : Nat} {f : Car → Car} (h : s.Orderly t)
    (ok : ∀ r : Car, r.InBounds → (f r).InBounds) : s.Orderly (t.updCar c f) :=
  h.setCar fun law => ok _ (law.2.2.2.1 c)

theorem setNode {n : NodeId} {r : Node} (h : s.Orderly t) (ok : t.BoundsLaw → r.faults ≤ 15) :
    s.Orderly (t.setNode n r) :=
  h.trans ⟨id, fun place => ⟨place, State.KeepsMemory.refl t⟩, id, fun law => by
    obtain ⟨waiting, held, portal, car, node⟩ := id law
    refine ⟨waiting, held, portal, car, fun m r' stands => ?_⟩
    by_cases here : m.code = n.code
    · have self : (t.setNode n r).node m = some r := by
        rw [State.node, here]
        exact State.node_setNode_self n r t
      rw [self] at stands
      exact Option.some.inj stands ▸ ok law
    · rw [State.node_setNode_ne here] at stands
      exact node m r' stands⟩

/-- A node record changed on the spot, its fault counter within its bound. -/
theorem setNodeOf {n : NodeId} {r r' : Node} (h : s.Orderly t) (stands : t.node n = some r)
    (ok : r.faults ≤ 15 → r'.faults ≤ 15) : s.Orderly (t.setNode n r') :=
  h.setNode fun law => ok (law.2.2.2.2 n r stands)

theorem updNode {n : NodeId} {f : Node → Node} (h : s.Orderly t)
    (ok : ∀ r : Node, r.faults ≤ 15 → (f r).faults ≤ 15) : s.Orderly (t.updNode n f) := by
  unfold State.updNode
  split
  · next r stands => exact h.setNodeOf stands (ok r)
  · exact h

theorem updTenant {i : Nat} {f : Tenant → Tenant} (h : s.Orderly t) : s.Orderly (t.updTenant i f) := by
  unfold State.updTenant
  split
  · exact h.same (by rfl)
  · exact h

theorem updZone {z : Nat} {f : Zone → Zone} (h : s.Orderly t) : s.Orderly (t.updZone z f) := by
  unfold State.updZone
  split
  · exact h.same (by rfl)
  · exact h

theorem forEach {α : Type} {f : α → State → State} {xs : List α} (h : s.Orderly t)
    (step : ∀ x u, s.Orderly u → s.Orderly (f x u)) : s.Orderly (t.forEach xs f) :=
  State.forEach_invariant (State.Orderly s) f step xs t h

/-! ## The mirror and the journal -/

theorem mirror {a : Nat} {v : List Byte} (h : s.Orderly t) (lo : 24 ≤ a) (hi : a + v.length ≤ 39) :
    s.Orderly (t.mirror a v) := by
  refine h.journalled (by simp [State.OnlyJournal]) (Memory.wf_mirror a v) (fun place => ?_) (fun held => by simpa using held)
  have keeps := State.mirror_keepsMemory lo hi t
  refine ⟨?_, keeps⟩
  obtain ⟨page, count, held⟩ := place
  have journal : (t.mirror a v).journal = t.journal := by simp
  refine ⟨journal ▸ page, fun open_ => ?_, journal ▸ held⟩
  rw [journal] at open_ ⊢
  rw [State.entryCount_eq, State.byteAt_mirror_outside (by omega) (by omega)]
  exact count open_

theorem mirrorRun (h : s.Orderly t) : s.Orderly t.mirrorRun := h.mirror (by omega) (by simp)
theorem mirrorMode (h : s.Orderly t) : s.Orderly t.mirrorMode := h.mirror (by omega) (by simp)
theorem mirrorClock (h : s.Orderly t) : s.Orderly t.mirrorClock := h.mirror (by omega) (by simp [flagByte])
theorem mirrorVisits (h : s.Orderly t) : s.Orderly t.mirrorVisits := h.mirror (by omega) (by simp)

theorem log {kind : EntryKind} {subject tenant : Option Nat} {detail : List Byte} (h : s.Orderly t) :
    s.Orderly (t.log kind subject tenant detail) :=
  h.journalled (State.log_frame kind subject tenant detail t) (Memory.wf_log kind subject tenant detail) (State.log_pageInPlace kind subject tenant detail)
    (State.submit_holdover _)

theorem flushExpiry (h : s.Orderly t) : s.Orderly t.flushExpiry := by
  refine h.journalled (State.flushExpiry_frame t) (fun wf => ?_) (fun place => ?_) (fun held => ?_) <;>
    unfold State.flushExpiry <;> split
  · exact Memory.wf_closePage _ wf
  · exact wf
  · exact ⟨State.closePage_pageInPlace _ place.2.2, State.closePage_keepsMemory _ place.1⟩
  · exact ⟨place, State.KeepsMemory.refl t⟩
  · rwa [State.closePage_holdover]
  · exact held

/-! ## The unit monitor -/

theorem logArmed {x : Nat} {tenant : Option Nat} {reason : ArmReason} {flag : Option SeenFlag} (h : s.Orderly t) :
    s.Orderly (t.logArmed x tenant reason flag) := h.log

end State.Orderly

/-- A record written twice stands as it was written last. -/
theorem Table.insert_insert {α : Type} (k : Nat) (v w : α) (t : Table α) :
    Table.insert k v (Table.insert k w t) = Table.insert k v t := by
  induction t with
  | nil => simp [Table.insert]
  | cons e t ih =>
    obtain ⟨j, x⟩ := e
    by_cases lt : k < j
    · simp [Table.insert, lt]
    · by_cases eq : k = j
      · simp [Table.insert, eq]
      · simp [Table.insert, lt, eq, ih]

theorem State.setUnit_setUnit (x : Nat) (r r' : UnitRecord) (s : State) :
    (s.setUnit x r').setUnit x r = s.setUnit x r := by
  simp [State.setUnit, Table.insert_insert]

/-- R91, R92: one change of a holder count writes the unit's record once, with an arm state that agrees with the count. -/
theorem State.setHolders_cases (x n : Nat) (tenant : Option Nat) (s : State) :
    s.setHolders x n tenant = s ∨ ∃ r : UnitRecord, (s.ArmLaw → r.ArmOk) ∧
      (s.setHolders x n tenant = s.setUnit x r ∨
        ∃ kind detail, s.setHolders x n tenant = (s.setUnit x r).log kind (some x) tenant detail) := by
  unfold State.setHolders
  split
  · exact .inl rfl
  · next r stands =>
    dsimp only
    right
    split
    · next gained =>
      simp only [State.holdBegins, State.unit_setUnit_self, State.setUnit_setUnit]
      cases arm : r.arm with
      | armed | leftOpen => exact ⟨_, fun _ => by simp [UnitRecord.ArmOk, gained.2], .inr ⟨_, _, rfl⟩⟩
      | intrusion => exact ⟨_, fun _ => by simp [UnitRecord.ArmOk, gained.2], .inr ⟨_, _, rfl⟩⟩
      | disarmed => exact ⟨_, fun law => absurd ((law x r stands).2 gained.1) (by simp [arm]), .inl rfl⟩
    · split
      · next lost =>
        simp only [State.holdEnds, State.unit_setUnit_self, State.setUnit_setUnit, State.logArmed]
        cases arm : r.arm with
        | disarmed =>
          cases door : r.door with
          | opened => exact ⟨_, fun _ => by simp [UnitRecord.ArmOk, lost.2], .inr ⟨_, _, rfl⟩⟩
          | closed | unknown => exact ⟨_, fun _ => by simp [UnitRecord.ArmOk, lost.2], .inr ⟨_, _, rfl⟩⟩
        | armed | leftOpen | intrusion => exact ⟨_, fun _ => by simp [UnitRecord.ArmOk, lost.2], .inl rfl⟩
      · next gained lost =>
        refine ⟨_, fun law => ?_, .inl rfl⟩
        have ok := law x r stands
        by_cases zero : r.holders = 0
        · simp_all [UnitRecord.ArmOk]
        · simp_all [UnitRecord.ArmOk, Nat.pos_iff_ne_zero]

namespace State.Orderly

variable {s t u : State}

theorem setHolders {x n : Nat} {tenant : Option Nat} (h : s.Orderly t) : s.Orderly (t.setHolders x n tenant) := by
  obtain same | ⟨r, ok, silent | ⟨kind, detail, told⟩⟩ := State.setHolders_cases x n tenant t
  · rwa [same]
  · rw [silent]
    exact h.setUnit ok
  · rw [told]
    exact (h.setUnit ok).log

theorem gainHold {x tenant : Nat} (h : s.Orderly t) : s.Orderly (t.gainHold x tenant) := by
  unfold State.gainHold
  split
  · exact h
  · exact h.setHolders

theorem loseHold {x tenant : Nat} (h : s.Orderly t) : s.Orderly (t.loseHold x tenant) := by
  unfold State.loseHold
  split
  · exact h
  · exact h.setHolders

theorem contactReport {x : Nat} {opened : Bool} {how : ReplyStanding} (h : s.Orderly t) :
    s.Orderly (t.contactReport x opened how) := by
  unfold State.contactReport
  split
  · exact h
  · next r stands =>
    have reported : ∀ door, s.Orderly (t.setUnit x { r with door := door, fresh := false }) :=
      fun _ => h.setUnit fun law => law x r stands
    cases opened with
    | true =>
      simp only [if_true]
      split
      · exact h
      · cases arm : r.arm with
        | armed => exact (h.setUnit fun _ => by simp [UnitRecord.ArmOk]).log
        | disarmed | leftOpen | intrusion => simpa only [arm] using reported .opened
    | false =>
      simp only [Bool.false_eq_true, if_false]
      split
      · exact h
      · cases arm : r.arm with
        | leftOpen => exact (h.setUnit fun law => by have ok := law x r stands; simp_all [UnitRecord.ArmOk]).logArmed
        | disarmed | armed | intrusion => simpa only [arm] using reported .closed

theorem tamperReport {n : NodeId} {tamper : Bool} {how : ReplyStanding} (h : s.Orderly t) :
    s.Orderly (t.tamperReport n tamper how) := by
  unfold State.tamperReport
  split
  · exact h
  · next r stands =>
    split
    · exact h
    · dsimp only
      split
      · exact (h.setNodeOf stands (by exact id)).log
      · exact (h.setNodeOf stands (by exact id)).log

theorem inputReport {n : NodeId} {inputs : Nat} {how : ReplyStanding} {i : Nat} (h : s.Orderly t) :
    s.Orderly (t.inputReport n inputs how i) := by
  unfold State.inputReport
  split
  · exact h.contactReport
  · exact h

theorem unitReport {n : NodeId} {inputs : Nat} {tamper : Bool} {how : ReplyStanding} (h : s.Orderly t) :
    s.Orderly (t.unitReport n inputs tamper how) :=
  (h.forEach fun _ _ hu => hu.inputReport).tamperReport

/-- Every unit changed by a function that keeps the law of the arm state. -/
theorem mapUnits {f : UnitRecord → UnitRecord} (h : s.Orderly t) (ok : ∀ r : UnitRecord, r.ArmOk → (f r).ArmOk) :
    s.Orderly { t with units := Table.mapValues f t.units } :=
  h.trans ⟨id, fun place => ⟨place, State.KeepsMemory.refl t⟩, fun law x r stands => by
    rw [State.unit, Table.find_mapValues] at stands
    obtain ⟨r', stands', rfl⟩ := Option.map_eq_some_iff.1 stands
    exact ok r' (law x r' stands'), id⟩

theorem contactsUnknown {n : NodeId} (h : s.Orderly t) : s.Orderly (t.contactsUnknown n) :=
  h.mapUnits fun r ok => by split <;> exact ok

theorem contactChange {x : Nat} {contact : Option Contact} (h : s.Orderly t) : s.Orderly (t.contactChange x contact) := by
  unfold State.contactChange
  split
  · exact h
  · next r stands =>
    dsimp only
    split
    · next left => exact (h.setUnit fun law => by have ok := law x r stands; simp_all [UnitRecord.ArmOk]).logArmed
    · exact h.setUnit fun law => law x r stands

/-! ## The visit register -/

theorem enterZone {z party : Nat} (h : s.Orderly t) : s.Orderly (t.enterZone z party) := h.updZone

theorem leaveZone {z party : Nat} (h : s.Orderly t) : s.Orderly (t.leaveZone z party) := h.updZone

theorem updVisit {tenant : Nat} {f : Visit → Visit} (h : s.Orderly t) : s.Orderly (t.updVisit tenant f) := h.same (by rfl)

theorem shiftVisits {old new : Nat} (h : s.Orderly t) : s.Orderly (t.shiftVisits old new) := h.same (by rfl)

theorem reserve {g : Passage} (h : s.Orderly t) : s.Orderly (t.reserve g) := by
  unfold State.reserve
  split
  · exact h.updZone.same (by rfl)
  · exact h.updZone
  · exact h

theorem unreserve {g : Passage} (h : s.Orderly t) : s.Orderly (t.unreserve g) := by
  unfold State.unreserve
  split
  · exact h.updZone.same (by rfl)
  · exact h.updZone
  · exact h

theorem gainHolds {tenant z : Nat} (h : s.Orderly t) : s.Orderly (t.gainHolds tenant z) :=
  h.forEach fun _ _ hu => hu.gainHold

theorem loseHolds {tenant z : Nat} (h : s.Orderly t) : s.Orderly (t.loseHolds tenant z) :=
  h.forEach fun _ _ hu => hu.loseHold

theorem endVisit {tenant : Nat} {reason : EndReason} (h : s.Orderly t) : s.Orderly (t.endVisit tenant reason) := by
  unfold State.endVisit
  split
  · exact h
  · dsimp only
    split
    · exact (h.leaveZone.loseHolds.same (by rfl)).updTenant.log.mirrorVisits
    · exact (h.leaveZone.same (by rfl)).updTenant.log.mirrorVisits

theorem applyCreate {g : Passage} (h : s.Orderly t) : s.Orderly (t.applyCreate g) := by
  unfold State.applyCreate
  split
  · exact h
  · dsimp only
    split
    · exact (h.same (by rfl)).updTenant.enterZone.gainHolds.mirrorVisits
    · exact (h.same (by rfl)).updTenant.enterZone.mirrorVisits

theorem applyMove {g : Passage} (h : s.Orderly t) : s.Orderly (t.applyMove g) := by
  have moved : ∀ v : Visit, s.Orderly (State.updVisit g.tenant (fun w => { w with zone := g.target })
      ((t.leaveZone v.zone v.party).enterZone g.target v.party)) := fun v => h.leaveZone.enterZone.updVisit
  unfold State.applyMove
  split
  · exact h
  · dsimp only
    split <;> split
    · exact (moved _).loseHolds.gainHolds
    · exact moved _
    · exact (moved _).loseHolds.gainHolds.updVisit
    · exact (moved _).updVisit

theorem completePassage {g : Passage} (h : s.Orderly t) : s.Orderly (t.completePassage g) := by
  unfold State.completePassage
  split
  · exact h.applyCreate
  · exact h.applyMove
  · exact h.endVisit

theorem minuteEntries {v : Visit} (h : s.Orderly t) : s.Orderly (t.minuteEntries v) := by
  unfold State.minuteEntries
  dsimp only
  split <;> split
  · exact h.log.log
  · exact h.log
  · exact h.log
  · exact h

theorem visitMinute (h : s.Orderly t) : s.Orderly t.visitMinute :=
  State.Orderly.forEach (h.same (by rfl)) fun _ _ hu => hu.minuteEntries

end State.Orderly

end Sys2Proof.Machine
end

section
/-! Orderly changes at the portals and the lift cars. -/

namespace Sys2Proof.Machine.State.Orderly

variable {s t u : State}

/-! ## Portals -/

theorem handLock {p : Nat} (h : s.Orderly t) : s.Orderly (t.handLock p) := by
  unfold State.handLock
  split
  · exact h
  · exact (h.updPortal (by exact fun _ => id)).updNode (by exact fun _ => id)

theorem releaseLockNode {n : NodeId} (h : s.Orderly t) : s.Orderly (t.releaseLockNode n) := h.updNode (by exact fun _ => id)

theorem holdUnlocked {p : Nat} (h : s.Orderly t) : s.Orderly (t.holdUnlocked p) := (h.updPortal (by exact fun _ => id)).log.handLock

theorem applyConfig {p : Nat} {c : PortalConfig} (h : s.Orderly t) : s.Orderly (t.applyConfig p c) := by
  have put : s.Orderly (t.updPortal p fun r => { r with config := some c, deferred := none, window := t.windowOf c }) :=
    h.updPortal (by exact fun _ => id)
  unfold State.applyConfig
  dsimp only
  split
  · split
    · exact (put.releaseLockNode.updPortal (by exact fun _ => id)).handLock
    · exact (put.updPortal (by exact fun _ => id)).handLock
  · split
    · exact put.holdUnlocked
    · exact put.handLock

theorem applyDeferred {p : Nat} (h : s.Orderly t) : s.Orderly (t.applyDeferred p) := by
  unfold State.applyDeferred
  split
  · exact h.applyConfig
  · exact h.handLock

theorem enterSecure {p : Nat} (h : s.Orderly t) : s.Orderly (t.enterSecure p) := (h.updPortal (by exact fun _ => id)).applyDeferred

theorem relock {p : Nat} (h : s.Orderly t) : s.Orderly (t.relock p) := by
  unfold State.relock
  dsimp only
  split
  · exact (h.log.updPortal (by exact fun _ => id)).handLock
  · exact (h.log.updPortal (by exact fun _ => id)).handLock
  · exact h.log.enterSecure

theorem evaluateSources {p : Nat} (h : s.Orderly t) : s.Orderly (t.evaluateSources p) := by
  unfold State.evaluateSources
  dsimp only
  split
  case h_6 =>
    split
    · exact h.relock
    · exact h.handLock
  case h_7 | h_8 | h_9 | h_10 | h_11 => exact h.handLock
  all_goals
    split
    · exact h.holdUnlocked
    · exact h.handLock

theorem refreshWindow {p : Nat} (h : s.Orderly t) : s.Orderly (t.refreshWindow p) := by
  unfold State.refreshWindow
  split
  · exact h
  · split
    · exact h
    · exact (h.updPortal (by exact fun _ => id)).evaluateSources

theorem refreshWindows (h : s.Orderly t) : s.Orderly t.refreshWindows := h.forEach fun _ _ hu => hu.refreshWindow

theorem evaluateAll (h : s.Orderly t) : s.Orderly t.evaluateAll := h.forEach fun _ _ hu => hu.evaluateSources

theorem unlist {p : Nat} {g : Passage} (h : s.Orderly t) : s.Orderly (t.unlist p g) :=
  (h.updPortal (by exact fun _ ok => ⟨(List.length_filter_le _ _).trans ok.1, ok.2⟩)).updTenant

theorem cancelPassage {p : Nat} {reason : CancelReason} {g : Passage} (h : s.Orderly t) :
    s.Orderly (t.cancelPassage p reason g) := h.unlist.unreserve.log

theorem cancelAll {p : Nat} {reason : CancelReason} (h : s.Orderly t) : s.Orderly (t.cancelAll p reason) :=
  h.forEach fun _ _ hu => hu.cancelPassage

theorem cancelTransit {tenant : Nat} {reason : CancelReason} (h : s.Orderly t) :
    s.Orderly (t.cancelTransit tenant reason) := by
  unfold State.cancelTransit
  split
  · exact h
  · split
    · exact h.cancelPassage
    · exact h.updTenant

theorem logPassage {p : Nat} {atOnce : Bool} {g : Passage} (h : s.Orderly t) : s.Orderly (t.logPassage p atOnce g) := h.log

theorem applyAtOnce {p : Nat} {g : Passage} (h : s.Orderly t) : s.Orderly (t.applyAtOnce p g) :=
  h.logPassage.completePassage

theorem applyPending {p : Nat} {g : Passage} (h : s.Orderly t) : s.Orderly (t.applyPending p g) :=
  h.unlist.unreserve.logPassage.completePassage

theorem applyAll {p : Nat} (h : s.Orderly t) : s.Orderly (t.applyAll p) := h.forEach fun _ _ hu => hu.applyPending

/-- R57, R111: a passage joins a list that has room for it. -/
theorem appendPassage {p : Nat} {g : Passage} (h : s.Orderly t) (room : (t.portal p).passages.length < 2) :
    s.Orderly (t.appendPassage p g) := by
  have joined : s.Orderly (t.updPortal p fun r => { r with passages := r.passages ++ [g] }.startPassage) :=
    h.setPortal fun law => ⟨by simpa [Portal.startPassage] using room, (law.2.2.1 p).2⟩
  exact joined.updTenant.reserve

theorem placePassage {p : Nat} {g : Passage} (h : s.Orderly t) (room : (t.portal p).passages.length < 2) :
    s.Orderly (t.placePassage p g) := by
  have entered : ((t.updPortal p fun r => r.enter .released).portal p).passages.length < 2 := by
    rw [State.portal_updPortal_self]
    exact room
  unfold State.placePassage
  dsimp only
  split
  · exact ((h.updPortal (by exact fun _ => id)).appendPassage entered).handLock
  · exact h.appendPassage room
  · split
    · exact h.applyAtOnce
    · exact h.appendPassage room
  · exact (h.updPortal (by exact fun _ => id)).applyAtOnce
  · exact h.applyAtOnce
  · exact h.applyAtOnce
  all_goals exact h

theorem repeatGrant {p : Nat} (h : s.Orderly t) : s.Orderly (t.repeatGrant p) := h.updPortal (by exact fun _ => id)

theorem passageExpiry {p : Nat} (h : s.Orderly t) : s.Orderly (t.passageExpiry p) := by
  unfold State.passageExpiry
  split
  · dsimp only
    split
    · exact (h.updPortal (by exact fun _ => id)).cancelAll.enterSecure
    · exact (h.updPortal (by exact fun _ => id)).cancelAll
  · exact h

theorem holdExpiry {p : Nat} (h : s.Orderly t) : s.Orderly (t.holdExpiry p) := by
  unfold State.holdExpiry
  dsimp only
  split
  · exact (h.updPortal (by exact fun _ => id)).log.handLock
  · exact h

theorem doorOpens {p : Nat} (h : s.Orderly t) : s.Orderly (t.doorOpens p) := by
  unfold State.doorOpens
  dsimp only
  split
  · exact (h.updPortal (by exact fun _ => id)).applyAll.handLock
  · exact (h.updPortal (by exact fun _ => id)).log.handLock
  · exact (h.updPortal (by exact fun _ => id)).applyAll
  · exact h.log
  · exact h.log
  all_goals exact h

theorem doorCloses {p : Nat} (h : s.Orderly t) : s.Orderly (t.doorCloses p) := by
  unfold State.doorCloses
  dsimp only
  split
  · exact (h.updPortal (by exact fun _ => id)).log.enterSecure
  · exact (h.updPortal (by exact fun _ => id)).log.enterSecure
  · exact (h.updPortal (by exact fun _ => id)).log.enterSecure
  all_goals exact h.updPortal (by exact fun _ => id)

theorem doorReport {p : Nat} {opened : Bool} (h : s.Orderly t) : s.Orderly (t.doorReport p opened) := by
  unfold State.doorReport
  cases opened <;> simp only [if_true, Bool.false_eq_true, if_false] <;> split
  · exact h
  · exact (h.updPortal (by exact fun _ => id)).doorCloses
  · exact h
  · exact (h.updPortal (by exact fun _ => id)).doorOpens

theorem egressPress {p : Nat} (h : s.Orderly t) : s.Orderly (t.egressPress p) := by
  unfold State.egressPress
  split
  · exact (h.updPortal (by exact fun _ => id)).log.handLock
  · exact h.updPortal (by exact fun _ => id)
  · exact h.updPortal (by exact fun _ => id)
  all_goals exact h

theorem rexReport {p rex : Nat} (h : s.Orderly t) : s.Orderly (t.rexReport p rex) := by
  unfold State.rexReport
  split
  · exact h
  · exact (h.updPortal (by exact fun _ => id)).egressPress

theorem logUnsecured {p : Nat} (h : s.Orderly t) : s.Orderly (t.logUnsecured p) := by
  unfold State.logUnsecured
  split
  · exact h.log
  · exact h

theorem shortFailure {p : Nat} (h : s.Orderly t) : s.Orderly (t.shortFailure p) := by
  unfold State.shortFailure
  exact (h.cancelAll.updPortal (by exact fun _ ok => ⟨ok.1, Nat.min_le_left _ _⟩)).log.logUnsecured.handLock

theorem openLoadFailure {p : Nat} (h : s.Orderly t) : s.Orderly (t.openLoadFailure p) := by
  unfold State.openLoadFailure
  exact (h.cancelAll.updPortal (by exact fun _ ok => ⟨ok.1, le_rfl⟩)).log.logUnsecured.handLock

theorem probeComplete {p : Nat} (h : s.Orderly t) : s.Orderly (t.probeComplete p) := by
  unfold State.probeComplete
  exact (h.updPortal (by exact fun _ ok => ⟨ok.1, Nat.zero_le 3⟩)).log

theorem driverReport {p : Nat} {d : Driver} (h : s.Orderly t) : s.Orderly (t.driverReport p d) := by
  unfold State.driverReport
  dsimp only
  split <;> split
  · exact h.shortFailure
  · exact h
  · exact h.openLoadFailure
  · exact h
  · exact h.probeComplete
  · exact h

theorem cooldownExpiry {p : Nat} (h : s.Orderly t) : s.Orderly (t.cooldownExpiry p) := by
  unfold State.cooldownExpiry
  dsimp only
  split
  · split
    · exact ((h.updPortal (by exact fun _ => id)).updPortal (by exact fun _ => id)).log.handLock
    · split
      · exact ((h.updPortal (by exact fun _ => id)).updPortal (by exact fun _ => id)).holdUnlocked
      · split
        · exact (((h.updPortal (by exact fun _ => id)).updPortal (by exact fun _ => id)).updPortal (by exact fun _ => id)).handLock
        · split
          · exact (((h.updPortal (by exact fun _ => id)).updPortal (by exact fun _ => id)).updPortal (by exact fun _ => id)).log.handLock
          · exact ((h.updPortal (by exact fun _ => id)).updPortal (by exact fun _ => id)).enterSecure
  · exact h

theorem probeExpiry {p : Nat} (h : s.Orderly t) : s.Orderly (t.probeExpiry p) := by
  unfold State.probeExpiry
  split
  · exact h.updPortal (by exact fun _ => id)
  · exact h

theorem losePortal {p : Nat} {st : PortalState} {reason : CancelReason} (h : s.Orderly t) :
    s.Orderly (t.losePortal p st reason) := by
  unfold State.losePortal
  dsimp only
  split
  · exact (h.cancelAll.updPortal (by exact fun _ => id)).log
  · exact h.cancelAll.updPortal (by exact fun _ => id)

theorem portalOffline {p : Nat} (h : s.Orderly t) : s.Orderly (t.portalOffline p) := by
  unfold State.portalOffline
  split
  · exact h
  · exact h
  · exact h.losePortal.handLock

theorem portalUnknown {p : Nat} (h : s.Orderly t) : s.Orderly (t.portalUnknown p) := by
  unfold State.portalUnknown
  split
  · exact h
  · exact h.losePortal.applyDeferred

theorem portalReturn {p : Nat} {opened : Bool} {rex : Nat} {d : Driver} (h : s.Orderly t) :
    s.Orderly (t.portalReturn p opened rex d) := by
  have reported : s.Orderly (t.updPortal p fun r =>
      { r with door := if opened then .opened else .closed, rex := some rex }) := h.updPortal (by exact fun _ => id)
  unfold State.portalReturn
  dsimp only
  generalize t.updPortal p _ = w at *
  split
  · exact (reported.updPortal (by exact fun _ => id)).handLock
  · split
    · exact reported.openLoadFailure
    · split
      · exact reported.shortFailure
      · split
        · exact reported.holdUnlocked
        · split
          · exact reported.enterSecure
          · exact (reported.updPortal (by exact fun _ => id)).log.handLock

theorem portalStatus {p : Nat} {opened : Bool} {rex : Nat} {d : Driver} (h : s.Orderly t) :
    s.Orderly (t.portalStatus p opened rex d) := by
  unfold State.portalStatus
  split
  · exact h
  · exact h.portalReturn
  · exact h.portalReturn
  · exact h.driverReport.doorReport.rexReport

theorem resetPortal {p : Nat} (h : s.Orderly t) : s.Orderly (t.resetPortal p) := by
  unfold State.resetPortal
  dsimp only
  split
  · exact h
  · split
    · exact (h.releaseLockNode.updPortal (by exact fun _ _ => ⟨Nat.zero_le 2, Nat.zero_le 3⟩)).handLock
    · exact (h.updPortal (by exact fun _ _ => ⟨Nat.zero_le 2, Nat.zero_le 3⟩)).handLock

theorem setHostHold {p : Nat} {hold : Bool} (h : s.Orderly t) : s.Orderly (t.setHostHold p hold) :=
  (h.updPortal (by exact fun _ => id)).evaluateSources

theorem resetDriver {p : Nat} (h : s.Orderly t) : s.Orderly (t.resetDriver p) := by
  have logged : ∀ detail, s.Orderly (State.log .portalReset (some p) none detail (t.updPortal p fun r =>
      { r with faults := 0, probePending := false, probe := .stopped, probeElapsed := false })) :=
    fun _ => (h.updPortal (by exact fun _ ok => ⟨ok.1, Nat.zero_le 3⟩)).log
  unfold State.resetDriver
  dsimp only
  split
  · exact (logged _).holdUnlocked
  · exact ((logged _).updPortal (by exact fun _ => id)).handLock
  · exact (logged _).enterSecure

/-! ## Lift cars -/

theorem handFloors {c : Nat} (h : s.Orderly t) : s.Orderly (t.handFloors c) := by
  unfold State.handFloors
  split
  · exact h
  · exact h.updNode (by exact fun _ => id)

theorem releaseCarNode {n : NodeId} (h : s.Orderly t) : s.Orderly (t.releaseCarNode n) := h.updNode (by exact fun _ => id)

theorem applyCar {c : Nat} {g : CarConfig} (h : s.Orderly t) : s.Orderly (t.applyCar c g) := by
  unfold State.applyCar
  dsimp only
  split
  · split
    · exact (h.updCar (by exact fun _ => id)).handFloors
    · exact ((h.updCar (by exact fun _ => id)).releaseCarNode.updCar (by exact fun _ => id)).handFloors
  · exact (h.updCar (by exact fun _ => id)).handFloors

theorem settleCar {c : Nat} (h : s.Orderly t) : s.Orderly (t.settleCar c) := by
  unfold State.settleCar
  split
  · split
    · exact h.applyCar
    · exact h.handFloors
  · exact h.handFloors

theorem logRelease {c : Nat} {reason : ReleaseReason} {e : Release} (h : s.Orderly t) :
    s.Orderly (t.logRelease c reason e) := h.log

theorem removeRelease {c tenant : Nat} {reason : ReleaseReason} (h : s.Orderly t) :
    s.Orderly (t.removeRelease c tenant reason) := by
  unfold State.removeRelease
  split
  · exact h
  · exact (h.updCar (by exact fun _ ok => ⟨(List.length_filter_le _ _).trans ok.1,
      ok.2.sublist (List.filter_sublist.map _)⟩)).logRelease.settleCar

/-- R139: an empty release list is within its bounds. -/
theorem car_empty {r : Car} (empty : r.releases = []) : r.InBounds := by
  simp [Car.InBounds, empty]

theorem emptyReleases {c : Nat} {reason : ReleaseReason} (h : s.Orderly t) :
    s.Orderly (t.emptyReleases c reason) :=
  ((h.updCar (by exact fun _ _ => car_empty rfl)).forEach fun _ _ hu => hu.logRelease).settleCar

/-- R138, R140: a release list that takes a new entry behind entries of other tenants stays within its bounds. -/
theorem car_appended {r : Car} {kept : List Release} {new : Release} (releases : r.releases = kept ++ [new])
    (room : kept.length < 4) (nodup : (kept.map (fun e => e.tenant)).Nodup)
    (fresh : new.tenant ∉ kept.map (fun e => e.tenant)) : r.InBounds := by
  refine ⟨by simpa [releases] using room, ?_⟩
  rw [releases, List.map_append, List.map_singleton, List.nodup_append]
  exact ⟨nodup, List.nodup_singleton _, fun x hx y hy same => fresh (List.mem_singleton.1 hy ▸ same ▸ hx)⟩

theorem placeRelease {c tenant : Nat} {floors : Word} (h : s.Orderly t) :
    s.Orderly (t.placeRelease c tenant floors) := by
  unfold State.placeRelease
  dsimp only
  split
  · next own =>
    refine (h.setCar fun law => ?_).handFloors
    obtain ⟨bound, nodup⟩ := law.2.2.2.1 c
    obtain ⟨e, mem, mine⟩ := List.any_eq_true.1 own
    refine car_appended rfl ?_ (nodup.sublist (List.filter_sublist.map _)) (by simp)
    have shorter : ((t.car c).releases.filter fun e => e.tenant != tenant).length < (t.car c).releases.length :=
      List.length_filter_lt_length_iff_exists.2 ⟨e, mem, by simpa using mine⟩
    omega
  · next others =>
    have fresh : tenant ∉ (t.car c).releases.map (fun e => e.tenant) := by
      simpa [List.any_eq_true] using others
    split
    · next full =>
      have placed : s.Orderly (t.updCar c fun r => { r with
          releases := (t.car c).releases.tail ++ [{ tenant := tenant, floors := floors, timer := Timer.set t.settings.window }] }) := by
        refine h.setCar fun law => ?_
        obtain ⟨bound, nodup⟩ := law.2.2.2.1 c
        refine car_appended rfl ?_ (nodup.sublist ((List.tail_sublist _).map _)) fun mem =>
          fresh (((List.tail_sublist _).map _).subset mem)
        rw [List.length_tail]
        omega
      split
      · exact placed.logRelease.handFloors
      · exact placed.handFloors
    · next room =>
      refine (h.setCar fun law => ?_).handFloors
      obtain ⟨bound, nodup⟩ := law.2.2.2.1 c
      exact car_appended rfl (by omega) nodup fresh

theorem releaseExpiry {c tenant : Nat} (h : s.Orderly t) : s.Orderly (t.releaseExpiry c tenant) := by
  unfold State.releaseExpiry
  split
  · exact h.removeRelease
  · exact h

theorem removeReleases {tenant : Nat} (h : s.Orderly t) : s.Orderly (t.removeReleases tenant) :=
  h.forEach fun _ _ hu => hu.removeRelease

theorem carMode {c : Nat} (h : s.Orderly t) : s.Orderly (t.carMode c) := by
  unfold State.carMode
  split
  · exact h
  · exact h.handFloors
  all_goals
    split
    · by_cases recalled : (t.car c).state = .inRecall
      · rw [if_pos recalled]
        exact (h.updCar (by exact fun _ => id)).handFloors
      · rw [if_neg recalled]
        exact h.handFloors
    · exact h.emptyReleases
    · exact (h.emptyReleases.updCar (by exact fun _ => id)).handFloors

theorem carModeAll (h : s.Orderly t) : s.Orderly t.carModeAll := h.forEach fun _ _ hu => hu.carMode

theorem carOffline {c : Nat} (h : s.Orderly t) : s.Orderly (t.carOffline c) := (h.updCar (by exact fun _ => id)).emptyReleases

theorem carRestored {c : Nat} (h : s.Orderly t) : s.Orderly (t.carRestored c) := (h.updCar (by exact fun _ => id)).handFloors

theorem carUnknown {c : Nat} (h : s.Orderly t) : s.Orderly (t.carUnknown c) := (h.updCar (by exact fun _ => id)).emptyReleases

theorem carStatus {c : Nat} {complete : Bool} (h : s.Orderly t) : s.Orderly (t.carStatus c complete) := by
  unfold State.carStatus
  dsimp only
  split
  · exact (h.updCar (by exact fun _ => id)).log
  · exact h

theorem resetCar {c : Nat} (h : s.Orderly t) : s.Orderly (t.resetCar c) := by
  unfold State.resetCar
  dsimp only
  split
  · exact h
  · split
    · exact (h.releaseCarNode.setCar (by exact fun _ => car_empty rfl)).handFloors
    · exact (h.setCar (by exact fun _ => car_empty rfl)).handFloors

end Sys2Proof.Machine.State.Orderly
end

section
/-! Orderly changes at the reader lines, at decisions and at the site mode. -/

namespace Sys2Proof.Machine

@[simp] theorem Node.withVerdict_faults (h : Head) (v : LastVerdict) (r : Node) : (r.withVerdict h v).faults = r.faults := by
  cases h <;> simp [Node.withVerdict, apply_ite Node.faults]

@[simp] theorem Node.withTag_faults (h : Head) (n : Nat) (r : Node) : (r.withTag h n).faults = r.faults := by
  cases h <;> rfl

@[simp] theorem Node.putAnew_faults (kind : NodeKind) (r : Node) : (r.putAnew kind).faults = 0 := by
  unfold Node.putAnew
  split <;> rfl

/-- Sections 3.3 and 3.4: no step denies. -/
theorem firstDenial_none {steps : List (Option Verdict)} : firstDenial steps = none ↔ ∀ d ∈ steps, d = none := by
  simp [firstDenial, List.findSome?_eq_none_iff]

/-- R57: a portal that denies nothing is in service and has room in its list. -/
theorem Portal.denial_none {r : Portal} : r.denial = none ↔ r.state.inService = true ∧ r.passages.length < 2 := by
  unfold Portal.denial denyIf
  cases r.state.inService <;> simp

/-- R52 to R57: a passage is granted where no step denies. -/
theorem State.portalRuling_pass {p : Nat} {r : Read} {c : PortalConfig} {cr : Credential} {t : Tenant} {s : State}
    {v : Verdict} {g : Passage} (h : s.portalRuling p r c cr t = .pass v g) :
    s.laterDenial p r c cr.tenant t = none := by
  unfold State.portalRuling at h
  split at h
  · exact nomatch h
  · split at h
    · exact nomatch h
    · exact nomatch h
    · split at h
      · exact nomatch h
      · next none_ => exact none_

/-- R57: a passage is granted at a portal whose list has room. -/
theorem State.ruling_pass_room {r : Read} {s : State} {v : Verdict} {g : Passage} {p : Nat} {c : PortalConfig}
    (ruling : s.ruling r = .pass v g) (asked : s.asked r = .portal p c) : (s.portal p).passages.length < 2 := by
  unfold State.ruling at ruling
  rw [asked] at ruling
  cases found : s.presented r with
  | none =>
    rw [found] at ruling
    exact nomatch ruling
  | some who =>
    rw [found] at ruling
    have denial : (s.portal p).denial = none :=
      firstDenial_none.1 (State.portalRuling_pass ruling) _ (by simp)
    exact (Portal.denial_none.1 denial).2

end Sys2Proof.Machine

namespace Sys2Proof.Machine.State.Orderly

variable {s t u : State}

/-! ## Reader lines -/

theorem setLine {l : Nat} {r : Line} (h : s.Orderly t) : s.Orderly (t.setLine l r) := h.same (by rfl)

theorem updLine {l : Nat} {f : Line → Line} (h : s.Orderly t) : s.Orderly (t.updLine l f) := h.same (by rfl)

/-- R46: a read queue that is no longer stays within its bound. -/
theorem setReads {rs : List Read} (h : s.Orderly t) (shorter : rs.length ≤ t.reads.length) :
    s.Orderly { t with reads := rs } :=
  h.trans ⟨id, fun place => ⟨place, State.KeepsMemory.refl t⟩, id, fun ⟨waiting, rest⟩ => ⟨shorter.trans waiting, rest⟩⟩

/-- A change of every node record that keeps its fault counter within its bound. -/
theorem mapNodes {f : Node → Node} (h : s.Orderly t) (ok : ∀ r : Node, r.faults ≤ 15 → (f r).faults ≤ 15) :
    s.Orderly { t with nodes := Table.mapValues f t.nodes } :=
  h.trans ⟨id, fun place => ⟨place, State.KeepsMemory.refl t⟩, id, fun ⟨waiting, held, portal, car, node⟩ =>
    ⟨waiting, held, portal, car, fun n r stands => by
      rw [State.node, Table.find_mapValues, Option.map_eq_some_iff] at stands
      obtain ⟨r', before, rfl⟩ := stands
      exact ok r' (node n r' before)⟩⟩

theorem discardReads {n : NodeId} (h : s.Orderly t) : s.Orderly (t.discardReads n) :=
  h.setReads (List.length_filter_le _ _)

theorem flushReads (h : s.Orderly t) : s.Orderly t.flushReads :=
  (h.setReads (rs := []) (Nat.zero_le _)).mapNodes fun _ => id

theorem ownersOffline {n : NodeId} {kind : NodeKind} (h : s.Orderly t) : s.Orderly (t.ownersOffline n kind) := by
  unfold State.ownersOffline
  cases kind with
  | portal =>
    dsimp only
    split
    · exact h.portalOffline
    · exact h
  | car =>
    dsimp only
    split
    · exact h.carOffline
    · exact h
  | unit => exact h.contactsUnknown

theorem ownersUnknown {n : NodeId} {kind : NodeKind} (h : s.Orderly t) : s.Orderly (t.ownersUnknown n kind) := by
  unfold State.ownersUnknown
  cases kind with
  | portal =>
    dsimp only
    split
    · exact h.portalUnknown
    · exact h
  | car =>
    dsimp only
    split
    · exact h.carUnknown
    · exact h
  | unit => exact h.contactsUnknown

theorem nodeUnknown {n : NodeId} (h : s.Orderly t) : s.Orderly (t.nodeUnknown n) := by
  unfold State.nodeUnknown
  split
  · exact h
  · exact (h.setNode (by exact fun _ => Nat.zero_le 15)).ownersUnknown

theorem nodeOffline {n : NodeId} {cause : Nat} (h : s.Orderly t) : s.Orderly (t.nodeOffline n cause) := by
  unfold State.nodeOffline
  split
  · exact h
  · next r stands => exact (h.setNodeOf stands (by exact id)).log.ownersOffline

theorem nextCycle {l : Nat} (h : s.Orderly t) : s.Orderly (t.nextCycle l) := h.same (by rfl)

theorem endExchange {l : Nat} (h : s.Orderly t) : s.Orderly (t.endExchange l) := by
  unfold State.endExchange
  dsimp only
  split
  · exact h.updLine.nextCycle
  · exact h.updLine

theorem enterRunning {l : Nat} (h : s.Orderly t) : s.Orderly (t.enterRunning l) := h.same (by rfl)

theorem sendPoll {l : Nat} (h : s.Orderly t) : s.Orderly (t.sendPoll l) := by
  unfold State.sendPoll
  dsimp only
  split
  · split
    · exact h
    · split
      · exact h.setLine
      · exact h.setLine
  · exact h

theorem idleCycleEnd {l : Nat} (h : s.Orderly t) : s.Orderly (t.idleCycleEnd l) := by
  unfold State.idleCycleEnd
  dsimp only
  split
  · exact h.nextCycle
  · exact h


theorem takeRead {n : NodeId} {b : ReadBlock} (h : s.Orderly t) : s.Orderly (t.takeRead n b) := by
  unfold State.takeRead
  split
  · exact h
  · next r stands =>
    dsimp only
    split
    · exact h
    · split
      · exact h
      · next room =>
        have joined : s.Orderly { t with reads := t.reads ++ [b.read n] } :=
          h.trans ⟨id, fun place => ⟨place, State.KeepsMemory.refl t⟩, id, fun ⟨_, rest⟩ =>
            ⟨by
            rw [List.length_append, List.length_singleton]
            exact Nat.lt_of_not_le room, rest⟩⟩
        split
        · refine joined.setNodeOf (r := r) (by exact stands) fun ok => ?_
          rwa [Node.withVerdict_faults, Node.withTag_faults]
        · exact joined

theorem handStatus {n : NodeId} {kind : NodeKind} {how : ReplyStanding} {bytes : List Byte} (h : s.Orderly t) :
    s.Orderly (t.handStatus n kind how bytes) := by
  unfold State.handStatus
  cases kind with
  | portal =>
    dsimp only
    split
    · exact h.portalStatus
    · exact h
  | car =>
    dsimp only
    split
    · exact h.carStatus
    · exact h
  | unit => exact h.unitReport

theorem handOn {n : NodeId} {kind : NodeKind} {how : ReplyStanding} {bytes : List Byte} (h : s.Orderly t) :
    s.Orderly (t.handOn n kind how bytes) := by
  unfold State.handOn
  dsimp only
  split
  · split
    · exact h.handStatus
    · exact h.handStatus.takeRead
  · exact h.handStatus

theorem restoreNode {n : NodeId} {r : Node} (h : s.Orderly t) : s.Orderly (t.restoreNode n r) := by
  have restored := (h.setNode (n := n)
    (r := { r.noTags.noVerdicts with state := .online, faults := 0, restore := 0 })
    (by exact fun _ => Nat.zero_le 15)).log (kind := .nodeRestored) (subject := some n.subject) (tenant := none) (detail := [])
  unfold State.restoreNode
  dsimp only
  split
  · split
    · exact restored.carRestored
    · exact restored
  · exact restored

theorem goodReply {n : NodeId} {bytes : List Byte} (h : s.Orderly t) : s.Orderly (t.goodReply n bytes) := by
  unfold State.goodReply
  split
  · exact h
  · next r stands =>
    have fewer : r.faults ≤ 15 → r.faults - 1 ≤ 15 := (Nat.sub_le _ _).trans
    dsimp only
    split
    · exact (h.setNodeOf stands fewer).handOn
    · exact (h.setNodeOf stands fewer).handOn
    · split
      · exact h.setNodeOf stands fewer
      · exact h.restoreNode.handOn

theorem badReply {n : NodeId} {kind : BadReply} (h : s.Orderly t) : s.Orderly (t.badReply n kind) := by
  unfold State.badReply
  split
  · exact h
  · next r stands =>
    have capped : t.BoundsLaw → min 15 (r.faults + 1) ≤ 15 := fun _ => Nat.min_le_left 15 _
    dsimp only
    split
    · exact h.setNode capped
    all_goals
      split
      · exact (h.setNode (by exact capped)).nodeOffline
      · exact h.setNode (by exact capped)

theorem exchangeBad {l : Nat} {kind : BadReply} (h : s.Orderly t) : s.Orderly (t.exchangeBad l kind) := by
  unfold State.exchangeBad
  split
  · exact h
  · exact h.badReply.updLine

theorem judgeReply {l : Nat} {frame : List LineChar} (h : s.Orderly t) : s.Orderly (t.judgeReply l frame) := by
  unfold State.judgeReply
  split
  · exact h
  · split
    · exact h
    · split
      · exact h.exchangeBad
      · exact h.goodReply.endExchange

theorem quietWaitEnd {l : Nat} (h : s.Orderly t) : s.Orderly (t.quietWaitEnd l) := by
  unfold State.quietWaitEnd
  split
  · exact h.endExchange
  · exact h

theorem faultNode {l : Nat} {lost : List Nat} {a : Nat} (h : s.Orderly t) : s.Orderly (t.faultNode l lost a) := by
  unfold State.faultNode
  split
  · exact h.nodeOffline
  · exact h.updNode (by exact fun _ => id)

theorem faultLine {l : Nat} {reason : FaultReason} (h : s.Orderly t) : s.Orderly (t.faultLine l reason) :=
  h.updLine.log.forEach fun _ _ hu => hu.faultNode

theorem lineBreak {l : Nat} (h : s.Orderly t) : s.Orderly (t.lineBreak l) := by
  unfold State.lineBreak
  split
  · exact h.faultLine
  · exact h

theorem lineNoQuiet {l : Nat} (h : s.Orderly t) : s.Orderly (t.lineNoQuiet l) := by
  unfold State.lineNoQuiet
  split
  · exact h.faultLine
  · exact h

theorem recoveryCheck {l : Nat} {idle : Bool} (h : s.Orderly t) : s.Orderly (t.recoveryCheck l idle) := by
  unfold State.recoveryCheck
  dsimp only
  split
  · split
    · exact h.enterRunning.log
    · exact h.setLine
  · exact h

theorem stopLine {l : Nat} (h : s.Orderly t) : s.Orderly (t.stopLine l) :=
  h.updLine.forEach fun _ _ hu => hu.nodeUnknown

theorem stopLines (h : s.Orderly t) : s.Orderly t.stopLines := h.forEach fun _ _ hu => hu.stopLine

theorem startLine {l : Nat} (h : s.Orderly t) : s.Orderly (t.startLine l) := by
  unfold State.startLine
  split
  · exact h.enterRunning
  · exact h

theorem startLines (h : s.Orderly t) : s.Orderly t.startLines := h.forEach fun _ _ hu => hu.startLine

theorem disableLine {l : Nat} (h : s.Orderly t) : s.Orderly (t.disableLine l) :=
  h.stopLine.forEach fun _ _ hu => hu.discardReads.updNode (by exact fun _ => id)

theorem settleLine {l : Nat} {enabled : Bool} (h : s.Orderly t) : s.Orderly (t.settleLine l enabled) := by
  unfold State.settleLine
  split
  · split
    · exact h.enterRunning
    · exact h
  all_goals
    split
    · exact h
    · exact h.disableLine

theorem abandonExchange {n : NodeId} (h : s.Orderly t) : s.Orderly (t.abandonExchange n) := by
  unfold State.abandonExchange
  split
  · exact h.updLine
  · exact h

theorem renewNode {n : NodeId} {r : Node} {kind : NodeKind} (h : s.Orderly t) : s.Orderly (t.renewNode n r kind) :=
  (h.abandonExchange.setNode (by exact fun _ => by simp)).discardReads.ownersUnknown

theorem dropDue {n : NodeId} (h : s.Orderly t) : s.Orderly (t.dropDue n) := by
  unfold State.dropDue
  dsimp only
  split
  · exact h.setLine.nextCycle
  · exact h.setLine

theorem removeNode {n : NodeId} (h : s.Orderly t) : s.Orderly (t.removeNode n) := by
  have erased : s.Orderly { t.abandonExchange n with nodes := Table.erase n.code (t.abandonExchange n).nodes } :=
    h.abandonExchange.trans ⟨id, fun place => ⟨place, State.KeepsMemory.refl _⟩, id,
      fun ⟨waiting, held, portal, car, node⟩ => ⟨waiting, held, portal, car, fun m r stands => by
        by_cases here : m.code = n.code
        · rw [State.node, here, Table.find_erase_self] at stands
          exact nomatch stands
        · rw [State.node, Table.find_erase_ne here] at stands
          exact node m r stands⟩⟩
  exact (erased.setReads (by simp)).dropDue

/-! ## Decisions -/

theorem storeVerdict {r : Read} {v : Verdict} (h : s.Orderly t) : s.Orderly (t.storeVerdict r v) := by
  unfold State.storeVerdict
  split
  · exact h
  · exact h.updNode fun n ok => by rwa [Node.withVerdict_faults]

theorem logAccess {r : Read} {ruling : Ruling} (h : s.Orderly t) : s.Orderly (t.logAccess r ruling) := h.log

theorem placeGrant {a : Asked} {tenant : Option Nat} {ruling : Ruling} (h : s.Orderly t)
    (room : ∀ v g p c, ruling = .pass v g → a = .portal p c → (t.portal p).passages.length < 2) :
    s.Orderly (t.placeGrant a tenant ruling) := by
  unfold State.placeGrant
  split
  · exact h.repeatGrant
  · exact h.placePassage (room _ _ _ _ rfl rfl)
  · exact h.placeRelease
  · exact h

theorem decide {r : Read} (h : s.Orderly t) : s.Orderly (State.decide r t) := by
  refine (h.logAccess.placeGrant fun v g p c pass asked => ?_).storeVerdict
  have kept : (t.logAccess r (t.ruling r)).portals = t.portals := by simp [State.logAccess]
  rw [State.portal, kept]
  exact State.ruling_pass_room pass asked

theorem decideNext (h : s.Orderly t) : s.Orderly t.decideNext := by
  unfold State.decideNext
  split
  · exact h
  · next oldest => exact (h.setReads (by rw [oldest]; simp)).decide

end Sys2Proof.Machine.State.Orderly
end

section
/-! Orderly changes at the mode unit, the directory, the clock and the slips, and the commands: every command but those that
store, answer, write images or restart is orderly. -/

namespace Sys2Proof.Machine.State.Orderly

variable {s t u : State}

/-! ## The site mode -/

theorem settleHold (h : s.Orderly t) : s.Orderly t.settleHold := h.same (by rfl)

theorem fireInput {closed : Bool} (h : s.Orderly t) : s.Orderly (t.fireInput closed) := by
  unfold State.fireInput
  split
  · exact h
  · exact h.same (by rfl)

theorem setPolarity {p : FirePolarity} (h : s.Orderly t) : s.Orderly (t.setPolarity p) := by
  unfold State.setPolarity
  split
  · exact h
  · exact h.same (by rfl)

theorem setMode {mode : SiteMode} {source : Option EvacuationSource} (h : s.Orderly t) :
    s.Orderly (t.setMode mode source) := h.same (by rfl)

theorem setFire {active : Bool} (h : s.Orderly t) : s.Orderly (t.setFire active) := h.same (by rfl)

theorem raise {c : Cause} (h : s.Orderly t) : s.Orderly (t.raise c) := h.same (by rfl)

theorem tellMode {order : ModeOrder} (h : s.Orderly t) : s.Orderly (t.tellMode order) := by
  cases order with
  | portalsFirst => exact h.evaluateAll.carModeAll
  | carsFirst => exact h.carModeAll.evaluateAll

theorem changeMode {mode : SiteMode} {source : Option EvacuationSource} {trigger : Trigger} {order : ModeOrder}
    (h : s.Orderly t) : s.Orderly (t.changeMode mode source trigger order) :=
  h.setMode.log.raise.mirrorMode.tellMode

theorem fireBecomesActive {order : ModeOrder} (h : s.Orderly t) : s.Orderly (t.fireBecomesActive order) := by
  unfold State.fireBecomesActive
  dsimp only
  split
  · exact h.setFire.log
  · exact h.setFire.log.setMode.mirrorMode
  · exact h.setFire.log.changeMode
  · exact h.setFire.log.changeMode

theorem fireBecomesClear (h : s.Orderly t) : s.Orderly t.fireBecomesClear := h.setFire.log

/-! ## The directory -/

theorem putTenant {f : TenantFields} (h : s.Orderly t) : s.Orderly (t.putTenant f) := by
  unfold State.putTenant
  split
  · exact h.same (by rfl)
  · exact h.same (by rfl)

theorem remaskWhere {p : Tenant → Bool} (h : s.Orderly t) : s.Orderly (t.remaskWhere p) := h.same (by rfl)

theorem addGrantee {x : Nat} (h : s.Orderly t) : s.Orderly (t.addGrantee x) := h.updUnit (by exact fun _ => id)

theorem dropGrantee {x : Nat} (h : s.Orderly t) : s.Orderly (t.dropGrantee x) := h.updUnit (by exact fun _ => id)

theorem moveHolds {index : Nat} {left joined : List Nat} (h : s.Orderly t) :
    s.Orderly (t.moveHolds index left joined) := by
  unfold State.moveHolds
  split
  · exact h
  · split
    · exact (h.forEach fun _ _ hu => hu.loseHold).forEach fun _ _ hu => hu.gainHold
    · exact h

theorem setGrants {index : Nat} {new : List Nat} (h : s.Orderly t) : s.Orderly (t.setGrants index new) :=
  ((h.forEach fun _ _ hu => hu.dropGrantee).forEach fun _ _ hu => hu.addGrantee).updTenant.moveHolds

theorem putCredential {f : CredFields} (h : s.Orderly t) : s.Orderly (t.putCredential f) := by
  have put : ∀ table, s.Orderly { t with creds := table } := fun _ => h.same (by rfl)
  unfold State.putCredential
  dsimp only
  split
  · exact (put _).updTenant
  · exact put _

/-- A change of every portal record that keeps the bounds of each. -/
theorem mapPortals {f : Portal → Portal} (h : s.Orderly t) (blank : f Portal.blank = Portal.blank)
    (ok : ∀ r : Portal, r.InBounds → (f r).InBounds) :
    s.Orderly { t with portals := Table.mapValues f t.portals } :=
  h.trans ⟨id, fun place => ⟨place, State.KeepsMemory.refl t⟩, id, fun ⟨waiting, held, portal, rest⟩ =>
    ⟨waiting, held, fun p => by
      rw [State.portal, Table.read_mapValues f _ blank]
      exact ok _ (portal p), rest⟩⟩

/-- A change of every car record that keeps the bounds of each. -/
theorem mapCars {f : Car → Car} (h : s.Orderly t) (blank : f Car.blank = Car.blank)
    (ok : ∀ r : Car, r.InBounds → (f r).InBounds) :
    s.Orderly { t with cars := Table.mapValues f t.cars } :=
  h.trans ⟨id, fun place => ⟨place, State.KeepsMemory.refl t⟩, id, fun ⟨waiting, held, portal, car, node⟩ =>
    ⟨waiting, held, portal, fun c => by
      rw [State.car, Table.read_mapValues f _ blank]
      exact ok _ (car c), node⟩⟩

theorem forgetKey {k : Key} (h : s.Orderly t) : s.Orderly (t.forgetKey k) := by
  have forgotten : s.Orderly { t with
      portals := Table.mapValues (fun r => { r with passages := r.passages.map (Passage.forget k) }) t.portals } :=
    h.mapPortals rfl fun r ok => ⟨by simpa using ok.1, ok.2⟩
  exact forgotten.same (by rfl)

theorem dropCredential {c : Credential} (h : s.Orderly t) : s.Orderly (t.dropCredential c) := by
  have erased : s.Orderly { t with creds := Table.erase c.key.code t.creds } := h.same (by rfl)
  exact erased.updTenant.forgetKey

theorem dropCredentials {index : Nat} (h : s.Orderly t) : s.Orderly (t.dropCredentials index) :=
  h.forEach fun _ _ hu => hu.dropCredential

theorem setTenants {table : Table Tenant} (h : s.Orderly t) : s.Orderly { t with tenants := table } := h.same (by rfl)

theorem dropTenant {index : Nat} (h : s.Orderly t) : s.Orderly (t.dropTenant index) := by
  unfold State.dropTenant
  exact (h.cancelTransit.endVisit.removeReleases.dropCredentials.forEach fun _ _ hu => hu.dropGrantee).setTenants

theorem moveUnit {number zone : Nat} (h : s.Orderly t) : s.Orderly (t.moveUnit number zone) :=
  (h.updUnit (by exact fun _ => id)).remaskWhere.setHolders

theorem putUnit {number zone : Nat} {c : Option Contact} (h : s.Orderly t) : s.Orderly (t.putUnit number zone c) := by
  unfold State.putUnit
  split
  · exact h.setUnit fun _ => ⟨fun held => absurd held (Nat.lt_irrefl 0), fun _ => .inl rfl⟩
  · dsimp only
    split <;> split
    · exact h
    · exact h.moveUnit
    · exact h.contactChange
    · exact h.moveUnit.contactChange

/-- R21: a unit that leaves the table leaves the law of the others. -/
theorem eraseUnit {x : Nat} (h : s.Orderly t) : s.Orderly { t with units := Table.erase x t.units } :=
  h.trans ⟨id, fun place => ⟨place, State.KeepsMemory.refl t⟩, fun law y r stands => by
    by_cases here : y = x
    · rw [State.unit, here, Table.find_erase_self] at stands
      exact nomatch stands
    · rw [State.unit, Table.find_erase_ne here] at stands
      exact law y r stands, id⟩

/-! ## The clock -/

theorem minute {order : MinuteOrder} (h : s.Orderly t) : s.Orderly (t.minute order) := by
  have taken : s.Orderly { t with clock := { t.clock with minuteDue := false } } := h.same (by rfl)
  cases order with
  | registerFirst => exact taken.visitMinute.refreshWindows.mirrorClock
  | portalsFirst => exact taken.refreshWindows.visitMinute.mirrorClock

theorem setClock {m second offset : Nat} (h : s.Orderly t) : s.Orderly (t.setClock m second offset) := by
  have set : s.Orderly { t with clock := { t.clock with minute := m, second := second, weekOffset := offset, isSet := true } } :=
    h.same (by rfl)
  unfold State.setClock
  dsimp only
  split
  · exact set.shiftVisits.log.mirrorClock.refreshWindows
  · exact set.log.mirrorClock.refreshWindows

/-- R198: the page stays in place while a second passes at the journal. -/
theorem tickJournal {returned : Bool} (h : s.Orderly t) : s.Orderly { t with journal := t.journal.tick returned } :=
  h.journalled (by simp [State.OnlyJournal]) id (fun ⟨page, count, held⟩ => ⟨⟨page, count, held⟩, State.KeepsMemory.refl t⟩) id

theorem second (h : s.Orderly t) : s.Orderly t.second := by
  have portals : s.Orderly { t with portals := Table.mapValues Portal.tick t.portals } :=
    h.mapPortals rfl fun _ ok => ok
  have cars := portals.mapCars (f := Car.tick) rfl fun r ok =>
    ⟨by simpa [Car.tick] using ok.1, by simpa [Car.tick, Function.comp_def] using ok.2⟩
  exact (cars.tickJournal (returned := t.pageState t.journal.page == pageEmpty)).same (by rfl)

/-! ## The journal -/

theorem reexaminePage (h : s.Orderly t) : s.Orderly t.reexaminePage := by
  unfold State.reexaminePage
  split
  · split
    · refine h.journalled (State.recover_frame t) Memory.wf_recover (fun ⟨page, _, held⟩ => ?_) (fun _ => ?_)
      · obtain ⟨writes, keeps, journal⟩ := State.recover_writes page held
        have few : t.journal.holdover.length + t.gapCount ≤ 61 := by
          unfold State.gapCount
          split <;> omega
        exact ⟨writes.pageInPlace (by omega) (by rw [journal]; exact Nat.zero_le 8), keeps⟩
      · rw [State.recover_holdover]
        exact ⟨Nat.zero_le 8, nofun⟩
    · exact h.journalled (by simp [State.OnlyJournal]) id (fun place => ⟨place, State.KeepsMemory.refl t⟩) id
  · exact h

theorem journalReset (h : s.Orderly t) : s.Orderly t.journalReset := by
  unfold State.journalReset
  dsimp only
  split
  · exact (h.journalled (State.closePage_frame .reset t) (Memory.wf_closePage _)
      (fun place => ⟨State.closePage_pageInPlace _ place.2.2, State.closePage_keepsMemory _ place.1⟩)
      (fun held => by rwa [State.closePage_holdover])).log
  · exact h.log

/-! ## Slips -/

theorem finishService {stage : Stage} (h : s.Orderly t) : s.Orderly (t.finishService stage) := h.same (by rfl)

/-- R187: a check that fails leaves the state alone. -/
theorem checked {problem : Option Answer} {work : State × Answer} (h : s.Orderly work.1) :
    s.Orderly (Machine.checked problem work s).1 := by
  cases problem with
  | none => exact h
  | some a => exact refl s

/-- R186: serving a slip is orderly where its owner is. -/
theorem serve {kind : SlipKind} {owner : Service → State → State × Stage}
    (ok : ∀ v s, State.Orderly s (owner v s).1) (s : State) : s.Orderly (s.serve kind owner) := by
  obtain same | ⟨v, -, served⟩ := State.serve_cases kind owner s
  · rw [same]
    exact refl s
  · rw [served]
    exact (ok v s).finishService

/-- R108, R120, R123, R128: a slip at a portal. -/
theorem withPortal {v : Service} {s : State} {work : Nat → Portal → State × Answer}
    (ok : ∀ p r, s.Orderly (work p r).1) : s.Orderly (Machine.withPortal v s work).1 := by
  unfold Machine.withPortal
  dsimp only
  split
  · exact refl s
  · split
    · exact refl s
    · exact ok _ _

end Sys2Proof.Machine.State.Orderly
end

section
/-! Every step keeps the form of memory (O2), the law of the arm state (O5) and the bounds (O7); every command that neither
stores, answers, writes images nor restarts keeps the rack and the bulk area (O11). -/

namespace Sys2Proof.Machine

/-- R96: the arm state that UNIT_CLEAR gives agrees with the holder count. -/
theorem UnitRecord.clearedArm_ok (r : UnitRecord) : UnitRecord.ArmOk { r with arm := r.clearedArm } := by
  unfold UnitRecord.ArmOk UnitRecord.clearedArm
  dsimp only
  by_cases held : r.holders = 0
  · by_cases opened : r.door = .opened <;> simp [held, opened]
  · simp [held]

/-- R178, R187, R191: the commands that store for the host, take or answer slips, write images, or restart. -/
def storesOrRestarts : Instr → Bool
  | .powerOn | .reset | .hostMemoryWrite _ _ | .slipTake | .slipAnswer | .tenantRead | .zoneRead | .visitImageCopy => true
  | _ => false

namespace State.Orderly

variable {s t : State} {v : Service}

/-! ## The owners of the slips -/

theorem unitDrop : s.Orderly (Machine.unitDrop v s).1 := by
  unfold Machine.unitDrop
  dsimp only
  split
  · exact refl s
  · split
    · exact refl s
    · split
      · exact refl s
      · exact (refl s).eraseUnit

theorem tenantDrop : s.Orderly (Machine.tenantDrop v s).1 := by
  unfold Machine.tenantDrop
  dsimp only
  split
  · exact refl s
  · exact refl s
  · split
    · exact refl s
    · exact (refl s).dropTenant

theorem credDrop : s.Orderly (Machine.credDrop v s).1 := by
  unfold Machine.credDrop
  dsimp only
  split
  · split
    · exact refl s
    · exact (refl s).dropCredential
  · exact refl s

theorem loadList : s.Orderly (Machine.loadList v s).1 := by
  unfold Machine.loadList
  dsimp only
  split
  · exact refl s
  · split <;> exact refl s

theorem applyTenantRecord {image : List Byte} : s.Orderly (Machine.applyTenantRecord image s).1 := by
  unfold Machine.applyTenantRecord
  generalize tenantFieldsAt 0 image = f
  generalize itemsAt 9 2 (field 8 1 image) image = items
  dsimp only
  split
  · exact refl s
  · exact (refl s).putTenant.setGrants

theorem applyCredRecord {image : List Byte} : s.Orderly (Machine.applyCredRecord image s).1 := by
  unfold Machine.applyCredRecord
  generalize credFieldsAt 0 image = f
  dsimp only
  split
  · exact refl s
  · exact (refl s).putCredential

theorem applyRecord {position : Nat} : s.Orderly (v.applyRecord position s).1 := by
  unfold Service.applyRecord
  dsimp only
  split
  · exact applyTenantRecord
  · exact applyCredRecord

theorem applyNextRecord (s : State) : s.Orderly s.applyNextRecord := by
  unfold State.applyNextRecord
  split
  · exact refl s
  · split
    · exact applyRecord.finishService
    all_goals exact refl s

theorem zonePut : s.Orderly (Machine.zonePut v s).1 := by
  unfold Machine.zonePut
  dsimp only
  refine checked ?_
  dsimp only
  split
  · exact (refl s).updZone
  · exact (refl s).updZone.remaskWhere

theorem visitEnd : s.Orderly (Machine.visitEnd v s).1 := by
  unfold Machine.visitEnd
  dsimp only
  split
  · exact refl s
  · split
    · exact refl s
    · split
      · exact refl s
      · exact (refl s).cancelTransit.endVisit

theorem visitExtend : s.Orderly (Machine.visitExtend v s).1 := by
  unfold Machine.visitExtend
  dsimp only
  split
  · exact refl s
  · split
    · exact refl s
    · split
      · exact (refl s).updVisit.log
      · exact refl s

theorem visitList : s.Orderly (Machine.visitList v s).1 := by
  unfold Machine.visitList
  dsimp only
  split
  · exact refl s
  · split
    · exact refl s
    · exact (refl s).same (by rfl)

theorem unitClear : s.Orderly (Machine.unitClear v s).1 := by
  unfold Machine.unitClear
  dsimp only
  split
  · exact refl s
  · split
    · exact refl s
    · next r stands =>
      split
      · exact refl s
      · have cleared : s.Orderly (s.setUnit (v.body 0 2) { r with arm := r.clearedArm }) :=
          (refl s).setUnit fun _ => r.clearedArm_ok
        dsimp only
        split
        · exact cleared.log.log
        · exact cleared.log

theorem portalPut : s.Orderly (Machine.portalPut v s).1 := by
  unfold Machine.portalPut
  dsimp only
  split
  · exact refl s
  · split
    · exact ((refl s).updPortal (by exact fun _ => id)).handLock
    · split
      · exact (refl s).updPortal (f := fun r => { r with config := some v.portalConfig, deferred := none }) fun _ => id
      · split
        · exact (refl s).applyConfig
        · exact (refl s).updPortal (f := fun r => { r with deferred := some v.portalConfig }) fun _ => id

theorem portalDrop : s.Orderly (Machine.portalDrop v s).1 := by
  refine withPortal fun p r => ?_
  split
  · exact refl s
  · dsimp only
    split
    · exact (refl s).releaseLockNode.setPortal (by exact fun _ => ⟨Nat.zero_le 2, Nat.zero_le 3⟩)
    · exact (refl s).setPortal (by exact fun _ => ⟨Nat.zero_le 2, Nat.zero_le 3⟩)

theorem portalPulse : s.Orderly (Machine.portalPulse v s).1 := by
  refine withPortal fun p r => ?_
  split
  · exact ((refl s).updPortal (by exact fun _ => id)).log.handLock
  · exact ((refl s).updPortal (by exact fun _ => id)).log
  · exact refl s
  · exact refl s

theorem portalReset : s.Orderly (Machine.portalReset v s).1 := by
  refine withPortal fun p r => ?_
  split
  · exact refl s
  · exact (refl s).resetDriver

theorem carPut : s.Orderly (Machine.carPut v s).1 := by
  unfold Machine.carPut
  dsimp only
  split
  · exact refl s
  · split
    · exact ((refl s).setCar (by exact fun _ => car_empty rfl)).handFloors
    · split
      · exact (refl s).updCar (f := fun r => { r with config := some v.carConfig, deferred := none }) fun _ => id
      · split
        · exact (refl s).applyCar
        · exact (refl s).updCar (f := fun r => { r with deferred := some v.carConfig }) fun _ => id

theorem carDrop : s.Orderly (Machine.carDrop v s).1 := by
  unfold Machine.carDrop
  dsimp only
  split
  · exact refl s
  · split
    · exact refl s
    · split
      · exact refl s
      · exact (refl s).releaseCarNode.setCar (by exact fun _ => car_empty rfl)

theorem nodePut : s.Orderly (Machine.nodePut v s).1 := by
  unfold Machine.nodePut
  dsimp only
  split
  · exact refl s
  · split
    · exact (refl s).setNode (by exact fun _ => Nat.zero_le 15)
    · split
      · split
        · exact (refl s).renewNode
        · exact refl s
      · exact (refl s).renewNode

theorem nodeDrop : s.Orderly (Machine.nodeDrop v s).1 := by
  unfold Machine.nodeDrop
  dsimp only
  split
  · exact refl s
  · split
    · exact refl s
    · split
      · exact refl s
      · exact (refl s).removeNode

theorem lockdown {order : ModeOrder} : s.Orderly (Machine.lockdown order v s).1 := by
  unfold Machine.lockdown
  split
  · exact (refl s).changeMode
  all_goals exact refl s

theorem evacuate {order : ModeOrder} : s.Orderly (Machine.evacuate order v s).1 := by
  unfold Machine.evacuate
  split
  · exact (refl s).changeMode
  · exact (refl s).changeMode
  · exact refl s

theorem resume {order : ModeOrder} : s.Orderly (Machine.resume order v s).1 := by
  unfold Machine.resume
  dsimp only
  split
  · exact (refl s).changeMode
  · split
    · exact refl s
    · exact (refl s).changeMode
  · exact refl s

theorem putSettings : s.Orderly (s.putSettings v) := by
  have put : s.Orderly { s with settings := v.settings s.settings } := (refl s).same (by rfl)
  exact put.setPolarity

/-! ## The commands -/

theorem startRun (s : State) : s.Orderly s.startRun := by
  have run : s.Orderly (s.setRun .run) := (refl s).same (by rfl)
  unfold State.startRun
  split
  · exact refl s
  · exact run.startLines.mirrorRun

theorem haltRun (s : State) : s.Orderly s.haltRun := by
  have halt : s.Orderly (s.setRun .halt) := (refl s).same (by rfl)
  unfold State.haltRun
  split
  · exact refl s
  · exact halt.stopLines.flushReads.mirrorRun

theorem refuse {code : RefusalCode} (h : s.Orderly t) : s.Orderly (t.refuse code) := h.same (by rfl)

theorem postSlip {n : Nat} (h : s.Orderly t) : s.Orderly (t.postSlip n) := by
  unfold State.postSlip
  split
  · exact h.refuse
  · exact h.same (by rfl)

theorem refuseKind (h : s.Orderly t) : s.Orderly t.refuseKind := by
  unfold State.refuseKind
  split
  · exact h
  · split
    · exact h.finishService
    · exact h

/-- R178, R187: every command but those that store, answer, write images or restart is orderly. -/
theorem exec_next {c : Instr} (quiet : storesOrRestarts c = false) (next : exec c s = .next t) : s.Orderly t := by
  have self : s.Orderly s := refl s
  cases c with
  | powerOn | reset | hostMemoryWrite | slipTake | slipAnswer | tenantRead | zoneRead | visitImageCopy =>
    exact nomatch quiet
  | run => cases next; exact startRun s
  | halt => cases next; exact haltRun s
  | controlBad value =>
    cases next
    split
    · exact self
    · exact self.refuse
  | post value => cases next; exact self.postSlip
  | clear bits => cases next; exact self.same (by rfl)
  | mask bits => cases next; exact self.same (by rfl)
  | registerReadOnly register value => cases next; exact self.refuse
  | badKind => cases next; exact self.refuseKind
  | tenantPut => cases next; exact serve (fun v s => checked (refl s).putTenant) s
  | tenantDrop => cases next; exact serve (fun v s => tenantDrop) s
  | credPut => cases next; exact serve (fun v s => checked (refl s).putCredential) s
  | credDrop => cases next; exact serve (fun v s => credDrop) s
  | grantSet => cases next; exact serve (fun v s => checked (refl s).setGrants) s
  | standingSet => cases next; exact serve (fun v s => checked (refl s).updTenant) s
  | unitPut => cases next; exact serve (fun v s => checked (refl s).putUnit) s
  | unitDrop => cases next; exact serve (fun v s => unitDrop) s
  | loadTenants => cases next; exact serve (fun v s => loadList) s
  | loadCredentials => cases next; exact serve (fun v s => loadList) s
  | loadRecordApply => cases next; exact applyNextRecord s
  | clockSet => cases next; exact serve (fun v s => checked (refl s).setClock) s
  | profilePut => cases next; exact serve (fun v s => checked ((refl s).same (by rfl))) s
  | holidaySet => cases next; exact serve (fun v s => checked ((refl s).same (by rfl))) s
  | zonePut => cases next; exact serve (fun v s => zonePut) s
  | visitExtend => cases next; exact serve (fun v s => visitExtend) s
  | visitEnd => cases next; exact serve (fun v s => visitEnd) s
  | visitList => cases next; exact serve (fun v s => visitList) s
  | unitClear => cases next; exact serve (fun v s => unitClear) s
  | portalPut => cases next; exact serve (fun v s => portalPut) s
  | portalDrop => cases next; exact serve (fun v s => portalDrop) s
  | portalPulse => cases next; exact serve (fun v s => portalPulse) s
  | portalHold => cases next; exact serve (fun v s => withPortal fun p r => (refl s).setHostHold) s
  | portalSecure => cases next; exact serve (fun v s => withPortal fun p r => (refl s).setHostHold) s
  | portalReset => cases next; exact serve (fun v s => portalReset) s
  | carPut => cases next; exact serve (fun v s => carPut) s
  | carDrop => cases next; exact serve (fun v s => carDrop) s
  | linePut => cases next; exact serve (fun v s => checked (refl s).updLine.settleLine) s
  | nodePut => cases next; exact serve (fun v s => nodePut) s
  | nodeDrop => cases next; exact serve (fun v s => nodeDrop) s
  | lockdown order => cases next; exact serve (fun v s => lockdown) s
  | evacuate order => cases next; exact serve (fun v s => evacuate) s
  | resume order => cases next; exact serve (fun v s => resume) s
  | sitePut => cases next; exact serve (fun v s => checked putSettings) s
  | journalMark => cases next; exact serve (fun v s => (refl s).log) s
  | secondEvent => cases next; exact self.second
  | minuteEvent order =>
    cases next
    split
    · exact self.minute
    · exact self
  | passageTimerExpiry portal => cases next; exact self.passageExpiry
  | holdTimerExpiry portal => cases next; exact self.holdExpiry
  | cooldownExpiry portal => cases next; exact self.cooldownExpiry
  | probeIntervalExpiry portal => cases next; exact self.probeExpiry
  | releaseExpiry car tenant => cases next; exact self.releaseExpiry
  | flushTimerExpiry => cases next; exact self.flushExpiry
  | journalRecovery => cases next; exact self.reexaminePage
  | fireInputChange closed => cases next; exact self.fireInput
  | fireActive order =>
    cases next
    split
    · exact self.fireBecomesActive
    · exact self
  | fireClear =>
    cases next
    split
    · exact self.fireBecomesClear
    · exact self
  | decision => cases next; exact self.decideNext
  | poll line => cases next; exact self.sendPoll
  | idleCycleEnd line => cases next; exact self.idleCycleEnd
  | reply line frame => cases next; exact self.judgeReply
  | replyWindowExpiry line => cases next; exact self.exchangeBad
  | quietWaitEnd line => cases next; exact self.quietWaitEnd
  | lineBreak line => cases next; exact self.lineBreak
  | noQuiet line => cases next; exact self.lineNoQuiet
  | recoveryCheckExpiry line idle => cases next; exact self.recoveryCheck
  | collision line => cases next; exact self.exchangeBad
  | gapLimitExpiry line => cases next; exact self.exchangeBad

end State.Orderly

/-! ## The commands that store, answer, write images or restart -/

/-- From `s` to `t` memory keeps its form, the units their law and every block its bounds. -/
structure State.Tidy (s t : State) : Prop where
  form : Memory.wf s.mem → Memory.wf t.mem
  arm : s.ArmLaw → t.ArmLaw
  bounds : s.BoundsLaw → t.BoundsLaw

theorem State.Orderly.tidy {s t : State} (h : s.Orderly t) : s.Tidy t := ⟨h.form, h.arm, h.bounds⟩

namespace State.Tidy

variable {s t u : State} {v : Service}

theorem refl (s : State) : s.Tidy s := ⟨id, id, id⟩

theorem trans (h : s.Tidy t) (k : t.Tidy u) : s.Tidy u :=
  ⟨k.form ∘ h.form, k.arm ∘ h.arm, k.bounds ∘ h.bounds⟩

/-- R178: accesses to memory keep the laws of the blocks. -/
theorem pass (l : List Access) (h : s.Tidy t) : s.Tidy (t.pass l) := by
  refine h.trans ⟨Memory.wf_pass l, ?_, ?_⟩
  all_goals
    rw [State.OnlyMem.eq (State.pass_frame l t)]
    exact id

theorem setSlips {slips : SlipUnit} (h : s.Tidy t) : s.Tidy { t with slips := slips } := h.trans ⟨id, id, id⟩

theorem raise {c : Cause} (h : s.Tidy t) : s.Tidy (t.raise c) := h.trans ⟨id, id, id⟩

theorem writeAnswer {n tag : Nat} {a : Answer} (h : s.Tidy t) : s.Tidy (t.writeAnswer n tag a) := (h.pass _).raise

theorem refuse {code : RefusalCode} (h : s.Tidy t) : s.Tidy (t.refuse code) := h.trans ⟨id, id, id⟩

theorem hostWrite {a value : Nat} (h : s.Tidy t) : s.Tidy (t.hostWrite a value) := by
  unfold State.hostWrite
  split
  · exact h.refuse
  · exact h.pass _

theorem takeSlip (h : s.Tidy t) : s.Tidy t.takeSlip := by
  unfold State.takeSlip
  split
  · exact h.setSlips.pass _
  · exact h

theorem answerSlip (h : s.Tidy t) : s.Tidy t.answerSlip := by
  unfold State.answerSlip
  split
  · exact h
  · split
    · exact h.setSlips.writeAnswer
    all_goals exact h

theorem finishService {stage : Stage} (h : s.Tidy t) : s.Tidy (t.finishService stage) := h.setSlips

theorem serve {kind : SlipKind} {owner : Service → State → State × Stage}
    (ok : ∀ v s, State.Tidy s (owner v s).1) (s : State) : s.Tidy (s.serve kind owner) := by
  obtain same | ⟨v, -, served⟩ := State.serve_cases kind owner s
  · rw [same]
    exact refl s
  · rw [served]
    exact (ok v s).finishService

theorem tenantRead : s.Tidy (Machine.tenantRead v s).1 := by
  unfold Machine.tenantRead
  dsimp only
  split
  · exact refl s
  · exact refl s
  · split
    · exact refl s
    · exact (refl s).pass _

theorem zoneRead : s.Tidy (Machine.zoneRead v s).1 := by
  unfold Machine.zoneRead checked
  split
  · exact refl s
  · exact (refl s).pass _

theorem setRegister {register : Register} (h : s.Tidy t) : s.Tidy { t with register := register } := h.trans ⟨id, id, id⟩

theorem endWalk {written : Nat} {more : Bool} (h : s.Tidy t) : s.Tidy (t.endWalk written more) :=
  h.setRegister.finishService

theorem copyVisitImage (h : s.Tidy t) : s.Tidy t.copyVisitImage := by
  unfold State.copyVisitImage
  split
  · split
    · split
      · exact h.endWalk
      · dsimp only
        split
        · exact (h.pass _).setRegister.finishService
        · exact (h.pass _).endWalk
    · exact h
  · exact h

end State.Tidy

/-! ## The restart -/

namespace State.Orderly

variable {s t : State}

theorem resetRun (h : s.Orderly t) : s.Orderly t.resetRun := by
  have halt : s.Orderly (t.setRun .halt) := h.same (by rfl)
  unfold State.resetRun
  split
  · exact h
  · exact halt.mirrorRun

theorem setRegister {register : Register} (h : s.Orderly t) : s.Orderly { t with register := register } := h.same (by rfl)

theorem emptyRegister (h : s.Orderly t) : s.Orderly t.emptyRegister := by
  unfold State.emptyRegister
  dsimp only
  split
  · exact h.setRegister
  · exact h.setRegister.mirrorVisits

theorem setLines {lines : Table Line} (h : s.Orderly t) : s.Orderly { t with lines := lines } := h.same (by rfl)

/-- R102, R165: units, lines and nodes after a soft reset. -/
theorem resetTables (h : s.Orderly t) : s.Orderly { t with
    units := Table.mapValues UnitRecord.softReset t.units
    lines := Table.mapValues Line.softReset t.lines
    nodes := Table.mapValues Node.softReset t.nodes } := by
  have units := h.mapUnits (f := UnitRecord.softReset) fun r _ =>
    ⟨fun held => absurd held (Nat.lt_irrefl 0), fun _ => .inl rfl⟩
  exact (units.mapNodes (f := Node.softReset) fun _ _ => Nat.zero_le 15).setLines

theorem resetBlocks (h : s.Orderly t) : s.Orderly t.resetBlocks := by
  have emptied := (h.setTenants (table := Table.mapValues Tenant.leaveSite t.tenants)).flushReads.emptyRegister
  unfold State.resetBlocks
  exact (emptied.resetTables.forEach fun _ _ hu => hu.resetPortal).forEach fun _ _ hu => hu.resetCar

end State.Orderly

/-- R191: a soft reset keeps the form of memory, the law of the arm state and the bounds. -/
theorem State.softReset_tidy (s : State) : s.Tidy s.softReset := by
  have served : s.Tidy s.abortServing := by
    unfold State.abortServing
    split
    · exact State.Tidy.refl s
    · exact (State.Tidy.refl s).setSlips.writeAnswer
  have aborted : s.Tidy s.abortServing.abortQueue :=
    State.forEach_invariant (State.Tidy s) _ (fun _ _ hu => hu.writeAnswer) _ _ served.setSlips
  exact aborted.trans (State.Orderly.refl _).resetRun.raise.resetBlocks.journalReset.tidy

theorem State.powerUpValues_tidy (s : State) : s.Tidy s.powerUpValues :=
  ⟨fun _ => ⟨List.Pairwise.nil, nofun⟩, fun _ => State.reset_armLaw, fun _ => State.reset_boundsLaw⟩

/-- R193: taking a page keeps the holdover. -/
theorem State.Tidy.takePage {s t : State} {p : Nat} (h : s.Tidy t) : s.Tidy (t.takePage p) := by
  refine (h.pass (takeAccesses p)).trans ⟨id, id, fun ⟨waiting, held, rest⟩ => ⟨waiting, ?_, rest⟩⟩
  rwa [State.OnlyMem.eq (State.pass_frame (takeAccesses p) t)] at held

/-- R190: power-on keeps the form of memory, the law of the arm state and the bounds. -/
theorem State.powerUp_tidy (s : State) : s.Tidy s.powerUp := by
  have taken : s.Tidy ((s.powerUpValues.poke 0 s.powerUpValues.identityBlock).takePage 0) :=
    (s.powerUpValues_tidy.pass _).takePage
  have told : s.Tidy (((s.powerUpValues.poke 0 s.powerUpValues.identityBlock).takePage 0).log .powerUp none none []) :=
    taken.trans (State.Orderly.refl _).log.tidy
  unfold State.powerUp
  exact told.trans (State.Orderly.refl _).settleHold.tidy

/-- Every command keeps the form of memory, the law of the arm state and the bounds. -/
theorem exec_tidy {c : Instr} {s t : State} (next : exec c s = .next t) : s.Tidy t := by
  have self : s.Tidy s := State.Tidy.refl s
  cases quiet : storesOrRestarts c with
  | false => exact (State.Orderly.exec_next quiet next).tidy
  | true =>
    cases c with
    | powerOn => exact Host.Outcome.next.inj next ▸ s.powerUp_tidy
    | reset => exact Host.Outcome.next.inj next ▸ s.softReset_tidy
    | hostMemoryWrite word value => cases next; exact self.hostWrite
    | slipTake => cases next; exact self.takeSlip
    | slipAnswer => cases next; exact self.answerSlip
    | tenantRead => cases next; exact State.Tidy.serve (fun _ _ => State.Tidy.tenantRead) s
    | zoneRead => cases next; exact State.Tidy.serve (fun _ _ => State.Tidy.zoneRead) s
    | visitImageCopy => cases next; exact self.copyVisitImage
    | _ => exact nomatch quiet

/-- Every step, the idle one among them, keeps the form of memory, the law of the arm state and the bounds. -/
theorem step_tidy {s t : State} (next : step s = .next t) : s.Tidy t := by
  unfold step at next
  split at next
  · cases next
    exact ⟨id, id, id⟩
  · next c rest _ =>
    have popped : s.Tidy { s with pending := rest } := ⟨id, id, id⟩
    exact popped.trans (exec_tidy next)

/-- Settles O2: every command writes memory by accesses alone, each of which keeps its form. -/
theorem everyStepKeepsTheMemoryForm : Obligations.EveryStepKeepsTheMemoryForm :=
  fun _ _ form next => (step_tidy next).form form

/-- Settles O5: every change of a holder count or an arm state writes a record that meets the law. -/
theorem everyStepKeepsTheArmLaw : Obligations.EveryStepKeepsTheArmLaw :=
  fun _ _ law next => (step_tidy next).arm law

/-- Settles O7: every operation that lengthens a list or raises a counter does so within its bound. -/
theorem everyStepKeepsTheBounds : Obligations.EveryStepKeepsTheBounds :=
  fun _ _ law next => (step_tidy next).bounds law

/-- Settles O11: every other command is orderly. -/
theorem otherCommandsKeepTheRackAndTheBulkArea : Obligations.OtherCommandsKeepTheRackAndTheBulkArea := by
  unfold Obligations.OtherCommandsKeepTheRackAndTheBulkArea
  intro c s t next place powerOn reset hostWrite slipTake slipAnswer tenantRead zoneRead copy
  refine (State.Orderly.exec_next ?_ next).page place
  cases c with
  | powerOn => exact absurd rfl powerOn
  | reset => exact absurd rfl reset
  | hostMemoryWrite word value => exact absurd rfl (hostWrite word value)
  | slipTake => exact absurd rfl slipTake
  | slipAnswer => exact absurd rfl slipAnswer
  | tenantRead => exact absurd rfl tenantRead
  | zoneRead => exact absurd rfl zoneRead
  | visitImageCopy => exact absurd rfl copy
  | _ => rfl

end Sys2Proof.Machine
end

section
/-! The register window, the pins and the bus (chapter 10): O12. -/

namespace Sys2Proof.Machine

/-! ## The registers as the host reads them (R181, R204) -/

/-- R204: the fields of STATUS, each in its own bits while at most 64 slips are queued. -/
theorem State.statusRegister_fields {s : State} (queue : s.slips.queue.length ≤ 64) :
    let status := (s.registerRead 1).toNat
    status % 2 = s.bus.run.code ∧ status / 2 % 4 = s.mode.mode.code ∧
      status / 8 % 2 = (if s.clock.isSet then 1 else 0) ∧ status / 16 % 128 = s.slips.queue.length ∧
      status / 2048 = s.bus.lastRefusal.code := by
  have run : s.bus.run.code ≤ 1 := by cases s.bus.run <;> decide
  have mode : s.mode.mode.code ≤ 2 := by cases s.mode.mode <;> decide
  have code : s.bus.lastRefusal.code ≤ 11 := by cases s.bus.lastRefusal <;> decide
  simp only [State.registerRead, State.statusRegister, BitVec.toNat_ofNat]
  split <;> omega

/-- R204: STATUS as the rule lays its bits out. -/
theorem State.status_bits {s : State} (queue : s.slips.queue.length ≤ 64) :
    let status := (s.registerRead 1).toNat
    status.testBit 0 = (s.bus.run == .run) ∧
      status / 2 % 4 = (match s.mode.mode with
        | .normal => 0
        | .lockdown => 1
        | .evacuate => 2) ∧
      status.testBit 3 = s.clock.isSet ∧ status / 16 % 128 = s.slips.queue.length ∧
      status / 2048 = s.bus.lastRefusal.code := by
  obtain ⟨run, mode, clock, depth, refusal⟩ := State.statusRegister_fields queue
  refine ⟨?_, mode.trans ?_, ?_, depth, refusal⟩
  · rw [Nat.testBit_zero, run]
    cases s.bus.run <;> rfl
  · cases s.mode.mode <;> rfl
  · rw [Nat.testBit_eq_decide_div_mod_eq, clock]
    cases s.clock.isSet <;> rfl

/-- R181: CAUSE and MASK read as the seven bits that stand, and 0 above them. -/
theorem State.registerRead_getLsbD (s : State) (i : Nat) :
    (s.registerRead 3).getLsbD i = s.bus.cause.getLsbD i ∧ (s.registerRead 5).getLsbD i = s.bus.mask.getLsbD i := by
  constructor <;> simp only [State.registerRead, BitVec.getLsbD_setWidth]
  · by_cases small : i < 16
    · simp [small]
    · simp [small, BitVec.getLsbD_of_ge _ i (by omega : 7 ≤ i)]
  · by_cases small : i < 16
    · simp [small]
    · simp [small, BitVec.getLsbD_of_ge _ i (by omega : 7 ≤ i)]

/-- R182: IRQ stands exactly while an enabled cause does. -/
theorem State.irq_iff (s : State) :
    s.irq = true ↔ ∃ i < 7, s.bus.cause.getLsbD i = true ∧ s.bus.mask.getLsbD i = true := by
  rw [State.irq, bne_iff_ne, ne_eq, BitVec.eq_of_getLsbD_eq_iff]
  simp

/-! ## The bus (R177, R181, R204) -/

/-- R204: a read at a register's address finds the register. -/
theorem State.busRead_register (r : Sys2Proof.Register) (s : State) : s.busRead r.address = some (s.registerRead r.number) := by
  have above : ¬ r.address < Config.memoryEnd := by simp [Register.address, Config.memoryEnd, Config.registerBase]
  rw [State.busRead, if_neg above, registerAt_address, Option.map_some]

/-- R204: a write at a register's address is the register's command. -/
theorem commandOfWrite_register (r : Sys2Proof.Register) (value : Word) :
    commandOfWrite r.address value = some (registerCommand value r) := by
  have above : ¬ r.address < Config.memoryEnd := by simp [Register.address, Config.memoryEnd, Config.registerBase]
  rw [commandOfWrite, if_neg above, registerAt_address, Option.map_some]

/-- R181, R204: the values 1, 2 and 3 of CONTROL, and any other. -/
theorem registerCommand_control_eq (value : Word) :
    registerCommand value .control =
      if value.toNat = 1 then .run else if value.toNat = 2 then .halt else if value.toNat = 3 then .reset
      else .controlBad value := by
  simp only [registerCommand, controlCommand]
  split <;> simp_all

/-- R177, R180: a word of common memory on the bus. -/
theorem busWord (s : State) (word : BitVec 15) (value : Word) :
    commandOfWrite (2 * word.toNat) value = some (.hostMemoryWrite word value) ∧
      s.busRead (2 * word.toNat) = some (BitVec.ofNat 16 (s.wordAt (2 * word.toNat))) := by
  have below : 2 * word.toNat < Config.memoryEnd := by
    have := word.isLt
    simp only [Config.memoryEnd]
    omega
  have even : 2 * word.toNat % 2 = 0 := by omega
  have half : BitVec.ofNat 15 (2 * word.toNat / 2) = word := by simp
  rw [commandOfWrite, State.busRead, if_pos below, if_pos below, if_pos even, if_pos even, half]
  exact ⟨rfl, rfl⟩

/-- R181: a value of CONTROL that is none is refused. -/
theorem exec_controlBad {value : Word} (bad : value.toNat = 0 ∨ 3 < value.toNat) (s : State) :
    exec (.controlBad value) s = .next (s.refuse .controlBad) := by
  have none_ : (controlCommand value).isSome = false := by
    simpa using controlCommand_isNone.2 bad
  show Host.Outcome.next (if (controlCommand value).isSome then s else s.refuse .controlBad) = _
  rw [none_]
  rfl

/-- Settles O12: the registers and pins by their bits, the bus by the registers' addresses. -/
theorem registersAndPins : Obligations.RegistersAndPins := by
  unfold Obligations.RegistersAndPins
  refine fun s => ⟨fun value bad => ⟨_, exec_controlBad bad s, State.refuse_refused _ _⟩,
    fun r value => ⟨_, rfl, State.refuse_refused _ _⟩,
    fun bits => ⟨s.clearCauses bits, rfl, rfl, fun i small => ?_⟩,
    fun bits => ⟨s.setMask bits, rfl, rfl, fun i small => ?_⟩,
    s.irq_iff, rfl, State.status_bits, fun i => (s.registerRead_getLsbD i).1, fun i => (s.registerRead_getLsbD i).2,
    rfl, rfl, rfl, fun n small => ?_, fun value => ⟨?_, ?_, ?_, ?_, ?_, ?_, fun word => busWord s word value⟩,
    fun address value c write => ?_⟩
  · simp [State.clearCauses, small]
  · simp [State.setMask, small]
  · obtain ⟨r, rfl⟩ : ∃ r : Sys2Proof.Register, r.number = n := by
      match n, small with
      | 0, _ => exact ⟨.control, rfl⟩
      | 1, _ => exact ⟨.status, rfl⟩
      | 2, _ => exact ⟨.post, rfl⟩
      | 3, _ => exact ⟨.cause, rfl⟩
      | 4, _ => exact ⟨.clear, rfl⟩
      | 5, _ => exact ⟨.mask, rfl⟩
    exact s.busRead_register r
  · exact (commandOfWrite_register .control value).trans (congrArg some (registerCommand_control_eq value))
  · exact commandOfWrite_register .status value
  · exact commandOfWrite_register .post value
  · exact commandOfWrite_register .cause value
  · exact commandOfWrite_register .clear value
  · exact commandOfWrite_register .mask value
  · rw [State.busWrite, write]
    rfl

end Sys2Proof.Machine
end

section
/-! Host writes, POSTs, and what a host finds while the part writes a record or the mirror: O13. -/

namespace Sys2Proof.Machine

/-! ## Host writes (R180) -/

/-- R180: a word that is stored. -/
theorem State.pokeWord_stored {a v : Nat} (h : v < 65536) (s : State) : s.StoredWord a v (s.pokeWord a v) :=
  ⟨State.OnlyMem.eq (State.pokeWord_frame a v s), by rw [State.wordAt_pokeWord_self, Nat.mod_eq_of_lt h],
    fun b lo hi => State.byteAt_pokeWord_outside (by omega) v s⟩

theorem State.hostWrite_refused {s : State} {a v : Nat} {code : RefusalCode} (h : s.writeRefusal a v = some code) :
    s.Refused code (s.hostWrite a v) := by
  rw [State.hostWrite, h]
  exact State.refuse_refused code s

theorem State.hostWrite_stored {s : State} {a v : Nat} (h : s.writeRefusal a v = none) :
    s.hostWrite a v = s.pokeWord a v := by
  rw [State.hostWrite, h]

theorem State.writeRefusal_mirror {a : Nat} (h : a < 0x400) (v : Nat) (s : State) :
    s.writeRefusal a v = some .writeMirror := if_pos h

/-- R180: a word of a slip other than its state word. -/
theorem State.writeRefusal_slip {n k : Nat} (hn : n < 64) (lo : 0 < k) (hi : k < 128) (v : Nat) (s : State) :
    s.writeRefusal (0x400 + 128 * n + k) v = if s.wordAt (0x400 + 128 * n) = 2 then some .slipTaken else none := by
  have slip : (0x400 + 128 * n + k - Config.rackBase) / 128 = n := by
    simp only [Config.rackBase]
    omega
  have above : ¬ 0x400 + 128 * n + k < Config.rackBase := by
    simp only [Config.rackBase]
    omega
  have below : 0x400 + 128 * n + k < Config.pagesBase := by
    simp only [Config.pagesBase]
    omega
  have inside : 0x400 + 128 * n + k ≠ slipAddress n := by
    simp only [slipAddress, Config.rackBase]
    omega
  rw [State.writeRefusal, if_neg above, if_pos below]
  dsimp only
  rw [slip, if_neg inside]
  rfl

/-- R180: a word of a page. -/
theorem State.writeRefusal_page {p k : Nat} (hp : p < 32) (hk : k < 1024) (v : Nat) (s : State) :
    s.writeRefusal (0x2400 + 1024 * p + k) v =
      if k = 0 then (if s.wordAt (0x2400 + 1024 * p) = 2 ∧ v = 0 then none else some .pageState)
      else some .pageBody := by
  have page : (0x2400 + 1024 * p + k - Config.pagesBase) / 1024 = p := by
    simp only [Config.pagesBase]
    omega
  have rack : ¬ 0x2400 + 1024 * p + k < Config.rackBase := by
    simp only [Config.rackBase]
    omega
  have above : ¬ 0x2400 + 1024 * p + k < Config.pagesBase := by
    simp only [Config.pagesBase]
    omega
  have below : 0x2400 + 1024 * p + k < Config.bulkBase := by
    simp only [Config.bulkBase]
    omega
  rw [State.writeRefusal, if_neg rack, if_neg above, if_pos below]
  dsimp only
  rw [page, pageAddress_eq]
  by_cases first : k = 0
  · rw [if_pos (by omega), if_pos first]
    rfl
  · rw [if_neg (by omega), if_neg first]

theorem State.writeRefusal_bulk {a : Nat} (h : 0xA400 ≤ a) (v : Nat) (s : State) : s.writeRefusal a v = none := by
  have rack : ¬ a < Config.rackBase := by
    simp only [Config.rackBase]
    omega
  have pages : ¬ a < Config.pagesBase := by
    simp only [Config.pagesBase]
    omega
  have bulk : ¬ a < Config.bulkBase := by
    simp only [Config.bulkBase]
    omega
  rw [State.writeRefusal, if_neg rack, if_neg pages, if_neg bulk]

/-- R180: the check of a write to a slip's state word, by the states before and after. -/
theorem State.writeRefusal_slipState {n : Nat} (hn : n < 64) (v : Nat) (s : State) :
    s.writeRefusal (0x400 + 128 * n) v =
      let now := s.wordAt (0x400 + 128 * n)
      if (now = 0 ∧ v = 1) ∨ (now = 3 ∧ v = 0) ∨ (now = 1 ∧ v = 0 ∧ n ∉ s.slips.queue) then none
      else if now = 1 ∧ v = 0 then some .slipQueued else some .slipState := by
  have now : s.slipState n = s.wordAt (0x400 + 128 * n) := rfl
  rw [State.writeRefusal_slipWord hn]
  simp only [State.slipStateRefusal, now, slipFree, slipPosted, slipAnswered, List.contains_iff_mem]
  by_cases queued : n ∈ s.slips.queue <;> simp only [queued, if_true, if_false, not_true, not_false_iff, and_true, and_false, or_false]
  all_goals split_ifs <;> first | rfl | omega

/-- R180: every host write, by the word it reaches. -/
theorem exec_hostMemoryWrite (s : State) (word : BitVec 15) (value : Word) :
    let a := 2 * word.toNat
    ∃ t, exec (.hostMemoryWrite word value) s = .next t ∧
      (a < 0x400 → s.Refused .writeMirror t) ∧
      (∀ n < 64, a = 0x400 + 128 * n →
        if (s.wordAt a = 0 ∧ value.toNat = 1) ∨ (s.wordAt a = 3 ∧ value.toNat = 0) ∨
            (s.wordAt a = 1 ∧ value.toNat = 0 ∧ n ∉ s.slips.queue) then
          s.StoredWord a value.toNat t
        else if s.wordAt a = 1 ∧ value.toNat = 0 then s.Refused .slipQueued t
        else s.Refused .slipState t) ∧
      (∀ n < 64, ∀ k < 128, 0 < k → a = 0x400 + 128 * n + k →
        (s.wordAt (0x400 + 128 * n) = 2 → s.Refused .slipTaken t) ∧
        (s.wordAt (0x400 + 128 * n) ≠ 2 → s.StoredWord a value.toNat t)) ∧
      (∀ p < 32, a = 0x2400 + 1024 * p →
        if s.wordAt a = 2 ∧ value.toNat = 0 then s.StoredWord a value.toNat t else s.Refused .pageState t) ∧
      (∀ p < 32, ∀ k < 1024, 0 < k → a = 0x2400 + 1024 * p + k → s.Refused .pageBody t) ∧
      (0xA400 ≤ a → s.StoredWord a value.toNat t) := by
  intro a
  have stored : s.writeRefusal a value.toNat = none → s.StoredWord a value.toNat (s.hostWrite a value.toNat) :=
    fun accepted => State.hostWrite_stored accepted ▸ State.pokeWord_stored value.isLt s
  refine ⟨s.hostWrite a value.toNat, rfl, fun low => State.hostWrite_refused (State.writeRefusal_mirror low _ s),
    fun n hn here => ?_, fun n hn k hi lo here => ⟨fun taken => ?_, fun free => ?_⟩, fun p hp here => ?_,
    fun p hp k hk lo here => ?_, fun high => stored (State.writeRefusal_bulk high _ s)⟩
  · have check := State.writeRefusal_slipState hn value.toNat s
    rw [← here] at check
    dsimp only at check
    split
    · next accepted => exact stored (check.trans (if_pos accepted))
    · next refused =>
      rw [if_neg refused] at check
      split
      · next queued => exact State.hostWrite_refused (check.trans (if_pos queued))
      · next other => exact State.hostWrite_refused (check.trans (if_neg other))
  · have check := State.writeRefusal_slip hn lo hi value.toNat s
    rw [← here] at check
    exact State.hostWrite_refused (check.trans (if_pos taken))
  · have check := State.writeRefusal_slip hn lo hi value.toNat s
    rw [← here] at check
    exact stored (check.trans (if_neg free))
  · have check := State.writeRefusal_page hp (Nat.zero_lt_succ 1023) value.toNat s
    rw [Nat.add_zero, if_pos rfl, ← here] at check
    split
    · next returned => exact stored (check.trans (if_pos returned))
    · next other => exact State.hostWrite_refused (check.trans (if_neg other))
  · have check := State.writeRefusal_page hp hk value.toNat s
    rw [← here, if_neg (by omega)] at check
    exact State.hostWrite_refused check

/-- R185: a POST, and the one slip more that it queues. -/
theorem exec_post_queued (s : State) (value : Word) :
    let n := value.toNat
    ∃ t, exec (.post value) s = .next t ∧
      if 63 < n then s.Refused .postBadNumber t
      else if s.wordAt (0x400 + 128 * n) ≠ 1 then s.Refused .postNotPosted t
      else if n ∈ s.slips.queue then s.Refused .postQueued t
      else t = { s with slips := { s.slips with queue := s.slips.queue ++ [n] } } ∧
        t.slips.queue.length = s.slips.queue.length + 1 := by
  intro n
  refine ⟨s.postSlip n, rfl, ?_⟩
  rw [State.postSlip_eq]
  split
  · rfl
  · split
    · rfl
    · split
      · rfl
      · exact ⟨rfl, by simp⟩

/-! ## Between two accesses (R178, R188) -/

/-- R178: the accesses of an even run at an even address, cut after the first `k`. -/
theorem accessesOf_cut {a : Nat} (even : a % 2 = 0) (k : Nat) (bs : List Byte) (whole : bs.length % 2 = 0) :
    (accessesOf a bs).take k = accessesOf a (bs.take (2 * k)) ∧
      (accessesOf a bs).drop k = accessesOf (a + 2 * k) (bs.drop (2 * k)) := by
  induction k generalizing a bs with
  | zero => simp [accessesOf]
  | succ k ih =>
    match bs, whole with
    | [], _ => simp [accessesOf]
    | b :: c :: bs, whole =>
      obtain ⟨first, rest⟩ := ih (a := a + 2) (by omega) bs (by simp only [List.length_cons] at whole; omega)
      have twice : 2 * (k + 1) = 2 * k + 2 := by omega
      rw [accessesOf, if_pos even, List.take_succ_cons, List.drop_succ_cons, first, rest, twice]
      simp [accessesOf, even, Nat.add_assoc, Nat.add_comm 2]

/-- R188: a host write to the bulk area between two accesses of an image. -/
theorem State.hostWriteDuring_eq {start a : Nat} {image : List Byte} (even : start % 2 = 0) (whole : image.length % 2 = 0)
    (bulk : 0xA400 ≤ a) (k v : Nat) (s : State) :
    s.hostWriteDuring k (accessesOf start image) a v =
      (((s.poke start (image.take (2 * k))).pokeWord a v).poke (start + 2 * k) (image.drop (2 * k))) := by
  obtain ⟨first, rest⟩ := accessesOf_cut even k image whole
  rw [State.hostWriteDuring, State.during, first, rest, State.hostWrite_stored (State.writeRefusal_bulk bulk v _),
    State.pass_accessesOf, State.pass_accessesOf]

/-- R188: of a host write and the part's write of an image the later stands, byte by byte. -/
theorem State.byteAt_hostWriteDuring {start a : Nat} {image : List Byte} (even : start % 2 = 0)
    (whole : image.length % 2 = 0) (bulk : 0xA400 ≤ a) (k v : Nat) (s : State) (b : Nat) :
    (s.hostWriteDuring k (accessesOf start image) a v).byteAt b =
      if start + 2 * k ≤ b ∧ b < start + image.length then image.getD (b - start) 0
      else if a ≤ b ∧ b < a + 2 then (bytesOf 2 v).getD (b - a) 0
      else if start ≤ b ∧ b < start + image.length then image.getD (b - start) 0 else s.byteAt b := by
  rw [State.hostWriteDuring_eq even whole bulk, State.byteAt_poke, State.pokeWord, State.byteAt_poke, State.byteAt_poke,
    List.length_drop, List.length_take, length_bytesOf]
  by_cases later : start + 2 * k ≤ b ∧ b < start + image.length
  · rw [if_pos later, if_pos (by omega), List.getD_eq_getElem?_getD, List.getElem?_drop, List.getD_eq_getElem?_getD]
    congr 2
    omega
  · rw [if_neg later, if_neg (by omega)]
    by_cases host : a ≤ b ∧ b < a + 2
    · rw [if_pos host, if_pos host]
    · rw [if_neg host, if_neg host]
      by_cases inside : start ≤ b ∧ b < start + image.length
      · rw [if_pos inside, if_pos (by omega), List.getD_eq_getElem?_getD, List.getElem?_take_of_lt (by omega),
          List.getD_eq_getElem?_getD]
      · rw [if_neg inside, if_neg (by omega)]

/-- R202: a word of an image. -/
theorem numberOf_pair {image : List Byte} {j : Nat} (h : j + 1 < image.length) :
    numberOf ((image.drop j).take 2) = (image.getD j 0).toNat + 256 * (image.getD (j + 1) 0).toNat := by
  rw [List.drop_eq_getElem_cons (Nat.lt_of_succ_lt h), List.take_succ_cons, List.drop_eq_getElem_cons h,
    List.take_succ_cons, List.take_zero]
  simp [numberOf, h, Nat.lt_of_succ_lt h]

/-- R188: what the word of the host write reads as once the image has been written. -/
theorem State.wordAt_hostWriteDuring {start a : Nat} {image : List Byte} (even : start % 2 = 0)
    (whole : image.length % 2 = 0) (word : a % 2 = 0) (bulk : 0xA400 ≤ a) (k : Nat) {v : Nat} (hv : v < 65536) (s : State) :
    (s.hostWriteDuring k (accessesOf start image) a v).wordAt a =
      if a < start ∨ start + image.length ≤ a then v
      else if (a - start) / 2 < k then v
      else numberOf ((image.drop (a - start)).take 2) := by
  have low : ((bytesOf 2 v).getD 0 0).toNat + 256 * ((bytesOf 2 v).getD 1 0).toNat = v := by
    simp [bytesOf_two]
    omega
  rw [State.wordAt_eq, State.byteAt_hostWriteDuring even whole bulk, State.byteAt_hostWriteDuring even whole bulk]
  by_cases host : a < start ∨ start + image.length ≤ a ∨ (a - start) / 2 < k
  · rw [if_neg (by omega), if_pos (by omega), if_neg (by omega), if_pos (by omega), Nat.sub_self, Nat.add_sub_cancel_left,
      low]
    split_ifs <;> first | rfl | omega
  · rw [if_pos (by omega), if_pos (by omega), if_neg (by omega), if_neg (by omega), numberOf_pair (by omega),
      Nat.sub_add_comm (by omega)]

/-! ## The mirror (R179) -/

/-- R179: the accesses of a handed value: a raise of the count, the value, and a raise of the count. -/
theorem State.mirrorAccesses_eq (a : Nat) (v : List Byte) (s : State) :
    s.mirrorAccesses a v = accessesOf 4 (bytesOf 2 ((s.wordAt 4 + 1) % 65536)) ++ accessesOf a v ++
      accessesOf 4 (bytesOf 2 ((s.wordAt 4 + 2) % 65536)) := rfl

/-- R179: a byte outside the value and the update count reads as before while a value is handed. -/
theorem State.byteAt_during_mirror {a b : Nat} {v : List Byte} (count : b < 4 ∨ 6 ≤ b) (value : b < a ∨ a + v.length ≤ b)
    (k : Nat) (s : State) : (s.during k (s.mirrorAccesses a v)).byteAt b = s.byteAt b := by
  rw [State.mirrorAccesses_eq, State.during_append, State.byteAt_during_outside (by rw [length_bytesOf]; omega),
    State.during_append, State.byteAt_during_outside value, State.byteAt_during_outside (by rw [length_bytesOf]; omega)]

/-- R178, R179: each other word is whole while a value is handed. -/
theorem State.wordAt_during_mirror {a w : Nat} (even : w % 2 = 0) (other : w ≠ 4) (v : List Byte) (k : Nat) (s : State) :
    (s.during k (s.mirrorAccesses a v)).wordAt w = s.wordAt w ∨
      (s.during k (s.mirrorAccesses a v)).wordAt w = (s.mirror a v).wordAt w := by
  have outside : ∀ n, w + 2 ≤ 4 ∨ 4 + (bytesOf 2 n).length ≤ w := fun n => by
    rw [length_bytesOf]
    omega
  rw [State.mirror_eq, State.mirrorAccesses_eq, State.during_append, State.wordAt_during_outside (outside _),
    State.during_append, State.pokeWord, State.pokeWord, State.wordAt_poke_outside (outside _)]
  generalize raised : s.during k (accessesOf 4 (bytesOf 2 ((s.wordAt 4 + 1) % 65536))) = u
  have before : u.wordAt w = s.wordAt w := by
    rw [← raised]
    exact State.wordAt_during_outside (outside _) k s
  have same : ∀ b, b = w ∨ b = w + 1 → (u.poke a v).byteAt b =
      ((s.poke 4 (bytesOf 2 ((s.updateCount + 1) % 65536))).poke a v).byteAt b := fun b hb => by
    have count : b < 4 ∨ 4 + 2 ≤ b := by omega
    rw [State.byteAt_poke, State.byteAt_poke a, State.byteAt_poke_outside (by rw [length_bytesOf]; exact count), ← raised,
      State.byteAt_during_outside (by rw [length_bytesOf]; exact count)]
  obtain as_before | as_after := State.wordAt_during_accessesOf even _ a v u
  · exact .inl (as_before.trans before)
  · exact .inr (as_after.trans (State.wordAt_congr (same w (.inl rfl)) (same (w + 1) (.inr rfl))))

/-- R179: the handed value stands. -/
theorem State.peek_mirror {a : Nat} (ha : 6 ≤ a) (v : List Byte) (s : State) : (s.mirror a v).peek a v.length = v := by
  rw [State.mirror_eq, State.pokeWord, State.peek_poke_outside (.inr (by rw [length_bytesOf]; omega))]
  exact State.peek_poke_self a v _

/-- R179: a host that reads the same even count twice has read fields that were all old or all new. -/
theorem State.during_mirror_whole {a : Nat} (ha : 6 ≤ a) (v : List Byte) (s : State) {i j k : Nat} (ij : i ≤ j) (jk : j ≤ k)
    (even : s.wordAt 4 % 2 = 0)
    (equal : (s.during i (s.mirrorAccesses a v)).wordAt 4 = (s.during k (s.mirrorAccesses a v)).wordAt 4)
    (found : (s.during i (s.mirrorAccesses a v)).wordAt 4 % 2 = 0) :
    s.during j (s.mirrorAccesses a v) = s ∨ s.during j (s.mirrorAccesses a v) = s.mirror a v := by
  have small := State.wordAt_lt 4 s
  have counts : ∀ k, (s.during k (s.mirrorAccesses a v)).wordAt 4 = _ := State.updateCount_during_mirror ha v (s := s)
  rw [counts i, counts k] at equal
  rw [counts i] at found
  simp only [State.updateCount] at equal found
  by_cases all : (s.mirrorAccesses a v).length ≤ i
  · exact .inr (State.during_all (all.trans ij) s)
  · by_cases none_ : i = 0
    · by_cases last : k = 0
      · obtain rfl : j = 0 := by omega
        exact .inl rfl
      · rw [if_pos none_, if_neg last] at equal
        split at equal <;> omega
    · rw [if_neg none_, if_pos (by omega)] at found
      omega

/-- Settles O13: each host write by the word it reaches, and a run of accesses cut after any number of them. -/
theorem hostWritesAndPostsAreChecked : Obligations.HostWritesAndPostsAreChecked := by
  unfold Obligations.HostWritesAndPostsAreChecked
  refine ⟨exec_hostMemoryWrite, exec_post_queued, fun w n => accessesOf_word (by omega) n, fun s a bytes =>
      ⟨accessesOf_oneWord a bytes, State.during_all le_rfl s, fun k w even => State.wordAt_during_accessesOf even k a bytes s⟩,
    fun s start image k word value even whole => ?_, fun s a value ha => ?_⟩
  · intro a u bulk
    refine ⟨State.wordAt_hostWriteDuring even whole (by omega) bulk k value.isLt s, fun b lo hi => ?_⟩
    rw [State.byteAt_hostWriteDuring even whole bulk, if_neg (by omega : ¬(a ≤ b ∧ b < a + 2))]
    split_ifs <;> first | rfl | omega
  · exact ⟨State.during_all le_rfl s, fun k => State.updateCount_during_mirror ha value k s,
      fun k w even other => State.wordAt_during_mirror even other value k s,
      fun k b count outside => State.byteAt_during_mirror count outside k s, State.peek_mirror ha value s,
      fun i j k ij jk even equal found => State.during_mirror_whole ha value s ij jk even equal found⟩

end Sys2Proof.Machine
end

section
/-! The take and the answer of a slip, and BAD_KIND: O14. -/

namespace Sys2Proof.Machine

/-! ## Fields (R203) -/

theorem numberOf_lt (bytes : List Byte) : numberOf bytes < 256 ^ bytes.length := by
  induction bytes with
  | nil => exact Nat.one_pos
  | cons b bytes ih =>
    have := b.isLt
    rw [numberOf, List.length_cons, Nat.pow_succ]
    omega

theorem field_lt (at_ width : Nat) (bytes : List Byte) : field at_ width bytes < 256 ^ width :=
  (numberOf_lt _).trans_le (Nat.pow_le_pow_right (by omega) (List.length_take_le _ _))

/-! ## An answer (R186, R205) -/

theorem ResultCode.code_lt (r : ResultCode) : r.code < 65536 := by
  cases r <;> decide

theorem Answer.flags_lt (a : Answer) : a.flags < 65536 := by
  unfold Answer.flags
  split_ifs <;> omega

/-- R178: the accesses of an answer are its words and, last, the state word ANSWERED. -/
theorem answerAccesses_eq (n tag : Nat) (a : Answer) :
    answerAccesses n tag a =
      (accessesOf (0x400 + 128 * n + 6) (bytesOf 2 a.result.code ++ bytesOf 2 a.flags ++ bytesOf 2 tag) ++
        accessesOf (0x400 + 128 * n + 16) (padTo 16 0 a.detail)) ++ [(0x400 + 128 * n, bytesOf 2 3)] := by
  have place : slipAddress n = 0x400 + 128 * n := rfl
  rw [answerAccesses, place, accessesOf_word (by omega) slipAnswered]
  rfl

theorem State.pass_one (a : Nat) (bs : List Byte) (s : State) : s.pass [(a, bs)] = s.poke a bs := by
  rw [State.poke_eq_pokeBytes]
  rfl

/-- R186: an answer as memory takes it. -/
theorem State.pass_answer (n tag : Nat) (a : Answer) (s : State) :
    s.pass (answerAccesses n tag a) =
      (((((s.pokeWord (0x400 + 128 * n + 6) a.result.code).pokeWord (0x400 + 128 * n + 8) a.flags).pokeWord
        (0x400 + 128 * n + 10) tag).poke (0x400 + 128 * n + 16) (padTo 16 0 a.detail)).pokeWord (0x400 + 128 * n) 3) := by
  rw [answerAccesses_eq, State.pass_append, State.pass_append, State.pass_accessesOf, State.pass_accessesOf, State.pass_one,
    State.poke_append, State.poke_append, List.length_append, length_bytesOf, length_bytesOf]
  rfl

/-- R186, R205: the words of an answer, and every other byte as before. -/
theorem State.answer_bytes (n tag : Nat) (a : Answer) (s : State) :
    let base := 0x400 + 128 * n
    let t := s.pass (answerAccesses n tag a)
    t.wordAt base = 3 ∧ t.wordAt (base + 6) = a.result.code ∧ t.wordAt (base + 8) = a.flags ∧
      t.wordAt (base + 10) = tag % 65536 ∧ t.peek (base + 16) 16 = padTo 16 0 a.detail ∧
      ∀ b, (b < base ∨ base + 2 ≤ b) → (b < base + 6 ∨ base + 12 ≤ b) → (b < base + 16 ∨ base + 32 ≤ b) →
        t.byteAt b = s.byteAt b := by
  have word : ∀ (c : Nat), 2 ≤ (bytesOf 2 c).length ∧ (bytesOf 2 c).length ≤ 2 := by simp
  have image : (padTo 16 0 a.detail).length = 16 := length_padTo _ _ _
  have image' := State.peek_poke_self (0x400 + 128 * n + 16) (padTo 16 0 a.detail)
  rw [image] at image'
  dsimp only
  rw [State.pass_answer]
  simp only [State.pokeWord]
  refine ⟨State.wordAt_pokeWord_self _ 3 _, ?_, ?_, ?_, ?_, fun b hb h6 h16 => ?_⟩
  · rw [State.wordAt_poke_outside (by simp), State.wordAt_poke_outside (by omega), State.wordAt_poke_outside (by omega),
      State.wordAt_poke_outside (by omega), ← State.pokeWord, State.wordAt_pokeWord_self,
      Nat.mod_eq_of_lt a.result.code_lt]
  · rw [State.wordAt_poke_outside (by simp), State.wordAt_poke_outside (by omega), State.wordAt_poke_outside (by omega),
      ← State.pokeWord, State.wordAt_pokeWord_self, Nat.mod_eq_of_lt a.flags_lt]
  · rw [State.wordAt_poke_outside (by simp), State.wordAt_poke_outside (by omega), ← State.pokeWord,
      State.wordAt_pokeWord_self]
  · rw [State.peek_poke_outside (by simp), image']
  · rw [State.byteAt_poke_outside (by simpa using hb), State.byteAt_poke_outside (by omega),
      State.byteAt_poke_outside (by simp; omega), State.byteAt_poke_outside (by simp; omega),
      State.byteAt_poke_outside (by simp; omega)]

theorem State.writeAnswer_mem (n tag : Nat) (a : Answer) (s : State) :
    (s.writeAnswer n tag a).mem = (s.pass (answerAccesses n tag a)).mem := rfl

/-- R186, R205: the words that an answer leaves in its slip, and every other byte as before. -/
theorem State.writeAnswer_bytes (n tag : Nat) (a : Answer) (s : State) :
    let base := 0x400 + 128 * n
    let t := s.writeAnswer n tag a
    t.wordAt base = 3 ∧ t.wordAt (base + 6) = a.result.code ∧ t.wordAt (base + 8) = a.flags ∧
      t.wordAt (base + 10) = tag % 65536 ∧ t.peek (base + 16) 16 = padTo 16 0 a.detail ∧
      ∀ b, (b < base ∨ base + 2 ≤ b) → (b < base + 6 ∨ base + 12 ≤ b) → (b < base + 16 ∨ base + 32 ≤ b) →
        t.byteAt b = s.byteAt b := by
  have mem := s.writeAnswer_mem n tag a
  obtain ⟨state, result, flags, tagged, detail, other⟩ := State.answer_bytes n tag a s
  exact ⟨(State.wordAt_of_mem mem).trans state, (State.wordAt_of_mem mem).trans result, (State.wordAt_of_mem mem).trans flags,
    (State.wordAt_of_mem mem).trans tagged, (State.peek_of_mem mem).trans detail,
    fun b h0 h6 h16 => (State.byteAt_congr mem b).trans (other b h0 h6 h16)⟩

/-- R178: the state word of an answer is its last access, before which all else stands. -/
theorem State.answer_last (n tag : Nat) (a : Answer) (s : State) :
    let base := 0x400 + 128 * n
    let l := answerAccesses n tag a
    s.WordLast base l ∧
      ∀ b, (b < base ∨ base + 2 ≤ b) → (s.during (l.length - 1) l).byteAt b = (s.pass l).byteAt b := by
  dsimp only
  rw [answerAccesses_eq]
  constructor
  · intro k hk
    rw [List.length_append, List.length_singleton] at hk
    rw [State.during_init _ (by omega), State.during_append, State.wordAt_during_outside (by omega),
      State.wordAt_during_outside (by omega)]
  · intro b hb
    rw [List.length_append, List.length_singleton, Nat.add_sub_cancel, State.during_init _ le_rfl, State.during_all le_rfl,
      State.pass_append _ [_], State.pass_one, State.byteAt_poke_outside (by simpa using hb)]

/-! ## A take (R186) -/

/-- R188: the extent of a service is even and in the bulk area. -/
theorem Service.extentOk_iff (v : Service) :
    v.extentOk = true ↔ v.start % 2 = 0 ∧ v.length % 2 = 0 ∧ 0xA400 ≤ v.start ∧ v.start + v.length ≤ 0x10000 := by
  unfold Service.extentOk Service.extentProblem
  simp only [Config.bulkBase, Config.memoryEnd]
  split_ifs <;> simp <;> omega

/-- R186: what a take copies. -/
theorem State.beginService_eq (n : Nat) (s : State) :
    let v := s.beginService n
    v.slip = n ∧ v.stage = .taken ∧ v.copy = s.peek (0x400 + 128 * n) 128 ∧
      v.bulk = (if (v.kind = 10 ∨ v.kind = 11) ∧ v.start % 2 = 0 ∧ v.length % 2 = 0 ∧ 0xA400 ≤ v.start ∧
        v.start + v.length ≤ 0x10000 then s.peek v.start v.length else []) := by
  have load : ∀ v : Service, ((v.kind = SlipKind.loadTenants.code ∨ v.kind = SlipKind.loadCredentials.code) ∧
      v.extentOk = true) ↔ ((v.kind = 10 ∨ v.kind = 11) ∧ v.start % 2 = 0 ∧ v.length % 2 = 0 ∧ 0xA400 ≤ v.start ∧
        v.start + v.length ≤ 0x10000) := fun v => by
    rw [v.extentOk_iff]
    rfl
  unfold State.beginService
  dsimp only
  split
  · next good => exact ⟨rfl, rfl, rfl, (if_pos ((load _).1 good)).symm⟩
  · next bad => exact ⟨rfl, rfl, rfl, (if_neg (mt (load _).2 bad)).symm⟩

/-- R205: the kind codes that name no slip kind. -/
theorem kindUnknown_iff (code : Nat) : kindUnknown code = true ↔ code = 0 ∨ 36 < code := by
  simp [kindUnknown]

/-- Settles O14: the take and the answer by the words that they write. -/
theorem slipsAreTakenAndAnswered : Obligations.SlipsAreTakenAndAnswered := by
  unfold Obligations.SlipsAreTakenAndAnswered
  refine ⟨fun s n rest idle queue => ?_, fun s v serving => ⟨fun a served => ?_, fun taken unknown => ?_⟩⟩
  · let u : State := { s with slips := { queue := rest, serving := some (s.beginService n) } }
    have take : s.takeSlip = u.setSlipState n slipTaken := by
      rw [State.takeSlip, idle, queue]
    obtain ⟨slip, stage, copy, bulk⟩ := State.beginService_eq n s
    refine ⟨_, _, congrArg Host.Outcome.next take, ?_, slip, stage, copy, bulk, ?_, fun b lo hi => ?_⟩
    · exact State.OnlyMem.eq (State.setSlipState_frame n slipTaken u)
    · exact State.slipWord_setSlipState_self n slipTaken u
    · exact State.byteAt_pokeWord_outside (by simp only [slipAddress, Config.rackBase]; omega) _ u
  · let u : State := { s with slips := { s.slips with serving := none } }
    have answer : s.answerSlip = u.writeAnswer v.slip v.tag a := by
      rw [State.answerSlip, serving]
      dsimp only
      rw [served]
    obtain ⟨state, result, flags, tag, detail, other⟩ := State.writeAnswer_bytes v.slip v.tag a u
    obtain ⟨last, stands⟩ := State.answer_last v.slip v.tag a s
    have mem : (u.writeAnswer v.slip v.tag a).mem = (s.pass (answerAccesses v.slip v.tag a)).mem :=
      State.mem_pass_congr (s := s) (t := u) rfl _
    have small : v.tag < 65536 := field_lt 4 2 v.copy
    rw [Nat.mod_eq_of_lt small] at tag
    refine ⟨_, congrArg Host.Outcome.next answer, ?_, state, result, flags, tag, detail, other, mem, last,
      fun b hb => (stands b hb).trans (State.byteAt_congr mem.symm b)⟩
    rw [State.writeAnswer, State.OnlyMem.eq (State.pass_frame (answerAccesses v.slip v.tag a) u)]
    rfl
  · have refused : s.refuseKind = s.finishService (.served (.refusal .badKind [])) := by
      rw [State.refuseKind, serving]
      exact if_pos ⟨taken, (kindUnknown_iff _).2 unknown⟩
    exact ⟨_, congrArg Host.Outcome.next refused, State.finishService_eq _ s, State.serviceAt_finishService serving rfl _⟩

end Sys2Proof.Machine
end

section
/-! SITE_PUT (O15), and how a slip's owner is served. -/

namespace Sys2Proof.Machine

/-! ## The owner of a slip (R186) -/

/-- R186: the slip in service is carried out by its owner. -/
theorem State.serve_eq {kind : SlipKind} {owner : Service → State → State × Stage} {v : Service} {s u : State} {stage : Stage}
    (serves : s.Serves kind v) (work : owner v s = (u, stage)) : s.serve kind owner = u.finishService stage := by
  rw [State.serve_of_serves serves, work]

/-- R186: the owner has given its answer, the slip unit untouched till then. -/
theorem State.gives {kind : SlipKind} {v : Service} {s u : State} (serves : s.Serves kind v) (slips : u.slips = s.slips)
    (a : Answer) : s.Gives v a (u.finishService (.served a)) :=
  State.serviceAt_finishService serves.1 slips _

/-- R187: a slip that is refused changes the slip unit alone. -/
theorem exec_refused {c : Instr} {kind : SlipKind} {owner : Service → State → State × Stage} {v : Service} {s : State}
    {a : Answer} (runs : exec c s = .next (s.serve kind owner)) (serves : s.Serves kind v)
    (work : owner v s = (s, .served a)) :
    ∃ t, exec c s = .next t ∧ t = { s with slips := t.slips } ∧ s.Gives v a t :=
  ⟨_, runs.trans (congrArg Host.Outcome.next (State.serve_eq serves work)), State.finishService_eq _ s,
    State.gives serves rfl a⟩

/-! ## SITE_PUT (R170, R189) -/

/-- R189: the number of the marks shows each mark. -/
theorem numberOfMarks_spec (marks : List Bool) :
    numberOfMarks marks < 2 ^ marks.length ∧ ∀ i < marks.length, (numberOfMarks marks).testBit i = marks.getD i false := by
  induction marks with
  | nil => exact ⟨Nat.one_pos, nofun⟩
  | cons b marks ih =>
    obtain ⟨small, bits⟩ := ih
    have low : (if b then 1 else 0) < 2 := by cases b <;> decide
    refine ⟨?_, fun i hi => ?_⟩
    · rw [numberOfMarks, List.length_cons, Nat.pow_succ]
      omega
    · cases i with
      | zero =>
        rw [numberOfMarks, Nat.testBit_zero, Nat.add_mul_mod_self_left]
        cases b <;> rfl
      | succ i =>
        rw [numberOfMarks, Nat.testBit_succ, Nat.add_mul_div_left _ _ Nat.two_pos, Nat.div_eq_of_lt low, Nat.zero_add,
          bits i (by simpa using hi)]
        rfl

/-- R170: a polarity that is put: the hold measurement follows where it changes. -/
theorem State.setPolarity_eq (p : FirePolarity) (s : State) :
    let t := s.setPolarity p
    t = { s with settings := { s.settings with polarity := p }, mode := { s.mode with hold := t.mode.hold } } ∧
      t.mode.hold = if p = s.settings.polarity then s.mode.hold
        else if t.fireReading = s.mode.fireActive then .stopped else .running 0 := by
  unfold State.setPolarity
  by_cases same : s.settings.polarity = p
  · subst same
    simp
  · simp only [if_neg same, if_neg (Ne.symm same)]
    exact ⟨rfl, rfl⟩

/-- R189: the polarity of a SITE_PUT is 0, 1 or absent. -/
theorem polarityBad (n : Nat) : require (n ≤ 1 || n == 255) (.badField 9) = if 1 < n ∧ n ≠ 255 then some (.badField 9) else none := by
  unfold require
  by_cases h : n ≤ 1
  · simp [h]
  · by_cases absent : n = 255 <;> simp [h, absent]

/-- Settles O15: the settings are put field by field, and a changed polarity forms the reading anew. -/
theorem sitePutSetsTheSettings : Obligations.SitePutSetsTheSettings := by
  unfold Obligations.SitePutSetsTheSettings
  intro s v serves pol put off marks
  refine ⟨fun high present => ?_, fun good => ?_⟩
  · refine exec_refused (owner := sitePut) rfl serves ?_
    rw [sitePut]
    dsimp only
    rw [polarityBad, if_pos ⟨high, present⟩]
    rfl
  · have marks_eq : v.clampMarks = marks := rfl
    obtain ⟨small, bits⟩ := numberOfMarks_spec marks
    have width : marks.length = 8 := rfl
    rw [width] at small bits
    obtain ⟨state, hold⟩ := State.setPolarity_eq (polarityOf s.settings.polarity pol) { s with settings := v.settings s.settings }
    have work : sitePut v s = (s.putSettings v, .served { Answer.done ((s.putSettings v).settings.bytes ++
        bytesOf 2 (numberOfMarks marks)) with clamped := marks.any id }) := by
      rw [sitePut]
      dsimp only
      rw [polarityBad, if_neg (by omega)]
      rfl
    have slips : (s.putSettings v).slips = s.slips := by rw [State.putSettings, state]
    have settings : (s.putSettings v).settings = { v.settings s.settings with polarity := polarityOf s.settings.polarity pol } := by
      rw [State.putSettings, state]
    refine ⟨_, numberOfMarks marks, congrArg Host.Outcome.next (State.serve_eq serves work), ?_, ?_, ?_, small.trans_eq (by norm_num), bits, ?_⟩
    · rw [State.finishService_eq, State.putSettings, state]
    · exact settings
    · have polarity : (s.putSettings v).settings.polarity = polarityOf s.settings.polarity pol := by rw [settings]
      show (s.putSettings v).mode.hold = if (s.putSettings v).settings.polarity = _ then _ else _
      rw [polarity]
      exact hold
    · have clamped : marks.any id = decide (true ∈ marks) := by
        rw [Bool.eq_iff_iff]
        simp
      rw [← clamped]
      exact State.gives serves slips _

end Sys2Proof.Machine
end

section
/-! POWER_ON (O16). -/

namespace Sys2Proof.Machine

/-- R190: block 0 after power-on depends on the state before it through the revision alone. -/
theorem State.identityBlock_powerUpValues (s : State) :
    s.powerUpValues.identityBlock = bytesOf 2 Config.partCode ++ bytesOf 2 s.revision.toNat ++
      State.reset.powerUpValues.identityBlock.drop 4 :=
  rfl

/-- R190, R193: block 0 written and page 0 taken. -/
def State.poweredUp (s : State) : State :=
  (s.powerUpValues.poke 0 s.powerUpValues.identityBlock).takePage 0

theorem State.powerUp_eq (s : State) : s.powerUp = (s.poweredUp.log .powerUp none none []).settleHold := rfl

/-- R193: a page that is taken changes memory and the journal alone. -/
theorem State.takePage_eq (p : Nat) (s : State) :
    s.takePage p = { s with
      mem := (s.takePage p).mem, journal := { s.journal with page := p, stalled := false, reexamine := false } } := by
  unfold State.takePage
  rw [State.OnlyMem.eq (State.pass_frame (takeAccesses p) s)]

theorem State.takePage_poke_eq (p a : Nat) (bs : List Byte) (s : State) :
    (s.poke a bs).takePage p = { s with
      mem := ((s.poke a bs).takePage p).mem
      journal := { s.journal with page := p, stalled := false, reexamine := false } } := by
  refine (State.takePage_eq p (s.poke a bs)).trans ?_
  generalize ((s.poke a bs).takePage p).mem = m
  rw [State.OnlyMem.eq (State.poke_frame a bs s)]

theorem State.poweredUp_eq (s : State) :
    s.poweredUp = { s.powerUpValues with
      mem := s.poweredUp.mem
      journal := { State.reset.journal with sequence := 0, flush := .stopped } } :=
  State.takePage_poke_eq 0 0 s.powerUpValues.identityBlock s.powerUpValues

theorem State.poweredUp_journal (s : State) :
    s.poweredUp.journal = { State.reset.journal with sequence := 0, flush := .stopped } := by
  rw [State.poweredUp_eq]

theorem State.entryCount_poweredUp (s : State) : s.poweredUp.entryCount 0 = 0 := State.entryCount_takePage 0 _

/-- R201: the POWER_UP entry, at second 0 of site minute 0. -/
def powerUpEntry : Entry :=
  { minute := 0, second := 0, kind := .powerUp, subject := none, tenant := none, detail := [] }

/-- R193, R201: the POWER_UP entry is written to page 0. -/
theorem State.log_poweredUp (s : State) :
    s.poweredUp.log .powerUp none none [] = s.poweredUp.placeEntry powerUpEntry := by
  have page : s.poweredUp.journal.page = 0 := by rw [State.poweredUp_journal]; rfl
  have open_ : s.poweredUp.journal.stalled = false := by rw [State.poweredUp_journal]; rfl
  have now : s.poweredUp.entry .powerUp none none [] = powerUpEntry := by
    rw [State.entry, State.poweredUp_eq]
    rfl
  rw [State.log, now]
  exact State.submit_room _ open_ (by rw [page, State.entryCount_poweredUp]; omega)

theorem State.powerUp_placed (s : State) : s.powerUp = (s.poweredUp.placeEntry powerUpEntry).settleHold := by
  rw [State.powerUp_eq, State.log_poweredUp]

/-- R190, R201: every block after power-on. -/
theorem State.powerUp_state (s : State) :
    s.powerUp = { State.reset with
      mem := s.powerUp.mem, revision := s.revision, pending := s.pending
      mode := { State.reset.mode with
        contactClosed := s.mode.contactClosed, hold := if s.mode.contactClosed then .running 0 else .stopped } } := by
  have page : s.poweredUp.journal.page = 0 := by rw [State.poweredUp_journal]; rfl
  rw [State.powerUp_placed, State.placeEntry_eq, page, State.entryCount_poweredUp, State.poweredUp_eq]
  cases closed : s.mode.contactClosed <;>
    simp [State.settleHold, State.powerUpValues, State.fireReading, closed, State.reset, Settings.defaults, Timer.set]

theorem State.settleHold_mem (s : State) : s.settleHold.mem = s.mem := rfl

theorem State.powerUp_mem (s : State) : s.powerUp.mem = (s.poweredUp.placeEntry powerUpEntry).mem := by
  rw [State.powerUp_placed, State.settleHold_mem]

theorem State.length_identityBlock (s : State) : s.identityBlock.length = 39 := by
  simp [State.identityBlock, capacities, flagByte]

/-- R190: after power-on a byte of memory depends on the state before it through block 0 alone. -/
theorem State.byteAt_poweredUp (s : State) (c : Nat) :
    s.poweredUp.byteAt c = if c = 0x2400 then 1 else if c = 0x2401 then 0
      else if 0x2402 ≤ c ∧ c < 0x2408 then [0xFF, 0xFF, 0xFF, 0xFF, 0, 0xFF].getD (c - 0x2402) 0
      else if c < 39 then s.powerUpValues.identityBlock.getD c 0 else 0 := by
  have width := s.powerUpValues.length_identityBlock
  have blank : s.powerUpValues.byteAt c = 0 := rfl
  rw [State.poweredUp, State.byteAt_takePage, State.byteAt_poke, width, blank]
  simp only [Nat.zero_le, true_and, Nat.zero_add, Nat.sub_zero]

/-- R190: two powers-on with the same byte in block 0 leave the same byte. -/
theorem State.byteAt_powerUp_congr {s t : State} {c : Nat}
    (same : s.powerUpValues.identityBlock.getD c 0 = t.powerUpValues.identityBlock.getD c 0) :
    s.powerUp.byteAt c = t.powerUp.byteAt c := by
  rw [State.byteAt_congr s.powerUp_mem, State.byteAt_congr t.powerUp_mem, State.byteAt_placeEntry, State.byteAt_placeEntry,
    s.poweredUp_journal, t.poweredUp_journal, State.byteAt_poweredUp, State.byteAt_poweredUp, same]
  have none_ : ∀ u : State, u.poweredUp.entryCount State.reset.journal.page = 0 := fun u => u.entryCount_poweredUp
  simp only [none_]

/-- R190: block 0 after power-on. -/
theorem State.byteAt_powerUp_block (s : State) {c : Nat} (h : c < 39) :
    s.powerUp.byteAt c = s.powerUpValues.identityBlock.getD c 0 := by
  rw [State.byteAt_congr s.powerUp_mem, State.byteAt_placeEntry, if_neg (by omega), if_neg (by omega), if_neg (by omega),
    State.byteAt_poweredUp, if_neg (by omega), if_neg (by omega), if_neg (by omega), if_pos h]

/-- R204: the revision stands at byte 2 of block 0. -/
theorem State.wordAt_powerUp_revision (s : State) : s.powerUp.wordAt 2 = s.revision.toNat := by
  have block := s.identityBlock_powerUpValues
  have lo : s.powerUpValues.identityBlock.getD 2 0 = BitVec.ofNat 8 s.revision.toNat := by rw [block]; rfl
  have hi : s.powerUpValues.identityBlock.getD 3 0 = BitVec.ofNat 8 (s.revision.toNat / 256) := by rw [block]; rfl
  have small := s.revision.isLt
  rw [State.wordAt_eq, State.byteAt_powerUp_block s (by omega), State.byteAt_powerUp_block s (by omega), lo, hi,
    BitVec.toNat_ofNat, BitVec.toNat_ofNat]
  omega

/-- R190: power-on brings the memory of the power-on state. -/
theorem State.reset_powerUp_mem : State.reset.powerUp.mem = State.reset.mem := by
  decide

/-- R179: behind the revision, block 0 is the same after every power-on. -/
theorem State.identityBlock_getD (s t : State) {c : Nat} (h2 : c ≠ 2) (h3 : c ≠ 3) :
    s.powerUpValues.identityBlock.getD c 0 = t.powerUpValues.identityBlock.getD c 0 := by
  rw [State.identityBlock_powerUpValues, State.identityBlock_powerUpValues t, bytesOf_two s.revision.toNat,
    bytesOf_two t.revision.toNat]
  match c, h2, h3 with
  | 0, _, _ => rfl
  | 1, _, _ => rfl
  | c + 4, _, _ => rfl

/-- Settles O16: the power-on of any state is that of the power-on state but for the revision. -/
theorem powerOnBringsTheResetState : Obligations.PowerOnBringsTheResetState := by
  unfold Obligations.PowerOnBringsTheResetState
  refine fun s => ⟨s.powerUp, rfl, s.powerUp_state, s.wordAt_powerUp_revision, fun a h2 h3 => ?_⟩
  exact (State.byteAt_powerUp_congr (s.identityBlock_getD State.reset h2 h3)).trans (State.byteAt_congr State.reset_powerUp_mem a)

end Sys2Proof.Machine
end

section
/-! What the owner of each slip is (R186), and that a refused slip leaves every block as it was (R187, O9). -/

namespace Sys2Proof.Machine

/-! ## The owner of each slip -/

/-- R186: the kind of slip that a command serves, and the owner that carries it out. -/
def ownerOf : Instr → Option (SlipKind × (Service → State → State × Stage))
  | .tenantPut => some (.tenantPut, tenantPut)
  | .tenantDrop => some (.tenantDrop, tenantDrop)
  | .credPut => some (.credPut, credPut)
  | .credDrop => some (.credDrop, credDrop)
  | .grantSet => some (.grantSet, grantSet)
  | .standingSet => some (.standingSet, standingSet)
  | .unitPut => some (.unitPut, unitPut)
  | .unitDrop => some (.unitDrop, unitDrop)
  | .tenantRead => some (.tenantRead, tenantRead)
  | .loadTenants => some (.loadTenants, loadList)
  | .loadCredentials => some (.loadCredentials, loadList)
  | .clockSet => some (.clockSet, clockSet)
  | .profilePut => some (.profilePut, profilePut)
  | .holidaySet => some (.holidaySet, holidaySet)
  | .zonePut => some (.zonePut, zonePut)
  | .zoneRead => some (.zoneRead, zoneRead)
  | .visitExtend => some (.visitExtend, visitExtend)
  | .visitEnd => some (.visitEnd, visitEnd)
  | .visitList => some (.visitList, visitList)
  | .unitClear => some (.unitClear, unitClear)
  | .portalPut => some (.portalPut, portalPut)
  | .portalDrop => some (.portalDrop, portalDrop)
  | .portalPulse => some (.portalPulse, portalPulse)
  | .portalHold => some (.portalHold, portalHold)
  | .portalSecure => some (.portalSecure, portalSecure)
  | .portalReset => some (.portalReset, portalReset)
  | .carPut => some (.carPut, carPut)
  | .carDrop => some (.carDrop, carDrop)
  | .linePut => some (.linePut, linePut)
  | .nodePut => some (.nodePut, nodePut)
  | .nodeDrop => some (.nodeDrop, nodeDrop)
  | .lockdown order => some (.lockdown, lockdown order)
  | .evacuate order => some (.evacuate, evacuate order)
  | .resume order => some (.resume, resume order)
  | .sitePut => some (.sitePut, sitePut)
  | .journalMark => some (.journalMark, journalMark)
  | _ => none

theorem ownerOf_slipKindOf (c : Instr) : (ownerOf c).map Prod.fst = slipKindOf c := by
  cases c <;> rfl

theorem exec_of_ownerOf {c : Instr} {kind : SlipKind} {owner : Service → State → State × Stage}
    (h : ownerOf c = some (kind, owner)) (s : State) : exec c s = .next (s.serve kind owner) := by
  cases c <;> cases h <;> rfl

/-! ## A refusal keeps the state -/

/-- R187: what an owner gives is the state as it was, or an answer DONE, or a stage that is no answer. -/
abbrev State.Soundly (s : State) (given : State × Stage) : Prop :=
  given.1 = s ∨ ∀ a, given.2 = .served a → a.result = .done

theorem State.Soundly.refused {s : State} {given : State × Stage} (h : s.Soundly given) {a : Answer}
    (answer : given.2 = .served a) (bad : a.result ≠ .done) : given.1 = s :=
  h.resolve_right fun done => bad (done a answer)

theorem soundly_same (s : State) (stage : Stage) : s.Soundly (s, stage) := .inl rfl

theorem soundly_done {s t : State} {a : Answer} (h : a.result = .done) : s.Soundly (t, .served a) :=
  .inr fun _ same => Stage.served.inj same ▸ h

/-- R187: an owner that refuses where a check fails, and otherwise answers DONE. -/
theorem checked_soundly (problem : Option Answer) (work : State × Answer) (s : State) (h : work.2.result = .done) :
    s.Soundly (checked problem work s) := by
  cases problem with
  | some a => exact soundly_same s _
  | none => exact soundly_done h

theorem withPortal_soundly {v : Service} {s : State} {work : Nat → Portal → State × Answer}
    (h : ∀ p r, (work p r).1 = s ∨ (work p r).2.result = .done) : s.Soundly (withPortal v s work) := by
  unfold withPortal
  dsimp only
  split
  · exact soundly_same s _
  · split
    · exact soundly_same s _
    · exact (h _ _).imp id fun done a same => Stage.served.inj same ▸ done

theorem tenantPut_soundly (v : Service) (s : State) : s.Soundly (tenantPut v s) :=
  checked_soundly _ _ s rfl

theorem standingSet_soundly (v : Service) (s : State) : s.Soundly (standingSet v s) :=
  checked_soundly _ _ s rfl

theorem grantSet_soundly (v : Service) (s : State) : s.Soundly (grantSet v s) :=
  checked_soundly _ _ s rfl

theorem credPut_soundly (v : Service) (s : State) : s.Soundly (credPut v s) :=
  checked_soundly _ _ s rfl

theorem unitPut_soundly (v : Service) (s : State) : s.Soundly (unitPut v s) :=
  checked_soundly _ _ s rfl

theorem zoneRead_soundly (v : Service) (s : State) : s.Soundly (zoneRead v s) :=
  checked_soundly _ _ s rfl

theorem zonePut_soundly (v : Service) (s : State) : s.Soundly (zonePut v s) :=
  checked_soundly _ _ s rfl

theorem clockSet_soundly (v : Service) (s : State) : s.Soundly (clockSet v s) :=
  checked_soundly _ _ s rfl

theorem sitePut_soundly (v : Service) (s : State) : s.Soundly (sitePut v s) :=
  checked_soundly _ _ s rfl

theorem linePut_soundly (v : Service) (s : State) : s.Soundly (linePut v s) :=
  checked_soundly _ _ s rfl

theorem profilePut_soundly (v : Service) (s : State) : s.Soundly (profilePut v s) := by
  unfold profilePut
  exact checked_soundly _ _ s rfl

theorem holidaySet_soundly (v : Service) (s : State) : s.Soundly (holidaySet v s) := by
  unfold holidaySet
  exact checked_soundly _ _ s rfl

theorem tenantDrop_soundly (v : Service) (s : State) : s.Soundly (tenantDrop v s) := by
  unfold tenantDrop
  dsimp only
  split
  · exact soundly_same s _
  · exact soundly_same s _
  · split
    · exact soundly_same s _
    · exact soundly_done rfl

theorem credDrop_soundly (v : Service) (s : State) : s.Soundly (credDrop v s) := by
  unfold credDrop
  dsimp only
  split
  · split
    · exact soundly_same s _
    · exact soundly_done rfl
  · exact soundly_same s _

theorem unitDrop_soundly (v : Service) (s : State) : s.Soundly (unitDrop v s) := by
  unfold unitDrop
  dsimp only
  split
  · exact soundly_same s _
  · split
    · exact soundly_same s _
    · split
      · exact soundly_same s _
      · exact soundly_done rfl

theorem tenantRead_soundly (v : Service) (s : State) : s.Soundly (tenantRead v s) := by
  unfold tenantRead
  dsimp only
  split
  · exact soundly_same s _
  · exact soundly_same s _
  · split
    · exact soundly_same s _
    · exact soundly_done rfl

theorem loadList_soundly (v : Service) (s : State) : s.Soundly (loadList v s) := by
  unfold loadList
  dsimp only
  split
  · exact soundly_same s _
  · split
    · exact soundly_same s _
    · exact soundly_same s _

theorem visitExtend_soundly (v : Service) (s : State) : s.Soundly (visitExtend v s) := by
  unfold visitExtend
  dsimp only
  split
  · exact soundly_same s _
  · split
    · exact soundly_same s _
    · split
      · exact soundly_done rfl
      · exact soundly_same s _

theorem visitEnd_soundly (v : Service) (s : State) : s.Soundly (visitEnd v s) := by
  unfold visitEnd
  dsimp only
  split
  · exact soundly_same s _
  · split
    · exact soundly_same s _
    · split
      · exact soundly_same s _
      · exact soundly_done rfl

theorem visitList_soundly (v : Service) (s : State) : s.Soundly (visitList v s) := by
  unfold visitList
  dsimp only
  split
  · exact soundly_same s _
  · split
    · exact soundly_same s _
    · exact .inr nofun

theorem unitClear_soundly (v : Service) (s : State) : s.Soundly (unitClear v s) := by
  unfold unitClear
  dsimp only
  split
  · exact soundly_same s _
  · split
    · exact soundly_same s _
    · split
      · exact soundly_same s _
      · exact soundly_done rfl

theorem portalPut_soundly (v : Service) (s : State) : s.Soundly (portalPut v s) := by
  unfold portalPut
  dsimp only
  split
  · exact soundly_same s _
  · split
    · exact soundly_done rfl
    · split
      · exact soundly_done rfl
      · split
        · exact soundly_done rfl
        · exact soundly_done rfl

theorem portalDrop_soundly (v : Service) (s : State) : s.Soundly (portalDrop v s) :=
  withPortal_soundly fun _ _ => by
    split
    · exact .inl rfl
    · exact .inr rfl

theorem portalPulse_soundly (v : Service) (s : State) : s.Soundly (portalPulse v s) :=
  withPortal_soundly fun _ _ => by
    split
    · exact .inr rfl
    · exact .inr rfl
    · exact .inr rfl
    · exact .inl rfl

theorem portalHold_soundly (v : Service) (s : State) : s.Soundly (portalHold v s) :=
  withPortal_soundly fun _ _ => .inr rfl

theorem portalSecure_soundly (v : Service) (s : State) : s.Soundly (portalSecure v s) :=
  withPortal_soundly fun _ _ => .inr rfl

theorem portalReset_soundly (v : Service) (s : State) : s.Soundly (portalReset v s) :=
  withPortal_soundly fun _ _ => by
    split
    · exact .inl rfl
    · exact .inr rfl

theorem carPut_soundly (v : Service) (s : State) : s.Soundly (carPut v s) := by
  unfold carPut
  dsimp only
  split
  · exact soundly_same s _
  · split
    · exact soundly_done rfl
    · split
      · exact soundly_done rfl
      · split
        · exact soundly_done rfl
        · exact soundly_done rfl

theorem carDrop_soundly (v : Service) (s : State) : s.Soundly (carDrop v s) := by
  unfold carDrop
  dsimp only
  split
  · exact soundly_same s _
  · split
    · exact soundly_same s _
    · split
      · exact soundly_same s _
      · exact soundly_done rfl

theorem nodePut_soundly (v : Service) (s : State) : s.Soundly (nodePut v s) := by
  unfold nodePut
  dsimp only
  split
  · exact soundly_same s _
  · split
    · exact soundly_done rfl
    · split
      · split
        · exact soundly_done rfl
        · exact soundly_same s _
      · exact soundly_done rfl

theorem nodeDrop_soundly (v : Service) (s : State) : s.Soundly (nodeDrop v s) := by
  unfold nodeDrop
  dsimp only
  split
  · exact soundly_same s _
  · split
    · exact soundly_same s _
    · split
      · exact soundly_same s _
      · exact soundly_done rfl

theorem lockdown_soundly (order : ModeOrder) (v : Service) (s : State) : s.Soundly (lockdown order v s) := by
  unfold lockdown
  dsimp only
  split
  · exact soundly_done rfl
  · exact soundly_done rfl
  · exact soundly_same s _

theorem evacuate_soundly (order : ModeOrder) (v : Service) (s : State) : s.Soundly (evacuate order v s) := by
  unfold evacuate
  dsimp only
  split
  · exact soundly_done rfl
  · exact soundly_done rfl
  · exact soundly_done rfl

theorem resume_soundly (order : ModeOrder) (v : Service) (s : State) : s.Soundly (resume order v s) := by
  unfold resume
  dsimp only
  split
  · exact soundly_done rfl
  · split
    · exact soundly_same s _
    · exact soundly_done rfl
  · exact soundly_same s _

theorem journalMark_soundly (v : Service) (s : State) : s.Soundly (journalMark v s) :=
  soundly_done rfl

/-- R187: the owner of every slip either leaves the state as it was or answers DONE. -/
theorem ownerOf_soundly {c : Instr} {kind : SlipKind} {owner : Service → State → State × Stage}
    (h : ownerOf c = some (kind, owner)) (v : Service) (s : State) : s.Soundly (owner v s) := by
  cases c <;> cases h
  case tenantPut => exact tenantPut_soundly v s
  case tenantDrop => exact tenantDrop_soundly v s
  case credPut => exact credPut_soundly v s
  case credDrop => exact credDrop_soundly v s
  case grantSet => exact grantSet_soundly v s
  case standingSet => exact standingSet_soundly v s
  case unitPut => exact unitPut_soundly v s
  case unitDrop => exact unitDrop_soundly v s
  case tenantRead => exact tenantRead_soundly v s
  case loadTenants => exact loadList_soundly v s
  case loadCredentials => exact loadList_soundly v s
  case clockSet => exact clockSet_soundly v s
  case profilePut => exact profilePut_soundly v s
  case holidaySet => exact holidaySet_soundly v s
  case zonePut => exact zonePut_soundly v s
  case zoneRead => exact zoneRead_soundly v s
  case visitExtend => exact visitExtend_soundly v s
  case visitEnd => exact visitEnd_soundly v s
  case visitList => exact visitList_soundly v s
  case unitClear => exact unitClear_soundly v s
  case portalPut => exact portalPut_soundly v s
  case portalDrop => exact portalDrop_soundly v s
  case portalPulse => exact portalPulse_soundly v s
  case portalHold => exact portalHold_soundly v s
  case portalSecure => exact portalSecure_soundly v s
  case portalReset => exact portalReset_soundly v s
  case carPut => exact carPut_soundly v s
  case carDrop => exact carDrop_soundly v s
  case linePut => exact linePut_soundly v s
  case nodePut => exact nodePut_soundly v s
  case nodeDrop => exact nodeDrop_soundly v s
  case lockdown order => exact lockdown_soundly order v s
  case evacuate order => exact evacuate_soundly order v s
  case resume order => exact resume_soundly order v s
  case sitePut => exact sitePut_soundly v s
  case journalMark => exact journalMark_soundly v s

/-- Settles O9: each owner either leaves the state as it was or answers DONE. -/
theorem aRefusedSlipChangesNothing : Obligations.ARefusedSlipChangesNothing := by
  unfold Obligations.ARefusedSlipChangesNothing
  intro c k v s t a kind serves next answer bad
  rw [← ownerOf_slipKindOf] at kind
  obtain ⟨⟨k, owner⟩, owned, rfl⟩ := Option.map_eq_some_iff.1 kind
  rw [exec_of_ownerOf owned, State.serve_of_serves serves] at next
  obtain rfl := Host.Outcome.next.inj next
  obtain same | done := ownerOf_soundly owned v s
  · rw [same, State.finishService_eq]
  · obtain ⟨w, serving, given⟩ := Option.map_eq_some_iff.1 answer
    exact absurd (done a (congrArg Service.stage given)) bad

end Sys2Proof.Machine
end

section
/-! What the operations of the directory, the clock and the modes leave alone, and which commands can change which blocks
(O10). -/

namespace Sys2Proof.Machine

/-! ## Blocks that few commands change -/

/-- From `s` to `t` what few commands change stands: the settings, MASK, the run state, the last refusal code, the profiles
and the holidays, with the revision and the queue of commands. -/
abbrev State.KeepsCore (s t : State) : Prop :=
  t.pending = s.pending ∧ t.revision = s.revision ∧ t.settings = s.settings ∧ t.bus.mask = s.bus.mask ∧
    t.bus.run = s.bus.run ∧ t.bus.lastRefusal = s.bus.lastRefusal ∧ t.profiles = s.profiles ∧ t.holidays = s.holidays

/-- From `s` to `t` the clock and the mode unit stand. -/
abbrev State.KeepsTime (s t : State) : Prop :=
  t.clock = s.clock ∧ t.mode = s.mode

/-- From `s` to `t` the lines and the read queue stand. -/
abbrev State.KeepsReads (s t : State) : Prop :=
  t.lines = s.lines ∧ t.reads = s.reads

/-- From `s` to `t` lines, reads, cars and nodes stand. -/
abbrev State.KeepsField (s t : State) : Prop :=
  t.lines = s.lines ∧ t.reads = s.reads ∧ t.cars = s.cars ∧ t.nodes = s.nodes

/-- From `s` to `t` cars, portals, units, tenants and the register stand. -/
abbrev State.KeepsOwners (s t : State) : Prop :=
  t.cars = s.cars ∧ t.portals = s.portals ∧ t.units = s.units ∧ t.tenants = s.tenants ∧ t.register = s.register

/-! ## The directory -/

@[simp] theorem State.putTenant_frame (f : TenantFields) (s : State) : State.OnlyTenants s (s.putTenant f) := by
  unfold State.putTenant
  split <;> simp [State.OnlyTenants]

@[simp] theorem State.moveHolds_frame (index : Nat) (left joined : List Nat) (s : State) :
    State.OnlyUnitMonitor s (s.moveHolds index left joined) := by
  unfold State.moveHolds
  (repeat' split) <;> simp [State.OnlyUnitMonitor]

@[simp] theorem State.dropGrantees_frame (us : List Nat) (s : State) :
    State.OnlyUnits s (s.forEach us State.dropGrantee) :=
  State.forEach_frame State.OnlyUnits (by simp [State.OnlyUnits]) (by simp +contextual [State.OnlyUnits]) _
    (fun u s => State.updUnit_frame u _ s) us s

@[simp] theorem State.addGrantees_frame (us : List Nat) (s : State) :
    State.OnlyUnits s (s.forEach us State.addGrantee) :=
  State.forEach_frame State.OnlyUnits (by simp [State.OnlyUnits]) (by simp +contextual [State.OnlyUnits]) _
    (fun u s => State.updUnit_frame u _ s) us s

@[simp] theorem State.setGrants_frame (index : Nat) (new : List Nat) (s : State) :
    State.OnlyVisits s (s.setGrants index new) := by
  simp [State.OnlyVisits, State.setGrants]

@[simp] theorem State.dropCredential_frame (c : Credential) (s : State) :
    s.KeepsCore (s.dropCredential c) ∧ s.KeepsTime (s.dropCredential c) ∧ s.KeepsField (s.dropCredential c) := by
  simp [State.KeepsCore, State.KeepsTime, State.KeepsField, State.dropCredential, State.forgetKey]

@[simp] theorem State.dropCredentials_frame (index : Nat) (s : State) :
    s.KeepsCore (s.dropCredentials index) ∧ s.KeepsTime (s.dropCredentials index) ∧
      s.KeepsField (s.dropCredentials index) :=
  State.forEach_frame (fun s t => s.KeepsCore t ∧ s.KeepsTime t ∧ s.KeepsField t) (by simp [State.KeepsCore, State.KeepsTime, State.KeepsField])
    (by simp +contextual [State.KeepsCore, State.KeepsTime, State.KeepsField]) _ (fun e s => State.dropCredential_frame e.2 s) _ s

@[simp] theorem State.dropTenant_frame (index : Nat) (s : State) :
    s.KeepsCore (s.dropTenant index) ∧ s.KeepsTime (s.dropTenant index) ∧ s.KeepsReads (s.dropTenant index) := by
  simp [State.KeepsCore, State.KeepsTime, State.KeepsReads, State.dropTenant]

@[simp] theorem State.putCredential_frame (f : CredFields) (s : State) :
    s.KeepsCore (s.putCredential f) ∧ s.KeepsTime (s.putCredential f) ∧ s.KeepsField (s.putCredential f) := by
  unfold State.putCredential
  dsimp only
  split <;> simp [State.KeepsCore, State.KeepsTime, State.KeepsField]

@[simp] theorem State.moveUnit_frame (number zone : Nat) (s : State) : State.OnlyVisits s (s.moveUnit number zone) := by
  simp [State.OnlyVisits, State.moveUnit]

@[simp] theorem State.putUnit_frame (number zone : Nat) (c : Option Contact) (s : State) :
    State.OnlyVisits s (s.putUnit number zone c) := by
  unfold State.putUnit
  dsimp only
  (repeat' split) <;> simp [State.OnlyVisits]

/-! ## The clock, the run state and the mode -/

/-- From `s` to `t` the blocks stand that a minute of the clock leaves alone. -/
abbrev State.KeepsClockRest (s t : State) : Prop :=
  s.KeepsCore t ∧ t.creds = s.creds ∧ t.mode = s.mode ∧ s.KeepsReads t ∧ t.cars = s.cars

theorem State.setClock_frame (minute second weekOffset : Nat) (s : State) :
    s.KeepsClockRest (s.setClock minute second weekOffset) := by
  unfold State.setClock
  dsimp only
  split <;> simp [State.KeepsClockRest, State.KeepsCore, State.KeepsReads]

theorem State.minute_frame (order : MinuteOrder) (s : State) : s.KeepsClockRest (s.minute order) := by
  unfold State.minute
  dsimp only
  split <;> simp [State.KeepsClockRest, State.KeepsCore, State.KeepsReads]

/-- From `s` to `t` the blocks stand that a change of the mode leaves alone. -/
abbrev State.KeepsModeRest (s t : State) : Prop :=
  s.KeepsCore t ∧ t.creds = s.creds ∧ t.clock = s.clock ∧ s.KeepsReads t

@[simp] theorem State.tellMode_frame (order : ModeOrder) (s : State) :
    s.KeepsModeRest (s.tellMode order) ∧ (s.tellMode order).mode = s.mode := by
  unfold State.tellMode
  split <;> simp [State.KeepsModeRest, State.KeepsCore, State.KeepsReads]

@[simp] theorem State.changeMode_frame (mode : SiteMode) (source : Option EvacuationSource) (trigger : Trigger)
    (order : ModeOrder) (s : State) : s.KeepsModeRest (s.changeMode mode source trigger order) := by
  simp [State.KeepsModeRest, State.KeepsCore, State.KeepsReads, State.changeMode]

theorem State.fireBecomesActive_frame (order : ModeOrder) (s : State) : s.KeepsModeRest (s.fireBecomesActive order) := by
  unfold State.fireBecomesActive
  dsimp only
  split <;> simp [State.KeepsModeRest, State.KeepsCore, State.KeepsReads]

end Sys2Proof.Machine
end

section
/-! Which commands can change which blocks (O10). -/

namespace Sys2Proof.Machine

/-! ## What the owner of a slip leaves alone -/

/-- R186: what every owner's change leaves alone, and the slip unit does not carry, the serving of the slip leaves alone. -/
theorem State.serve_rel {R : State → State → Prop} {kind : SlipKind} {owner : Service → State → State × Stage} {s : State}
    (refl : R s s) (finish : ∀ t stage, R s t → R s (State.finishService stage t)) (h : ∀ v, R s (owner v s).1) :
    R s (s.serve kind owner) := by
  obtain same | ⟨v, -, served⟩ := State.serve_cases kind owner s
  · rwa [same]
  · rw [served]
    exact finish _ _ (h v)

theorem checked_rel {R : State → State → Prop} {problem : Option Answer} {work : State × Answer} {s : State} (refl : R s s)
    (h : R s work.1) : R s (checked problem work s).1 := by
  cases problem
  · exact h
  · exact refl

theorem withPortal_rel {R : State → State → Prop} {v : Service} {s : State} {work : Nat → Portal → State × Answer} (refl : R s s)
    (h : ∀ p r, R s (work p r).1) : R s (withPortal v s work).1 := by
  unfold withPortal
  dsimp only
  split
  · exact refl
  · split
    · exact refl
    · exact h _ _

/-- From `s` to `t` the blocks stand that neither the directory's records nor the register and the units carry. -/
abbrev State.KeepsAll (s t : State) : Prop :=
  s.KeepsCore t ∧ s.KeepsTime t ∧ t.creds = s.creds ∧ s.KeepsField t

/-- From `s` to `t` the blocks stand that no event at a portal changes. -/
abbrev State.KeepsPortalRest (s t : State) : Prop :=
  s.KeepsCore t ∧ s.KeepsTime t ∧ t.creds = s.creds ∧ s.KeepsReads t ∧ t.cars = s.cars

/-- From `s` to `t` the blocks stand that no event at a car changes. -/
abbrev State.KeepsCarRest (s t : State) : Prop :=
  s.KeepsCore t ∧ s.KeepsTime t ∧ t.creds = s.creds ∧ s.KeepsReads t

/-- From `s` to `t` the blocks stand that no event of the field changes. -/
abbrev State.KeepsFieldRest (s t : State) : Prop :=
  s.KeepsCore t ∧ s.KeepsTime t ∧ t.creds = s.creds

theorem tenantPut_keeps (v : Service) (s : State) : s.KeepsAll (tenantPut v s).1 :=
  checked_rel (R := State.KeepsAll) (by simp [State.KeepsAll, State.KeepsCore, State.KeepsTime, State.KeepsField]) (by simp [State.KeepsAll, State.KeepsCore, State.KeepsTime, State.KeepsField])

theorem standingSet_keeps (v : Service) (s : State) : s.KeepsAll (standingSet v s).1 :=
  checked_rel (R := State.KeepsAll) (by simp [State.KeepsAll, State.KeepsCore, State.KeepsTime, State.KeepsField]) (by simp [State.KeepsAll, State.KeepsCore, State.KeepsTime, State.KeepsField])

theorem grantSet_keeps (v : Service) (s : State) : s.KeepsAll (grantSet v s).1 :=
  checked_rel (R := State.KeepsAll) (by simp [State.KeepsAll, State.KeepsCore, State.KeepsTime, State.KeepsField]) (by simp [State.KeepsAll, State.KeepsCore, State.KeepsTime, State.KeepsField])

theorem unitPut_keeps (v : Service) (s : State) : s.KeepsAll (unitPut v s).1 :=
  checked_rel (R := State.KeepsAll) (by simp [State.KeepsAll, State.KeepsCore, State.KeepsTime, State.KeepsField]) (by simp [State.KeepsAll, State.KeepsCore, State.KeepsTime, State.KeepsField])

theorem zoneRead_keeps (v : Service) (s : State) : s.KeepsAll (zoneRead v s).1 :=
  checked_rel (R := State.KeepsAll) (by simp [State.KeepsAll, State.KeepsCore, State.KeepsTime, State.KeepsField]) (by simp [State.KeepsAll, State.KeepsCore, State.KeepsTime, State.KeepsField])

theorem zonePut_keeps (v : Service) (s : State) : s.KeepsAll (zonePut v s).1 :=
  checked_rel (R := State.KeepsAll) (by simp [State.KeepsAll, State.KeepsCore, State.KeepsTime, State.KeepsField]) (by
    dsimp only
    split <;> simp [State.KeepsAll, State.KeepsCore, State.KeepsTime, State.KeepsField])

theorem unitDrop_keeps (v : Service) (s : State) : s.KeepsAll (unitDrop v s).1 := by
  unfold unitDrop
  dsimp only
  (repeat' split) <;> simp [State.KeepsAll, State.KeepsCore, State.KeepsTime, State.KeepsField]

theorem tenantRead_keeps (v : Service) (s : State) : s.KeepsAll (tenantRead v s).1 := by
  unfold tenantRead
  dsimp only
  (repeat' split) <;> simp [State.KeepsAll, State.KeepsCore, State.KeepsTime, State.KeepsField]

theorem loadList_keeps (v : Service) (s : State) : s.KeepsAll (loadList v s).1 := by
  unfold loadList
  dsimp only
  (repeat' split) <;> simp [State.KeepsAll, State.KeepsCore, State.KeepsTime, State.KeepsField]

theorem visitExtend_keeps (v : Service) (s : State) : s.KeepsAll (visitExtend v s).1 := by
  unfold visitExtend
  dsimp only
  (repeat' split) <;> simp [State.KeepsAll, State.KeepsCore, State.KeepsTime, State.KeepsField]

theorem visitList_keeps (v : Service) (s : State) : s.KeepsAll (visitList v s).1 := by
  unfold visitList
  dsimp only
  (repeat' split) <;> simp [State.KeepsAll, State.KeepsCore, State.KeepsTime, State.KeepsField]

theorem unitClear_keeps (v : Service) (s : State) : s.KeepsAll (unitClear v s).1 := by
  unfold unitClear
  dsimp only
  (repeat' split) <;> simp [State.KeepsAll, State.KeepsCore, State.KeepsTime, State.KeepsField]

theorem journalMark_keeps (v : Service) (s : State) : s.KeepsAll (journalMark v s).1 := by
  simp [State.KeepsAll, State.KeepsCore, State.KeepsTime, State.KeepsField, journalMark]

theorem visitEnd_keeps (v : Service) (s : State) : s.KeepsPortalRest (visitEnd v s).1 := by
  unfold visitEnd
  dsimp only
  (repeat' split) <;> simp [State.KeepsPortalRest, State.KeepsCore, State.KeepsTime, State.KeepsReads]

theorem portalPut_keeps (v : Service) (s : State) : s.KeepsPortalRest (portalPut v s).1 := by
  unfold portalPut
  dsimp only
  (repeat' split) <;> simp [State.KeepsPortalRest, State.KeepsCore, State.KeepsTime, State.KeepsReads]

theorem portalDrop_keeps (v : Service) (s : State) : s.KeepsPortalRest (portalDrop v s).1 :=
  withPortal_rel (R := State.KeepsPortalRest) (by simp [State.KeepsPortalRest, State.KeepsCore, State.KeepsTime, State.KeepsReads]) fun _ _ => by
    (repeat' split) <;> simp [State.KeepsPortalRest, State.KeepsCore, State.KeepsTime, State.KeepsReads]

theorem portalPulse_keeps (v : Service) (s : State) : s.KeepsPortalRest (portalPulse v s).1 :=
  withPortal_rel (R := State.KeepsPortalRest) (by simp [State.KeepsPortalRest, State.KeepsCore, State.KeepsTime, State.KeepsReads]) fun _ _ => by
    split <;> simp [State.KeepsPortalRest, State.KeepsCore, State.KeepsTime, State.KeepsReads]

theorem portalHold_keeps (v : Service) (s : State) : s.KeepsPortalRest (portalHold v s).1 :=
  withPortal_rel (R := State.KeepsPortalRest) (by simp [State.KeepsPortalRest, State.KeepsCore, State.KeepsTime, State.KeepsReads]) fun _ _ => by
    simp [State.KeepsPortalRest, State.KeepsCore, State.KeepsTime, State.KeepsReads]

theorem portalSecure_keeps (v : Service) (s : State) : s.KeepsPortalRest (portalSecure v s).1 :=
  withPortal_rel (R := State.KeepsPortalRest) (by simp [State.KeepsPortalRest, State.KeepsCore, State.KeepsTime, State.KeepsReads]) fun _ _ => by
    simp [State.KeepsPortalRest, State.KeepsCore, State.KeepsTime, State.KeepsReads]

theorem portalReset_keeps (v : Service) (s : State) : s.KeepsPortalRest (portalReset v s).1 :=
  withPortal_rel (R := State.KeepsPortalRest) (by simp [State.KeepsPortalRest, State.KeepsCore, State.KeepsTime, State.KeepsReads]) fun _ _ => by
    split <;> simp [State.KeepsPortalRest, State.KeepsCore, State.KeepsTime, State.KeepsReads]

theorem carPut_keeps (v : Service) (s : State) : s.KeepsCarRest (carPut v s).1 := by
  unfold carPut
  dsimp only
  (repeat' split) <;> simp [State.KeepsCarRest, State.KeepsCore, State.KeepsTime, State.KeepsReads]

theorem carDrop_keeps (v : Service) (s : State) : s.KeepsCarRest (carDrop v s).1 := by
  unfold carDrop
  dsimp only
  (repeat' split) <;> simp [State.KeepsCarRest, State.KeepsCore, State.KeepsTime, State.KeepsReads]

theorem linePut_keeps (v : Service) (s : State) : s.KeepsFieldRest (linePut v s).1 :=
  checked_rel (R := State.KeepsFieldRest) (by simp [State.KeepsFieldRest, State.KeepsCore, State.KeepsTime]) (by simp [State.KeepsFieldRest, State.KeepsCore, State.KeepsTime])

theorem nodePut_keeps (v : Service) (s : State) : s.KeepsFieldRest (nodePut v s).1 := by
  unfold nodePut
  dsimp only
  (repeat' split) <;> simp [State.KeepsFieldRest, State.KeepsCore, State.KeepsTime]

theorem nodeDrop_keeps (v : Service) (s : State) :
    s.KeepsFieldRest (nodeDrop v s).1 ∧ s.KeepsOwners (nodeDrop v s).1 := by
  unfold nodeDrop
  dsimp only
  (repeat' split) <;> simp [State.KeepsFieldRest, State.KeepsCore, State.KeepsTime, State.KeepsOwners, State.removeNode]

theorem credPut_keeps (v : Service) (s : State) :
    s.KeepsCore (credPut v s).1 ∧ s.KeepsTime (credPut v s).1 ∧ s.KeepsField (credPut v s).1 :=
  checked_rel (R := fun s t => s.KeepsCore t ∧ s.KeepsTime t ∧ s.KeepsField t)
    (by simp [State.KeepsCore, State.KeepsTime, State.KeepsField]) (State.putCredential_frame _ s)

theorem credDrop_keeps (v : Service) (s : State) :
    s.KeepsCore (credDrop v s).1 ∧ s.KeepsTime (credDrop v s).1 ∧ s.KeepsField (credDrop v s).1 := by
  unfold credDrop
  dsimp only
  (repeat' split) <;> simp [State.KeepsCore, State.KeepsTime, State.KeepsField]

theorem tenantDrop_keeps (v : Service) (s : State) :
    s.KeepsCore (tenantDrop v s).1 ∧ s.KeepsTime (tenantDrop v s).1 ∧ s.KeepsReads (tenantDrop v s).1 := by
  unfold tenantDrop
  dsimp only
  (repeat' split) <;> simp [State.KeepsCore, State.KeepsTime, State.KeepsReads]

theorem clockSet_keeps (v : Service) (s : State) : s.KeepsClockRest (clockSet v s).1 :=
  checked_rel (R := State.KeepsClockRest) (by simp [State.KeepsClockRest, State.KeepsCore, State.KeepsReads])
    (State.setClock_frame _ _ _ s)

theorem lockdown_keeps (order : ModeOrder) (v : Service) (s : State) : s.KeepsModeRest (lockdown order v s).1 := by
  unfold lockdown
  dsimp only
  split <;> simp [State.KeepsModeRest, State.KeepsCore, State.KeepsReads]

theorem evacuate_keeps (order : ModeOrder) (v : Service) (s : State) : s.KeepsModeRest (evacuate order v s).1 := by
  unfold evacuate
  dsimp only
  split <;> simp [State.KeepsModeRest, State.KeepsCore, State.KeepsReads]

theorem resume_keeps (order : ModeOrder) (v : Service) (s : State) : s.KeepsModeRest (resume order v s).1 := by
  unfold resume
  dsimp only
  (repeat' split) <;> simp [State.KeepsModeRest, State.KeepsCore, State.KeepsReads]


end Sys2Proof.Machine
end

section
/-! Which commands can change which blocks: the events, and every command (O10). -/

namespace Sys2Proof.Machine

/-! ## The owners, served -/

theorem State.KeepsAll.refl (s : State) : s.KeepsAll s := by
  simp [State.KeepsAll, State.KeepsCore, State.KeepsTime, State.KeepsField]

theorem State.KeepsAll.portal {s t : State} (h : s.KeepsAll t) : s.KeepsPortalRest t := by
  obtain ⟨core, time, creds, lines, reads, cars, -⟩ := h
  exact ⟨core, time, creds, ⟨lines, reads⟩, cars⟩

theorem State.KeepsPortalRest.car {s t : State} (h : s.KeepsPortalRest t) : s.KeepsCarRest t := by
  obtain ⟨core, time, creds, reads, -⟩ := h
  exact ⟨core, time, creds, reads⟩

theorem State.KeepsCarRest.field {s t : State} (h : s.KeepsCarRest t) : s.KeepsFieldRest t := by
  obtain ⟨core, time, creds, -⟩ := h
  exact ⟨core, time, creds⟩

section
variable {kind : SlipKind} {owner : Service → State → State × Stage} {s : State}

theorem State.serve_keepsAll (h : ∀ v s, State.KeepsAll s (owner v s).1) : s.KeepsAll (s.serve kind owner) :=
  State.serve_rel (R := State.KeepsAll) (.refl s) (fun _ _ kept => kept) fun v => h v s

theorem State.serve_keepsPortalRest (h : ∀ v s, State.KeepsPortalRest s (owner v s).1) :
    s.KeepsPortalRest (s.serve kind owner) :=
  State.serve_rel (R := State.KeepsPortalRest) (State.KeepsAll.refl s).portal (fun _ _ kept => kept) fun v => h v s

theorem State.serve_keepsCarRest (h : ∀ v s, State.KeepsCarRest s (owner v s).1) : s.KeepsCarRest (s.serve kind owner) :=
  State.serve_rel (R := State.KeepsCarRest) (State.KeepsAll.refl s).portal.car (fun _ _ kept => kept) fun v => h v s

theorem State.serve_keepsFieldRest (h : ∀ v s, State.KeepsFieldRest s (owner v s).1) :
    s.KeepsFieldRest (s.serve kind owner) :=
  State.serve_rel (R := State.KeepsFieldRest) (State.KeepsAll.refl s).portal.car.field (fun _ _ kept => kept) fun v => h v s

theorem State.serve_keepsModeRest (h : ∀ v s, State.KeepsModeRest s (owner v s).1) : s.KeepsModeRest (s.serve kind owner) :=
  State.serve_rel (R := State.KeepsModeRest) (by simp [State.KeepsModeRest, State.KeepsCore, State.KeepsReads])
    (fun _ _ kept => kept) fun v => h v s

end

/-! ## The slip unit and the bus port -/

theorem State.applyNextRecord_frame (s : State) :
    s.KeepsCore s.applyNextRecord ∧ s.KeepsTime s.applyNextRecord ∧ s.KeepsField s.applyNextRecord := by
  have tenant (image : List Byte) : s.KeepsAll (applyTenantRecord image s).1 := by
    unfold applyTenantRecord
    dsimp only
    split <;> simp [State.KeepsAll, State.KeepsCore, State.KeepsTime, State.KeepsField]
  have credential (image : List Byte) : s.KeepsCore (applyCredRecord image s).1 ∧ s.KeepsTime (applyCredRecord image s).1 ∧
      s.KeepsField (applyCredRecord image s).1 := by
    unfold applyCredRecord
    dsimp only
    split <;> simp [State.KeepsCore, State.KeepsTime, State.KeepsField]
  unfold State.applyNextRecord
  dsimp only
  split
  · simp [State.KeepsCore, State.KeepsTime, State.KeepsField]
  · split
    · unfold Service.applyRecord
      dsimp only
      split
      · obtain ⟨core, time, -, field⟩ := tenant _
        exact ⟨core, time, field⟩
      · exact credential _
    all_goals simp [State.KeepsCore, State.KeepsTime, State.KeepsField]

theorem State.copyVisitImage_frame (s : State) : s.KeepsAll s.copyVisitImage := by
  unfold State.copyVisitImage
  dsimp only
  (repeat' split) <;> simp [State.KeepsAll, State.KeepsCore, State.KeepsTime, State.KeepsField, State.endWalk]

theorem State.takeSlip_frame (s : State) : s.KeepsAll s.takeSlip := by
  unfold State.takeSlip
  split <;> simp [State.KeepsAll, State.KeepsCore, State.KeepsTime, State.KeepsField]

@[simp] theorem State.writeAnswer_frame (n tag : Nat) (a : Answer) (s : State) :
    s.KeepsAll (s.writeAnswer n tag a) := by
  simp [State.KeepsAll, State.KeepsCore, State.KeepsTime, State.KeepsField, State.writeAnswer]

theorem State.answerSlip_frame (s : State) : s.KeepsAll s.answerSlip := by
  unfold State.answerSlip
  (repeat' split)
  · exact .refl s
  · exact State.writeAnswer_frame _ _ _ { s with slips := { s.slips with serving := none } }
  all_goals exact .refl s

theorem State.refuseKind_frame (s : State) : s.KeepsAll s.refuseKind := by
  unfold State.refuseKind
  (repeat' split) <;> exact .refl s

/-- R180, R185: a refused or stored host access changes memory, the slip unit, the causes and the last refusal code alone. -/
abbrev State.KeepsAccessRest (s t : State) : Prop :=
  t.pending = s.pending ∧ t.revision = s.revision ∧ t.settings = s.settings ∧ t.bus.mask = s.bus.mask ∧
    t.bus.run = s.bus.run ∧ t.profiles = s.profiles ∧ t.holidays = s.holidays ∧ s.KeepsTime t ∧ t.creds = s.creds ∧
    s.KeepsField t

theorem State.hostWrite_frame (a value : Nat) (s : State) : s.KeepsAccessRest (s.hostWrite a value) := by
  unfold State.hostWrite
  split <;> simp [State.KeepsAccessRest, State.KeepsTime, State.KeepsField]

theorem State.postSlip_frame (n : Nat) (s : State) : s.KeepsAccessRest (s.postSlip n) := by
  unfold State.postSlip
  split <;> simp [State.KeepsAccessRest, State.KeepsTime, State.KeepsField]

/-! ## The run state and the resets -/

/-- From `s` to `t` what the run state's commands and the resets leave alone stands. -/
abbrev State.KeepsRunRest (s t : State) : Prop :=
  t.pending = s.pending ∧ t.revision = s.revision ∧ t.settings = s.settings ∧ t.bus.mask = s.bus.mask ∧
    t.bus.lastRefusal = s.bus.lastRefusal ∧ t.profiles = s.profiles ∧ t.holidays = s.holidays ∧ s.KeepsTime t ∧ t.creds = s.creds

theorem State.startRun_frame (s : State) : s.KeepsRunRest s.startRun ∧ s.startRun.nodes = s.nodes ∧
    s.startRun.reads = s.reads ∧ s.KeepsOwners s.startRun := by
  unfold State.startRun
  split <;> simp [State.KeepsRunRest, State.KeepsTime, State.KeepsOwners]

theorem State.haltRun_frame (s : State) : s.KeepsRunRest s.haltRun := by
  unfold State.haltRun
  split <;> simp [State.KeepsRunRest, State.KeepsTime]

theorem State.abortQueue_frame (s : State) : s.KeepsAll s.abortQueue :=
  State.forEach_frame State.KeepsAll .refl
    (by simp +contextual [State.KeepsAll, State.KeepsCore, State.KeepsTime, State.KeepsField]) _
    (fun n s => State.writeAnswer_frame n _ _ s) _ { s with slips := { s.slips with queue := [] } }

theorem State.abortServing_frame (s : State) : s.KeepsAll s.abortServing := by
  unfold State.abortServing
  split
  · exact .refl s
  · exact State.writeAnswer_frame _ _ _ { s with slips := { s.slips with serving := none } }

theorem State.softReset_frame (s : State) : s.KeepsRunRest s.softReset := by
  have blocks (t : State) : t.KeepsRunRest t.resetBlocks := by
    rw [State.resetBlocks_only]
    simp [State.KeepsRunRest, State.KeepsTime]
  have run (t : State) : t.KeepsRunRest t.resetRun := by
    unfold State.resetRun
    split <;> simp [State.KeepsRunRest, State.KeepsTime]
  simp [State.KeepsRunRest, State.KeepsTime, State.softReset, blocks, run, State.abortQueue_frame, State.abortServing_frame]

/-! ## The filter of the FIRE input -/

/-- From `s` to `t` what the FIRE filter leaves alone stands, the mode unit apart. -/
abbrev State.KeepsFireRest (s t : State) : Prop :=
  s.KeepsCore t ∧ t.clock = s.clock ∧ t.creds = s.creds ∧ s.KeepsField t

theorem State.fireInput_frame (closed : Bool) (s : State) : s.KeepsFireRest (s.fireInput closed) := by
  unfold State.fireInput
  split <;> simp [State.KeepsFireRest, State.KeepsCore, State.KeepsField]

theorem State.fireBecomesClear_frame (s : State) : s.KeepsFireRest s.fireBecomesClear := by
  simp [State.KeepsFireRest, State.KeepsCore, State.KeepsField, State.fireBecomesClear]

/-! ## Every command -/

/-- What a command changes of the blocks that few commands change, by the commands that may. -/
abbrev State.ChangesOwn (c : Instr) (s t : State) : Prop :=
  (c ≠ .sitePut → t.settings = s.settings) ∧
  ((∀ b, c ≠ .mask b) → t.bus.mask = s.bus.mask) ∧
  (c ≠ .run → c ≠ .halt → c ≠ .reset → t.bus.run = s.bus.run) ∧
  ((∀ v, c ≠ .controlBad v) → (∀ r v, c ≠ .registerReadOnly r v) → (∀ w v, c ≠ .hostMemoryWrite w v) →
    (∀ v, c ≠ .post v) → t.bus.lastRefusal = s.bus.lastRefusal) ∧
  (c ≠ .clockSet → c ≠ .secondEvent → (∀ o, c ≠ .minuteEvent o) → t.clock = s.clock) ∧
  (c ≠ .profilePut → t.profiles = s.profiles) ∧
  (c ≠ .holidaySet → t.holidays = s.holidays) ∧
  (c ≠ .credPut → c ≠ .credDrop → c ≠ .tenantDrop → c ≠ .loadRecordApply → t.creds = s.creds) ∧
  ((∀ o, c ≠ .lockdown o) → (∀ o, c ≠ .evacuate o) → (∀ o, c ≠ .resume o) → c ≠ .sitePut →
    (∀ b, c ≠ .fireInputChange b) → (∀ o, c ≠ .fireActive o) → c ≠ .fireClear → t.mode = s.mode)

/-- A command that changes none of them. -/
theorem State.KeepsFieldRest.changesOwn {c : Instr} {s t : State} {P : Prop} (h : s.KeepsFieldRest t) (p : P) :
    t.pending = s.pending ∧ t.revision = s.revision ∧ (c ≠ .powerOn → s.ChangesOwn c t) ∧ P := by
  obtain ⟨⟨pending, revision, settings, mask, run, refusal, profiles, holidays⟩, ⟨clock, mode⟩, creds⟩ := h
  exact ⟨pending, revision, fun _ => ⟨fun _ => settings, fun _ => mask, fun _ _ _ => run, fun _ _ _ _ => refusal,
    fun _ _ _ => clock, fun _ => profiles, fun _ => holidays, fun _ _ _ _ => creds, fun _ _ _ _ _ _ _ => mode⟩, p⟩

theorem State.KeepsAll.changesOwn {c : Instr} {s t : State} (h : s.KeepsAll t) :
    t.pending = s.pending ∧ t.revision = s.revision ∧ (c ≠ .powerOn → s.ChangesOwn c t) ∧ s.KeepsField t :=
  h.portal.car.field.changesOwn h.2.2.2

theorem State.KeepsPortalRest.changesOwn {c : Instr} {s t : State} (h : s.KeepsPortalRest t) :
    t.pending = s.pending ∧ t.revision = s.revision ∧ (c ≠ .powerOn → s.ChangesOwn c t) ∧
      t.lines = s.lines ∧ t.reads = s.reads ∧ t.cars = s.cars := by
  have rest := h.car.field
  obtain ⟨-, -, -, ⟨lines, reads⟩, cars⟩ := h
  exact rest.changesOwn ⟨lines, reads, cars⟩

theorem State.KeepsCarRest.changesOwn {c : Instr} {s t : State} (h : s.KeepsCarRest t) :
    t.pending = s.pending ∧ t.revision = s.revision ∧ (c ≠ .powerOn → s.ChangesOwn c t) ∧ s.KeepsReads t :=
  h.field.changesOwn h.2.2.2

end Sys2Proof.Machine
end

section
/-! Which commands can change which blocks: every command (O10). -/

namespace Sys2Proof.Machine

/-! ## Commands with an exception of their own -/

theorem State.OnlyField.keepsFieldRest {s t : State} (h : s.OnlyField t) : s.KeepsFieldRest t := by
  obtain ⟨run, mask, refusal, settings, -, creds, clock, profiles, holidays, mode, revision, pending⟩ := h
  exact ⟨⟨pending, revision, settings, mask, run, refusal, profiles, holidays⟩, ⟨clock, mode⟩, creds⟩

theorem State.OnlyPortalUnit.keepsPortalRest {s t : State} (h : s.OnlyPortalUnit t) : s.KeepsPortalRest t := by
  obtain ⟨run, mask, refusal, settings, -, creds, clock, profiles, holidays, reads, cars, lines, mode, revision, pending⟩ := h
  exact ⟨⟨pending, revision, settings, mask, run, refusal, profiles, holidays⟩, ⟨clock, mode⟩, creds, ⟨lines, reads⟩, cars⟩

theorem State.OnlyJournal.keepsAll {s t : State} (h : s.OnlyJournal t) : s.KeepsAll t := by
  obtain ⟨run, mask, refusal, settings, -, -, creds, -, clock, profiles, holidays, reads, -, -, cars, lines, nodes, mode,
    revision, pending⟩ := h
  exact ⟨⟨pending, revision, settings, mask, run, refusal, profiles, holidays⟩, ⟨clock, mode⟩, creds, lines, reads, cars, nodes⟩

/-- From `s` to `t` nothing but the lines and what the journal touches has changed. -/
abbrev State.KeepsLineRest (s t : State) : Prop :=
  s.KeepsFieldRest t ∧ t.nodes = s.nodes ∧ t.reads = s.reads ∧ s.KeepsOwners t

theorem State.OnlyLines.keepsLineRest {s t : State} (h : s.OnlyLines t) : s.KeepsLineRest t := by
  obtain ⟨-, bus, settings, -, tenants, creds, units, clock, profiles, holidays, reads, register, portals, cars, nodes, mode, -,
    revision, pending⟩ := h
  exact ⟨⟨⟨pending, revision, settings, congrArg BusPort.mask bus, congrArg BusPort.run bus, congrArg BusPort.lastRefusal bus,
    profiles, holidays⟩, ⟨clock, mode⟩, creds⟩, nodes, reads, cars, portals, units, tenants, register⟩

theorem State.recoveryCheck_keeps (l : Nat) (idle : Bool) (s : State) : s.KeepsLineRest (s.recoveryCheck l idle) := by
  unfold State.recoveryCheck
  dsimp only
  (repeat' split) <;> simp [State.KeepsLineRest, State.KeepsFieldRest, State.KeepsCore, State.KeepsTime, State.KeepsOwners]

/-- R48: a decision is no event of a line. -/
theorem State.decideNext_lines (s : State) : s.decideNext.lines = s.lines := by
  have grant (a : Asked) (tenant : Option Nat) (ruling : Ruling) (s : State) :
      (s.placeGrant a tenant ruling).lines = s.lines := by
    unfold State.placeGrant
    split <;> simp
  unfold State.decideNext
  split
  · rfl
  · simp [State.decide, grant]

/-- R189: SITE_PUT leaves alone all but the settings, the mode unit and the slip unit. -/
theorem State.serve_sitePut_keeps (s : State) :
    let t := s.serve .sitePut sitePut
    t = { s with settings := t.settings, mode := t.mode, slips := t.slips } :=
  State.serve_rel (R := fun s t => t = { s with settings := t.settings, mode := t.mode, slips := t.slips }) rfl
    (fun t stage kept => by rw [State.finishService_eq, kept]) fun v => by
      obtain ⟨state, -⟩ := State.setPolarity_eq (polarityOf s.settings.polarity (v.body 9 1)) { s with settings := v.settings s.settings }
      refine checked_rel (R := fun s t => t = { s with settings := t.settings, mode := t.mode, slips := t.slips }) rfl ?_
      simp only [State.putSettings]
      rw [state]

/-- R36: PROFILE_PUT leaves alone all but the profiles and the slip unit. -/
theorem State.serve_profilePut_keeps (s : State) :
    let t := s.serve .profilePut profilePut
    t = { s with profiles := t.profiles, slips := t.slips } :=
  State.serve_rel (R := fun s t => t = { s with profiles := t.profiles, slips := t.slips }) rfl
    (fun t stage kept => by rw [State.finishService_eq, kept]) fun v => by
      unfold profilePut
      exact checked_rel (R := fun s t => t = { s with profiles := t.profiles, slips := t.slips }) rfl rfl

/-- R37: HOLIDAY_SET leaves alone all but the holidays and the slip unit. -/
theorem State.serve_holidaySet_keeps (s : State) :
    let t := s.serve .holidaySet holidaySet
    t = { s with holidays := t.holidays, slips := t.slips } :=
  State.serve_rel (R := fun s t => t = { s with holidays := t.holidays, slips := t.slips }) rfl
    (fun t stage kept => by rw [State.finishService_eq, kept]) fun v => by
      unfold holidaySet
      exact checked_rel (R := fun s t => t = { s with holidays := t.holidays, slips := t.slips }) rfl rfl

/-- The credential slips and the records of a list change the credential index besides what any directory slip may. -/
abbrev State.KeepsCredsRest (s t : State) : Prop :=
  s.KeepsCore t ∧ s.KeepsTime t ∧ s.KeepsField t

theorem State.serve_keepsCredsRest {kind : SlipKind} {owner : Service → State → State × Stage}
    (h : ∀ v s, State.KeepsCredsRest s (owner v s).1) (s : State) : s.KeepsCredsRest (s.serve kind owner) :=
  State.serve_rel (R := State.KeepsCredsRest) (by simp [State.KeepsCredsRest, State.KeepsCore, State.KeepsTime, State.KeepsField])
    (fun _ _ kept => kept) fun v => h v s

theorem State.serve_tenantDrop_keeps (s : State) :
    s.KeepsCore (s.serve .tenantDrop tenantDrop) ∧ s.KeepsTime (s.serve .tenantDrop tenantDrop) ∧
      s.KeepsReads (s.serve .tenantDrop tenantDrop) :=
  State.serve_rel (R := fun s t => s.KeepsCore t ∧ s.KeepsTime t ∧ s.KeepsReads t)
    (by simp [State.KeepsCore, State.KeepsTime, State.KeepsReads]) (fun _ _ kept => kept) fun v => tenantDrop_keeps v s

theorem State.serve_nodeDrop_keeps (s : State) :
    s.KeepsFieldRest (s.serve .nodeDrop nodeDrop) ∧ s.KeepsOwners (s.serve .nodeDrop nodeDrop) :=
  State.serve_rel (R := fun s t => s.KeepsFieldRest t ∧ s.KeepsOwners t)
    (by simp [State.KeepsFieldRest, State.KeepsCore, State.KeepsTime, State.KeepsOwners]) (fun _ _ kept => kept)
    fun v => nodeDrop_keeps v s

theorem State.serve_clockSet_keeps (s : State) : s.KeepsClockRest (s.serve .clockSet clockSet) :=
  State.serve_rel (R := State.KeepsClockRest) (by simp [State.KeepsClockRest, State.KeepsCore, State.KeepsReads])
    (fun _ _ kept => kept) fun v => clockSet_keeps v s

theorem State.minuteEvent_keeps (order : MinuteOrder) (s : State) :
    s.KeepsClockRest (if s.clock.minuteDue then s.minute order else s) := by
  split
  · exact State.minute_frame order s
  · simp [State.KeepsClockRest, State.KeepsCore, State.KeepsReads]

end Sys2Proof.Machine
end

section
/-! Which commands can change which blocks: every command (O10), and the law of the mode unit (O3). -/

namespace Sys2Proof.Machine

/-- Settles O10: command by command, what its event leaves alone. -/
theorem onlyTheirCommandsChangeThem : Obligations.OnlyTheirCommandsChangeThem := by
  unfold Obligations.OnlyTheirCommandsChangeThem
  intro c s t next
  cases c
  case powerOn =>
    rw [← Host.Outcome.next.inj next, State.powerUp_state]
    exact ⟨rfl, rfl, fun ne => absurd rfl ne, trivial⟩
  case tenantPut => cases next; exact (State.serve_keepsAll tenantPut_keeps).changesOwn
  case grantSet => cases next; exact (State.serve_keepsAll grantSet_keeps).changesOwn
  case standingSet => cases next; exact (State.serve_keepsAll standingSet_keeps).changesOwn
  case unitPut => cases next; exact (State.serve_keepsAll unitPut_keeps).changesOwn
  case unitDrop => cases next; exact (State.serve_keepsAll unitDrop_keeps).changesOwn
  case tenantRead => cases next; exact (State.serve_keepsAll tenantRead_keeps).changesOwn
  case zonePut => cases next; exact (State.serve_keepsAll zonePut_keeps).changesOwn
  case zoneRead => cases next; exact (State.serve_keepsAll zoneRead_keeps).changesOwn
  case visitExtend => cases next; exact (State.serve_keepsAll visitExtend_keeps).changesOwn
  case visitList => cases next; exact (State.serve_keepsAll visitList_keeps).changesOwn
  case unitClear => cases next; exact (State.serve_keepsAll unitClear_keeps).changesOwn
  case journalMark => cases next; exact (State.serve_keepsAll journalMark_keeps).changesOwn
  case loadTenants => cases next; exact (State.serve_keepsAll loadList_keeps).changesOwn
  case loadCredentials => cases next; exact (State.serve_keepsAll loadList_keeps).changesOwn
  case visitEnd => cases next; exact (State.serve_keepsPortalRest visitEnd_keeps).changesOwn
  case portalPut => cases next; exact (State.serve_keepsPortalRest portalPut_keeps).changesOwn
  case portalDrop => cases next; exact (State.serve_keepsPortalRest portalDrop_keeps).changesOwn
  case portalPulse => cases next; exact (State.serve_keepsPortalRest portalPulse_keeps).changesOwn
  case portalHold => cases next; exact (State.serve_keepsPortalRest portalHold_keeps).changesOwn
  case portalSecure => cases next; exact (State.serve_keepsPortalRest portalSecure_keeps).changesOwn
  case portalReset => cases next; exact (State.serve_keepsPortalRest portalReset_keeps).changesOwn
  case carPut => cases next; exact (State.serve_keepsCarRest carPut_keeps).changesOwn
  case carDrop => cases next; exact (State.serve_keepsCarRest carDrop_keeps).changesOwn
  case linePut => cases next; exact (State.serve_keepsFieldRest linePut_keeps).changesOwn trivial
  case nodePut => cases next; exact (State.serve_keepsFieldRest nodePut_keeps).changesOwn trivial
  case nodeDrop => cases next; exact (State.serve_nodeDrop_keeps s).1.changesOwn (State.serve_nodeDrop_keeps s).2
  case slipTake => cases next; exact (State.takeSlip_frame s).changesOwn
  case slipAnswer => cases next; exact (State.answerSlip_frame s).changesOwn
  case badKind => cases next; exact (State.refuseKind_frame s).changesOwn
  case visitImageCopy => cases next; exact (State.copyVisitImage_frame s).changesOwn
  case flushTimerExpiry => cases next; exact (State.OnlyJournal.keepsAll (State.flushExpiry_frame s)).changesOwn
  case journalRecovery => cases next; exact (State.OnlyJournal.keepsAll (State.reexaminePage_frame s)).changesOwn
  case passageTimerExpiry p => cases next; exact (State.OnlyPortalUnit.keepsPortalRest (State.passageExpiry_frame p s)).changesOwn
  case holdTimerExpiry p => cases next; exact (State.OnlyPortalUnit.keepsPortalRest (State.holdExpiry_frame p s)).changesOwn
  case cooldownExpiry p => cases next; exact (State.OnlyPortalUnit.keepsPortalRest (State.cooldownExpiry_frame p s)).changesOwn
  case reply l f => cases next; exact (State.OnlyField.keepsFieldRest (State.judgeReply_frame l f s)).changesOwn trivial
  case replyWindowExpiry l => cases next; exact (State.OnlyField.keepsFieldRest (State.exchangeBad_frame l .silent s)).changesOwn trivial
  case collision l => cases next; exact (State.OnlyField.keepsFieldRest (State.exchangeBad_frame l .collision s)).changesOwn trivial
  case gapLimitExpiry l => cases next; exact (State.OnlyField.keepsFieldRest (State.exchangeBad_frame l .cutShort s)).changesOwn trivial
  case lineBreak l => cases next; exact (State.OnlyField.keepsFieldRest (State.lineBreak_frame l s)).changesOwn trivial
  case noQuiet l => cases next; exact (State.OnlyField.keepsFieldRest (State.lineNoQuiet_frame l s)).changesOwn trivial
  case poll l =>
    cases next
    obtain ⟨field, rest⟩ := State.OnlyLines.keepsLineRest (State.sendPoll_frame l s)
    exact field.changesOwn rest
  case idleCycleEnd l =>
    cases next
    obtain ⟨field, rest⟩ := State.OnlyLines.keepsLineRest (State.idleCycleEnd_frame l s)
    exact field.changesOwn rest
  case quietWaitEnd l =>
    cases next
    obtain ⟨field, rest⟩ := State.OnlyLines.keepsLineRest (State.quietWaitEnd_frame l s)
    exact field.changesOwn rest
  case recoveryCheckExpiry l idle =>
    cases next
    obtain ⟨field, rest⟩ := State.recoveryCheck_keeps l idle s
    exact field.changesOwn rest
  case decision => cases next; exact (State.OnlyField.keepsFieldRest (State.decideNext_frame s)).changesOwn (State.decideNext_lines s)
  case probeIntervalExpiry p => cases next; simp
  case releaseExpiry car tenant => cases next; simp
  case secondEvent => cases next; simp [State.second]
  case clear bits => cases next; simp
  case mask bits => cases next; simp [State.setMask]
  case registerReadOnly r value => cases next; simp
  case controlBad value =>
    cases next
    split <;> simp
  case post value =>
    cases next
    have kept := State.postSlip_frame value.toNat s
    simp [kept]
  case hostMemoryWrite word value =>
    cases next
    have kept := State.hostWrite_frame (2 * word.toNat) value.toNat s
    simp [kept]
  case run =>
    cases next
    have kept := State.startRun_frame s
    simp [kept]
  case halt =>
    cases next
    have kept := State.haltRun_frame s
    simp [kept]
  case reset =>
    have kept := State.softReset_frame s
    rw [← Host.Outcome.next.inj next]
    simp [kept]
  case loadRecordApply =>
    cases next
    have kept := State.applyNextRecord_frame s
    simp [kept]
  case credPut =>
    cases next
    have kept := State.serve_keepsCredsRest (kind := .credPut) credPut_keeps s
    simp [kept]
  case credDrop =>
    cases next
    have kept := State.serve_keepsCredsRest (kind := .credDrop) credDrop_keeps s
    simp [kept]
  case tenantDrop =>
    cases next
    have kept := State.serve_tenantDrop_keeps s
    simp [kept]
  case clockSet =>
    cases next
    have kept := State.serve_clockSet_keeps s
    simp [kept]
  case minuteEvent order =>
    cases next
    have kept := State.minuteEvent_keeps order s
    simp [kept]
  case lockdown order =>
    cases next
    have kept := State.serve_keepsModeRest (kind := .lockdown) (s := s) (lockdown_keeps order)
    simp [kept]
  case evacuate order =>
    cases next
    have kept := State.serve_keepsModeRest (kind := .evacuate) (s := s) (evacuate_keeps order)
    simp [kept]
  case resume order =>
    cases next
    have kept := State.serve_keepsModeRest (kind := .resume) (s := s) (resume_keeps order)
    simp [kept]
  case fireActive order =>
    cases next
    have kept := State.fireBecomesActive_frame order s
    split <;> simp [kept]
  case fireClear =>
    cases next
    have kept := State.fireBecomesClear_frame s
    split <;> simp [kept]
  case fireInputChange closed =>
    cases next
    have kept := State.fireInput_frame closed s
    simp [kept]
  case sitePut =>
    cases next
    rw [State.serve_sitePut_keeps s]
    simp
  case profilePut =>
    cases next
    rw [State.serve_profilePut_keeps s]
    simp
  case holidaySet =>
    cases next
    rw [State.serve_holidaySet_keeps s]
    simp

end Sys2Proof.Machine
end

section
/-! The law of the mode unit (O3). -/

namespace Sys2Proof.Machine

/-- R168 to R171: the law rests on the mode unit and the settings. -/
theorem State.ModeLaw.of_same {s t : State} (law : s.ModeLaw) (mode : t.mode = s.mode) (settings : t.settings = s.settings) :
    t.ModeLaw := by
  simp only [State.ModeLaw, State.fireReading, mode, settings]
  exact law

/-- R171, R172: a source that stands exactly in EVACUATE, the FIRE state and the measurement being kept. -/
theorem State.ModeLaw.withMode {s t : State} {m : SiteMode} {src : Option EvacuationSource} (law : s.ModeLaw)
    (source : src.isSome ↔ m = .evacuate) (fire : s.mode.fireActive = true → m = .evacuate ∧ src = some .fire)
    (mode : t.mode = { s.mode with mode := m, source := src }) (settings : t.settings = s.settings) : t.ModeLaw := by
  simp only [State.ModeLaw, State.fireReading, mode, settings]
  obtain ⟨-, -, stopped, short⟩ := law
  exact ⟨source, fire, stopped, short⟩

/-- R169: the measurement starts anew, or is stopped, by the reading. -/
theorem State.ModeLaw.settleHold {t : State}
    (source : t.mode.source.isSome ↔ t.mode.mode = .evacuate)
    (fire : t.mode.fireActive = true → t.mode.mode = .evacuate ∧ t.mode.source = some .fire)
    (hold : t.mode.hold = if t.fireReading = t.mode.fireActive then .stopped else .running 0) : t.ModeLaw := by
  refine ⟨source, fire, ?_, ?_⟩
  · rw [hold]
    split <;> simp [*]
  · intro n running
    rw [hold] at running
    split at running
    · cases running
    · obtain rfl := HoldMeasurement.running.inj running
      decide

theorem State.settleHold_modeLaw {s : State} (source : s.mode.source.isSome ↔ s.mode.mode = .evacuate)
    (fire : s.mode.fireActive = true → s.mode.mode = .evacuate ∧ s.mode.source = some .fire) : s.settleHold.ModeLaw :=
  State.ModeLaw.settleHold source fire rfl

/-! ## The idle step, the FIRE input and SITE_PUT -/

/-- R169: the measurement is held at the last period before 0.5 s. -/
theorem State.idle_modeLaw {s : State} (law : s.ModeLaw) : s.idle.ModeLaw := by
  obtain ⟨source, fire, stopped, short⟩ := law
  refine ⟨source, fire, ?_, fun n running => ?_⟩
  · rw [← show s.fireReading = s.idle.fireReading from rfl, ← show s.mode.fireActive = s.idle.mode.fireActive from rfl, ← stopped]
    show s.mode.hold.advance = _ ↔ _
    cases s.mode.hold <;> simp [HoldMeasurement.advance]
  · have advanced : s.mode.hold.advance = .running n := running
    cases hold : s.mode.hold with
    | stopped => rw [hold] at advanced; cases advanced
    | running m =>
      rw [hold] at advanced
      obtain rfl := HoldMeasurement.running.inj advanced
      exact Nat.lt_of_le_of_lt (Nat.min_le_right _ _) (by decide)

theorem State.fireInput_modeLaw {s : State} (law : s.ModeLaw) (closed : Bool) : (s.fireInput closed).ModeLaw := by
  unfold State.fireInput
  split
  · exact law
  · exact State.settleHold_modeLaw (s := { s with mode := { s.mode with contactClosed := closed } }) law.1 law.2.1

theorem State.setPolarity_modeLaw {s : State} (law : s.ModeLaw) (p : FirePolarity) : (s.setPolarity p).ModeLaw := by
  unfold State.setPolarity
  split
  · exact law
  · exact State.settleHold_modeLaw (s := { s with settings := { s.settings with polarity := p } }) law.1 law.2.1

/-- R189: the settings but the polarity are none of the law's. -/
theorem sitePut_modeLaw {s : State} (law : s.ModeLaw) (v : Service) : (sitePut v s).1.ModeLaw :=
  checked_rel (R := fun _ t => t.ModeLaw) law (State.setPolarity_modeLaw (s := { s with settings := v.settings s.settings }) law _)

/-! ## Changes of the mode -/

theorem State.tellMode_mode (order : ModeOrder) (s : State) : (s.tellMode order).mode = s.mode :=
  (State.tellMode_frame order s).2

theorem State.changeMode_mode (m : SiteMode) (src : Option EvacuationSource) (trigger : Trigger) (order : ModeOrder) (s : State) :
    (s.changeMode m src trigger order).mode = { s.mode with mode := m, source := src } := by
  simp [State.changeMode]

theorem State.changeMode_modeLaw {s : State} (law : s.ModeLaw) {m : SiteMode} {src : Option EvacuationSource}
    (source : src.isSome ↔ m = .evacuate) (fire : s.mode.fireActive = true → m = .evacuate ∧ src = some .fire)
    (trigger : Trigger) (order : ModeOrder) : (s.changeMode m src trigger order).ModeLaw := by
  obtain ⟨⟨-, -, settings, -⟩, -⟩ := State.changeMode_frame m src trigger order s
  exact law.withMode source fire (State.changeMode_mode m src trigger order s) settings

/-- R171: with the FIRE state CLEAR, or in a mode that is no evacuation, no ACTIVE FIRE state stands. -/
theorem State.ModeLaw.clear {s : State} (law : s.ModeLaw) (h : s.mode.mode ≠ .evacuate) (h' : s.mode.fireActive = true) : False :=
  h (law.2.1 h').1

theorem lockdown_modeLaw {s : State} (law : s.ModeLaw) (order : ModeOrder) (v : Service) : (lockdown order v s).1.ModeLaw := by
  unfold lockdown
  split
  · next normal => exact State.changeMode_modeLaw law (by simp) (fun active => (law.clear (by simp [normal]) active).elim) _ _
  · exact law
  · exact law

theorem evacuate_modeLaw {s : State} (law : s.ModeLaw) (order : ModeOrder) (v : Service) : (evacuate order v s).1.ModeLaw := by
  unfold evacuate
  split
  · next normal => exact State.changeMode_modeLaw law (by simp) (fun active => (law.clear (by simp [normal]) active).elim) _ _
  · next lockdown => exact State.changeMode_modeLaw law (by simp) (fun active => (law.clear (by simp [lockdown]) active).elim) _ _
  · exact law

theorem resume_modeLaw {s : State} (law : s.ModeLaw) (order : ModeOrder) (v : Service) : (resume order v s).1.ModeLaw := by
  unfold resume
  dsimp only
  split
  · next lockdown => exact State.changeMode_modeLaw law (by simp) (fun active => (law.clear (by simp [lockdown]) active).elim) _ _
  · split
    · exact law
    · next quiet => exact State.changeMode_modeLaw law (by simp) (fun active => absurd active quiet) _ _
  · exact law

/-! ## The FIRE state -/

/-- R171: while the measurement runs the reading differs from the FIRE state. -/
theorem State.fireReading_of_holdRuns {s : State} (runs : s.holdRuns = true) : s.fireReading ≠ s.mode.fireActive := by
  unfold State.holdRuns at runs
  simp only [Bool.and_eq_true, bne_iff_ne] at runs
  exact runs.2

theorem State.fireBecomesActive_modeLaw {s : State} (reading : s.fireReading = true) (order : ModeOrder) :
    (s.fireBecomesActive order).ModeLaw := by
  have shown : ∀ t : State, t.mode = { s.mode with mode := .evacuate, source := some .fire, fireActive := true, hold := .stopped } →
      t.settings = s.settings → t.ModeLaw := by
    intro t mode settings
    unfold State.fireReading at reading
    simp [State.ModeLaw, State.fireReading, mode, settings, reading]
  unfold State.fireBecomesActive
  dsimp only
  split
  · next mode source =>
    simp only [State.log_frame, State.mode_setFire] at mode source
    exact shown _ (by simp [← mode, ← source]) (by simp)
  all_goals exact shown _ (by simp [State.changeMode_mode]) (by simp)

theorem State.fireBecomesClear_modeLaw {s : State} (law : s.ModeLaw) (reading : s.fireReading = false) :
    s.fireBecomesClear.ModeLaw := by
  obtain ⟨source, -, -, -⟩ := law
  unfold State.fireReading at reading
  simpa [State.ModeLaw, State.fireReading, State.fireBecomesClear, reading] using source

/-! ## Every step -/

/-- R186: serving a slip keeps the law where its owner does. -/
theorem State.serve_modeLaw {kind : SlipKind} {owner : Service → State → State × Stage} {s : State} (law : s.ModeLaw)
    (h : ∀ v, (owner v s).1.ModeLaw) : (s.serve kind owner).ModeLaw :=
  State.serve_rel (R := fun _ t => t.ModeLaw) law (fun _ _ kept => kept) h

theorem State.powerUp_modeLaw (s : State) : s.powerUp.ModeLaw := by
  rw [State.powerUp_state]
  cases closed : s.mode.contactClosed <;>
    simp [State.ModeLaw, State.fireReading, State.reset, Settings.defaults]

/-- The commands at the mode unit and those that leave it alone (O10). -/
theorem exec_modeLaw {c : Instr} {s t : State} (law : s.ModeLaw) (next : exec c s = .next t) : t.ModeLaw := by
  by_cases own : c ≠ .powerOn ∧ (∀ o, c ≠ .lockdown o) ∧ (∀ o, c ≠ .evacuate o) ∧ (∀ o, c ≠ .resume o) ∧ c ≠ .sitePut ∧
      (∀ b, c ≠ .fireInputChange b) ∧ (∀ o, c ≠ .fireActive o) ∧ c ≠ .fireClear
  · obtain ⟨power, lockdown, evacuate, resume, site, input, active, clear⟩ := own
    obtain ⟨-, -, changes, -⟩ := onlyTheirCommandsChangeThem c s t next
    obtain ⟨settings, -, -, -, -, -, -, -, mode⟩ := changes power
    exact law.of_same (mode lockdown evacuate resume site input active clear) (settings site)
  · cases c
    case powerOn => exact Host.Outcome.next.inj next ▸ State.powerUp_modeLaw s
    case lockdown order => cases next; exact State.serve_modeLaw law (lockdown_modeLaw law order)
    case evacuate order => cases next; exact State.serve_modeLaw law (evacuate_modeLaw law order)
    case resume order => cases next; exact State.serve_modeLaw law (resume_modeLaw law order)
    case sitePut => cases next; exact State.serve_modeLaw law (sitePut_modeLaw law)
    case fireInputChange closed => cases next; exact State.fireInput_modeLaw law closed
    case fireActive order =>
      cases next
      split
      · next reached => exact State.fireBecomesActive_modeLaw (Bool.and_eq_true_iff.1 reached).2 order
      · exact law
    case fireClear =>
      cases next
      split
      · next reached => exact State.fireBecomesClear_modeLaw law (by simpa using (Bool.and_eq_true_iff.1 reached).2)
      · exact law
    all_goals simp at own

/-- Settles O3: a step is idle, or runs a command that keeps the law. -/
theorem everyStepKeepsTheModeLaw : Obligations.EveryStepKeepsTheModeLaw := by
  unfold Obligations.EveryStepKeepsTheModeLaw
  intro s t law next
  unfold step at next
  split at next
  · exact Host.Outcome.next.inj next ▸ State.idle_modeLaw law
  · next rest _ => exact exec_modeLaw (s := { s with pending := rest }) law next

end Sys2Proof.Machine
end

section
/-! What the operations of a portal keep, by what its few primitive works keep (chapter 6). -/

namespace Sys2Proof.Machine

/-- What the primitive works at portal `p` keep: `P due` is a property of states that stands but for the portals `due`, whose
lock command has still to be formed. A portal's record may change while it is due; forming the command and handing it to the
node (R110) settles it. -/
structure PortalWork (p : Nat) (P : List Nat → State → Prop) : Prop where
  more : ∀ {due s}, P due s → P (p :: due) s
  updPortal : ∀ {due s}, P (p :: due) s → ∀ f, P (p :: due) (s.updPortal p f)
  keep : ∀ {due s f}, P due s → (∀ r, (f r).config = r.config) → (∀ r, (f r).command = r.command) → P due (s.updPortal p f)
  handLock : ∀ {due s}, P (p :: due) s → P due (s.handLock p)
  releaseLockNode : ∀ {due s n}, P due s → P due (s.releaseLockNode n)
  elsewhere : ∀ {due s t}, P due s → s.OnlyVisits t → P due t

/-- The journal and the blocks of the register are none of a portal's. -/
theorem PortalWork.log {p : Nat} {P : List Nat → State → Prop} (w : PortalWork p P) {due : List Nat} {s : State} {kind : EntryKind}
    {subject tenant : Option Nat} {detail : List Byte} (h : P due s) : P due (s.log kind subject tenant detail) :=
  w.elsewhere h (by simp [State.OnlyVisits])

/-- A work that keeps the property is done for each of a list. -/
theorem PortalWork.forEach {p : Nat} {P : List Nat → State → Prop} (_w : PortalWork p P) {due : List Nat} {s : State} {α : Type}
    {f : α → State → State} (h : P due s) (keeps : ∀ x (u : State), P due u → P due (f x u)) (xs : List α) : P due (s.forEach xs f) :=
  State.forEach_invariant (P due) f keeps xs s h

namespace PortalWork
section
variable {p : Nat} {P : List Nat → State → Prop} (w : PortalWork p P) {s : State} {due : List Nat} {g : Passage}
include w

/-! ## The lock command, records and sources -/

theorem holdUnlocked (h : P (p :: due) s) : P due (s.holdUnlocked p) :=
  w.handLock (w.log (w.updPortal h _))

theorem applyConfig {c : PortalConfig} (h : P (p :: due) s) : P due (s.applyConfig p c) := by
  unfold State.applyConfig
  dsimp only
  split
  · split
    · exact w.handLock (w.updPortal (w.releaseLockNode (w.updPortal h _)) _)
    · exact w.handLock (w.updPortal (w.updPortal h _) _)
  · split
    · exact w.holdUnlocked (w.updPortal h _)
    · exact w.handLock (w.updPortal h _)

theorem applyDeferred (h : P (p :: due) s) : P due (s.applyDeferred p) := by
  unfold State.applyDeferred
  split
  · exact w.applyConfig h
  · exact w.handLock h

theorem enterSecure (h : P (p :: due) s) : P due (s.enterSecure p) := w.applyDeferred (w.updPortal h _)

theorem relock (h : P (p :: due) s) : P due (s.relock p) := by
  unfold State.relock
  dsimp only
  split
  · exact w.handLock (w.updPortal (w.log h) _)
  · exact w.handLock (w.updPortal (w.log h) _)
  · exact w.enterSecure (w.log h)

theorem evaluateSources (h : P (p :: due) s) : P due (s.evaluateSources p) := by
  unfold State.evaluateSources
  dsimp only
  split
  case h_6 => split; exact w.relock h; exact w.handLock h
  case h_7 | h_8 | h_9 | h_10 | h_11 => exact w.handLock h
  all_goals split; exact w.holdUnlocked h; exact w.handLock h

theorem refreshWindow (h : P due s) : P due (s.refreshWindow p) := by
  unfold State.refreshWindow
  split
  · exact h
  · split
    · exact h
    · exact w.evaluateSources (w.updPortal (w.more h) _)

/-! ## Passages -/

theorem updTenant {i : Nat} {f : Tenant → Tenant} (h : P due s) : P due (s.updTenant i f) :=
  w.elsewhere h (by simp [State.OnlyVisits])

theorem reserve (h : P due s) : P due (s.reserve g) := w.elsewhere h (by simp [State.OnlyVisits])

theorem unlist (h : P due s) : P due (s.unlist p g) :=
  w.updTenant (w.keep h (by exact fun _ => rfl) (by exact fun _ => rfl))

theorem unreserve (h : P due s) : P due (s.unreserve g) := w.elsewhere h (by simp [State.OnlyVisits])

theorem cancelPassage {reason : CancelReason} (h : P due s) : P due (s.cancelPassage p reason g) :=
  w.log (w.unreserve (w.unlist h))

theorem cancelAll {reason : CancelReason} (h : P due s) : P due (s.cancelAll p reason) :=
  w.forEach h (fun _ _ hu => w.cancelPassage hu) _

theorem completePassage (h : P due s) : P due (s.completePassage g) := w.elsewhere h (by simp [State.OnlyVisits])

theorem logPassage {atOnce : Bool} (h : P due s) : P due (s.logPassage p atOnce g) :=
  w.elsewhere h (by simp [State.OnlyVisits])

theorem applyAtOnce (h : P due s) : P due (s.applyAtOnce p g) := w.completePassage (w.logPassage h)

theorem applyPending (h : P due s) : P due (s.applyPending p g) :=
  w.completePassage (w.logPassage (w.unreserve (w.unlist h)))

theorem applyAll (h : P due s) : P due (s.applyAll p) := w.forEach h (fun _ _ hu => w.applyPending hu) _

theorem appendPassage (h : P due s) : P due (s.appendPassage p g) :=
  w.reserve (w.updTenant (w.keep h (by exact fun _ => rfl) (by exact fun _ => rfl)))

theorem placePassage (h : P due s) : P due (s.placePassage p g) := by
  unfold State.placePassage
  dsimp only
  split
  · exact w.handLock (w.appendPassage (w.updPortal (w.more h) _))
  · exact w.appendPassage h
  · split
    · exact w.applyAtOnce h
    · exact w.appendPassage h
  · exact w.applyAtOnce (w.keep h (by exact fun _ => rfl) (by exact fun _ => rfl))
  · exact w.applyAtOnce h
  · exact w.applyAtOnce h
  all_goals exact h

theorem repeatGrant (h : P due s) : P due (s.repeatGrant p) := w.keep h (by exact fun _ => rfl) (by exact fun _ => rfl)

theorem passageExpiry (h : P due s) : P due (s.passageExpiry p) := by
  unfold State.passageExpiry
  dsimp only
  split
  · have cancelled := w.cancelAll (w.keep h (p := p) (f := fun r => { r with passageTimer := .stopped }) (by exact fun _ => rfl) (by exact fun _ => rfl))
      (p := p) (reason := .expired)
    split
    · exact w.enterSecure (w.more cancelled)
    · exact cancelled
  · exact h

theorem holdExpiry (h : P due s) : P due (s.holdExpiry p) := by
  unfold State.holdExpiry
  dsimp only
  split
  · exact w.handLock (w.log (w.updPortal (w.more h) _))
  · exact h

/-! ## The door and the egress button -/

theorem doorOpens (h : P due s) : P due (s.doorOpens p) := by
  unfold State.doorOpens
  dsimp only
  split
  · exact w.handLock (w.applyAll (w.updPortal (w.more h) _))
  · exact w.handLock (w.log (w.updPortal (w.more h) _))
  · exact w.applyAll (w.keep h (by exact fun _ => rfl) (by exact fun _ => rfl))
  · exact w.log h
  · exact w.log h
  all_goals exact h

theorem doorCloses (h : P due s) : P due (s.doorCloses p) := by
  have closed := w.keep h (p := p) (f := fun r => { r with openCounting := false, holdTimer := .stopped }) (by exact fun _ => rfl) (by exact fun _ => rfl)
  unfold State.doorCloses
  dsimp only
  split
  · exact w.enterSecure (w.more (w.log closed))
  · exact w.enterSecure (w.more (w.log closed))
  · exact w.enterSecure (w.more (w.log closed))
  all_goals exact closed

theorem doorReport {opened : Bool} (h : P due s) : P due (s.doorReport p opened) := by
  unfold State.doorReport
  dsimp only
  generalize (if opened = true then DoorState.opened else DoorState.closed) = door
  split
  · exact h
  · split
    · exact w.doorOpens (w.keep h (by exact fun _ => rfl) (by exact fun _ => rfl))
    · exact w.doorCloses (w.keep h (by exact fun _ => rfl) (by exact fun _ => rfl))

theorem egressPress (h : P due s) : P due (s.egressPress p) := by
  unfold State.egressPress
  split
  · exact w.handLock (w.log (w.updPortal (w.more h) _))
  · exact w.keep h (by exact fun _ => rfl) (by exact fun _ => rfl)
  · exact w.keep h (by exact fun _ => rfl) (by exact fun _ => rfl)
  all_goals exact h

theorem rexReport {rex : Nat} (h : P due s) : P due (s.rexReport p rex) := by
  unfold State.rexReport
  split
  · exact h
  · exact w.egressPress (w.keep h (by exact fun _ => rfl) (by exact fun _ => rfl))

/-! ## The lock driver -/

theorem logUnsecured (h : P due s) : P due (s.logUnsecured p) := w.elsewhere h (by simp [State.OnlyVisits])

theorem shortFailure (h : P due s) : P due (s.shortFailure p) :=
  w.handLock (w.logUnsecured (w.log (w.updPortal (w.more (w.cancelAll h)) _)))

theorem openLoadFailure (h : P due s) : P due (s.openLoadFailure p) :=
  w.handLock (w.logUnsecured (w.log (w.updPortal (w.more (w.cancelAll h)) _)))

theorem probeComplete (h : P due s) : P due (s.probeComplete p) :=
  w.log (w.keep h (by exact fun _ => rfl) (by exact fun _ => rfl))

theorem driverReport {d : Driver} (h : P due s) : P due (s.driverReport p d) := by
  unfold State.driverReport
  dsimp only
  split
  · split
    · exact w.shortFailure h
    · exact h
  · split
    · exact w.openLoadFailure h
    · exact h
  · split
    · exact w.probeComplete h
    · exact h

theorem cooldownExpiry (h : P due s) : P due (s.cooldownExpiry p) := by
  unfold State.cooldownExpiry
  dsimp only
  split
  · have ended := w.updPortal (w.more h) (p := p) (fun r => { r with cooldown := .stopped, egressMemory := false })
    split
    · exact w.handLock (w.log (w.updPortal ended _))
    · have probed := w.updPortal ended (fun r => { r with probePending := true })
      split
      · exact w.holdUnlocked probed
      · split
        · exact w.handLock (w.updPortal probed _)
        · split
          · exact w.handLock (w.log (w.updPortal probed _))
          · exact w.enterSecure probed
  · exact h

theorem probeExpiry (h : P due s) : P due (s.probeExpiry p) := by
  unfold State.probeExpiry
  split
  · exact w.keep h (by exact fun _ => rfl) (by exact fun _ => rfl)
  · exact h

theorem resetDriver (h : P due s) : P due (s.resetDriver p) := by
  have reset := w.log (kind := .portalReset) (subject := some p) (tenant := none)
    (detail := bytesOf 1 (s.afterReset (s.portal p)).code)
    (w.keep (f := fun r => { r with faults := 0, probePending := false, probe := .stopped, probeElapsed := false }) h
      (by exact fun _ => rfl) (by exact fun _ => rfl))
  unfold State.resetDriver
  dsimp only
  split
  · exact w.holdUnlocked (w.more reset)
  · exact w.handLock (w.updPortal (w.more reset) _)
  · exact w.enterSecure (w.more reset)

theorem setHostHold {hold : Bool} (h : P due s) : P due (s.setHostHold p hold) :=
  w.evaluateSources (w.updPortal (w.more h) _)

/-! ## Outage and return -/

theorem losePortal {st : PortalState} {reason : CancelReason} (h : P (p :: due) s) :
    P (p :: due) (s.losePortal p st reason) := by
  unfold State.losePortal
  dsimp only
  split
  · exact w.log (w.updPortal (w.cancelAll h) _)
  · exact w.updPortal (w.cancelAll h) _

theorem portalOffline (h : P due s) : P due (s.portalOffline p) := by
  unfold State.portalOffline
  split
  · exact h
  · exact h
  · exact w.handLock (w.losePortal (w.more h))

theorem portalUnknown (h : P due s) : P due (s.portalUnknown p) := by
  unfold State.portalUnknown
  split
  · exact h
  · exact w.applyDeferred (w.losePortal (w.more h))

theorem portalReturn {opened : Bool} {rex : Nat} {d : Driver} (h : P due s) : P due (s.portalReturn p opened rex d) := by
  unfold State.portalReturn
  dsimp only
  generalize (if opened = true then DoorState.opened else DoorState.closed) = door
  have seen := w.keep h (p := p) (f := fun r => { r with door := door, rex := some rex }) (by exact fun _ => rfl)
    (by exact fun _ => rfl)
  split
  · exact w.handLock (w.updPortal (w.more seen) _)
  · split
    · exact w.openLoadFailure seen
    · split
      · exact w.shortFailure seen
      · split
        · exact w.holdUnlocked (w.more seen)
        · split
          · exact w.enterSecure (w.more seen)
          · exact w.handLock (w.log (w.updPortal (w.more seen) _))

theorem portalStatus {opened : Bool} {rex : Nat} {d : Driver} (h : P due s) : P due (s.portalStatus p opened rex d) := by
  unfold State.portalStatus
  split
  · exact h
  · exact w.portalReturn h
  · exact w.portalReturn h
  · exact w.rexReport (w.doorReport (w.driverReport h))

theorem resetPortal (h : P due s) : P due (s.resetPortal p) := by
  unfold State.resetPortal
  dsimp only
  split
  · exact h
  · split
    · exact w.handLock (w.updPortal (w.more (w.releaseLockNode h)) _)
    · exact w.handLock (w.updPortal (w.more h) _)

end

/-! ## Works that reach several portals -/

section
variable {P : List Nat → State → Prop} (w : ∀ p, PortalWork p P) {s : State} {due : List Nat}
include w

theorem cancelTransit {tenant : Nat} {reason : CancelReason} (h : P due s) : P due (s.cancelTransit tenant reason) := by
  unfold State.cancelTransit
  split
  · exact h
  · next p _ =>
    split
    · exact (w p).cancelPassage h
    · exact (w p).updTenant h

theorem refreshWindows (h : P due s) : P due s.refreshWindows :=
  (w 0).forEach h (fun p _ hu => (w p).refreshWindow hu) _

/-- R174: with the sources of all the portals due evaluated none is due. -/
theorem evaluateEach {ps : List Nat} (h : P ps s) : P [] (s.forEach ps State.evaluateSources) := by
  induction ps generalizing s with
  | nil => exact h
  | cons p ps ih => exact ih ((w p).evaluateSources h)

end
end PortalWork
end Sys2Proof.Machine
end

section
/-! The evacuation override (O6): the law, and that the works of a portal keep it. -/

namespace Sys2Proof.Machine

/-- R110: in EVACUATE every configured portal with the egress flag that is none of `due` was handed RELEASED last. -/
abbrev State.OverrideBut (due : List Nat) (s : State) : Prop :=
  s.mode.mode = .evacuate → ∀ p < 48, p ∉ due → ∀ c, (s.portal p).config = some c → c.egress = true →
    (s.portal p).command = .released

theorem State.overrideBut_nil (s : State) : s.OverrideBut [] ↔ s.OverrideLaw := by
  simp [State.OverrideBut, State.OverrideLaw]

namespace State.OverrideBut

variable {s t : State} {due : List Nat} {p : Nat}

/-- R110: the law rests on the mode and on the records in force and commands of the portals. -/
theorem same (h : s.OverrideBut due) (mode : t.mode.mode = s.mode.mode) (config : ∀ q, (t.portal q).config = (s.portal q).config)
    (command : ∀ q, (t.portal q).command = (s.portal q).command) : t.OverrideBut due := by
  intro evacuate q small other c configured egress
  rw [mode] at evacuate
  rw [config] at configured
  rw [command]
  exact h evacuate q small other c configured egress

theorem portals (h : s.OverrideBut due) (mode : t.mode.mode = s.mode.mode) (portals : t.portals = s.portals) : t.OverrideBut due := by
  have portal (q : Nat) : t.portal q = s.portal q := by simp only [State.portal, portals]
  exact h.same mode (fun q => by rw [portal]) (fun q => by rw [portal])

/-- Where the commands of the portals `due` may differ, so may those of more. -/
theorem more (h : s.OverrideBut due) : s.OverrideBut (p :: due) :=
  fun evacuate q small other => h evacuate q small fun mem => other (List.mem_cons_of_mem p mem)

theorem updPortal (h : s.OverrideBut (p :: due)) (f : Portal → Portal) : (s.updPortal p f).OverrideBut (p :: due) := by
  intro evacuate q small other c configured egress
  have ne : q ≠ p := fun same => other (same ▸ List.mem_cons_self)
  rw [State.portal_updPortal_ne ne] at configured ⊢
  exact h evacuate q small other c configured egress

/-- R110: what is changed of a portal besides its record in force and its command. -/
theorem keep (h : s.OverrideBut due) {f : Portal → Portal} (config : ∀ r, (f r).config = r.config)
    (command : ∀ r, (f r).command = r.command) : (s.updPortal p f).OverrideBut due := by
  refine h.same (by simp) (fun q => ?_) (fun q => ?_) <;> by_cases same : q = p
  · rw [same, State.portal_updPortal_self, config]
  · rw [State.portal_updPortal_ne same]
  · rw [same, State.portal_updPortal_self, command]
  · rw [State.portal_updPortal_ne same]

theorem log (h : s.OverrideBut due) {kind : EntryKind} {subject tenant : Option Nat} {detail : List Byte} :
    (s.log kind subject tenant detail).OverrideBut due :=
  h.portals (by simp) (by simp)

/-- R110: under the override the command is RELEASED, whatever the portal's state. -/
theorem command_of_egress {r : Portal} {c : PortalConfig} (evacuate : s.mode.mode = .evacuate) (egress : c.egress = true) :
    (s.withCommandOf c r).command = .released := by
  rw [State.withCommandOf]
  exact if_pos ⟨evacuate, egress⟩

theorem handLock (h : s.OverrideBut (p :: due)) : (s.handLock p).OverrideBut due := by
  intro evacuate q small other c configured egress
  rw [show (s.handLock p).mode = s.mode by simp] at evacuate
  by_cases same : q = p
  · subst same
    cases had : (s.portal q).config with
    | none =>
      rw [show s.handLock q = s by rw [State.handLock, had], had] at configured
      cases configured
    | some d =>
      rw [State.handLock_portal_self had] at configured ⊢
      obtain rfl : d = c := Option.some.inj (had.symm.trans configured)
      exact command_of_egress evacuate egress
  · rw [State.handLock_portal_ne same] at configured ⊢
    exact h evacuate q small (fun mem => (List.mem_cons.1 mem).elim same other) c configured egress

theorem releaseLockNode {n : NodeId} (h : s.OverrideBut due) : (s.releaseLockNode n).OverrideBut due :=
  h.portals (by simp) (by simp)

/-- R110: every operation of a portal keeps the law. -/
theorem work (p : Nat) : PortalWork p State.OverrideBut where
  more h := h.more
  updPortal h f := h.updPortal f
  keep h config command := h.keep config command
  handLock h := h.handLock
  releaseLockNode h := h.releaseLockNode
  elsewhere h only := h.portals (by simp only [only]) (by simp only [only])

/-- A work that keeps the law is done for each of a list. -/
theorem forEach {α : Type} {f : α → State → State} (h : s.OverrideBut due)
    (keeps : ∀ x (u : State), u.OverrideBut due → (f x u).OverrideBut due) (xs : List α) : (s.forEach xs f).OverrideBut due :=
  State.forEach_invariant (State.OverrideBut due) f keeps xs s h

end State.OverrideBut

/-- R110: no portal but the configured ones comes under the law. -/
theorem State.overrideBut_portalNumbers (s : State) : s.OverrideBut s.portalNumbers := by
  intro _ p small other c configured
  exact absurd (List.mem_filter.2 ⟨List.mem_range.2 small, by rw [configured]; rfl⟩) other

end Sys2Proof.Machine
end

section
/-! The evacuation override (O6): lines, decisions, modes, the directory and the resets, and every step. -/

namespace Sys2Proof.Machine
namespace State.OverrideBut

variable {s t : State} {due : List Nat} {n : NodeId}

/-! ## Nodes and lines -/

theorem setNode {r : Node} (h : s.OverrideBut due) : (s.setNode n r).OverrideBut due := h.portals (by simp) (by simp)

theorem updNode {f : Node → Node} (h : s.OverrideBut due) : (s.updNode n f).OverrideBut due := h.portals (by simp) (by simp)

theorem updLine {l : Nat} {f : Line → Line} (h : s.OverrideBut due) : (s.updLine l f).OverrideBut due :=
  h.portals (by simp) (by simp)

theorem discardReads (h : s.OverrideBut due) : (s.discardReads n).OverrideBut due := h.portals rfl rfl

theorem ownersOffline {kind : NodeKind} (h : s.OverrideBut due) : (s.ownersOffline n kind).OverrideBut due := by
  unfold State.ownersOffline
  cases kind <;> dsimp only
  · split
    · exact (work _).portalOffline h
    · exact h
  · split
    · exact h.portals (by simp) (by simp)
    · exact h
  · exact h.portals (by simp) (by simp)

theorem ownersUnknown {kind : NodeKind} (h : s.OverrideBut due) : (s.ownersUnknown n kind).OverrideBut due := by
  unfold State.ownersUnknown
  cases kind <;> dsimp only
  · split
    · exact (work _).portalUnknown h
    · exact h
  · split
    · exact h.portals (by simp) (by simp)
    · exact h
  · exact h.portals (by simp) (by simp)

theorem nodeUnknown (h : s.OverrideBut due) : (s.nodeUnknown n).OverrideBut due := by
  unfold State.nodeUnknown
  split
  · exact h
  · exact h.setNode.ownersUnknown

theorem nodeOffline {cause : Nat} (h : s.OverrideBut due) : (s.nodeOffline n cause).OverrideBut due := by
  unfold State.nodeOffline
  split
  · exact h
  · exact h.setNode.log.ownersOffline

theorem takeRead {b : ReadBlock} (h : s.OverrideBut due) : (s.takeRead n b).OverrideBut due := by
  unfold State.takeRead
  dsimp only
  (repeat' split) <;> exact h.portals (by simp) (by simp)

theorem handStatus {kind : NodeKind} {how : ReplyStanding} {bytes : List Byte} (h : s.OverrideBut due) :
    (s.handStatus n kind how bytes).OverrideBut due := by
  unfold State.handStatus
  cases kind <;> dsimp only
  · split
    · exact (work _).portalStatus h
    · exact h
  · split
    · exact h.portals (by simp) (by simp)
    · exact h
  · exact h.portals (by simp) (by simp)

theorem handOn {kind : NodeKind} {how : ReplyStanding} {bytes : List Byte} (h : s.OverrideBut due) :
    (s.handOn n kind how bytes).OverrideBut due := by
  unfold State.handOn
  dsimp only
  split
  · split
    · exact h.handStatus
    · exact h.handStatus.takeRead
  · exact h.handStatus

theorem carRestored {c : Nat} (h : s.OverrideBut due) : (s.carRestored c).OverrideBut due := h.portals (by simp) (by simp)

theorem restoreNode {r : Node} (h : s.OverrideBut due) : (s.restoreNode n r).OverrideBut due := by
  unfold State.restoreNode
  dsimp only
  split
  · split
    · exact h.setNode.log.carRestored
    · exact h.setNode.log
  · exact h.setNode.log

theorem goodReply {bytes : List Byte} (h : s.OverrideBut due) : (s.goodReply n bytes).OverrideBut due := by
  unfold State.goodReply
  dsimp only
  split
  · exact h
  · split
    · exact h.setNode.handOn
    · exact h.setNode.handOn
    · split
      · exact h.setNode
      · exact h.restoreNode.handOn

theorem badReply {kind : BadReply} (h : s.OverrideBut due) : (s.badReply n kind).OverrideBut due := by
  unfold State.badReply
  dsimp only
  split
  · exact h
  · split
    · exact h.setNode
    all_goals
      split
      · exact h.setNode.nodeOffline
      · exact h.setNode

theorem exchangeBad {l : Nat} {kind : BadReply} (h : s.OverrideBut due) : (s.exchangeBad l kind).OverrideBut due := by
  unfold State.exchangeBad
  split
  · exact h
  · exact h.badReply.updLine

theorem endExchange {l : Nat} (h : s.OverrideBut due) : (s.endExchange l).OverrideBut due := h.portals (by simp) (by simp)

theorem judgeReply {l : Nat} {frame : List LineChar} (h : s.OverrideBut due) : (s.judgeReply l frame).OverrideBut due := by
  unfold State.judgeReply
  split
  · exact h
  · split
    · exact h
    · split
      · exact h.exchangeBad
      · exact h.goodReply.endExchange

theorem faultLine {l : Nat} {reason : FaultReason} (h : s.OverrideBut due) : (s.faultLine l reason).OverrideBut due := by
  unfold State.faultLine
  refine h.updLine.log.forEach (fun a u hu => ?_) _
  unfold State.faultNode
  split
  · exact hu.nodeOffline
  · exact hu.updNode

theorem lineBreak {l : Nat} (h : s.OverrideBut due) : (s.lineBreak l).OverrideBut due := by
  unfold State.lineBreak
  split
  · exact h.faultLine
  · exact h

theorem lineNoQuiet {l : Nat} (h : s.OverrideBut due) : (s.lineNoQuiet l).OverrideBut due := by
  unfold State.lineNoQuiet
  split
  · exact h.faultLine
  · exact h

theorem stopLine {l : Nat} (h : s.OverrideBut due) : (s.stopLine l).OverrideBut due :=
  h.updLine.forEach (fun _ _ hu => hu.nodeUnknown) _

theorem disableLine {l : Nat} (h : s.OverrideBut due) : (s.disableLine l).OverrideBut due :=
  h.stopLine.forEach (fun _ _ hu => hu.discardReads.updNode) _

theorem settleLine {l : Nat} {enabled : Bool} (h : s.OverrideBut due) : (s.settleLine l enabled).OverrideBut due := by
  unfold State.settleLine
  split
  · split
    · exact h.portals (by simp) (by simp)
    · exact h
  all_goals
    split
    · exact h
    · exact h.disableLine

theorem renewNode {r : Node} {kind : NodeKind} (h : s.OverrideBut due) : (s.renewNode n r kind).OverrideBut due :=
  State.OverrideBut.ownersUnknown (State.OverrideBut.discardReads (State.OverrideBut.setNode
    (h.portals (t := s.abandonExchange n) (by simp) (by simp))))

/-! ## Decisions, modes and resets -/

theorem logAccess {r : Read} {ruling : Ruling} (h : s.OverrideBut due) : (s.logAccess r ruling).OverrideBut due :=
  h.portals (by simp) (by simp)

theorem placeGrant {a : Asked} {tenant : Option Nat} {ruling : Ruling} (h : s.OverrideBut due) :
    (s.placeGrant a tenant ruling).OverrideBut due := by
  unfold State.placeGrant
  split
  · exact (work _).repeatGrant h
  · exact (work _).placePassage h
  · exact h.portals (by simp) (by simp)
  · exact h

theorem storeVerdict {r : Read} {v : Verdict} (h : s.OverrideBut due) : (s.storeVerdict r v).OverrideBut due :=
  h.portals (by simp) (by simp)

theorem decide {r : Read} (h : s.OverrideBut due) : (State.decide r s).OverrideBut due := by
  unfold State.decide
  exact h.logAccess.placeGrant.storeVerdict

theorem decideNext (h : s.OverrideBut due) : s.decideNext.OverrideBut due := by
  unfold State.decideNext
  split
  · exact h
  · next r rest _ => exact State.OverrideBut.decide (s := { s with reads := rest }) h

theorem carModeAll (h : s.OverrideBut due) : s.carModeAll.OverrideBut due := h.portals (by simp) (by simp)

theorem changeMode (m : SiteMode) (src : Option EvacuationSource) (trigger : Trigger) (order : ModeOrder) (s : State) :
    (s.changeMode m src trigger order).OverrideLaw := by
  rw [← State.overrideBut_nil]
  unfold State.changeMode State.tellMode
  dsimp only
  split
  · exact (PortalWork.evaluateEach work (State.overrideBut_portalNumbers _)).carModeAll
  · exact PortalWork.evaluateEach work (State.overrideBut_portalNumbers _)

/-- R171: with source HOST the mode stays EVACUATE. -/
theorem fireBecomesActive {order : ModeOrder} (h : s.OverrideLaw) : (s.fireBecomesActive order).OverrideLaw := by
  have told : (s.setFire true).OverrideBut [] := (State.overrideBut_nil s).2 h
  have active : ((s.setFire true).log .fireActive none none []).OverrideBut [] := told.log
  unfold State.fireBecomesActive
  dsimp only
  split
  · exact (State.overrideBut_nil _).1 active
  · next mode _ => exact (State.overrideBut_nil _).1 (active.portals (by simpa using mode.symm) (by simp))
  all_goals exact changeMode _ _ _ _ _

end State.OverrideBut
end Sys2Proof.Machine
end

section
/-! The evacuation override (O6): every owner, and every step. -/

namespace Sys2Proof.Machine

variable {s : State}

/-! ## What a soft reset's aborts change -/

/-- R186, R191: from `s` to `t` nothing but memory, the slip unit and the causes has changed. -/
abbrev State.OnlyAnswers (s t : State) : Prop :=
  t = { s with mem := t.mem, slips := t.slips, bus := { s.bus with cause := t.bus.cause } }

theorem State.OnlyAnswers.trans {s t u : State} (h : s.OnlyAnswers t) (k : t.OnlyAnswers u) : s.OnlyAnswers u := by
  unfold State.OnlyAnswers at *
  rw [k, h]

theorem State.writeAnswer_onlyAnswers (n tag : Nat) (a : Answer) (s : State) : s.OnlyAnswers (s.writeAnswer n tag a) := by
  unfold State.OnlyAnswers State.writeAnswer
  rw [State.OnlyMem.eq (State.pass_frame (answerAccesses n tag a) s)]
  rfl

theorem State.abortServing_onlyAnswers (s : State) : s.OnlyAnswers s.abortServing := by
  unfold State.abortServing
  split
  · rfl
  · exact State.OnlyAnswers.trans (t := { s with slips := { s.slips with serving := none } }) rfl (State.writeAnswer_onlyAnswers _ _ _ _)

theorem State.abortQueue_onlyAnswers (s : State) : s.OnlyAnswers s.abortQueue :=
  State.OnlyAnswers.trans (t := { s with slips := { s.slips with queue := [] } }) rfl
    (State.forEach_frame State.OnlyAnswers (fun _ => rfl) (fun _ _ _ h k => h.trans k) _
      (fun n s => State.writeAnswer_onlyAnswers n _ _ s) _ _)

/-- R191: the aborts of a soft reset. -/
theorem State.aborts_onlyAnswers (s : State) : s.OnlyAnswers s.abortServing.abortQueue :=
  s.abortServing_onlyAnswers.trans s.abortServing.abortQueue_onlyAnswers

/-- R88: the register is emptied, and its length handed to the mirror. -/
theorem State.emptyRegister_only (s : State) :
    s.emptyRegister = { s with mem := s.emptyRegister.mem, register := s.emptyRegister.register } := by
  unfold State.emptyRegister
  dsimp only
  split
  · rfl
  · exact State.OnlyMem.eq (State.mirrorVisits_frame _)

/-! ## The portals of the directory, of a second event and of a reset -/

namespace State.OverrideBut

/-- R29, R77: what every portal loses or counts besides its record in force and its command. -/
theorem mapPortals {due : List Nat} {f : Portal → Portal} {t : State} (h : s.OverrideBut due) (mode : t.mode.mode = s.mode.mode)
    (portals : t.portals = Table.mapValues f s.portals) (blank : f Portal.blank = Portal.blank)
    (config : ∀ r, (f r).config = r.config) (command : ∀ r, (f r).command = r.command) : t.OverrideBut due := by
  have portal (q : Nat) : t.portal q = f (s.portal q) := by
    rw [State.portal, portals]
    exact Table.read_mapValues f _ blank q s.portals
  exact h.same mode (fun q => by rw [portal, config]) (fun q => by rw [portal, command])

theorem dropCredential {due : List Nat} (c : Credential) (h : s.OverrideBut due) : (s.dropCredential c).OverrideBut due :=
  h.mapPortals (f := fun r => { r with passages := r.passages.map (Passage.forget c.key) }) (by simp [State.dropCredential, State.forgetKey])
    (by simp [State.dropCredential, State.forgetKey]) rfl (fun _ => rfl) (fun _ => rfl)

theorem dropCredentials {due : List Nat} {index : Nat} (h : s.OverrideBut due) : (s.dropCredentials index).OverrideBut due :=
  h.forEach (fun e _ hu => hu.dropCredential e.2) _

theorem endVisit {due : List Nat} {tenant : Nat} {reason : EndReason} (h : s.OverrideBut due) :
    (s.endVisit tenant reason).OverrideBut due :=
  h.portals (by simp) (by simp)

theorem removeReleases {due : List Nat} {tenant : Nat} (h : s.OverrideBut due) : (s.removeReleases tenant).OverrideBut due :=
  h.portals (by simp) (by simp)

theorem dropTenant {due : List Nat} {index : Nat} (h : s.OverrideBut due) : (s.dropTenant index).OverrideBut due := by
  have cancelled := PortalWork.cancelTransit work (tenant := index) (reason := .removed) h
  have dropped := cancelled.endVisit (tenant := index) (reason := .removed) |>.removeReleases (tenant := index) |>.dropCredentials (index := index)
  unfold State.dropTenant
  exact State.OverrideBut.portals dropped (by simp) (by simp)

theorem setTenants {due : List Nat} {table : Table Tenant} (h : s.OverrideBut due) :
    { s with tenants := table }.OverrideBut due := h

theorem flushReads {due : List Nat} (h : s.OverrideBut due) : s.flushReads.OverrideBut due := h

theorem emptyRegister {due : List Nat} (h : s.OverrideBut due) : s.emptyRegister.OverrideBut due := by
  rw [State.emptyRegister_only]
  exact h

theorem resetTables {due : List Nat} (h : s.OverrideBut due) : { s with
    units := Table.mapValues UnitRecord.softReset s.units
    lines := Table.mapValues Line.softReset s.lines
    nodes := Table.mapValues Node.softReset s.nodes }.OverrideBut due := h

theorem resetPortal {due : List Nat} {p : Nat} (h : s.OverrideBut due) : (s.resetPortal p).OverrideBut due := by
  unfold State.resetPortal
  dsimp only
  split
  · exact h
  · split
    · exact (h.releaseLockNode.more.updPortal _).handLock
    · exact (h.more.updPortal _).handLock

theorem resetCar {due : List Nat} {c : Nat} (h : s.OverrideBut due) : (s.resetCar c).OverrideBut due :=
  h.portals (by simp) (by simp)

theorem resetBlocks {due : List Nat} (h : s.OverrideBut due) : s.resetBlocks.OverrideBut due := by
  have emptied := (h.setTenants (table := Table.mapValues Tenant.leaveSite s.tenants)).flushReads.emptyRegister
  unfold State.resetBlocks
  exact (emptied.resetTables.forEach (fun _ _ hu => hu.resetPortal) _).forEach (fun _ _ hu => hu.resetCar) _

theorem resetRun {due : List Nat} (h : s.OverrideBut due) : s.resetRun.OverrideBut due := by
  unfold State.resetRun
  split
  · exact h
  · exact h.portals (by simp) (by simp)

theorem raise {due : List Nat} {c : Cause} (h : s.OverrideBut due) : (s.raise c).OverrideBut due := h

theorem journalReset {due : List Nat} (h : s.OverrideBut due) : s.journalReset.OverrideBut due :=
  h.portals (by simp) (by simp)

theorem aborts {due : List Nat} (h : s.OverrideBut due) : s.abortServing.abortQueue.OverrideBut due := by
  rw [s.aborts_onlyAnswers]
  exact h

theorem softReset {due : List Nat} (h : s.OverrideBut due) : s.softReset.OverrideBut due :=
  h.aborts.resetRun.raise.resetBlocks.journalReset

/-! ## The owners -/

theorem serve {due : List Nat} {kind : SlipKind} {owner : Service → State → State × Stage} (h : s.OverrideBut due)
    (keeps : ∀ v, (owner v s).1.OverrideBut due) : (s.serve kind owner).OverrideBut due :=
  State.serve_rel (R := fun _ t => t.OverrideBut due) h (fun _ _ kept => kept) keeps

/-- R106: a record with the egress flag of the one in force. -/
theorem retime {due : List Nat} {p : Nat} {old : PortalConfig} {f : Portal → Portal} (h : s.OverrideBut due)
    (configured : (s.portal p).config = some old)
    (egress : ∀ r c, (f r).config = some c → c.egress = old.egress) (command : ∀ r, (f r).command = r.command) :
    (s.updPortal p f).OverrideBut due := by
  intro evacuate q small other c had flag
  by_cases same : q = p
  · subst same
    rw [State.portal_updPortal_self] at had ⊢
    rw [command]
    exact h evacuate q small other old configured (egress _ c had ▸ flag)
  · rw [State.portal_updPortal_ne same] at had ⊢
    exact h evacuate q small other c had flag

theorem egress_of_sameButTiming {c d : PortalConfig} (same : c.sameButTiming d = true) : c.egress = d.egress := by
  rw [← eq_of_beq same]

theorem portalPut {due : List Nat} (v : Service) (h : s.OverrideBut due) : (portalPut v s).1.OverrideBut due := by
  unfold Sys2Proof.Machine.portalPut
  dsimp only
  split
  · exact h
  · split
    · exact (h.more.updPortal _).handLock
    · next old configured =>
      split
      · next timing =>
        refine h.retime configured (fun _ c had => ?_) (fun _ => rfl)
        obtain rfl := Option.some.inj had
        exact egress_of_sameButTiming timing
      · split
        · exact (work _).applyConfig h.more
        · exact h.keep (by exact fun _ => rfl) (by exact fun _ => rfl)

/-- A slip that carries a portal number alone. -/
theorem withPortal {due : List Nat} {v : Service} {work : Nat → Portal → State × Answer} (h : s.OverrideBut due)
    (keeps : ∀ p r, (work p r).1.OverrideBut due) : (withPortal v s work).1.OverrideBut due :=
  withPortal_rel (R := fun _ t => t.OverrideBut due) h keeps

/-- R108: an UNCONFIGURED portal comes under no law. -/
theorem blank {due : List Nat} {p : Nat} (h : s.OverrideBut due) : (s.setPortal p Portal.blank).OverrideBut due := by
  intro evacuate q small other c configured egress
  by_cases same : q = p
  · subst same
    rw [State.portal_setPortal_self] at configured
    cases configured
  · rw [State.portal_setPortal_ne same] at configured ⊢
    exact h evacuate q small other c configured egress

theorem portalDrop {due : List Nat} (v : Service) (h : s.OverrideBut due) : (portalDrop v s).1.OverrideBut due :=
  h.withPortal fun p r => by
    split
    · exact h
    · dsimp only
      split
      · exact h.releaseLockNode.blank
      · exact h.blank

theorem portalPulse {due : List Nat} (v : Service) (h : s.OverrideBut due) : (portalPulse v s).1.OverrideBut due :=
  h.withPortal fun p r => by
    split
    · exact (h.more.updPortal _).log.handLock
    · exact State.OverrideBut.log (h.keep (by exact fun _ => rfl) (by exact fun _ => rfl))
    all_goals exact h

theorem portalHold {due : List Nat} (v : Service) (h : s.OverrideBut due) : (portalHold v s).1.OverrideBut due :=
  h.withPortal fun _ _ => (work _).setHostHold h

theorem portalSecure {due : List Nat} (v : Service) (h : s.OverrideBut due) : (portalSecure v s).1.OverrideBut due :=
  h.withPortal fun _ _ => (work _).setHostHold h

theorem portalReset {due : List Nat} (v : Service) (h : s.OverrideBut due) : (portalReset v s).1.OverrideBut due :=
  h.withPortal fun _ _ => by
    split
    · exact h
    · exact (work _).resetDriver h

end State.OverrideBut

end Sys2Proof.Machine
end

section
/-! The evacuation override (O6): owners that leave the portals alone, and every step. -/

namespace Sys2Proof.Machine

/-! ## Owners that leave the portals alone -/

theorem State.putCredential_portals (f : CredFields) (s : State) : (s.putCredential f).portals = s.portals := by
  unfold State.putCredential
  dsimp only
  split <;> simp

theorem tenantPut_portals (v : Service) (s : State) : (tenantPut v s).1.portals = s.portals :=
  checked_rel (R := fun s t => t.portals = s.portals) rfl (by simp)

theorem standingSet_portals (v : Service) (s : State) : (standingSet v s).1.portals = s.portals :=
  checked_rel (R := fun s t => t.portals = s.portals) rfl (by simp)

theorem grantSet_portals (v : Service) (s : State) : (grantSet v s).1.portals = s.portals :=
  checked_rel (R := fun s t => t.portals = s.portals) rfl (by simp)

theorem unitPut_portals (v : Service) (s : State) : (unitPut v s).1.portals = s.portals :=
  checked_rel (R := fun s t => t.portals = s.portals) rfl (by simp)

theorem zoneRead_portals (v : Service) (s : State) : (zoneRead v s).1.portals = s.portals :=
  checked_rel (R := fun s t => t.portals = s.portals) rfl (by simp)

theorem credPut_portals (v : Service) (s : State) : (credPut v s).1.portals = s.portals :=
  checked_rel (R := fun s t => t.portals = s.portals) rfl (State.putCredential_portals _ s)

theorem zonePut_portals (v : Service) (s : State) : (zonePut v s).1.portals = s.portals :=
  checked_rel (R := fun s t => t.portals = s.portals) rfl (by
    dsimp only
    split <;> simp)

theorem unitDrop_portals (v : Service) (s : State) : (unitDrop v s).1.portals = s.portals := by
  unfold unitDrop
  dsimp only
  (repeat' split) <;> simp

theorem tenantRead_portals (v : Service) (s : State) : (tenantRead v s).1.portals = s.portals := by
  unfold tenantRead
  dsimp only
  (repeat' split) <;> simp

theorem loadList_portals (v : Service) (s : State) : (loadList v s).1.portals = s.portals := by
  unfold loadList
  dsimp only
  (repeat' split) <;> simp

theorem visitExtend_portals (v : Service) (s : State) : (visitExtend v s).1.portals = s.portals := by
  unfold visitExtend
  dsimp only
  (repeat' split) <;> simp

theorem visitList_portals (v : Service) (s : State) : (visitList v s).1.portals = s.portals := by
  unfold visitList
  dsimp only
  (repeat' split) <;> simp

theorem unitClear_portals (v : Service) (s : State) : (unitClear v s).1.portals = s.portals := by
  unfold unitClear
  dsimp only
  (repeat' split) <;> simp

theorem carPut_portals (v : Service) (s : State) : (carPut v s).1.portals = s.portals := by
  unfold carPut
  dsimp only
  (repeat' split) <;> simp

theorem carDrop_portals (v : Service) (s : State) : (carDrop v s).1.portals = s.portals := by
  unfold carDrop
  dsimp only
  (repeat' split) <;> simp

theorem journalMark_portals (v : Service) (s : State) : (journalMark v s).1.portals = s.portals := by
  simp [journalMark]

theorem State.applyNextRecord_portals (s : State) : s.applyNextRecord.portals = s.portals := by
  have tenant (image : List Byte) : (applyTenantRecord image s).1.portals = s.portals := by
    unfold applyTenantRecord
    dsimp only
    split <;> simp
  have credential (image : List Byte) : (applyCredRecord image s).1.portals = s.portals := by
    unfold applyCredRecord
    dsimp only
    split
    · rfl
    · exact State.putCredential_portals _ s
  unfold State.applyNextRecord
  dsimp only
  split
  · rfl
  · split
    · unfold Service.applyRecord
      dsimp only
      split
      · exact tenant _
      · exact credential _
    all_goals rfl

theorem State.copyVisitImage_portals (s : State) : s.copyVisitImage.portals = s.portals := by
  unfold State.copyVisitImage
  dsimp only
  (repeat' split) <;> simp [State.endWalk]

theorem State.takeSlip_portals (s : State) : s.takeSlip.portals = s.portals := by
  unfold State.takeSlip
  split <;> simp

theorem State.answerSlip_portals (s : State) : s.answerSlip.portals = s.portals := by
  unfold State.answerSlip
  (repeat' split) <;> simp [State.writeAnswer]

theorem State.refuseKind_portals (s : State) : s.refuseKind.portals = s.portals := by
  unfold State.refuseKind
  (repeat' split) <;> rfl

theorem State.hostWrite_portals (a value : Nat) (s : State) : (s.hostWrite a value).portals = s.portals := by
  unfold State.hostWrite
  split <;> simp

theorem State.postSlip_portals (n : Nat) (s : State) : (s.postSlip n).portals = s.portals := by
  unfold State.postSlip
  split <;> simp

namespace State.OverrideBut

variable {s : State}

/-- R110: a command that leaves the mode unit and the portals alone. -/
theorem served {kind : SlipKind} {owner : Service → State → State × Stage} (h : s.OverrideBut [])
    (mode : (s.serve kind owner).mode = s.mode) (portals : ∀ v s, (owner v s).1.portals = s.portals) :
    (s.serve kind owner).OverrideBut [] :=
  h.portals (congrArg ModeUnit.mode mode)
    (State.serve_rel (R := fun s t => t.portals = s.portals) rfl (fun _ _ kept => kept) fun v => portals v s)

theorem visitEnd (v : Service) (h : s.OverrideBut []) : (visitEnd v s).1.OverrideBut [] := by
  unfold Sys2Proof.Machine.visitEnd
  dsimp only
  split
  · exact h
  · split
    · exact h
    · split
      · exact h
      · exact State.OverrideBut.endVisit (PortalWork.cancelTransit work h)

theorem tenantDrop (v : Service) (h : s.OverrideBut []) : (tenantDrop v s).1.OverrideBut [] := by
  unfold Sys2Proof.Machine.tenantDrop
  dsimp only
  split
  · exact h
  · exact h
  · split
    · exact h
    · exact h.dropTenant

theorem credDrop (v : Service) (h : s.OverrideBut []) : (credDrop v s).1.OverrideBut [] := by
  unfold Sys2Proof.Machine.credDrop
  dsimp only
  split
  · split
    · exact h
    · exact h.dropCredential _
  · exact h

theorem shiftVisits {old new : Nat} (h : s.OverrideBut []) : (s.shiftVisits old new).OverrideBut [] := h.portals (by simp) (by simp)

theorem mirrorClock (h : s.OverrideBut []) : s.mirrorClock.OverrideBut [] := h.portals (by simp) (by simp)

theorem visitMinute (h : s.OverrideBut []) : s.visitMinute.OverrideBut [] := h.portals (by simp) (by simp)

theorem setTime {clock : Clock} (h : s.OverrideBut []) : { s with clock := clock }.OverrideBut [] := h

theorem clockSet (v : Service) (h : s.OverrideBut []) : (clockSet v s).1.OverrideBut [] := by
  refine checked_rel (R := fun _ t => t.OverrideBut []) h ?_
  unfold State.setClock
  dsimp only
  split
  · exact PortalWork.refreshWindows work h.setTime.shiftVisits.log.mirrorClock
  · exact PortalWork.refreshWindows work h.setTime.log.mirrorClock

theorem minute {order : MinuteOrder} (h : s.OverrideBut []) : (s.minute order).OverrideBut [] := by
  unfold State.minute
  dsimp only
  split
  · exact State.OverrideBut.mirrorClock (PortalWork.refreshWindows work h.setTime.visitMinute)
  · exact (State.OverrideBut.visitMinute (PortalWork.refreshWindows work h.setTime)).mirrorClock

theorem linePut (v : Service) (h : s.OverrideBut []) : (linePut v s).1.OverrideBut [] :=
  checked_rel (R := fun _ t => t.OverrideBut []) h h.updLine.settleLine

theorem nodePut (v : Service) (h : s.OverrideBut []) : (nodePut v s).1.OverrideBut [] := by
  unfold Sys2Proof.Machine.nodePut
  dsimp only
  split
  · exact h
  · split
    · exact h.setNode
    · split
      · split
        · exact h.renewNode
        · exact h
      · exact h.renewNode

theorem second (h : s.OverrideBut []) : s.second.OverrideBut [] :=
  h.mapPortals (f := Portal.tick) rfl rfl rfl (fun _ => rfl) (fun _ => rfl)

theorem halt (h : s.OverrideBut []) : s.haltRun.OverrideBut [] := by
  unfold State.haltRun
  split
  · exact h
  · have stopped : (s.setRun .halt).stopLines.OverrideBut [] :=
      State.OverrideBut.forEach (s := s.setRun .halt) h (fun _ _ hu => hu.stopLine) _
    exact stopped.flushReads.portals (by simp) (by simp)

theorem lockdown (order : ModeOrder) (v : Service) (h : s.OverrideBut []) : (lockdown order v s).1.OverrideBut [] := by
  unfold Sys2Proof.Machine.lockdown
  split
  · exact (State.overrideBut_nil _).2 (changeMode _ _ _ _ _)
  · exact h
  · exact h

theorem evacuate (order : ModeOrder) (v : Service) (h : s.OverrideBut []) : (evacuate order v s).1.OverrideBut [] := by
  unfold Sys2Proof.Machine.evacuate
  split
  · exact (State.overrideBut_nil _).2 (changeMode _ _ _ _ _)
  · exact (State.overrideBut_nil _).2 (changeMode _ _ _ _ _)
  · exact h

theorem resume (order : ModeOrder) (v : Service) (h : s.OverrideBut []) : (resume order v s).1.OverrideBut [] := by
  unfold Sys2Proof.Machine.resume
  dsimp only
  split
  · exact (State.overrideBut_nil _).2 (changeMode _ _ _ _ _)
  · split
    · exact h
    · exact (State.overrideBut_nil _).2 (changeMode _ _ _ _ _)
  · exact h

end State.OverrideBut

end Sys2Proof.Machine
end

section
/-! The evacuation override (O6): every step. -/

namespace Sys2Proof.Machine

namespace State.OverrideBut

/-- R110: a command that changes no portal and not the mode. -/
theorem kept {s t : State} (h : s.OverrideBut []) (all : s.KeepsAll t) (portals : t.portals = s.portals) : t.OverrideBut [] :=
  by
  obtain ⟨-, ⟨-, mode⟩, -⟩ := all
  exact h.portals (congrArg ModeUnit.mode mode) portals

theorem servedAll {s : State} {kind : SlipKind} {owner : Service → State → State × Stage} (h : s.OverrideBut [])
    (all : ∀ v s, State.KeepsAll s (owner v s).1) (portals : ∀ v s, (owner v s).1.portals = s.portals) :
    (s.serve kind owner).OverrideBut [] :=
  h.served (by simp [State.serve_keepsAll all]) portals

theorem setPolarity {s : State} {p : FirePolarity} (h : s.OverrideBut []) : (s.setPolarity p).OverrideBut [] := by
  unfold State.setPolarity
  split <;> exact h

theorem fireInput {s : State} {closed : Bool} (h : s.OverrideBut []) : (s.fireInput closed).OverrideBut [] := by
  unfold State.fireInput
  split <;> exact h

end State.OverrideBut

/-- R110: every command keeps the law. -/
theorem exec_override {c : Instr} {s t : State} (h : s.OverrideBut []) (next : exec c s = .next t) : t.OverrideBut [] := by
  cases c
  case powerOn =>
    rw [← Host.Outcome.next.inj next, State.powerUp_state]
    exact nofun
  case reset => exact Host.Outcome.next.inj next ▸ h.softReset
  case tenantPut => cases next; exact h.servedAll tenantPut_keeps tenantPut_portals
  case grantSet => cases next; exact h.servedAll grantSet_keeps grantSet_portals
  case standingSet => cases next; exact h.servedAll standingSet_keeps standingSet_portals
  case unitPut => cases next; exact h.servedAll unitPut_keeps unitPut_portals
  case unitDrop => cases next; exact h.servedAll unitDrop_keeps unitDrop_portals
  case tenantRead => cases next; exact h.servedAll tenantRead_keeps tenantRead_portals
  case zonePut => cases next; exact h.servedAll zonePut_keeps zonePut_portals
  case zoneRead => cases next; exact h.servedAll zoneRead_keeps zoneRead_portals
  case visitExtend => cases next; exact h.servedAll visitExtend_keeps visitExtend_portals
  case visitList => cases next; exact h.servedAll visitList_keeps visitList_portals
  case unitClear => cases next; exact h.servedAll unitClear_keeps unitClear_portals
  case journalMark => cases next; exact h.servedAll journalMark_keeps journalMark_portals
  case loadTenants => cases next; exact h.servedAll loadList_keeps loadList_portals
  case loadCredentials => cases next; exact h.servedAll loadList_keeps loadList_portals
  case credPut => cases next; exact h.served (by simp [State.serve_keepsCredsRest credPut_keeps]) credPut_portals
  case carPut => cases next; exact h.served (by simp [State.serve_keepsCarRest carPut_keeps]) carPut_portals
  case carDrop => cases next; exact h.served (by simp [State.serve_keepsCarRest carDrop_keeps]) carDrop_portals
  case profilePut =>
    cases next
    rw [State.serve_profilePut_keeps s]
    exact h
  case holidaySet =>
    cases next
    rw [State.serve_holidaySet_keeps s]
    exact h
  case sitePut =>
    cases next
    exact h.serve fun v => checked_rel (R := fun _ t => t.OverrideBut []) h
      (State.OverrideBut.setPolarity (s := { s with settings := v.settings s.settings }) h)
  case nodeDrop =>
    cases next
    obtain ⟨⟨-, ⟨-, mode⟩, -⟩, -, portals, -⟩ := State.serve_nodeDrop_keeps s
    exact h.portals (congrArg ModeUnit.mode mode) portals
  case visitEnd => cases next; exact h.serve fun v => h.visitEnd v
  case tenantDrop => cases next; exact h.serve fun v => h.tenantDrop v
  case credDrop => cases next; exact h.serve fun v => h.credDrop v
  case clockSet => cases next; exact h.serve fun v => h.clockSet v
  case linePut => cases next; exact h.serve fun v => h.linePut v
  case nodePut => cases next; exact h.serve fun v => h.nodePut v
  case portalPut => cases next; exact h.serve fun v => h.portalPut v
  case portalDrop => cases next; exact h.serve fun v => h.portalDrop v
  case portalPulse => cases next; exact h.serve fun v => h.portalPulse v
  case portalHold => cases next; exact h.serve fun v => h.portalHold v
  case portalSecure => cases next; exact h.serve fun v => h.portalSecure v
  case portalReset => cases next; exact h.serve fun v => h.portalReset v
  case lockdown order => cases next; exact h.serve fun v => h.lockdown order v
  case evacuate order => cases next; exact h.serve fun v => h.evacuate order v
  case resume order => cases next; exact h.serve fun v => h.resume order v
  case slipTake => cases next; exact h.kept s.takeSlip_frame s.takeSlip_portals
  case slipAnswer => cases next; exact h.kept s.answerSlip_frame s.answerSlip_portals
  case badKind => cases next; exact h.kept s.refuseKind_frame s.refuseKind_portals
  case visitImageCopy => cases next; exact h.kept s.copyVisitImage_frame s.copyVisitImage_portals
  case flushTimerExpiry => cases next; exact h.kept (State.OnlyJournal.keepsAll (State.flushExpiry_frame s)) (by simp)
  case journalRecovery => cases next; exact h.kept (State.OnlyJournal.keepsAll (State.reexaminePage_frame s)) (by simp)
  case loadRecordApply => cases next; exact h.portals (by simp [State.applyNextRecord_frame]) s.applyNextRecord_portals
  case hostMemoryWrite word value => cases next; exact h.portals (by simp [State.hostWrite_frame]) (State.hostWrite_portals _ _ s)
  case post value => cases next; exact h.portals (by simp [State.postSlip_frame]) (State.postSlip_portals _ s)
  case controlBad value =>
    cases next
    split
    · exact h
    · exact h.portals (by simp) (by simp)
  case registerReadOnly r value => cases next; exact h.portals (by simp) (by simp)
  case clear bits => cases next; exact h
  case mask bits => cases next; exact h
  case run => cases next; exact h.portals (by simp [State.startRun_frame]) (by simp [State.startRun_frame])
  case halt => cases next; exact h.halt
  case secondEvent => cases next; exact h.second
  case minuteEvent order =>
    cases next
    split
    · exact h.minute
    · exact h
  case fireInputChange closed => cases next; exact h.fireInput
  case fireActive order =>
    cases next
    split
    · exact (State.overrideBut_nil _).2 (State.OverrideBut.fireBecomesActive ((State.overrideBut_nil _).1 h))
    · exact h
  case fireClear =>
    cases next
    split
    · exact State.OverrideBut.log (s := s.setFire false) h
    · exact h
  case passageTimerExpiry p => cases next; exact (State.OverrideBut.work p).passageExpiry h
  case holdTimerExpiry p => cases next; exact (State.OverrideBut.work p).holdExpiry h
  case cooldownExpiry p => cases next; exact (State.OverrideBut.work p).cooldownExpiry h
  case probeIntervalExpiry p => cases next; exact (State.OverrideBut.work p).probeExpiry h
  case releaseExpiry car tenant => cases next; exact h.portals (by simp) (by simp)
  case decision => cases next; exact h.decideNext
  case poll l => cases next; exact h.portals (by simp) (by simp)
  case idleCycleEnd l => cases next; exact h.portals (by simp) (by simp)
  case quietWaitEnd l => cases next; exact h.portals (by simp) (by simp)
  case recoveryCheckExpiry l idle =>
    cases next
    obtain ⟨⟨-, ⟨-, mode⟩, -⟩, -, -, -, portals, -⟩ := State.recoveryCheck_keeps l idle s
    exact h.portals (congrArg ModeUnit.mode mode) portals
  case reply l f => cases next; exact h.judgeReply
  case replyWindowExpiry l => cases next; exact h.exchangeBad
  case collision l => cases next; exact h.exchangeBad
  case gapLimitExpiry l => cases next; exact h.exchangeBad
  case lineBreak l => cases next; exact h.lineBreak
  case noQuiet l => cases next; exact h.lineNoQuiet

/-- R110: every step keeps the law. -/
theorem step_override {s t : State} (law : s.OverrideLaw) (next : step s = .next t) : t.OverrideLaw := by
  rw [← State.overrideBut_nil] at law ⊢
  unfold step at next
  split at next
  · exact Host.Outcome.next.inj next ▸ law
  · next rest _ => exact exec_override (s := { s with pending := rest }) law next

end Sys2Proof.Machine
end

section
/-! The outputs of the lift cars (O6): the law, and what changes of nodes and cars do to it. -/

namespace Sys2Proof.Machine

/-! ## What the law rests on -/

/-- R140, R148: what the law of the car outputs rests on in the record of a node. -/
def Node.carPart (n : Node) : NodeKind × Word × Bool := (n.kind, n.floors, n.recallOn)

theorem State.node_updNode (n m : NodeId) (f : Node → Node) (s : State) :
    (s.updNode n f).node m = if m.code = n.code then (s.node m).map f else s.node m := by
  by_cases same : m.code = n.code
  · have at_ (u : State) : u.node m = u.node n := by rw [State.node, State.node, same]
    rw [if_pos same, at_, at_, State.node_updNode_self]
  · rw [if_neg same]
    unfold State.updNode
    split
    · exact State.node_setNode_ne same _ s
    · rfl

/-- Section 4.3: nodes of the table that differ stand at different places of it. -/
theorem NodeId.code_ne {n m : NodeId} (hn : n.address ≤ 30) (hm : m.address ≤ 30) (ne : n ≠ m) : n.code ≠ m.code := by
  intro same
  unfold NodeId.code at same
  obtain ⟨l, a⟩ := n
  obtain ⟨k, b⟩ := m
  refine ne ?_
  simp only at hn hm same
  rw [NodeId.mk.injEq]
  omega

/-- From `s` to `t` no node is added or removed, and kinds, floors and recalls stand. -/
abbrev State.SameParts (s t : State) : Prop :=
  ∀ n, (t.node n).map Node.carPart = (s.node n).map Node.carPart

theorem State.SameParts.refl (s : State) : s.SameParts s := fun _ => rfl

theorem State.SameParts.trans {s t u : State} (h : s.SameParts t) (k : t.SameParts u) : s.SameParts u :=
  fun n => (k n).trans (h n)

theorem State.SameParts.of_nodes {s t : State} (nodes : t.nodes = s.nodes) : s.SameParts t :=
  fun n => by simp only [State.node, nodes]

/-- A change of a node's record that is none of kind, floors and recall. -/
theorem State.sameParts_updNode {n : NodeId} {f : Node → Node} (part : ∀ r, (f r).carPart = r.carPart) (s : State) :
    s.SameParts (s.updNode n f) := by
  intro m
  rw [State.node_updNode]
  split
  · rw [Option.map_map]
    exact congrArg (Option.map · _) (funext part)
  · rfl

theorem State.sameParts_setNode {n : NodeId} {r r' : Node} {s : State} (had : s.node n = some r) (part : r'.carPart = r.carPart) :
    s.SameParts (s.setNode n r') := by
  intro m
  by_cases same : m.code = n.code
  · have at_ (u : State) : u.node m = u.node n := by rw [State.node, State.node, same]
    rw [at_, at_, State.node_setNode_self, had, Option.map_some, Option.map_some, part]
  · rw [State.node_setNode_ne same]

theorem State.sameParts_mapNodes {f : Node → Node} {s t : State} (nodes : t.nodes = Table.mapValues f s.nodes)
    (part : ∀ r, (f r).carPart = r.carPart) : s.SameParts t := by
  intro m
  rw [State.node, nodes, Table.find_mapValues, Option.map_map]
  exact congrArg (Option.map · _) (funext part)

/-! ## The law -/

/-- R140: the node of car `i` was handed what the mode, the record in force and the release list give. -/
abbrev State.CarHanded (i : Nat) (s : State) : Prop :=
  ∀ g n, (s.car i).config = some g → s.node g.node = some n → n = n.sentFloors s.mode.mode g (s.car i).releases

/-- R135: the records of the cars name CAR nodes, those of different cars different ones. -/
abbrev State.CarRecords (s : State) : Prop :=
  ∀ i g, ((s.car i).config = some g ∨ (s.car i).deferred = some g) → s.CarRecordLaw i g

/-- R140: the law of the car outputs, but for the cars `due`, whose outputs have still to be formed. -/
structure State.CarBut (due : List Nat) (s : State) : Prop where
  records : s.CarRecords
  handed : ∀ i, i ∉ due → s.CarHanded i

theorem State.carBut_nil (s : State) : s.CarBut [] ↔ s.CarOutputLaw :=
  ⟨fun h => ⟨h.records, fun i => h.handed i List.not_mem_nil⟩, fun h => ⟨h.1, fun i _ => h.2 i⟩⟩

/-- R140: the outputs that a record carries. -/
theorem Node.sentFloors_congr {n n' : Node} (part : n'.carPart = n.carPart) (m : SiteMode) (g : CarConfig) (rs : List Release) :
    n' = n'.sentFloors m g rs ↔ n = n.sentFloors m g rs := by
  obtain ⟨-, floors, recallOn⟩ : n'.kind = n.kind ∧ n'.floors = n.floors ∧ n'.recallOn = n.recallOn := by
    simpa [Node.carPart] using part
  have shape (x : Node) : x = x.sentFloors m g rs ↔ x.floors = (x.sentFloors m g rs).floors ∧ x.recallOn = (x.sentFloors m g rs).recallOn :=
    ⟨fun e => ⟨congrArg Node.floors e, congrArg Node.recallOn e⟩, fun ⟨e, e'⟩ => by
      obtain ⟨⟩ := x
      simp only [Node.sentFloors] at e e' ⊢
      rw [← e, ← e']⟩
  rw [shape, shape, floors, recallOn]
  rfl

theorem State.SameParts.some {s t : State} (h : s.SameParts t) {n : NodeId} {r : Node} (had : t.node n = some r) :
    ∃ r', s.node n = some r' ∧ r.carPart = r'.carPart := by
  have := h n
  rw [had, Option.map_some] at this
  obtain ⟨r', had', part⟩ := Option.map_eq_some_iff.1 this.symm
  exact ⟨r', had', part.symm⟩

theorem State.SameParts.symm {s t : State} (h : s.SameParts t) : t.SameParts s := fun n => (h n).symm

namespace State.CarBut

variable {s t : State} {due : List Nat} {c : Nat}

/-- R135: the records rest on the records of the cars and the kinds of the nodes. -/
theorem records_same (h : s.CarRecords) (config : ∀ i, (t.car i).config = (s.car i).config)
    (deferred : ∀ i, (t.car i).deferred = (s.car i).deferred)
    (unconfigured : ∀ i, (s.car i).state ≠ .unconfigured → (t.car i).state ≠ .unconfigured) (parts : s.SameParts t) : t.CarRecords := by
  intro i g named
  rw [config, deferred] at named
  obtain ⟨small, had, state, line, low, high, ⟨n, node, kind⟩, apart⟩ := h i g named
  obtain ⟨n', node', part⟩ := parts.symm.some node
  refine ⟨small, config i ▸ had, unconfigured i state, line, low, high, ⟨n', node', ?_⟩, fun j d ne named => ?_⟩
  · rw [← kind]
    exact (congrArg Prod.fst part).symm
  · rw [config, deferred] at named
    exact apart j d ne named

/-- R140: the law rests on the mode, the cars, and kinds, floors and recalls of the nodes. -/
theorem same (h : s.CarBut due) (mode : t.mode.mode = s.mode.mode) (cars : t.cars = s.cars) (parts : s.SameParts t) :
    t.CarBut due := by
  have car (i : Nat) : t.car i = s.car i := by simp only [State.car, cars]
  refine ⟨records_same h.records (by simp [car]) (by simp [car]) (by simp [car]) parts, fun i other g n had node => ?_⟩
  rw [car] at had ⊢
  rw [mode]
  obtain ⟨n', node', part⟩ := parts.some node
  exact (Node.sentFloors_congr part _ _ _).2 (h.handed i other g n' had node')

theorem elsewhere (h : s.CarBut due) (mode : t.mode.mode = s.mode.mode) (cars : t.cars = s.cars) (nodes : t.nodes = s.nodes) :
    t.CarBut due :=
  h.same mode cars (.of_nodes nodes)

theorem more (h : s.CarBut due) : s.CarBut (c :: due) :=
  ⟨h.records, fun i other => h.handed i fun mem => other (List.mem_cons_of_mem c mem)⟩

/-- R140: with the outputs of its car formed a car is no longer due. -/
theorem settled (h : s.CarBut (c :: due)) (handed : s.CarHanded c) : s.CarBut due := by
  refine ⟨h.records, fun i other => ?_⟩
  by_cases same : i = c
  · exact same ▸ handed
  · exact h.handed i fun mem => (List.mem_cons.1 mem).elim same other

/-- What is changed of a car besides its records. -/
theorem updCar {f : Car → Car} (h : s.CarBut (c :: due)) (config : ∀ r, (f r).config = r.config)
    (deferred : ∀ r, (f r).deferred = r.deferred) (state : ∀ r, r.state ≠ .unconfigured → (f r).state ≠ .unconfigured) :
    (s.updCar c f).CarBut (c :: due) := by
  have car (i : Nat) : (s.updCar c f).car i = if i = c then f (s.car c) else s.car i := by
    split
    · next same => rw [same, State.car_updCar_self]
    · next ne => exact State.car_updCar_ne ne f s
  refine ⟨records_same h.records ?_ ?_ ?_ (.of_nodes (by simp)), fun i other g n had node => ?_⟩
  · intro i
    rw [car]
    split
    · next same => rw [config, same]
    · rfl
  · intro i
    rw [car]
    split
    · next same => rw [deferred, same]
    · rfl
  · intro i configured
    rw [car]
    split
    · next same => exact state _ (same ▸ configured)
    · exact configured
  · have ne : i ≠ c := fun same => other (same ▸ List.mem_cons_self)
    rw [car, if_neg ne] at had ⊢
    rw [show (s.updCar c f).mode = s.mode by simp]
    exact h.handed i other g n had (by simpa [State.node] using node)

/-- R140: the output of a car under the mode. -/
theorem floorOutput_eq (m : SiteMode) (r : Car) (g : CarConfig) (n : Node) :
    { n with floors := r.floorOutput m g, recallOn := recallOutput m } = n.sentFloors m g r.releases := by
  cases m <;> simp [Car.floorOutput, Node.sentFloors, recallOutput, entryFloors]

theorem sentFloors_idem (m : SiteMode) (g : CarConfig) (rs : List Release) (n : Node) :
    n.sentFloors m g rs = (n.sentFloors m g rs).sentFloors m g rs := rfl

/-- R140: the outputs of a car are formed and handed to its node, which is no other car's. -/
theorem handFloors (h : s.CarBut (c :: due)) : (s.handFloors c).CarBut due := by
  cases had : (s.car c).config with
  | none =>
    rw [show s.handFloors c = s by rw [State.handFloors, had]]
    exact h.settled fun g n configured => by rw [had] at configured; cases configured
  | some g =>
    have handed : s.handFloors c = s.updNode g.node (fun n => n.sentFloors s.mode.mode g (s.car c).releases) := by
      rw [State.handFloors, had]
      simp only [floorOutput_eq]
    obtain ⟨-, -, -, -, -, high, -, apart⟩ := h.records c g (.inl had)
    have car (i : Nat) : (s.handFloors c).car i = s.car i := State.handFloors_car c i s
    have mode : (s.handFloors c).mode = s.mode := by simp
    refine ⟨?_, fun i other d n configured node => ?_⟩
    · intro i d named
      rw [car] at named
      obtain ⟨small, some_, state, line, low, top, ⟨n, node, kind⟩, others⟩ := h.records i d named
      refine ⟨small, by rwa [car], by rwa [car], line, low, top, ?_, fun j e ne named => others j e ne (by rwa [car] at named)⟩
      rw [handed, State.node_updNode, node]
      split
      · exact ⟨_, rfl, kind⟩
      · exact ⟨n, rfl, kind⟩
    · rw [car] at configured ⊢
      rw [mode]
      rw [handed, State.node_updNode] at node
      by_cases same : i = c
      · subst same
        obtain rfl : g = d := Option.some.inj (had.symm.trans configured)
        rw [if_pos rfl] at node
        obtain ⟨n', -, rfl⟩ := Option.map_eq_some_iff.1 node
        exact sentFloors_idem _ _ _ _
      · obtain ⟨-, -, -, -, -, top, -⟩ := h.records i d (.inl configured)
        rw [if_neg (NodeId.code_ne top high (apart i d same (.inl configured)))] at node
        exact h.handed i (fun mem => (List.mem_cons.1 mem).elim same other) d n configured node

end State.CarBut
end Sys2Proof.Machine
end

section
/-! The outputs of the lift cars (O6): what the operations of a car do to the law. -/

namespace Sys2Proof.Machine

/-- R135: car `c` may take the record `g`: it names a CAR node of the table that no record of another car names. -/
abbrev State.FreeFor (c : Nat) (g : CarConfig) (s : State) : Prop :=
  c < 4 ∧ g.node.line ≤ 3 ∧ 1 ≤ g.node.address ∧ g.node.address ≤ 30 ∧ (∃ n, s.node g.node = some n ∧ n.kind = .car) ∧
    ∀ j d, j ≠ c → ((s.car j).config = some d ∨ (s.car j).deferred = some d) → d.node ≠ g.node

theorem State.CarRecordLaw.free {c : Nat} {g : CarConfig} {s : State} (h : s.CarRecordLaw c g) : s.FreeFor c g := by
  obtain ⟨small, -, -, line, low, high, node, apart⟩ := h
  exact ⟨small, line, low, high, node, apart⟩

namespace State.CarBut

variable {s t : State} {due : List Nat} {c : Nat}

theorem car_updCar (c i : Nat) (f : Car → Car) (s : State) : (s.updCar c f).car i = if i = c then f (s.car c) else s.car i := by
  split
  · next same => rw [same, State.car_updCar_self]
  · next ne => exact State.car_updCar_ne ne f s

/-- R135: a record is given to a car, at once or deferred. -/
theorem record {f : Car → Car} {g : CarConfig} (h : s.CarBut (c :: due)) (free : s.FreeFor c g)
    (records : ∀ d, ((f (s.car c)).config = some d ∨ (f (s.car c)).deferred = some d) → d = g ∨
      ((s.car c).config = some d ∨ (s.car c).deferred = some d))
    (config : (f (s.car c)).config.isSome) (state : (f (s.car c)).state ≠ .unconfigured) : (s.updCar c f).CarBut (c :: due) := by
  have nodes (n : NodeId) : (s.updCar c f).node n = s.node n := by simp [State.node]
  have others {j : Nat} {e : CarConfig} (named : ((s.updCar c f).car j).config = some e ∨ ((s.updCar c f).car j).deferred = some e) :
      (j = c ∧ e = g) ∨ ((s.car j).config = some e ∨ (s.car j).deferred = some e) := by
    rw [car_updCar] at named
    split at named
    · next same =>
      subst same
      exact (records e named).imp (fun new => ⟨rfl, new⟩) id
    · exact .inr named
  have apart {j : Nat} {e : CarConfig} (named : ((s.updCar c f).car j).config = some e ∨ ((s.updCar c f).car j).deferred = some e)
      {i : Nat} {d : CarConfig} (ne : j ≠ i)
      (named' : (i = c ∧ d = g) ∨ ((s.car i).config = some d ∨ (s.car i).deferred = some d)) : e.node ≠ d.node := by
    obtain ⟨-, -, -, -, -, alone⟩ := free
    obtain ⟨rfl, rfl⟩ | named' := named'
    · obtain ⟨same, -⟩ | named := others named
      · exact absurd same ne
      · exact alone j e ne named
    · obtain ⟨rfl, rfl⟩ | named := others named
      · exact (alone i d ne.symm named').symm
      · obtain ⟨-, -, -, -, -, -, -, alone⟩ := h.records i d named'
        exact alone j e ne named
  refine ⟨fun i d named => ?_, fun i other d n had node => ?_⟩
  · have fits : i < 4 ∧ d.node.line ≤ 3 ∧ 1 ≤ d.node.address ∧ d.node.address ≤ 30 ∧ ∃ n, s.node d.node = some n ∧ n.kind = .car := by
      obtain ⟨rfl, rfl⟩ | named := others named
      · obtain ⟨small, line, low, high, node, -⟩ := free
        exact ⟨small, line, low, high, node⟩
      · obtain ⟨small, -, -, line, low, high, node, -⟩ := h.records i d named
        exact ⟨small, line, low, high, node⟩
    obtain ⟨small, line, low, high, node⟩ := fits
    have standing : ((s.updCar c f).car i).config.isSome ∧ ((s.updCar c f).car i).state ≠ .unconfigured := by
      have was := others named
      rw [car_updCar]
      split
      · exact ⟨config, state⟩
      · next ne =>
        obtain ⟨same, -⟩ | named := was
        · exact absurd same ne
        · obtain ⟨-, had, configured, -⟩ := h.records i d named
          exact ⟨had, configured⟩
    exact ⟨small, standing.1, standing.2, line, low, high, by simpa only [nodes] using node,
      fun j e ne named' => apart named' ne (others named)⟩
  · have ne : i ≠ c := fun same => other (same ▸ List.mem_cons_self)
    rw [car_updCar, if_neg ne] at had ⊢
    rw [show (s.updCar c f).mode = s.mode by simp]
    exact h.handed i other d n had (by rwa [nodes] at node)

/-- R135: a record in force takes the place of those before it. -/
theorem inForce {f : Car → Car} {g : CarConfig} (h : s.CarBut (c :: due)) (free : s.FreeFor c g) (config : (f (s.car c)).config = some g)
    (deferred : (f (s.car c)).deferred = none) (state : (f (s.car c)).state ≠ .unconfigured) : (s.updCar c f).CarBut (c :: due) := by
  refine h.record free (fun d named => ?_) (by rw [config]; rfl) state
  rw [config, deferred] at named
  exact .inl (Option.some.inj (named.resolve_right nofun)).symm

/-- R140: the outputs of a node that no car but the cars due names. -/
theorem releaseCarNode {n : NodeId} (h : s.CarBut due) (place : n.address ≤ 30)
    (free : ∀ i g, i ∉ due → (s.car i).config = some g → g.node ≠ n) : (s.releaseCarNode n).CarBut due := by
  have nodes (m : NodeId) : (s.releaseCarNode n).node m =
      if m.code = n.code then (s.node m).map (fun r => { r with floors := 0, recallOn := false }) else s.node m :=
    State.node_updNode n m _ s
  have car (i : Nat) : (s.releaseCarNode n).car i = s.car i := by
    rw [State.releaseCarNode_only]
    rfl
  refine ⟨fun i g named => ?_, fun i other g r had node => ?_⟩
  · rw [car] at named
    obtain ⟨small, some_, state, line, low, high, ⟨r, node, kind⟩, others⟩ := h.records i g named
    refine ⟨small, by rwa [car], by rwa [car], line, low, high, ?_, fun j e ne named => others j e ne (by rwa [car] at named)⟩
    rw [nodes, node]
    split
    · exact ⟨_, rfl, kind⟩
    · exact ⟨r, rfl, kind⟩
  · rw [car] at had ⊢
    obtain ⟨-, -, -, -, -, high, -⟩ := h.records i g (.inl had)
    rw [nodes, if_neg (NodeId.code_ne high place (free i g other had))] at node
    rw [show (s.releaseCarNode n).mode = s.mode by rw [State.releaseCarNode_only]]
    exact h.handed i other g r had node

/-- R136: what is handed for the car is due besides its state. -/
theorem updState {f : Car → Car} (h : s.CarBut (c :: due)) (config : ∀ r, (f r).config = r.config)
    (deferred : ∀ r, (f r).deferred = r.deferred) (state : ∀ r, (f r).state ≠ .unconfigured) : (s.updCar c f).CarBut (c :: due) :=
  h.updCar config deferred fun r _ => state r

theorem carStateFor_ne (n : NodeId) (s : State) : s.carStateFor n ≠ .unconfigured := by
  unfold State.carStateFor State.carStateByMode
  (repeat' split) <;> nofun

theorem carStateByMode_ne (s : State) : s.carStateByMode ≠ .unconfigured := by
  unfold State.carStateByMode
  split <;> nofun

/-- R136: a record that the car may take replaces the one in force, and its outputs are formed. -/
theorem applyCar {g : CarConfig} (h : s.CarBut (c :: due)) (free : s.FreeFor c g) (state : (s.car c).state ≠ .unconfigured) :
    (s.applyCar c g).CarBut due := by
  have given : (s.updCar c (fun r => { r with config := some g, deferred := none })).CarBut (c :: due) := h.inForce free rfl rfl state
  unfold State.applyCar
  dsimp only
  split
  · next old had =>
    split
    · exact given.handFloors
    · obtain ⟨-, -, -, -, -, place, -⟩ := h.records c old (.inl had)
      have released := given.releaseCarNode place fun i d other named => by
        have ne : i ≠ c := fun same => other (same ▸ List.mem_cons_self)
        rw [State.car_updCar_ne ne] at named
        obtain ⟨-, -, -, -, -, -, -, apart⟩ := h.records i d (.inl named)
        exact (apart c old ne.symm (.inl had)).symm
      exact (released.updState (by exact fun _ => rfl) (by exact fun _ => rfl) (by exact fun _ => carStateFor_ne _ _)).handFloors
  · exact given.handFloors

/-- R136, R139: the outputs of a car whose list has changed are formed, with a deferred record applied. -/
theorem settleCar (h : s.CarBut (c :: due)) : (s.settleCar c).CarBut due := by
  unfold State.settleCar
  split
  · next g deferred =>
    split
    · have free := State.CarRecordLaw.free (h.records c g (.inr deferred))
      obtain ⟨-, -, state, -⟩ := h.records c g (.inr deferred)
      exact h.applyCar free state
    · exact h.handFloors
  · exact h.handFloors

theorem log {kind : EntryKind} {subject tenant : Option Nat} {detail : List Byte} (h : s.CarBut due) :
    (s.log kind subject tenant detail).CarBut due :=
  h.elsewhere (by simp) (by simp) (by simp)

theorem forEach {α : Type} {f : α → State → State} (h : s.CarBut due)
    (keeps : ∀ x (u : State), u.CarBut due → (f x u).CarBut due) (xs : List α) : (s.forEach xs f).CarBut due :=
  State.forEach_invariant (State.CarBut due) f keeps xs s h

/-! ## The release list -/

/-- What is changed of a car besides its records and its state. -/
theorem updReleases {f : Car → Car} (h : s.CarBut due) (config : ∀ r, (f r).config = r.config)
    (deferred : ∀ r, (f r).deferred = r.deferred) (state : ∀ r, (f r).state = r.state) : (s.updCar c f).CarBut (c :: due) :=
  h.more.updCar config deferred fun r configured => by rwa [state]

theorem removeRelease {tenant : Nat} {reason : ReleaseReason} (h : s.CarBut due) : (s.removeRelease c tenant reason).CarBut due := by
  unfold State.removeRelease
  split
  · exact h
  · exact ((h.updReleases (by exact fun _ => rfl) (by exact fun _ => rfl) (by exact fun _ => rfl)).log).settleCar

theorem emptyReleases {reason : ReleaseReason} (h : s.CarBut (c :: due)) : (s.emptyReleases c reason).CarBut due := by
  unfold State.emptyReleases
  exact ((h.updCar (by exact fun _ => rfl) (by exact fun _ => rfl) (by exact fun _ => id)).forEach (fun _ _ hu => hu.log) _).settleCar

theorem placeRelease {tenant : Nat} {floors : Word} (h : s.CarBut due) : (s.placeRelease c tenant floors).CarBut due := by
  unfold State.placeRelease
  dsimp only
  split
  · exact (h.updReleases (by exact fun _ => rfl) (by exact fun _ => rfl) (by exact fun _ => rfl)).handFloors
  · split
    · split
      · exact ((h.updReleases (by exact fun _ => rfl) (by exact fun _ => rfl) (by exact fun _ => rfl)).log).handFloors
      · exact (h.updReleases (by exact fun _ => rfl) (by exact fun _ => rfl) (by exact fun _ => rfl)).handFloors
    · exact (h.updReleases (by exact fun _ => rfl) (by exact fun _ => rfl) (by exact fun _ => rfl)).handFloors

theorem releaseExpiry {tenant : Nat} (h : s.CarBut due) : (s.releaseExpiry c tenant).CarBut due := by
  unfold State.releaseExpiry
  split
  · exact h.removeRelease
  · exact h

theorem removeReleases {tenant : Nat} (h : s.CarBut due) : (s.removeReleases tenant).CarBut due :=
  h.forEach (fun _ _ hu => hu.removeRelease) _

/-! ## Site modes and outages -/

theorem carMode (h : s.CarBut (c :: due)) : (s.carMode c).CarBut due := by
  have returned : State.CarBut due (if (s.car c).state = .inRecall then
      (s.updCar c (fun r => { r with state := .inService, recallDone := false })).handFloors c else s.handFloors c) := by
    split
    · exact (h.updState (by exact fun _ => rfl) (by exact fun _ => rfl) (by exact nofun)).handFloors
    · exact h.handFloors
  unfold State.carMode
  split
  · next unconfigured =>
    refine h.settled fun g n had => ?_
    obtain ⟨-, -, state, -⟩ := h.records c g (.inl had)
    exact absurd unconfigured state
  · exact h.handFloors
  all_goals
    split
    · exact returned
    · exact h.emptyReleases
    · refine (h.emptyReleases.more.updCar (by exact fun _ => rfl) (by exact fun _ => rfl) ?_).handFloors
      intro r configured
      dsimp only
      split
      · nofun
      · exact configured

theorem carModeEach {cs : List Nat} (h : s.CarBut cs) : (s.forEach cs State.carMode).CarBut [] := by
  induction cs generalizing s with
  | nil => exact h
  | cons c cs ih => exact ih h.carMode

theorem carOffline (h : s.CarBut due) : (s.carOffline c).CarBut due :=
  (h.more.updState (by exact fun _ => rfl) (by exact fun _ => rfl) (by exact nofun)).emptyReleases

theorem carRestored (h : s.CarBut due) : (s.carRestored c).CarBut due :=
  (h.more.updState (by exact fun _ => rfl) (by exact fun _ => rfl) (by exact fun _ => carStateByMode_ne s)).handFloors

theorem carUnknown (h : s.CarBut due) : (s.carUnknown c).CarBut due := by
  refine State.CarBut.emptyReleases (h.more.updCar (by exact fun _ => rfl) (by exact fun _ => rfl) ?_)
  intro r configured
  dsimp only
  split
  · exact carStateByMode_ne s
  · exact configured

/-- What is changed of a car besides its records and its list. -/
theorem keep {f : Car → Car} (h : s.CarBut due) (config : ∀ r, (f r).config = r.config)
    (deferred : ∀ r, (f r).deferred = r.deferred) (state : ∀ r, (f r).state = r.state)
    (releases : ∀ r, (f r).releases = r.releases) : (s.updCar c f).CarBut due := by
  have changed := h.updReleases (c := c) config deferred state
  by_cases mem : c ∈ due
  · exact ⟨changed.records, fun i other => changed.handed i fun among => (List.mem_cons.1 among).elim (fun same => other (same ▸ mem)) other⟩
  · refine changed.settled fun g n had node => ?_
    rw [State.car_updCar_self, config] at had
    rw [State.car_updCar_self, releases, show (s.updCar c f).mode = s.mode by simp]
    exact h.handed c mem g n had (by simpa [State.node] using node)

theorem carStatus {complete : Bool} (h : s.CarBut due) : (s.carStatus c complete).CarBut due := by
  unfold State.carStatus
  dsimp only
  split
  · exact State.CarBut.log (h.keep (by exact fun _ => rfl) (by exact fun _ => rfl) (by exact fun _ => rfl) (by exact fun _ => rfl))
  · exact h

end State.CarBut

end Sys2Proof.Machine
end

section
/-! The outputs of the lift cars (O6): portals, nodes, lines, decisions and modes. -/

namespace Sys2Proof.Machine
namespace State.CarBut

variable {s t : State} {due : List Nat} {n : NodeId}

/-! ## Portals -/

/-- R110: the lock command of a portal is none of the outputs of a car. -/
theorem handLock {p : Nat} (h : s.CarBut due) : (s.handLock p).CarBut due := by
  unfold State.handLock
  split
  · exact h
  · exact (h.elsewhere (by simp) (by simp) (by simp)).same (by simp) (by simp) (State.sameParts_updNode (by exact fun _ => rfl) _)

theorem releaseLockNode (h : s.CarBut due) : (s.releaseLockNode n).CarBut due :=
  h.same (by simp) (by simp) (State.sameParts_updNode (by exact fun _ => rfl) _)

theorem updPortal {p : Nat} {f : Portal → Portal} (h : s.CarBut due) : (s.updPortal p f).CarBut due :=
  h.elsewhere (by simp) (by simp) (by simp)

/-- Every operation of a portal keeps the law of the car outputs. -/
theorem portalWork (due : List Nat) (p : Nat) : PortalWork p (fun _ => State.CarBut due) where
  more h := h
  updPortal h _ := h.updPortal
  keep h _ _ := h.updPortal
  handLock h := h.handLock
  releaseLockNode h := h.releaseLockNode
  elsewhere h only := h.elsewhere (by simp only [only]) (by simp only [only]) (by simp only [only])

/-! ## Nodes and lines -/

theorem setNode {r r' : Node} (h : s.CarBut due) (had : s.node n = some r) (part : r'.carPart = r.carPart) :
    (s.setNode n r').CarBut due :=
  h.same (by simp) (by simp) (State.sameParts_setNode had part)

theorem updNode {f : Node → Node} (h : s.CarBut due) (part : ∀ r, (f r).carPart = r.carPart) : (s.updNode n f).CarBut due :=
  h.same (by simp) (by simp) (State.sameParts_updNode part s)

theorem updLine {l : Nat} {f : Line → Line} (h : s.CarBut due) : (s.updLine l f).CarBut due :=
  h.elsewhere (by simp) (by simp) (by simp)

theorem discardReads (h : s.CarBut due) : (s.discardReads n).CarBut due := h.elsewhere rfl rfl rfl

theorem contactsUnknown (h : s.CarBut due) : (s.contactsUnknown n).CarBut due := h.elsewhere (by simp) (by simp) (by simp)

theorem ownersOffline {kind : NodeKind} (h : s.CarBut due) : (s.ownersOffline n kind).CarBut due := by
  unfold State.ownersOffline
  cases kind <;> dsimp only
  · split
    · exact (portalWork due _).portalOffline (due := []) h
    · exact h
  · split
    · exact h.carOffline
    · exact h
  · exact h.contactsUnknown

theorem ownersUnknown {kind : NodeKind} (h : s.CarBut due) : (s.ownersUnknown n kind).CarBut due := by
  unfold State.ownersUnknown
  cases kind <;> dsimp only
  · split
    · exact (portalWork due _).portalUnknown (due := []) h
    · exact h
  · split
    · exact h.carUnknown
    · exact h
  · exact h.contactsUnknown

theorem nodeUnknown (h : s.CarBut due) : (s.nodeUnknown n).CarBut due := by
  unfold State.nodeUnknown
  split
  · exact h
  · next had => exact (h.setNode had (by rfl)).ownersUnknown

theorem nodeOffline {cause : Nat} (h : s.CarBut due) : (s.nodeOffline n cause).CarBut due := by
  unfold State.nodeOffline
  split
  · exact h
  · next had => exact (h.setNode had (by rfl)).log.ownersOffline

theorem carPart_withVerdict (head : Head) (v : LastVerdict) (r : Node) : (r.withVerdict head v).carPart = r.carPart := by
  unfold Node.withVerdict
  (repeat' split) <;> rfl

theorem carPart_withTag (head : Head) (tag : Nat) (r : Node) : (r.withTag head tag).carPart = r.carPart := by
  cases head <;> rfl

theorem addRead {r : Read} (h : s.CarBut due) : { s with reads := s.reads ++ [r] }.CarBut due := h.elsewhere rfl rfl rfl

theorem takeRead {b : ReadBlock} (h : s.CarBut due) : (s.takeRead n b).CarBut due := by
  unfold State.takeRead
  dsimp only
  split
  · exact h
  · next had =>
    split
    · exact h
    · split
      · exact h
      · split
        · exact h.addRead.setNode had ((carPart_withVerdict _ _ _).trans (carPart_withTag _ _ _))
        · exact h.addRead

theorem tamperReport {tamper : Bool} {how : ReplyStanding} (h : s.CarBut due) : (s.tamperReport n tamper how).CarBut due := by
  unfold State.tamperReport
  dsimp only
  split
  · exact h
  · next had =>
    split
    · exact h
    · split
      · exact (h.setNode had (by rfl)).log
      · exact (h.setNode had (by rfl)).log

theorem unitReport {inputs : Nat} {tamper : Bool} {how : ReplyStanding} (h : s.CarBut due) :
    (s.unitReport n inputs tamper how).CarBut due :=
  State.CarBut.tamperReport (h.elsewhere (t := s.forEach (List.range 32) (State.inputReport n inputs how)) (by simp) (by simp) (by simp))

theorem handStatus {kind : NodeKind} {how : ReplyStanding} {bytes : List Byte} (h : s.CarBut due) :
    (s.handStatus n kind how bytes).CarBut due := by
  unfold State.handStatus
  cases kind <;> dsimp only
  · split
    · exact (portalWork due _).portalStatus (due := []) h
    · exact h
  · split
    · exact h.carStatus
    · exact h
  · exact h.unitReport

theorem handOn {kind : NodeKind} {how : ReplyStanding} {bytes : List Byte} (h : s.CarBut due) :
    (s.handOn n kind how bytes).CarBut due := by
  unfold State.handOn
  dsimp only
  split
  · split
    · exact h.handStatus
    · exact h.handStatus.takeRead
  · exact h.handStatus

theorem restoreNode {r : Node} (h : s.CarBut due) (had : s.node n = some r) : (s.restoreNode n r).CarBut due := by
  have told : ((s.setNode n { r.noTags.noVerdicts with state := .online, faults := 0, restore := 0 }).log .nodeRestored
      (some n.subject) none []).CarBut due := (h.setNode had (by rfl)).log
  unfold State.restoreNode
  dsimp only
  split
  · split
    · exact told.carRestored
    · exact told
  · exact told

theorem goodReply {bytes : List Byte} (h : s.CarBut due) : (s.goodReply n bytes).CarBut due := by
  unfold State.goodReply
  dsimp only
  split
  · exact h
  · next had =>
    split
    · exact (h.setNode had (by rfl)).handOn
    · exact (h.setNode had (by rfl)).handOn
    · split
      · exact h.setNode had (by rfl)
      · exact (h.restoreNode had).handOn

theorem badReply {kind : BadReply} (h : s.CarBut due) : (s.badReply n kind).CarBut due := by
  unfold State.badReply
  dsimp only
  split
  · exact h
  · next had =>
    split
    · exact h.setNode had (by rfl)
    all_goals
      split
      · exact (h.setNode had (by rfl)).nodeOffline
      · exact h.setNode had (by rfl)

theorem exchangeBad {l : Nat} {kind : BadReply} (h : s.CarBut due) : (s.exchangeBad l kind).CarBut due := by
  unfold State.exchangeBad
  split
  · exact h
  · exact h.badReply.updLine

theorem endExchange {l : Nat} (h : s.CarBut due) : (s.endExchange l).CarBut due := h.elsewhere (by simp) (by simp) (by simp)

theorem judgeReply {l : Nat} {frame : List LineChar} (h : s.CarBut due) : (s.judgeReply l frame).CarBut due := by
  unfold State.judgeReply
  split
  · exact h
  · split
    · exact h
    · split
      · exact h.exchangeBad
      · exact h.goodReply.endExchange

theorem faultLine {l : Nat} {reason : FaultReason} (h : s.CarBut due) : (s.faultLine l reason).CarBut due := by
  unfold State.faultLine
  refine h.updLine.log.forEach (fun a u hu => ?_) _
  unfold State.faultNode
  split
  · exact hu.nodeOffline
  · exact hu.updNode (by exact fun _ => rfl)

theorem lineBreak {l : Nat} (h : s.CarBut due) : (s.lineBreak l).CarBut due := by
  unfold State.lineBreak
  split
  · exact h.faultLine
  · exact h

theorem lineNoQuiet {l : Nat} (h : s.CarBut due) : (s.lineNoQuiet l).CarBut due := by
  unfold State.lineNoQuiet
  split
  · exact h.faultLine
  · exact h

theorem stopLine {l : Nat} (h : s.CarBut due) : (s.stopLine l).CarBut due :=
  h.updLine.forEach (fun _ _ hu => hu.nodeUnknown) _

theorem disableLine {l : Nat} (h : s.CarBut due) : (s.disableLine l).CarBut due :=
  h.stopLine.forEach (fun _ _ hu => hu.discardReads.updNode (by exact fun _ => rfl)) _

theorem settleLine {l : Nat} {enabled : Bool} (h : s.CarBut due) : (s.settleLine l enabled).CarBut due := by
  unfold State.settleLine
  split
  · split
    · exact h.elsewhere (by simp) (by simp) (by simp)
    · exact h
  all_goals
    split
    · exact h
    · exact h.disableLine

theorem abandonExchange (h : s.CarBut due) : (s.abandonExchange n).CarBut due := h.elsewhere (by simp) (by simp) (by simp)

end State.CarBut
end Sys2Proof.Machine
end

section
/-! The outputs of the lift cars (O6): node and car slips, modes, decisions, resets and every step. -/

namespace Sys2Proof.Machine
namespace State.CarBut

variable {s t : State} {due : List Nat} {n : NodeId}

/-! ## Node slips -/

/-- R149: a node that no car names. -/
theorem apart_of_unclaimed (h : s.CarBut due) (place : n.address ≤ 30) (free : ∀ i g, (s.car i).config = some g → g.node ≠ n)
    {i : Nat} {g : CarConfig} (had : (s.car i).config = some g) : g.node.code ≠ n.code := by
  obtain ⟨-, -, -, -, -, high, -⟩ := h.records i g (.inl had)
  exact NodeId.code_ne high place (free i g had)

/-- R149, R150: a change at a place of the node table that no car's record names. -/
theorem unnamed (h : s.CarBut due) (mode : t.mode.mode = s.mode.mode) (cars : t.cars = s.cars)
    (free : ∀ i g, ((s.car i).config = some g ∨ (s.car i).deferred = some g) → g.node.code ≠ n.code)
    (others : ∀ m : NodeId, m.code ≠ n.code → t.node m = s.node m) : t.CarBut due := by
  have car (i : Nat) : t.car i = s.car i := by simp only [State.car, cars]
  refine ⟨fun i g named => ?_, fun i other g r had node => ?_⟩
  · rw [car] at named
    obtain ⟨small, some_, state, line, low, high, node, apart⟩ := h.records i g named
    refine ⟨small, by rwa [car], by rwa [car], line, low, high, ?_, fun j e ne named => apart j e ne (by rwa [car] at named)⟩
    rwa [others _ (free i g named)]
  · rw [car] at had ⊢
    rw [mode]
    rw [others _ (free i g (.inl had))] at node
    exact h.handed i other g r had node

/-- R149: no car's record names a vacant place. -/
theorem vacant (h : s.CarBut due) (none_ : s.node n = none) (i : Nat) (g : CarConfig)
    (named : (s.car i).config = some g ∨ (s.car i).deferred = some g) : g.node.code ≠ n.code := by
  intro same
  obtain ⟨-, -, -, -, -, -, ⟨r, node, -⟩, -⟩ := h.records i g named
  rw [State.node, same, ← State.node, none_] at node
  cases node

/-- R149: no car's record names a node that nothing claims. -/
theorem unclaimed (h : s.CarBut due) (place : n.address ≤ 30) (free : s.claimant n = none) (i : Nat) (g : CarConfig)
    (named : (s.car i).config = some g ∨ (s.car i).deferred = some g) : g.node.code ≠ n.code := by
  obtain ⟨small, -, -, -, -, high, -⟩ := h.records i g named
  refine NodeId.code_ne high place fun same => ?_
  have claim : s.carClaim n none = none := by
    unfold State.claimant at free
    split at free
    · cases free
    · split at free
      · cases free
      · next unnamed => simpa using unnamed
  unfold State.carClaim at claim
  have := List.find?_eq_none.1 claim i (List.mem_range.2 small)
  unfold Car.names at this
  rcases named with named | named <;> simp [named, same] at this

theorem fresh {kind : NodeKind} (h : s.CarBut due) (none_ : s.node n = none) : (s.setNode n (Node.fresh kind)).CarBut due :=
  h.unnamed (n := n) (by simp) (by simp) (h.vacant none_) fun m other => State.node_setNode_ne other _ s

theorem carPart_putAnew (r : Node) : (r.putAnew r.kind).carPart = r.carPart := by
  rw [Node.putAnew, if_pos rfl]
  rfl

/-- R149: a standing record is put anew with its kind, or nothing names it. -/
theorem renewNode {r : Node} {kind : NodeKind} (h : s.CarBut due) (place : n.address ≤ 30) (had : s.node n = some r)
    (ok : r.kind = kind ∨ s.claimant n = none) : (s.renewNode n r kind).CarBut due := by
  have abandoned : (s.abandonExchange n).CarBut due := h.abandonExchange
  have node (m : NodeId) : (s.abandonExchange n).node m = s.node m := by simp [State.node]
  have put : ((s.abandonExchange n).setNode n (r.putAnew kind)).CarBut due := by
    obtain rfl | free := ok
    · exact abandoned.setNode (by rw [node, had]) (carPart_putAnew r)
    · refine h.unnamed (n := n) (by simp) (by simp) (h.unclaimed place free) fun m other => ?_
      rw [State.node_setNode_ne other, node]
  exact put.discardReads.ownersUnknown

theorem removeNode (h : s.CarBut due) (place : n.address ≤ 30) (free : s.claimant n = none) : (s.removeNode n).CarBut due := by
  refine h.unnamed (n := n) (by simp [State.removeNode]) (by simp [State.removeNode]) (h.unclaimed place free) fun m other => ?_
  have erased : (s.removeNode n).nodes = Table.erase n.code s.nodes := by simp [State.removeNode]
  rw [State.node, erased, Table.find_erase_ne other]
  rfl

theorem nodePut (v : Service) (h : s.CarBut due) : (nodePut v s).1.CarBut due := by
  unfold Sys2Proof.Machine.nodePut
  dsimp only
  split
  · exact h
  · next ok =>
    have place : (v.nodeAt 0).address ≤ 30 := by
      have := firstProblem_none.1 ok _ (List.mem_cons_of_mem _ List.mem_cons_self)
      rw [require_none, Bool.and_eq_true, decide_eq_true_iff, decide_eq_true_iff] at this
      exact this.2
    split
    · next vacant => exact h.fresh vacant
    · next had =>
      split
      · split
        · next kind => exact h.renewNode place had (.inl kind)
        · exact h
      · next free => exact h.renewNode place had (.inr free)

theorem nodeDrop (v : Service) (h : s.CarBut due) : (nodeDrop v s).1.CarBut due := by
  unfold Sys2Proof.Machine.nodeDrop
  dsimp only
  split
  · exact h
  · next ok =>
    have place : (v.nodeAt 0).address ≤ 30 := by
      have := firstProblem_none.1 ok _ (List.mem_cons_of_mem _ List.mem_cons_self)
      rw [require_none, Bool.and_eq_true, decide_eq_true_iff, decide_eq_true_iff] at this
      exact this.2
    split
    · exact h
    · split
      · exact h
      · next free => exact h.removeNode place free

/-! ## Car slips -/

/-- R135: what passes the checks of CAR_PUT. -/
theorem free_of_carPut {v : Service} (h : s.CarBut due) (ok : carPutProblem v s = none) : s.FreeFor (v.body 0 1) v.carConfig := by
  have checks := firstProblem_none.1 ok
  have number : v.body 0 1 < 4 := of_decide_eq_true (require_none.1 (checks _ List.mem_cons_self))
  have node : s.nodeIs v.carConfig.node .car = true := require_none.1 (checks _ (List.mem_cons_of_mem _ List.mem_cons_self))
  have claim : s.carClaim v.carConfig.node (some (v.body 0 1)) = none := by
    simpa using checks ((s.carClaim v.carConfig.node (some (v.body 0 1))).map (fun q => .refusal .inUse (bytesOf 1 q))) (by simp)
  unfold State.nodeIs NodeId.ok at node
  simp only [Bool.and_eq_true, decide_eq_true_eq, Option.any_eq_true, beq_iff_eq] at node
  obtain ⟨⟨⟨line, low⟩, high⟩, ⟨r, had, kind⟩⟩ := node
  refine ⟨number, line, low, high, ⟨r, had, kind⟩, fun j d ne named same => ?_⟩
  obtain ⟨small, -⟩ := h.records j d named
  unfold State.carClaim at claim
  have := List.find?_eq_none.1 claim j (List.mem_range.2 small)
  unfold Car.names at this
  rcases named with named | named <;> simp [named, same, ne] at this

/-- R137: an UNCONFIGURED car comes under no law. -/
theorem blank {c : Nat} (h : s.CarBut (c :: due)) : (s.setCar c Car.blank).CarBut due := by
  have car (i : Nat) : (s.setCar c Car.blank).car i = if i = c then Car.blank else s.car i := by
    split
    · next same => rw [same, State.car_setCar_self]
    · next ne => exact State.car_setCar_ne ne _ s
  have nodes (m : NodeId) : (s.setCar c Car.blank).node m = s.node m := by simp [State.node]
  have of_named {j : Nat} {d : CarConfig}
      (named : ((s.setCar c Car.blank).car j).config = some d ∨ ((s.setCar c Car.blank).car j).deferred = some d) :
      j ≠ c ∧ ((s.car j).config = some d ∨ (s.car j).deferred = some d) := by
    rw [car] at named
    split at named
    · rcases named with named | named <;> cases named
    · next ne => exact ⟨ne, named⟩
  refine ⟨fun i g named => ?_, fun i other g r had node => ?_⟩
  · obtain ⟨ne, named⟩ := of_named named
    obtain ⟨small, some_, state, line, low, high, node, apart⟩ := h.records i g named
    rw [State.CarRecordLaw, car, if_neg ne]
    exact ⟨small, some_, state, line, low, high, by simpa only [nodes] using node, fun j e other named => apart j e other (of_named named).2⟩
  · obtain ⟨ne, -⟩ := of_named (.inl had)
    rw [car, if_neg ne] at had ⊢
    rw [show (s.setCar c Car.blank).mode = s.mode by simp]
    exact h.handed i (fun mem => (List.mem_cons.1 mem).elim ne other) g r had (by rwa [nodes] at node)

/-- R136: a record that differs from the one in force in requires visit alone asks for the same outputs. -/
theorem retime {c : Nat} {g old : CarConfig} (h : s.CarBut []) (free : s.FreeFor c g) (had : (s.car c).config = some old)
    (same : { g with needsVisit := old.needsVisit } = old) :
    (s.updCar c (fun r => { r with config := some g, deferred := none })).CarBut [] := by
  obtain ⟨-, -, state, -⟩ := h.records c old (.inl had)
  refine (h.more.inForce free rfl rfl state).settled fun d n named node => ?_
  rw [State.car_updCar_self] at named ⊢
  obtain rfl : g = d := Option.some.inj named
  have node' : s.node old.node = some n := by
    rw [← same]
    simpa [State.node] using node
  have handed := h.handed c List.not_mem_nil old n had node'
  rw [← same] at handed
  rw [show (s.updCar c (fun r => { r with config := some g, deferred := none })).mode = s.mode by simp]
  exact handed

/-- R136: a record is deferred. -/
theorem defer {c : Nat} {g : CarConfig} (h : s.CarBut []) (free : s.FreeFor c g) (had : (s.car c).config.isSome)
    (state : (s.car c).state ≠ .unconfigured) : (s.updCar c (fun r => { r with deferred := some g })).CarBut [] := by
  refine (h.more.record (f := fun r => { r with deferred := some g }) free (fun d named => ?_) had state).settled fun d n named node => ?_
  · exact named.elim (fun config => .inr (.inl config)) fun deferred => .inl (Option.some.inj deferred).symm
  · rw [State.car_updCar_self] at named ⊢
    rw [show (s.updCar c (fun r => { r with deferred := some g })).mode = s.mode by simp]
    exact h.handed c List.not_mem_nil d n named (by simpa [State.node] using node)

theorem carPut (v : Service) (h : s.CarBut []) : (carPut v s).1.CarBut [] := by
  unfold Sys2Proof.Machine.carPut
  dsimp only
  split
  · exact h
  · next ok =>
    have free := h.free_of_carPut ok
    split
    · exact State.CarBut.handFloors (h.more.inForce (f := fun _ => { state := s.carStateFor v.carConfig.node, config := some v.carConfig, deferred := none, releases := [], recallDone := false })
        free rfl rfl (carStateFor_ne _ _))
    · next old had =>
      obtain ⟨-, configured, state, -⟩ := h.records _ old (.inl had)
      split
      · next same => exact h.retime free had same
      · split
        · exact h.more.applyCar free state
        · exact h.defer free configured state

theorem carDrop (v : Service) (h : s.CarBut []) : (carDrop v s).1.CarBut [] := by
  unfold Sys2Proof.Machine.carDrop
  dsimp only
  split
  · exact h
  · split
    · exact h
    · next g had =>
      split
      · exact h
      · obtain ⟨-, -, -, -, -, place, -⟩ := h.records _ g (.inl had)
        refine (h.more.releaseCarNode place fun i d other named => ?_).blank
        obtain ⟨-, -, -, -, -, -, -, apart⟩ := h.records i d (.inl named)
        exact (apart _ g (fun same => other (same ▸ List.mem_cons_self)) (.inl had)).symm

end State.CarBut
end Sys2Proof.Machine
end

section
/-! The outputs of the lift cars (O6): modes, decisions, resets and every step. -/

namespace Sys2Proof.Machine
/-- R145: a configured car after a soft reset. -/
def Car.reset (state : CarState) (g : CarConfig) : Car :=
  { state := state, config := some g, deferred := none, releases := [], recallDone := false }

namespace State.CarBut

variable {s t : State} {due : List Nat}

/-! ## Modes -/

theorem carNumbers_congr (cars : t.cars = s.cars) : t.carNumbers = s.carNumbers := by
  simp only [State.carNumbers, State.car, cars]

/-- R174: under another mode the outputs of every configured car are due. -/
theorem allDue (h : s.CarBut due) (cars : t.cars = s.cars) (parts : s.SameParts t) : t.CarBut t.carNumbers := by
  have car (i : Nat) : t.car i = s.car i := by simp only [State.car, cars]
  refine ⟨records_same h.records (by simp [car]) (by simp [car]) (by simp [car]) parts, fun i other g n had => ?_⟩
  obtain ⟨small, -⟩ := h.records i g (.inl (car i ▸ had))
  exact absurd (List.mem_filter.2 ⟨List.mem_range.2 small, by rw [had]; rfl⟩) other

theorem evaluateAll (h : s.CarBut due) : s.evaluateAll.CarBut due :=
  PortalWork.evaluateEach (P := fun _ => State.CarBut due) (portalWork due) h

theorem evaluateAll_cars (s : State) : s.evaluateAll.cars = s.cars := by simp

theorem changeMode (h : s.CarBut []) (m : SiteMode) (src : Option EvacuationSource) (trigger : Trigger) (order : ModeOrder) :
    (s.changeMode m src trigger order).CarBut [] := by
  unfold State.changeMode State.tellMode
  dsimp only
  split
  · refine State.CarBut.carModeEach ?_
    rw [carNumbers_congr (evaluateAll_cars _)]
    exact (h.allDue (by simp) (.of_nodes (by simp))).evaluateAll
  · exact State.CarBut.evaluateAll (State.CarBut.carModeEach (h.allDue (by simp) (.of_nodes (by simp))))

theorem fireBecomesActive {order : ModeOrder} (h : s.CarBut []) : (s.fireBecomesActive order).CarBut [] := by
  have active : ((s.setFire true).log .fireActive none none []).CarBut [] :=
    h.elsewhere (by simp) (by simp) (by simp)
  unfold State.fireBecomesActive
  dsimp only
  split
  · exact active
  · next mode _ => exact active.elsewhere (by simpa using mode.symm) (by simp) (by simp)
  all_goals exact active.changeMode _ _ _ _

theorem lockdown (order : ModeOrder) (v : Service) (h : s.CarBut []) : (lockdown order v s).1.CarBut [] := by
  unfold Sys2Proof.Machine.lockdown
  split
  · exact h.changeMode _ _ _ _
  · exact h
  · exact h

theorem evacuate (order : ModeOrder) (v : Service) (h : s.CarBut []) : (evacuate order v s).1.CarBut [] := by
  unfold Sys2Proof.Machine.evacuate
  split
  · exact h.changeMode _ _ _ _
  · exact h.changeMode _ _ _ _
  · exact h

theorem resume (order : ModeOrder) (v : Service) (h : s.CarBut []) : (resume order v s).1.CarBut [] := by
  unfold Sys2Proof.Machine.resume
  dsimp only
  split
  · exact h.changeMode _ _ _ _
  · split
    · exact h
    · exact h.changeMode _ _ _ _
  · exact h

/-! ## Decisions -/

theorem logAccess {r : Read} {ruling : Ruling} (h : s.CarBut due) : (s.logAccess r ruling).CarBut due :=
  h.elsewhere (by simp) (by simp) (by simp)

theorem placeGrant {a : Asked} {tenant : Option Nat} {ruling : Ruling} (h : s.CarBut due) :
    (s.placeGrant a tenant ruling).CarBut due := by
  unfold State.placeGrant
  split
  · exact h.updPortal
  · exact (portalWork due _).placePassage (due := []) h
  · exact h.placeRelease
  · exact h

theorem storeVerdict {r : Read} {v : Verdict} (h : s.CarBut due) : (s.storeVerdict r v).CarBut due := by
  unfold State.storeVerdict
  split
  · exact h
  · exact h.updNode (by exact fun _ => carPart_withVerdict _ _ _)

theorem decide {r : Read} (h : s.CarBut due) : (State.decide r s).CarBut due := by
  unfold State.decide
  exact h.logAccess.placeGrant.storeVerdict

theorem setReads {reads : List Read} (h : s.CarBut due) : { s with reads := reads }.CarBut due := h.elsewhere rfl rfl rfl

theorem decideNext (h : s.CarBut due) : s.decideNext.CarBut due := by
  unfold State.decideNext
  split
  · exact h
  · exact h.setReads.decide

/-! ## The clock and the run state -/

theorem entryFloors_tick (rs : List Release) :
    (rs.map (fun e => { e with timer := e.timer.tick })).foldr (fun e acc => e.floors ||| acc) 0 =
      rs.foldr (fun e acc => e.floors ||| acc) (0 : Word) := by
  rw [List.foldr_map]

/-- R29: the expiry timers are none of the outputs. -/
theorem second (h : s.CarBut due) : s.second.CarBut due := by
  have car (i : Nat) : s.second.car i = (s.car i).tick := by
    rw [State.car, State.second]
    exact Table.read_mapValues Car.tick Car.blank rfl i s.cars
  refine ⟨records_same h.records (fun i => by rw [car]; rfl) (fun i => by rw [car]; rfl) (fun i configured => by rw [car]; exact configured)
    (.of_nodes rfl), fun i other g n had node => ?_⟩
  rw [car] at had ⊢
  have handed := h.handed i other g n had node
  rw [Node.sentFloors, Car.tick, entryFloors_tick]
  exact handed

theorem flushReads (h : s.CarBut due) : s.flushReads.CarBut due :=
  h.same rfl rfl (State.sameParts_mapNodes (f := Node.noVerdicts) rfl fun _ => rfl)

theorem halt (h : s.CarBut due) : s.haltRun.CarBut due := by
  unfold State.haltRun
  split
  · exact h
  · have stopped : (s.setRun .halt).stopLines.CarBut due :=
      State.CarBut.forEach (s := s.setRun .halt) (h.elsewhere rfl rfl rfl) (fun _ _ hu => hu.stopLine) _
    exact stopped.flushReads.elsewhere (by simp) (by simp) (by simp)

/-! ## The soft reset -/

theorem setTenants {table : Table Tenant} (h : s.CarBut due) : { s with tenants := table }.CarBut due := h.elsewhere rfl rfl rfl

theorem emptyRegister (h : s.CarBut due) : s.emptyRegister.CarBut due := by
  rw [State.emptyRegister_only]
  exact h.elsewhere rfl rfl rfl

theorem resetTables (h : s.CarBut due) : { s with
    units := Table.mapValues UnitRecord.softReset s.units
    lines := Table.mapValues Line.softReset s.lines
    nodes := Table.mapValues Node.softReset s.nodes }.CarBut due :=
  h.same rfl rfl (State.sameParts_mapNodes (f := Node.softReset) rfl fun _ => rfl)

theorem resetPortal {p : Nat} (h : s.CarBut due) : (s.resetPortal p).CarBut due := by
  unfold State.resetPortal
  dsimp only
  split
  · exact h
  · split
    · exact h.releaseLockNode.updPortal.handLock
    · exact h.updPortal.handLock

/-- R145: the deferred record of a car is applied, and its outputs are formed. -/
theorem resetCar {c : Nat} (h : s.CarBut []) : (s.resetCar c).CarBut [] := by
  unfold State.resetCar
  dsimp only
  cases had : (s.car c).config with
  | none => exact h
  | some old =>
    have named : (s.car c).config = some ((s.car c).deferred.getD old) ∨ (s.car c).deferred = some ((s.car c).deferred.getD old) := by
      cases (s.car c).deferred with
      | none => exact .inl had
      | some d => exact .inr rfl
    dsimp only
    generalize (s.car c).deferred.getD old = g at named ⊢
    have given (u : State) (hu : u.CarBut [c]) (cars : u.cars = s.cars) : ((u.setCar c (Car.reset u.carStateByMode g)).handFloors c).CarBut [] := by
      have free : u.FreeFor c g := State.CarRecordLaw.free (hu.records c g (by simpa only [State.car, cars] using named))
      exact (hu.inForce (f := fun _ => Car.reset u.carStateByMode g) free rfl rfl (carStateByMode_ne u)).handFloors
    split
    · obtain ⟨-, -, -, -, -, place, -⟩ := h.records c old (.inl had)
      refine given _ (h.more.releaseCarNode place fun i d other config => ?_) (by simp)
      obtain ⟨-, -, -, -, -, -, -, apart⟩ := h.records i d (.inl config)
      exact (apart c old (fun same => other (same ▸ List.mem_cons_self)) (.inl had)).symm
    · exact given s h.more rfl

theorem resetBlocks (h : s.CarBut []) : s.resetBlocks.CarBut [] := by
  have emptied := (h.setTenants (table := Table.mapValues Tenant.leaveSite s.tenants)).flushReads.emptyRegister
  unfold State.resetBlocks
  exact (emptied.resetTables.forEach (fun _ _ hu => hu.resetPortal) _).forEach (fun _ _ hu => hu.resetCar) _

theorem resetRun (h : s.CarBut due) : s.resetRun.CarBut due := by
  unfold State.resetRun
  split
  · exact h
  · exact h.elsewhere (by simp) (by simp) (by simp)

theorem raise {c : Cause} (h : s.CarBut due) : (s.raise c).CarBut due := h.elsewhere rfl rfl rfl

theorem journalReset (h : s.CarBut due) : s.journalReset.CarBut due := h.elsewhere (by simp) (by simp) (by simp)

theorem aborts (h : s.CarBut due) : s.abortServing.abortQueue.CarBut due := by
  rw [s.aborts_onlyAnswers]
  exact h.elsewhere rfl rfl rfl

theorem softReset (h : s.CarBut []) : s.softReset.CarBut [] :=
  State.CarBut.journalReset h.aborts.resetRun.raise.resetBlocks

end State.CarBut
end Sys2Proof.Machine
end

section
/-! The outputs of the lift cars (O6): every step. -/

namespace Sys2Proof.Machine
namespace State.CarBut

variable {s t : State}

/-! ## Owners -/

theorem serve {kind : SlipKind} {owner : Service → State → State × Stage} (h : s.CarBut []) (keeps : ∀ v, (owner v s).1.CarBut []) :
    (s.serve kind owner).CarBut [] :=
  State.serve_rel (R := fun _ t => t.CarBut []) h (fun _ _ kept => kept.elsewhere rfl rfl rfl) keeps

/-- A command that leaves mode, cars and nodes alone. -/
theorem kept (h : s.CarBut []) (all : s.KeepsAll t) : t.CarBut [] := by
  obtain ⟨-, ⟨-, mode⟩, -, -, -, cars, nodes⟩ := all
  exact h.elsewhere (congrArg ModeUnit.mode mode) cars nodes

theorem keptCreds (h : s.CarBut []) (rest : s.KeepsCredsRest t) : t.CarBut [] := by
  obtain ⟨-, ⟨-, mode⟩, -, -, cars, nodes⟩ := rest
  exact h.elsewhere (congrArg ModeUnit.mode mode) cars nodes

/-- A portal record put anew under an answer. -/
theorem updPortalServed {p : Nat} {f : Portal → Portal} {stage : Stage} (h : s.CarBut []) :
    ((s.updPortal p f, stage) : State × Stage).1.CarBut [] :=
  updPortal h

theorem portalPut (v : Service) (h : s.CarBut []) : (portalPut v s).1.CarBut [] := by
  unfold Sys2Proof.Machine.portalPut
  dsimp only
  split
  · exact h
  · split
    · exact h.updPortal.handLock
    · split
      · exact updPortalServed h
      · split
        · exact (portalWork [] _).applyConfig (due := []) h
        · exact updPortalServed h

theorem withPortal {v : Service} {work : Nat → Portal → State × Answer} (h : s.CarBut [])
    (keeps : ∀ p r, (work p r).1.CarBut []) : (withPortal v s work).1.CarBut [] :=
  withPortal_rel (R := fun _ t => t.CarBut []) h keeps

theorem portalDrop (v : Service) (h : s.CarBut []) : (portalDrop v s).1.CarBut [] :=
  h.withPortal fun p r => by
    split
    · exact h
    · dsimp only
      split
      next config _ =>
        have released := h.releaseLockNode (n := config.node)
        exact released.elsewhere (by simp) (by simp) (by simp)
      · exact h.elsewhere (by simp) (by simp) (by simp)

theorem portalPulse (v : Service) (h : s.CarBut []) : (portalPulse v s).1.CarBut [] :=
  h.withPortal fun p r => by
    split
    · exact h.updPortal.log.handLock
    · exact h.updPortal.log
    all_goals exact h

theorem portalHold (v : Service) (h : s.CarBut []) : (portalHold v s).1.CarBut [] :=
  h.withPortal fun p _ => (portalWork [] p).setHostHold (due := []) h

theorem portalSecure (v : Service) (h : s.CarBut []) : (portalSecure v s).1.CarBut [] :=
  h.withPortal fun p _ => (portalWork [] p).setHostHold (due := []) h

theorem portalReset (v : Service) (h : s.CarBut []) : (portalReset v s).1.CarBut [] :=
  h.withPortal fun p _ => by
    split
    · exact h
    · exact (portalWork [] p).resetDriver (due := []) h

theorem cancelTransit {tenant : Nat} {reason : CancelReason} (h : s.CarBut []) : (s.cancelTransit tenant reason).CarBut [] :=
  PortalWork.cancelTransit (P := fun _ => State.CarBut []) (due := []) (portalWork []) h

theorem endVisit {tenant : Nat} {reason : EndReason} (h : s.CarBut []) : (s.endVisit tenant reason).CarBut [] :=
  h.elsewhere (by simp) (by simp) (by simp)

theorem visitEnd (v : Service) (h : s.CarBut []) : (visitEnd v s).1.CarBut [] := by
  unfold Sys2Proof.Machine.visitEnd
  dsimp only
  split
  · exact h
  · split
    · exact h
    · split
      · exact h
      · exact h.cancelTransit.endVisit

theorem dropCredentials {index : Nat} (h : s.CarBut []) : (s.dropCredentials index).CarBut [] := h.keptCreds (s.dropCredentials_frame index)

theorem dropTenant {index : Nat} (h : s.CarBut []) : (s.dropTenant index).CarBut [] := by
  have dropped := (h.cancelTransit (tenant := index) (reason := .removed)).endVisit (tenant := index) (reason := .removed)
    |>.removeReleases (tenant := index) |>.dropCredentials (index := index)
  unfold State.dropTenant
  exact State.CarBut.elsewhere dropped (by simp) (by simp) (by simp)

theorem tenantDrop (v : Service) (h : s.CarBut []) : (tenantDrop v s).1.CarBut [] := by
  unfold Sys2Proof.Machine.tenantDrop
  dsimp only
  split
  · exact h
  · exact h
  · split
    · exact h
    · exact h.dropTenant

theorem refreshWindows (h : s.CarBut []) : s.refreshWindows.CarBut [] :=
  PortalWork.refreshWindows (P := fun _ => State.CarBut []) (due := []) (portalWork []) h

theorem setTime {clock : Clock} (h : s.CarBut []) : { s with clock := clock }.CarBut [] := h.elsewhere rfl rfl rfl

theorem mirrorClock (h : s.CarBut []) : s.mirrorClock.CarBut [] := h.elsewhere (by simp) (by simp) (by simp)

theorem visitMinute (h : s.CarBut []) : s.visitMinute.CarBut [] := h.elsewhere (by simp) (by simp) (by simp)

theorem shiftVisits {old new : Nat} (h : s.CarBut []) : (s.shiftVisits old new).CarBut [] := h.elsewhere (by simp) (by simp) (by simp)

theorem clockSet (v : Service) (h : s.CarBut []) : (clockSet v s).1.CarBut [] := by
  refine checked_rel (R := fun _ t => t.CarBut []) h ?_
  unfold State.setClock
  dsimp only
  split
  · exact h.setTime.shiftVisits.log.mirrorClock.refreshWindows
  · exact h.setTime.log.mirrorClock.refreshWindows

theorem minute {order : MinuteOrder} (h : s.CarBut []) : (s.minute order).CarBut [] := by
  unfold State.minute
  dsimp only
  split
  · exact h.setTime.visitMinute.refreshWindows.mirrorClock
  · exact h.setTime.refreshWindows.visitMinute.mirrorClock

theorem linePut (v : Service) (h : s.CarBut []) : (linePut v s).1.CarBut [] :=
  checked_rel (R := fun _ t => t.CarBut []) h h.updLine.settleLine

end State.CarBut

/-- R140: every command keeps the law of the car outputs. -/
theorem exec_carBut {c : Instr} {s t : State} (h : s.CarBut []) (next : exec c s = .next t) : t.CarBut [] := by
  cases c
  case powerOn =>
    rw [← Host.Outcome.next.inj next, State.powerUp_state]
    exact ((State.carBut_nil _).2 State.reset_carOutputLaw).elsewhere rfl rfl rfl
  case reset => exact Host.Outcome.next.inj next ▸ h.softReset
  case tenantPut => cases next; exact h.kept (State.serve_keepsAll tenantPut_keeps)
  case grantSet => cases next; exact h.kept (State.serve_keepsAll grantSet_keeps)
  case standingSet => cases next; exact h.kept (State.serve_keepsAll standingSet_keeps)
  case unitPut => cases next; exact h.kept (State.serve_keepsAll unitPut_keeps)
  case unitDrop => cases next; exact h.kept (State.serve_keepsAll unitDrop_keeps)
  case tenantRead => cases next; exact h.kept (State.serve_keepsAll tenantRead_keeps)
  case zonePut => cases next; exact h.kept (State.serve_keepsAll zonePut_keeps)
  case zoneRead => cases next; exact h.kept (State.serve_keepsAll zoneRead_keeps)
  case visitExtend => cases next; exact h.kept (State.serve_keepsAll visitExtend_keeps)
  case visitList => cases next; exact h.kept (State.serve_keepsAll visitList_keeps)
  case unitClear => cases next; exact h.kept (State.serve_keepsAll unitClear_keeps)
  case journalMark => cases next; exact h.kept (State.serve_keepsAll journalMark_keeps)
  case loadTenants => cases next; exact h.kept (State.serve_keepsAll loadList_keeps)
  case loadCredentials => cases next; exact h.kept (State.serve_keepsAll loadList_keeps)
  case credPut => cases next; exact h.keptCreds (State.serve_keepsCredsRest credPut_keeps s)
  case credDrop => cases next; exact h.keptCreds (State.serve_keepsCredsRest credDrop_keeps s)
  case loadRecordApply => cases next; exact h.keptCreds s.applyNextRecord_frame
  case profilePut =>
    cases next
    rw [State.serve_profilePut_keeps s]
    exact h.elsewhere rfl rfl rfl
  case holidaySet =>
    cases next
    rw [State.serve_holidaySet_keeps s]
    exact h.elsewhere rfl rfl rfl
  case sitePut =>
    cases next
    refine h.serve fun v => checked_rel (R := fun _ t => t.CarBut []) h ?_
    unfold State.putSettings State.setPolarity
    split <;> exact h.elsewhere rfl rfl rfl
  case carPut => cases next; exact h.serve fun v => h.carPut v
  case carDrop => cases next; exact h.serve fun v => h.carDrop v
  case nodePut => cases next; exact h.serve fun v => h.nodePut v
  case nodeDrop => cases next; exact h.serve fun v => h.nodeDrop v
  case visitEnd => cases next; exact h.serve fun v => h.visitEnd v
  case tenantDrop => cases next; exact h.serve fun v => h.tenantDrop v
  case clockSet => cases next; exact h.serve fun v => h.clockSet v
  case linePut => cases next; exact h.serve fun v => h.linePut v
  case portalPut => cases next; exact h.serve fun v => h.portalPut v
  case portalDrop => cases next; exact h.serve fun v => h.portalDrop v
  case portalPulse => cases next; exact h.serve fun v => h.portalPulse v
  case portalHold => cases next; exact h.serve fun v => h.portalHold v
  case portalSecure => cases next; exact h.serve fun v => h.portalSecure v
  case portalReset => cases next; exact h.serve fun v => h.portalReset v
  case lockdown order => cases next; exact h.serve fun v => h.lockdown order v
  case evacuate order => cases next; exact h.serve fun v => h.evacuate order v
  case resume order => cases next; exact h.serve fun v => h.resume order v
  case slipTake => cases next; exact h.kept s.takeSlip_frame
  case slipAnswer => cases next; exact h.kept s.answerSlip_frame
  case badKind => cases next; exact h.kept s.refuseKind_frame
  case visitImageCopy => cases next; exact h.kept s.copyVisitImage_frame
  case flushTimerExpiry => cases next; exact h.kept (State.OnlyJournal.keepsAll (State.flushExpiry_frame s))
  case journalRecovery => cases next; exact h.kept (State.OnlyJournal.keepsAll (State.reexaminePage_frame s))
  case hostMemoryWrite word value => cases next; exact h.elsewhere (by simp [State.hostWrite_frame]) (by simp [State.hostWrite_frame]) (by simp [State.hostWrite_frame])
  case post value => cases next; exact h.elsewhere (by simp [State.postSlip_frame]) (by simp [State.postSlip_frame]) (by simp [State.postSlip_frame])
  case controlBad value =>
    cases next
    split
    · exact h
    · exact h.elsewhere (by simp) (by simp) (by simp)
  case registerReadOnly r value => cases next; exact h.elsewhere (by simp) (by simp) (by simp)
  case clear bits => cases next; exact h.elsewhere rfl rfl rfl
  case mask bits => cases next; exact h.elsewhere rfl rfl rfl
  case run => cases next; exact h.elsewhere (by simp [State.startRun_frame]) (by simp [State.startRun_frame]) (by simp [State.startRun_frame])
  case halt => cases next; exact h.halt
  case secondEvent => cases next; exact h.second
  case minuteEvent order =>
    cases next
    split
    · exact h.minute
    · exact h
  case fireInputChange closed =>
    cases next
    unfold State.fireInput
    split <;> exact h.elsewhere rfl rfl rfl
  case fireActive order =>
    cases next
    split
    · exact h.fireBecomesActive
    · exact h
  case fireClear =>
    cases next
    split
    · exact State.CarBut.log (s := s.setFire false) (h.elsewhere rfl rfl rfl)
    · exact h
  case passageTimerExpiry p => cases next; exact (State.CarBut.portalWork [] p).passageExpiry (due := []) h
  case holdTimerExpiry p => cases next; exact (State.CarBut.portalWork [] p).holdExpiry (due := []) h
  case cooldownExpiry p => cases next; exact (State.CarBut.portalWork [] p).cooldownExpiry (due := []) h
  case probeIntervalExpiry p => cases next; exact (State.CarBut.portalWork [] p).probeExpiry (due := []) h
  case releaseExpiry car tenant => cases next; exact h.releaseExpiry
  case decision => cases next; exact h.decideNext
  case poll l => cases next; exact h.elsewhere (by simp) (by simp) (by simp)
  case idleCycleEnd l => cases next; exact h.elsewhere (by simp) (by simp) (by simp)
  case quietWaitEnd l => cases next; exact h.elsewhere (by simp) (by simp) (by simp)
  case recoveryCheckExpiry l idle =>
    cases next
    obtain ⟨⟨-, ⟨-, mode⟩, -⟩, nodes, -, cars, -⟩ := State.recoveryCheck_keeps l idle s
    exact h.elsewhere (congrArg ModeUnit.mode mode) cars nodes
  case reply l f => cases next; exact h.judgeReply
  case replyWindowExpiry l => cases next; exact h.exchangeBad
  case collision l => cases next; exact h.exchangeBad
  case gapLimitExpiry l => cases next; exact h.exchangeBad
  case lineBreak l => cases next; exact h.lineBreak
  case noQuiet l => cases next; exact h.lineNoQuiet

/-- R140: every step keeps the law of the car outputs. -/
theorem step_carBut {s t : State} (law : s.CarOutputLaw) (next : step s = .next t) : t.CarOutputLaw := by
  rw [← State.carBut_nil] at law ⊢
  unfold step at next
  split at next
  · exact Host.Outcome.next.inj next ▸ law.elsewhere rfl rfl rfl
  · next rest _ => exact exec_carBut (s := { s with pending := rest }) (law.elsewhere rfl rfl rfl) next

/-- Settles O6: what is changed of a channel is due till its outputs are formed, and every operation forms them at its end. -/
theorem everyStepKeepsTheEvacuationOverride : Obligations.EveryStepKeepsTheEvacuationOverride :=
  ⟨fun _ _ law next => step_override law next, fun _ _ law next => step_carBut law next⟩

end Sys2Proof.Machine
end

section
/-! The tenant directory (chapter 1): zone masks, and TENANT_PUT, STANDING_SET and UNIT_DROP (O20, O25). -/

namespace Sys2Proof.Machine

/-! ## Sets of zones (R6, R8) -/

theorem getLsbD_only {n z : Nat} (h : z < 16) : (only n).getLsbD z = decide (n = z) := by
  simp only [only, BitVec.getLsbD_shiftLeft, BitVec.getLsbD_one, h]
  by_cases e : n = z
  · simp [e]
  · simp [e]
    omega

/-- A set gathered from a list holds what it begins with and what some item adds. -/
theorem getLsbD_foldl_or {α : Type} (f : Word → α → Word) (p : α → Prop) {z : Nat}
    (h : ∀ acc x, (f acc x).getLsbD z = true ↔ acc.getLsbD z = true ∨ p x) (xs : List α) (acc : Word) :
    (xs.foldl f acc).getLsbD z = true ↔ acc.getLsbD z = true ∨ ∃ x ∈ xs, p x := by
  induction xs generalizing acc with
  | nil => simp
  | cons x xs ih => rw [List.foldl_cons, ih, h]; simp [or_assoc]

/-- R8: the common zones. -/
theorem State.getLsbD_commonZones {z : Nat} (h : z < 16) (s : State) :
    s.commonZones.getLsbD z = (s.zone z).common := by
  rw [Bool.eq_iff_iff, State.commonZones, getLsbD_foldl_or _ (fun y => (s.zone y).common = true ∧ y = z)]
  · simp; grind
  · intro acc y
    by_cases c : (s.zone y).common = true
    · simp [c, getLsbD_only h]
    · simp [c]

/-- R6: the mask of a grant list. -/
theorem State.getLsbD_maskOf {z : Nat} (h : z < 16) (grants : List Nat) (s : State) :
    (s.maskOf grants).getLsbD z = true ↔
      (s.zone z).common = true ∨ ∃ u ∈ grants, ∃ ru, s.unit u = some ru ∧ ru.zone = z := by
  rw [State.maskOf, getLsbD_foldl_or _ (fun u => ∃ ru, s.unit u = some ru ∧ ru.zone = z), State.getLsbD_commonZones h]
  intro acc u
  cases s.unit u with
  | none => simp
  | some r => simp [getLsbD_only h]

/-! ## A slip that is served (R186) -/

/-- R186: a slip that its owner has carried out, to the stage given. -/
theorem exec_served {c : Instr} {kind : SlipKind} {owner : Service → State → State × Stage} {v : Service} {s u : State}
    {stage : Stage} (runs : exec c s = .next (s.serve kind owner)) (serves : s.Serves kind v)
    (work : owner v s = (u, stage)) (slips : u.slips = s.slips) :
    exec c s = .next (u.finishService stage) ∧ s.ServiceAt v stage (u.finishService stage) :=
  ⟨runs.trans (congrArg Host.Outcome.next (State.serve_eq serves work)), State.serviceAt_finishService serves.1 slips stage⟩

/-- What nothing but the tenant table separates. -/
theorem State.OnlyTenants.eq {s t : State} (h : s.OnlyTenants t) : t = { s with tenants := t.tenants } := by
  cases t; cases s; simp_all [State.OnlyTenants]

theorem State.OnlyUnits.eq {s t : State} (h : s.OnlyUnits t) : t = { s with units := t.units } := by
  cases t; cases s; simp_all [State.OnlyUnits]

theorem State.OnlyRegister.eq {s t : State} (h : s.OnlyRegister t) : t = { s with register := t.register } := by
  cases t; cases s; simp_all [State.OnlyRegister]

/-! ## TENANT_PUT and STANDING_SET (R11, R18) -/

theorem dayOk_iff {day : Option Nat} : dayOk day = true ↔ ∀ d, day = some d → d ≤ 2982616 := by
  cases day with
  | none => simp [dayOk]
  | some d =>
    simp only [dayOk, Option.all_some, decide_eq_true_eq, Option.some.injEq, forall_eq']
    exact Iff.rfl

theorem State.putTenant_only (f : TenantFields) (s : State) : s.OnlyTenants (s.putTenant f) := by
  unfold State.putTenant
  split <;> exact State.setTenant_frame _ _ s

theorem State.tenant_putTenant_ne {f : TenantFields} {j : Nat} (h : j ≠ f.index) (s : State) :
    (s.putTenant f).tenant j = s.tenant j := by
  unfold State.putTenant
  split <;> exact State.tenant_setTenant_ne h _ s

/-- R11: four fields of a standing record are replaced. -/
theorem State.tenant_putTenant_of_some {f : TenantFields} {r : Tenant} {s : State} (h : s.tenant f.index = some r) :
    (s.putTenant f).tenant f.index =
      some { r with state := tenantStateOf f.state, staff := f.staff == 1, profile := f.profile, paid := f.paid } := by
  simp [State.putTenant, h]

/-- R11: a record is created. -/
theorem State.tenant_putTenant_of_none {f : TenantFields} {s : State} (h : s.tenant f.index = none) :
    (s.putTenant f).tenant f.index = some (s.newTenant f) := by
  simp [State.putTenant, h]

/-- R11: the fields are in range. -/
theorem TenantFields.problem_none {f : TenantFields} (index : f.index < 4096) (state : f.state ≤ 1) (staff : f.staff ≤ 1)
    (profile : f.profile ≤ 31) (paid : dayOk f.paid = true) : f.problem = none := by
  simp [TenantFields.problem, firstProblem_none, flagOk, Config.tenants, *]

/-- Settles O20: a record is created or put anew by whether its place of the table stands. -/
theorem tenantPutAndStandingSet : Obligations.TenantPutAndStandingSet := by
  unfold Obligations.TenantPutAndStandingSet
  dsimp only
  refine fun s v => ⟨fun serves index state staff profile day => ?_, fun serves r index day stands => ?_⟩
  · let f := tenantFieldsAt 32 v.copy
    have good : f.problem = none := TenantFields.problem_none index state staff profile (dayOk_iff.2 day)
    have work : tenantPut v s = (s.putTenant f,
        .served (.done (if (s.tenant f.index).isNone then createdCode else replacedCode))) := by
      rw [tenantPut, good, checked_none]
    obtain ⟨next, gives⟩ := exec_served (c := .tenantPut) rfl serves work (by simp)
    refine ⟨_, next, ?_, fun j other => State.tenant_putTenant_ne (f := f) other s, fun r stands => ?_, fun vacant => ?_⟩
    · rw [State.finishService_eq, (s.putTenant_only f).eq]
    · refine ⟨State.tenant_putTenant_of_some (f := f) stands, ?_⟩
      rw [show s.tenant f.index = some r from stands] at gives ⊢
      exact gives
    · refine ⟨⟨s.commonZones, State.tenant_putTenant_of_none (f := f) vacant, fun z small => s.getLsbD_commonZones small⟩, ?_⟩
      rw [show s.tenant f.index = none from vacant] at gives ⊢
      exact gives
  · let paid := optionOf 3 (v.body 2 3)
    have inRange : dayOk paid = true := dayOk_iff.2 day
    have good : firstProblem [require (v.body 0 2 < Config.tenants) (.badField 1), require (dayOk paid) (.badField 2),
        require (s.tenant (v.body 0 2)).isSome (.notFound 1)] = none := by
      simp [firstProblem_none, Config.tenants, index, stands, inRange]
    have work : standingSet v s = (s.updTenant (v.body 0 2) (fun t => { t with paid := paid }), .served (.done [])) := by
      rw [standingSet, good, checked_none]
    obtain ⟨next, gives⟩ := exec_served (c := .standingSet) rfl serves work (by simp)
    refine ⟨_, next, ?_, fun j other => State.tenant_updTenant_ne other _ s, ?_, gives⟩
    · rw [State.finishService_eq, (State.updTenant_frame _ _ s).eq]
    · exact (State.tenant_updTenant_self _ _ s).trans (by rw [stands]; rfl)

/-! ## UNIT_DROP (R21) -/

/-- Settles O25, by the branches of the owner. -/
theorem unitDropVacatesTheUnit : Obligations.UnitDropVacatesTheUnit := by
  intro s v serves number
  have number_eq : number = v.body 0 2 := rfl
  by_cases big : 4096 ≤ number
  · have work : unitDrop v s = (s, .served (.badField 1)) := if_pos big
    obtain ⟨next, gives⟩ := exec_served (c := .unitDrop) rfl serves work rfl
    exact ⟨_, next, rfl, fun _ => ⟨rfl, gives⟩, by omega, by omega⟩
  cases stands : s.unit number with
  | none =>
    have work : unitDrop v s = (s, .served (.notFound 1)) := by simp [unitDrop, Config.units, ← number_eq, big, stands]
    obtain ⟨next, gives⟩ := exec_served (c := .unitDrop) rfl serves work rfl
    exact ⟨_, next, rfl, by omega, fun _ _ => ⟨rfl, _, gives⟩, nofun⟩
  | some r =>
    by_cases used : 0 < r.grantees
    · have work : unitDrop v s = (s, .served (.refusal .inUse (bytesOf 1 r.grantees))) := by
        simp [unitDrop, Config.units, ← number_eq, big, stands, Nat.ne_of_gt used]
      obtain ⟨next, gives⟩ := exec_served (c := .unitDrop) rfl serves work rfl
      refine ⟨_, next, rfl, by omega, nofun, fun r' _ same => ?_⟩
      cases same
      rw [if_pos used]
      exact ⟨rfl, gives⟩
    · have work : unitDrop v s = ({ s with units := Table.erase number s.units }, .served (.done [])) := by
        simp [unitDrop, Config.units, ← number_eq, big, stands, Nat.eq_zero_of_not_pos used]
      obtain ⟨next, gives⟩ := exec_served (c := .unitDrop) rfl serves work rfl
      refine ⟨_, next, rfl, by omega, nofun, fun r' _ same => ?_⟩
      cases same
      rw [if_neg used]
      exact ⟨Table.find_erase_self number s.units, fun u other => Table.find_erase_ne other s.units, gives⟩

end Sys2Proof.Machine
end

section
/-! Credentials (section 1.5): CRED_PUT and CRED_DROP (O21). -/

namespace Sys2Proof.Machine

theorem firstProblem_nil : firstProblem [] = none := rfl

/-! ## CRED_PUT (R14) -/

/-- R14: the fields are in range and the tenant stands. -/
structure CredFields.Good (f : CredFields) (r : Tenant) (s : State) : Prop where
  key : f.key.valid = true
  tenant : f.tenant < 4096
  state : f.state ≤ 1
  expiry : dayOk f.expiry = true
  stands : s.tenant f.tenant = some r

/-- R14: what is left to check of good fields: the place of the key, and room. -/
theorem CredFields.Good.problem {f : CredFields} {r : Tenant} {s : State} (h : f.Good r s) :
    s.credProblem f = match Table.find f.key.code s.creds with
      | some c => if c.tenant = f.tenant then none else some (.refusal .exists_ (bytesOf 2 c.tenant))
      | none =>
        if 8192 ≤ s.creds.length then some (.refusal .tableFull [0])
        else if 4 ≤ r.credCount then some (.refusal .tableFull [1]) else none := by
  obtain ⟨key, tenant, state, expiry, stands⟩ := h
  unfold State.credProblem
  cases Table.find f.key.code s.creds with
  | some c =>
    by_cases own : c.tenant = f.tenant <;>
      simp [firstProblem_require, firstProblem_nil, Config.tenants, key, tenant, state, expiry, stands, own]
  | none =>
    have room : s.creds.length < Config.credentials ↔ ¬ 8192 ≤ s.creds.length := Nat.not_le.symm
    by_cases full : 8192 ≤ s.creds.length
    · simp [firstProblem_require, Config.tenants, key, tenant, state, expiry, stands, room, full, bytesOf_one]
    · by_cases four : 4 ≤ r.credCount <;>
        simp [firstProblem_require, firstProblem_nil, Config.tenants, key, tenant, state, expiry, stands, room, full, four,
          bytesOf_one]

/-- R14: the record that the fields give. -/
def CredFields.record (f : CredFields) : Credential :=
  { key := f.key, tenant := f.tenant, state := credentialStateOf f.state, expiry := f.expiry }

/-- R14: a record put anew. -/
theorem State.putCredential_of_some {f : CredFields} {c : Credential} {s : State} (h : Table.find f.key.code s.creds = some c) :
    s.putCredential f = { s with creds := Table.insert f.key.code f.record s.creds } := by
  simp [State.putCredential, h, CredFields.record]

/-- R14: a record inserted counts for its tenant. -/
theorem State.putCredential_of_none {f : CredFields} {s : State} (h : Table.find f.key.code s.creds = none) :
    s.putCredential f = State.updTenant f.tenant (fun t => { t with credCount := t.credCount + 1 })
      { s with creds := Table.insert f.key.code f.record s.creds } := by
  simp [State.putCredential, h, CredFields.record]

theorem State.creds_putCredential (f : CredFields) (s : State) :
    (s.putCredential f).creds = Table.insert f.key.code f.record s.creds := by
  cases h : Table.find f.key.code s.creds with
  | some c => rw [State.putCredential_of_some h]
  | none => rw [State.putCredential_of_none h]; simp

theorem State.putCredential_eq (f : CredFields) (s : State) :
    s.putCredential f = { s with creds := (s.putCredential f).creds, tenants := (s.putCredential f).tenants } := by
  cases h : Table.find f.key.code s.creds with
  | some c => rw [State.putCredential_of_some h]
  | none =>
    rw [State.putCredential_of_none h]
    conv_lhs => rw [(State.updTenant_frame _ _ _).eq]
    simp

theorem State.find_putCredential_self (f : CredFields) (s : State) :
    Table.find f.key.code (s.putCredential f).creds = some f.record := by
  rw [State.creds_putCredential, Table.find_insert_self]

theorem State.find_putCredential_ne {f : CredFields} {k : Nat} (h : k ≠ f.key.code) (s : State) :
    Table.find k (s.putCredential f).creds = Table.find k s.creds := by
  rw [State.creds_putCredential, Table.find_insert_ne h]

/-- R14: CRED_PUT with good fields, by the place of its key. -/
theorem exec_credPut {s : State} {v : Service} (serves : s.Serves .credPut v) {r : Tenant}
    (good : (credFieldsAt 32 v.copy).Good r s) :
    let f := credFieldsAt 32 v.copy
    ∃ t, exec .credPut s = .next t ∧ t = { s with creds := t.creds, tenants := t.tenants, slips := t.slips } ∧
      (Table.Sorted s.creds → Table.Sorted t.creds) ∧
      match Table.find f.key.code s.creds with
      | some c =>
        if c.tenant = f.tenant then
          Table.find f.key.code t.creds = some f.record ∧
            (∀ k, k ≠ f.key.code → Table.find k t.creds = Table.find k s.creds) ∧ t.tenants = s.tenants ∧
            s.Gives v (.done [1]) t
        else t = { s with slips := t.slips } ∧ s.Gives v (.refusal .exists_ (bytesOf 2 c.tenant)) t
      | none =>
        if 8192 ≤ s.creds.length then t = { s with slips := t.slips } ∧ s.Gives v (.refusal .tableFull [0]) t
        else if 4 ≤ r.credCount then t = { s with slips := t.slips } ∧ s.Gives v (.refusal .tableFull [1]) t
        else
          Table.find f.key.code t.creds = some f.record ∧
            (∀ k, k ≠ f.key.code → Table.find k t.creds = Table.find k s.creds) ∧
            t.tenant f.tenant = some { r with credCount := r.credCount + 1 } ∧
            (∀ j, j ≠ f.tenant → t.tenant j = s.tenant j) ∧ s.Gives v (.done [0]) t := by
  intro f
  have problem : s.credProblem f = _ := good.problem
  have owner : credPut v s = checked (s.credProblem f) (s.putCredential f,
      .done (if (Table.find f.key.code s.creds).isNone then createdCode else replacedCode)) s := rfl
  have frame := s.putCredential_eq f
  have refused {a : Answer} (bad : s.credProblem f = some a) :
      exec .credPut s = .next (s.finishService (.served a)) ∧ s.Gives v a (s.finishService (.served a)) :=
    exec_served rfl serves (by rw [owner, bad, checked_some]) rfl
  have done (ok : s.credProblem f = none) := exec_served (c := .credPut) (owner := credPut) (u := s.putCredential f) rfl serves
    (by rw [owner, ok, checked_none]) (by rw [frame])
  have sorted (was : Table.Sorted s.creds) : Table.Sorted (s.putCredential f).creds := by
    rw [State.creds_putCredential]
    exact Table.insert_sorted _ _ was
  cases place : Table.find f.key.code s.creds with
  | some c =>
    rw [place] at problem
    by_cases own : c.tenant = f.tenant
    · obtain ⟨next, gives⟩ := done (problem.trans (if_pos own))
      simp only [if_pos own]
      refine ⟨_, next, ?_, sorted, s.find_putCredential_self f, fun k other => s.find_putCredential_ne other, ?_, ?_⟩
      · rw [State.finishService_eq, frame]
      · exact (congrArg State.tenants (State.putCredential_of_some place) :)
      · simpa [place, replacedCode, bytesOf_one] using gives
    · obtain ⟨next, gives⟩ := refused (problem.trans (if_neg own))
      simp only [if_neg own]
      exact ⟨_, next, rfl, id, rfl, gives⟩
  | none =>
    rw [place] at problem
    by_cases full : 8192 ≤ s.creds.length
    · simp only [full, if_true] at problem ⊢
      obtain ⟨next, gives⟩ := refused problem
      exact ⟨_, next, rfl, id, rfl, gives⟩
    by_cases four : 4 ≤ r.credCount
    · simp only [full, four, if_false, if_true] at problem ⊢
      obtain ⟨next, gives⟩ := refused problem
      exact ⟨_, next, rfl, id, rfl, gives⟩
    simp only [full, four, if_false] at problem ⊢
    obtain ⟨next, gives⟩ := done problem
    have inserted := State.putCredential_of_none place
    refine ⟨_, next, ?_, sorted, s.find_putCredential_self f, fun k other => s.find_putCredential_ne other, ?_,
      fun j other => ?_, ?_⟩
    · rw [State.finishService_eq, frame]
    · show (s.putCredential f).tenant f.tenant = _
      rw [inserted, State.tenant_updTenant_self]
      exact congrArg (Option.map _) good.stands
    · show (s.putCredential f).tenant j = _
      rw [inserted, State.tenant_updTenant_ne other]
      rfl
    · simpa [place, createdCode, bytesOf_one] using gives

/-! ## CRED_DROP (R15, R77) -/

/-- R15, R77: a visit that carries a key no longer. -/
def Visit.forget (k : Key) (w : Visit) : Visit :=
  { w with credential := if w.credential = some k then none else w.credential }

/-- R15: a passage that carries a key no longer. -/
theorem Passage.forget_eq (k : Key) (g : Passage) : g.forget k = { g with key := if g.key = some k then none else g.key } := by
  unfold Passage.forget
  split <;> rfl

theorem Visit.forget_eq (k : Key) (w : Visit) :
    w.forget k = if w.credential = some k then { w with credential := none } else w := by
  unfold Visit.forget
  split <;> rfl

theorem State.visits_forgetKey (k : Key) (s : State) :
    (s.forgetKey k).register = { s.register with visits := s.register.visits.map (Visit.forget k) } := by
  simp only [State.forgetKey, funext (Visit.forget_eq k)]

theorem State.portal_forgetKey (k : Key) (p : Nat) (s : State) :
    (s.forgetKey k).portal p = { s.portal p with passages := (s.portal p).passages.map (Passage.forget k) } :=
  Table.read_mapValues (fun r : Portal => { r with passages := r.passages.map (Passage.forget k) }) Portal.blank rfl p s.portals

/-- R15: what the removal of a credential leaves alone. -/
theorem State.dropCredential_eq (c : Credential) (s : State) :
    s.dropCredential c = { s with
      creds := Table.erase c.key.code s.creds, tenants := (s.dropCredential c).tenants, portals := (s.dropCredential c).portals,
      register := { s.register with visits := s.register.visits.map (Visit.forget c.key) } } := by
  have counted := State.OnlyTenants.eq (State.updTenant_frame c.tenant (fun t => { t with credCount := t.credCount - 1 })
    { s with creds := Table.erase c.key.code s.creds })
  unfold State.dropCredential
  dsimp only
  rw [counted]
  simp only [State.forgetKey, funext (Visit.forget_eq c.key)]

theorem State.creds_dropCredential (c : Credential) (s : State) :
    (s.dropCredential c).creds = Table.erase c.key.code s.creds :=
  congrArg State.creds (s.dropCredential_eq c)

theorem State.register_dropCredential (c : Credential) (s : State) :
    (s.dropCredential c).register = { s.register with visits := s.register.visits.map (Visit.forget c.key) } :=
  congrArg State.register (s.dropCredential_eq c)

theorem State.tenant_dropCredential_self (c : Credential) (s : State) :
    (s.dropCredential c).tenant c.tenant = (s.tenant c.tenant).map (fun r => { r with credCount := r.credCount - 1 }) :=
  State.tenant_updTenant_self c.tenant _ { s with creds := Table.erase c.key.code s.creds }

theorem State.tenant_dropCredential_ne {c : Credential} {j : Nat} (h : j ≠ c.tenant) (s : State) :
    (s.dropCredential c).tenant j = s.tenant j :=
  State.tenant_updTenant_ne h _ { s with creds := Table.erase c.key.code s.creds }

theorem State.portal_dropCredential (c : Credential) (p : Nat) (s : State) :
    (s.dropCredential c).portal p =
      { s.portal p with passages := (s.portal p).passages.map (Passage.forget c.key) } := by
  have kept : (State.updTenant c.tenant (fun t => { t with credCount := t.credCount - 1 })
      { s with creds := Table.erase c.key.code s.creds }).portals = s.portals := by simp
  unfold State.dropCredential
  dsimp only
  rw [State.portal_forgetKey]
  simp only [State.portal, kept]

/-- Settles O21: CRED_PUT by the place of its key, CRED_DROP of a key that stands. -/
theorem credentialSlips : Obligations.CredentialSlips := by
  unfold Obligations.CredentialSlips
  dsimp only
  refine fun s v valid => ⟨fun serves r tenant state expiry stands => ?_, fun serves c place same => ?_⟩
  · exact exec_credPut serves ⟨valid, tenant, state, dayOk_iff.2 expiry, stands⟩
  · have work : credDrop v s = (s.dropCredential c, .served (.done (bytesOf 2 c.tenant))) := by
      simp [credDrop, valid, place]
    have frame := s.dropCredential_eq c
    obtain ⟨next, gives⟩ := exec_served (c := .credDrop) rfl serves work (by rw [frame])
    rw [← same] at place ⊢
    refine ⟨_, next, ?_, ?_, fun k other => ?_, s.tenant_dropCredential_self c, fun j other => State.tenant_dropCredential_ne other s,
      ?_, fun p => ?_, gives⟩
    · rw [State.finishService_eq, frame]
    · show Table.find c.key.code (s.dropCredential c).creds = none
      rw [State.creds_dropCredential, Table.find_erase_self]
    · show Table.find k (s.dropCredential c).creds = _
      rw [State.creds_dropCredential, Table.find_erase_ne other]
    · exact congrArg Register.visits (s.register_dropCredential c)
    · refine (s.portal_dropCredential c p).trans ?_
      rw [funext (Passage.forget_eq c.key)]

end Sys2Proof.Machine
end

section
/-! The slips that write images into the bulk area: TENANT_READ, ZONE_PUT and ZONE_READ, VISIT_LIST (O26, O32, O35). -/

namespace Sys2Proof.Machine

/-! ## Images laid one after another (R178, R206) -/

/-- What lies inside a run of bytes that is written. -/
theorem State.peek_poke_inside {a place n : Nat} {all pre bs post : List Byte} (split : all = pre ++ bs ++ post)
    (at_ : place = a + pre.length) (width : n = bs.length) (s : State) : (s.poke a all).peek place n = bs := by
  subst split at_ width
  rw [State.poke_append, State.poke_append, State.peek_poke_outside (by simp; omega), State.peek_poke_self]

/-- The items of a list, laid one after another at one width. -/
theorem length_flatMap_of_width {α : Type} {f : α → List Byte} {w : Nat} (width : ∀ x, (f x).length = w) (xs : List α) :
    (xs.flatMap f).length = w * xs.length := by
  induction xs with
  | nil => rfl
  | cons x xs ih => rw [List.flatMap_cons, List.length_append, width, ih, List.length_cons, Nat.mul_add]; omega

/-- Where an item of such a list lies. -/
theorem State.peek_poke_item {α : Type} {f : α → List Byte} {w : Nat} (width : ∀ x, (f x).length = w) {pre post : List Byte}
    {xs : List α} {i : Nat} {x : α} (item : xs[i]? = some x) (a : Nat) (s : State) :
    (s.poke a (pre ++ xs.flatMap f ++ post)).peek (a + pre.length + w * i) w = f x := by
  obtain ⟨inside, rfl⟩ := List.getElem?_eq_some_iff.1 item
  have split : xs = xs.take i ++ xs[i] :: xs.drop (i + 1) := by simp
  refine State.peek_poke_inside (pre := pre ++ (xs.take i).flatMap f) (post := (xs.drop (i + 1)).flatMap f ++ post) ?_ ?_
    (width _).symm s
  · conv_lhs => rw [split]
    simp only [List.flatMap_append, List.flatMap_cons, List.append_assoc]
  · rw [List.length_append, length_flatMap_of_width width, List.length_take, Nat.min_eq_left (Nat.le_of_lt inside)]
    omega

/-- R178: what is written word by word reads whole meanwhile. -/
theorem State.writtenByWords_poke {a n : Nat} {bs : List Byte} {s t : State} (mem : t.mem = (s.poke a bs).mem)
    (width : n = bs.length) : s.WrittenByWords a n t := by
  have laid : t.peek a n = bs := by
    rw [State.peek_of_mem mem, width, State.peek_poke_self]
  rw [State.WrittenByWords, laid, State.pass_accessesOf]
  refine ⟨mem, fun k w even => ?_⟩
  refine (State.wordAt_during_accessesOf even k a bs s).imp id fun after => after.trans ?_
  exact State.wordAt_congr (State.byteAt_congr mem.symm w) (State.byteAt_congr mem.symm (w + 1))

/-- R178, R186: a slip whose owner writes a run of bytes and gives its answer. -/
theorem exec_writes {c : Instr} {kind : SlipKind} {owner : Service → State → State × Stage} {v : Service} {s : State} {a : Nat}
    {bytes : List Byte} {answer : Answer} (runs : exec c s = .next (s.serve kind owner)) (serves : s.Serves kind v)
    (work : owner v s = (s.poke a bytes, .served answer)) :
    ∃ t, exec c s = .next t ∧ t = { s with mem := t.mem, slips := t.slips } ∧ t.mem = (s.poke a bytes).mem ∧
      s.Gives v answer t := by
  have frame := State.poke_frame a bytes s
  generalize s.poke a bytes = u at work frame ⊢
  obtain ⟨next, gives⟩ := exec_served runs serves work (by simp [frame])
  refine ⟨_, next, ?_, rfl, gives⟩
  rw [State.finishService_eq, frame.eq]

theorem Service.extentProblem_none {v : Service} (start : v.start % 2 = 0) (length : v.length % 2 = 0)
    (low : 0xA400 ≤ v.start) (high : v.start + v.length ≤ 0x10000) : v.extentProblem = none := by
  have low' : ¬ v.start < Config.bulkBase := Nat.not_lt.2 low
  have high' : ¬ v.start + v.length > Config.memoryEnd := Nat.not_lt.2 high
  simp [Service.extentProblem, start, length, low', high']

/-! ## TENANT_READ (R22) -/

@[simp] theorem State.length_tenantImage (index : Nat) (t : Tenant) (s : State) : (s.tenantImage index t).length = 32 := by
  simp [State.tenantImage, flagByte]

@[simp] theorem Credential.length_image (c : Credential) : c.image.length = 16 := by
  simp [Credential.image, Key.bytes]

/-- Settles O26: the image of the tenant, and then those of as many of its credentials as fit, are one run of bytes. -/
theorem tenantReadWritesTheImages : Obligations.TenantReadWritesTheImages := by
  unfold Obligations.TenantReadWritesTheImages
  dsimp only
  intro s v r serves index stands start length low high room
  let all := s.credentialsOf (v.body 0 2)
  let fits := all.take ((v.length - 32) / 16)
  let bytes := s.tenantImage (v.body 0 2) r ++ fits.flatMap Credential.image
  have width : bytes.length = 32 + 16 * fits.length := by
    simp only [bytes, List.length_append, State.length_tenantImage, length_flatMap_of_width Credential.length_image]
  have good : firstProblem [require (v.body 0 2 < Config.tenants) (.badField 1), v.extentProblem] = none := by
    simp [firstProblem_none, Config.tenants, index, Service.extentProblem_none start length low high]
  have work : tenantRead v s = (s.poke v.start bytes,
      .served { Answer.done (bytesOf 1 fits.length) with more := fits.length < all.length }) := by
    rw [tenantRead]
    dsimp only
    rw [good, stands]
    exact if_neg (Nat.not_lt.2 room)
  obtain ⟨t, next, frame, mem, gives⟩ := exec_writes (c := .tenantRead) rfl serves work
  refine ⟨t, next, frame, ?_, fun i c item => ?_, fun a outside => ?_, State.writtenByWords_poke mem width.symm, gives⟩
  · rw [State.peek_of_mem mem]
    exact State.peek_poke_inside (pre := []) (post := fits.flatMap Credential.image) rfl (by simp)
      (s.length_tenantImage _ r).symm s
  · have laid := State.peek_poke_item Credential.length_image (pre := s.tenantImage (v.body 0 2) r) (post := []) item v.start s
    rw [List.append_nil, State.length_tenantImage] at laid
    exact (State.peek_of_mem mem).trans laid
  · rw [State.byteAt_congr mem]
    refine State.byteAt_poke_outside (outside.imp_right fun behind => ?_) s
    rw [width, ← Nat.add_assoc]
    exact behind

/-! ## ZONE_PUT and ZONE_READ (R72, R73) -/

theorem State.tenant_remaskWhere (p : Tenant → Bool) (j : Nat) (s : State) : (s.remaskWhere p).tenant j =
    (s.tenant j).map (fun t => if p t then { t with mask := s.maskOf t.grants } else t) :=
  Table.find_mapValues (fun t => if p t = true then { t with mask := s.maskOf t.grants } else t) j s.tenants

@[simp] theorem State.length_zoneImage (z : Nat) (s : State) : (s.zoneImage z).length = 8 := by
  simp [State.zoneImage, flagByte]

@[simp] theorem State.length_zoneImages (s : State) : s.zoneImages.length = 124 := by
  simp [State.zoneImages, length_flatMap_of_width (fun i => s.length_zoneImage (i + 1))]

/-- R72: the zone record that a ZONE_PUT gives. -/
def Service.zoneRecord (v : Service) (r : Zone) : Zone :=
  { r with limit := min 250 (v.body 1 1), common := v.body 2 1 == 1, floor := optionOf 1 (v.body 3 1) }

/-- R72: a ZONE_PUT that passes its checks. -/
theorem zonePut_of_good {v : Service} {s : State} (low : 1 ≤ v.body 0 1) (high : v.body 0 1 ≤ 15) (flag : v.body 2 1 ≤ 1)
    (floor : ∀ f, optionOf 1 (v.body 3 1) = some f → f ≤ 11) :
    zonePut v s =
      (if (s.zone (v.body 0 1)).common = (v.body 2 1 == 1) then s.updZone (v.body 0 1) v.zoneRecord
        else (s.updZone (v.body 0 1) v.zoneRecord).remaskWhere (fun _ => true),
      .served { Answer.done (bytesOf 2 (s.zone (v.body 0 1)).count ++ bytesOf 2 (s.zone (v.body 0 1)).reserved) with
        clamped := 250 < v.body 1 1 }) := by
  have floorOk : (optionOf 1 (v.body 3 1)).all (fun f => f ≤ 11) = true := by
    simpa [Option.all_eq_true_iff_get] using fun h => floor _ (by simp)
  have good : firstProblem
      [require (1 ≤ v.body 0 1 && v.body 0 1 ≤ 15) (.badField 1), require (flagOk (v.body 2 1)) (.badField 3),
        require ((optionOf 1 (v.body 3 1)).all (fun f => f ≤ 11)) (.badField 4)] = none := by
    simp [firstProblem_none, low, high, flagOk, flag, floorOk]
  rw [zonePut]
  dsimp only
  rw [good, checked_none]
  rfl

theorem exec_zonePut {s : State} {v : Service} (serves : s.Serves .zonePut v) (low : 1 ≤ v.body 0 1)
    (high : v.body 0 1 ≤ 15) (flag : v.body 2 1 ≤ 1) (floor : ∀ f, optionOf 1 (v.body 3 1) = some f → f ≤ 11) :
    ∃ t, exec .zonePut s = .next t ∧
      t = { s with tenants := t.tenants, slips := t.slips,
                   register := { s.register with zones := t.register.zones } } ∧
      t.zone (v.body 0 1) = v.zoneRecord (s.zone (v.body 0 1)) ∧
      (∀ y, y ≠ v.body 0 1 → t.zone y = s.zone y) ∧
      ((s.zone (v.body 0 1)).common = (v.body 2 1 == 1) → t.tenants = s.tenants) ∧
      ((s.zone (v.body 0 1)).common ≠ (v.body 2 1 == 1) → ∀ j x, s.tenant j = some x →
        ∃ mask, t.tenant j = some { x with mask := mask } ∧ ∀ y < 16, (mask.getLsbD y = true ↔
          (t.zone y).common = true ∨ ∃ u ∈ x.grants, ∃ ru, s.unit u = some ru ∧ ru.zone = y)) ∧
      s.Gives v { result := .done, clamped := decide (250 < v.body 1 1), deferred := false, more := false,
                  detail := bytesOf 2 (s.zone (v.body 0 1)).count ++ bytesOf 2 (s.zone (v.body 0 1)).reserved } t := by
  have work := zonePut_of_good (s := s) low high flag floor
  have self : (s.updZone (v.body 0 1) v.zoneRecord).zone (v.body 0 1) = v.zoneRecord (s.zone (v.body 0 1)) :=
    State.zone_updZone_self ⟨low, high⟩ _ s
  have others (y : Nat) (other : y ≠ v.body 0 1) : (s.updZone (v.body 0 1) v.zoneRecord).zone y = s.zone y :=
    State.zone_updZone_ne other _ s
  obtain ⟨zones, wide⟩ : ∃ zones, s.updZone (v.body 0 1) v.zoneRecord =
      { s with register := { s.register with zones := zones } } := ⟨_, if_pos ⟨low, high⟩⟩
  rw [wide] at work self others
  by_cases same : (s.zone (v.body 0 1)).common = (v.body 2 1 == 1)
  · rw [if_pos same] at work
    obtain ⟨next, gives⟩ := exec_served (c := .zonePut) rfl serves work rfl
    exact ⟨_, next, rfl, self, others, fun _ => rfl, fun change => absurd same change, gives⟩
  · rw [if_neg same] at work
    obtain ⟨next, gives⟩ := exec_served (c := .zonePut) rfl serves work rfl
    refine ⟨_, next, rfl, self, others, fun keep => absurd keep same, fun _ j x stands => ⟨_, ?_, fun y small =>
      State.getLsbD_maskOf small x.grants { s with register := { s.register with zones := zones } }⟩, gives⟩
    refine (State.tenant_remaskWhere (fun _ => true) j { s with register := { s.register with zones := zones } }).trans ?_
    exact congrArg (Option.map _) stands

/-- Settles O32. -/
theorem zoneSlips : Obligations.ZoneSlips := by
  unfold Obligations.ZoneSlips
  dsimp only
  refine fun s v => ⟨fun serves low high flag floor => exec_zonePut serves low high flag floor,
    fun serves start length low high room => ?_⟩
  have good : firstProblem [v.extentProblem, require (124 ≤ v.length) (.badField 0)] = none := by
    simp [firstProblem_none, Service.extentProblem_none start length low high, room]
  have work : zoneRead v s = (s.poke v.start s.zoneImages, .served (.done [])) := by
    rw [zoneRead, good, checked_none]
  obtain ⟨t, next, frame, mem, gives⟩ := exec_writes (c := .zoneRead) rfl serves work
  let counts := bytesOf 2 s.register.visits.length ++ bytesOf 2 s.register.creating
  refine ⟨t, next, frame, fun i small => ?_, ?_, fun a outside => ?_,
    State.writtenByWords_poke mem s.length_zoneImages.symm, gives⟩
  · have laid := State.peek_poke_item (fun i => s.length_zoneImage (i + 1)) (pre := []) (post := counts)
      (xs := List.range 15) (i := i) (x := i) (by simp [small]) v.start s
    rw [List.nil_append, ← List.append_assoc] at laid
    exact (State.peek_of_mem mem).trans laid
  · refine (State.peek_of_mem mem).trans ?_
    refine State.peek_poke_inside (pre := (List.range 15).flatMap (fun i => s.zoneImage (i + 1))) (bs := counts) (post := []) ?_ ?_ (by simp [counts]) s
    · simp [State.zoneImages, counts]
    · rw [length_flatMap_of_width (fun i => s.length_zoneImage (i + 1)), List.length_range]
  · rw [State.byteAt_congr mem]
    exact State.byteAt_poke_outside (s.length_zoneImages.symm ▸ outside) s

/-! ## VISIT_LIST and VISIT_IMAGE_COPY (R85) -/

@[simp] theorem Visit.length_image (w : Visit) : w.image.length = 32 := by
  cases h : w.credential <;> simp [Visit.image, flagByte, h, Key.bytes]

/-- Settles O35: the walk begins behind the visits passed over, and each copy is one image at the next place. -/
theorem visitListWalksTheList : Obligations.VisitListWalksTheList := by
  intro s v
  refine ⟨fun serves skip start length low high room => ?_, fun written place visit serving stage walk item => ?_⟩
  · have good : firstProblem
        [require (v.body 0 2 ≤ 511) (.badField 1), v.extentProblem, require (32 ≤ v.length) (.badField 0)] = none := by
      simp [firstProblem_none, skip, Service.extentProblem_none start length low high, room]
    have owner : visitList v s = if s.register.visits.length ≤ v.body 0 2 then (s, listAnswer 0 false)
        else ({ s with register := { s.register with walk := some (v.body 0 2) } }, .listing 0) := by
      rw [visitList]
      dsimp only
      rw [good]
    by_cases none_left : s.register.visits.length ≤ v.body 0 2
    · obtain ⟨next, gives⟩ := exec_served (c := .visitList) rfl serves (owner.trans (if_pos none_left)) rfl
      refine ⟨_, next, ?_⟩
      rw [if_pos none_left]
      exact ⟨rfl, gives⟩
    · obtain ⟨next, gives⟩ := exec_served (c := .visitList) rfl serves (owner.trans (if_neg none_left)) rfl
      refine ⟨_, next, ?_⟩
      rw [if_neg none_left]
      exact ⟨rfl, gives⟩
  · have mem := State.poke_frame (v.start + 32 * written) visit.image s
    have copied : s.copyVisitImage =
        let u := s.poke (v.start + 32 * written) visit.image
        if place + 1 < s.register.visits.length ∧ written + 1 < v.imageRoom then
          State.finishService (.listing (written + 1)) { u with register := { u.register with walk := some (place + 1) } }
        else u.endWalk (written + 1) (place + 1 < s.register.visits.length) := by
      simp [State.copyVisitImage, serving, walk, stage, item]
    have laid := s.peek_poke_self (v.start + 32 * written) visit.image
    have outside (a : Nat) := s.byteAt_poke_outside (a := v.start + 32 * written) (c := a) (bs := visit.image)
    have whole := State.writtenByWords_poke (s := s) (t := s.poke (v.start + 32 * written) visit.image)
      (a := v.start + 32 * written) rfl visit.length_image.symm
    rw [visit.length_image] at laid outside
    generalize s.poke (v.start + 32 * written) visit.image = u at mem copied laid outside whole
    by_cases more : place + 1 < s.register.visits.length ∧ written + 1 < v.imageRoom
    · rw [if_pos more] at copied
      refine ⟨_, congrArg Host.Outcome.next copied, ?_, laid, outside, whole, ?_⟩
      · rw [State.finishService_eq, mem.eq]
      · rw [if_pos (show _ ∧ written + 1 < v.length / 32 from more)]
        exact ⟨rfl, State.serviceAt_finishService serving (by simp [mem]) _⟩
    · rw [if_neg more] at copied
      refine ⟨_, congrArg Host.Outcome.next copied, ?_, laid, outside, whole, ?_⟩
      · rw [State.endWalk, State.finishService_eq, mem.eq]
      · rw [if_neg (show ¬ (_ ∧ written + 1 < v.length / 32) from more)]
        exact ⟨rfl, State.serviceAt_finishService serving (by simp [mem]) _⟩

end Sys2Proof.Machine
end

section
/-! LOAD_TENANTS and LOAD_CREDENTIALS, record by record (O27). -/

namespace Sys2Proof.Machine

theorem Service.imageWidth_of_tenants {v : Service} (h : v.kind = 10) : v.imageWidth = 32 := if_pos h

theorem Service.imageWidth_of_credentials {v : Service} (h : v.kind = 11) : v.imageWidth = 16 :=
  if_neg (by rw [h]; decide)

/-- R23: a list whose records fit its extent passes its checks. -/
theorem loadList_of_good {v : Service} (fits : v.imageWidth * v.body 0 2 ≤ v.length) (some_width : 0 < v.imageWidth)
    (start : v.start % 2 = 0) (length : v.length % 2 = 0) (low : 0xA400 ≤ v.start) (high : v.start + v.length ≤ 0x10000)
    (s : State) :
    loadList v s = (s, if v.body 0 2 = 0 then .served (.done [0, 0, 0, 0]) else .loading 0 0 0 none) := by
  have ceiling : v.body 0 2 ≤ v.recordCeiling := by
    refine (Nat.le_div_iff_mul_le some_width).2 ?_
    rw [Nat.mul_comm]
    refine fits.trans ?_
    show v.length ≤ 0x10000 - 0xA400
    omega
  have good : firstProblem [require (v.body 0 2 ≤ v.recordCeiling) (.badField 1), v.extentProblem,
      require (v.imageWidth * v.body 0 2 ≤ v.length) (.badField 0)] = none := by
    simp [firstProblem_none, ceiling, fits, Service.extentProblem_none start length low high]
  rw [loadList, good]
  by_cases empty : v.body 0 2 = 0
  · simp [empty, bytesOf_two]
  · simp [empty]

/-- R23, R24: a LOAD slip begins. -/
theorem exec_loadList {c : Instr} {kind : SlipKind} {v : Service} {s : State}
    (runs : exec c s = .next (s.serve kind loadList)) (serves : s.Serves kind v)
    (fits : v.imageWidth * v.body 0 2 ≤ v.length) (some_width : 0 < v.imageWidth)
    (start : v.start % 2 = 0) (length : v.length % 2 = 0) (low : 0xA400 ≤ v.start) (high : v.start + v.length ≤ 0x10000) :
    ∃ t, exec c s = .next t ∧ t = { s with slips := t.slips } ∧
      s.ServiceAt v (if v.body 0 2 = 0 then .served (.done [0, 0, 0, 0]) else .loading 0 0 0 none) t := by
  obtain ⟨next, at_⟩ := exec_served runs serves (loadList_of_good fits some_width start length low high s) rfl
  exact ⟨_, next, rfl, at_⟩

/-- R23, R24: the record at the position in service, dealt with. -/
theorem State.applyNextRecord_of_loading {v : Service} {next applied refused : Nat} {first : Option (Nat × ResultCode)}
    {s u : State} {code : ResultCode} (serving : s.slips.serving = some v) (stage : v.stage = .loading next applied refused first)
    (record : v.applyRecord next s = (u, code)) :
    s.applyNextRecord = u.finishService
      (if code = .done then loadStage (v.body 0 2) next (applied + 1) refused first
        else loadStage (v.body 0 2) next applied (refused + 1) (first.or (some (next, code)))) := by
  simp [State.applyNextRecord, serving, stage, record]

/-- R187: a check that refuses does not answer DONE. -/
def Refuses (check : Option Answer) : Prop :=
  ∀ a, check = some a → a.result ≠ .done

theorem refuses_require {ok : Bool} {a : Answer} (h : a.result ≠ .done) : Refuses (require ok a) := by
  intro b found
  unfold require at found
  split at found
  · cases found
  · exact Option.some.inj found ▸ h

theorem refuses_map {α : Type} {x : Option α} {f : α → Answer} (h : ∀ y, (f y).result ≠ .done) : Refuses (x.map f) := by
  intro b found
  obtain ⟨y, -, rfl⟩ := Option.map_eq_some_iff.1 found
  exact h y

theorem refuses_firstProblem {checks : List (Option Answer)} (h : ∀ c ∈ checks, Refuses c) : Refuses (firstProblem checks) := by
  intro a found
  obtain ⟨check, listed, finds⟩ := List.exists_of_findSome?_eq_some found
  exact h check listed a finds

theorem State.refuses_credProblem (f : CredFields) (s : State) : Refuses (s.credProblem f) := by
  refine refuses_firstProblem ?_
  simp only [List.forall_mem_cons, List.not_mem_nil, false_implies, implies_true, and_true]
  refine ⟨?_, ?_, ?_, ?_, ?_, ?_, ?_, ?_⟩ <;> exact refuses_require nofun

theorem TenantFields.refuses_problem (f : TenantFields) : Refuses f.problem := by
  refine refuses_firstProblem ?_
  simp only [List.forall_mem_cons, List.not_mem_nil, false_implies, implies_true, and_true]
  refine ⟨?_, ?_, ?_, ?_, ?_⟩ <;> exact refuses_require nofun

theorem refuses_listProblem (count : Nat) (items : List Nat) : Refuses (listProblem count items) := by
  refine refuses_firstProblem ?_
  simp only [List.forall_mem_cons, List.not_mem_nil, false_implies, implies_true, and_true]
  exact ⟨refuses_require nofun, refuses_map fun _ => nofun, refuses_map fun _ => nofun⟩

theorem State.refuses_grantProblem (held items : List Nat) (s : State) : Refuses (s.grantProblem held items) := by
  refine refuses_firstProblem ?_
  simp only [List.forall_mem_cons, List.not_mem_nil, false_implies, implies_true, and_true]
  exact ⟨refuses_map fun _ => nofun, refuses_map fun _ => nofun⟩

/-- R24: a credential record is applied, or refused with a code that is not DONE. -/
theorem applyRecord_of_credentials {v : Service} (kind : v.kind = 11) (next : Nat) (s : State) :
    let f := credFieldsAt 0 ((v.bulk.drop (16 * next)).take 16)
    v.applyRecord next s = (s.credProblem f).elim (s.putCredential f, .done) (fun a => (s, a.result)) := by
  intro f
  unfold Service.applyRecord
  rw [if_neg (by rw [kind]; decide), Service.imageWidth_of_credentials kind, applyCredRecord]
  show (match s.credProblem f with | some a => _ | none => _) = _
  cases s.credProblem f <;> rfl

/-- R23: a tenant record is applied as a TENANT_PUT and then a GRANT_SET, or refused with a code that is not DONE. -/
theorem applyRecord_of_tenants {v : Service} (kind : v.kind = 10) (next : Nat) (s : State) :
    let image := (v.bulk.drop (32 * next)).take 32
    let f := tenantFieldsAt 0 image
    let items := itemsAt 9 2 (field 8 1 image) image
    v.applyRecord next s = (firstProblem [f.problem, listProblem (field 8 1 image) items,
        s.grantProblem (s.grantsOf f.index) items]).elim
      ((s.putTenant f).setGrants f.index items, .done) (fun a => (s, a.result)) := by
  intro image f items
  unfold Service.applyRecord
  rw [if_pos (by rw [kind]; decide), Service.imageWidth_of_tenants kind, applyTenantRecord]
  show (match firstProblem [f.problem, listProblem (field 8 1 image) items, s.grantProblem (s.grantsOf f.index) items] with
    | some a => _ | none => _) = _
  cases firstProblem [f.problem, listProblem (field 8 1 image) items, s.grantProblem (s.grantsOf f.index) items] <;> rfl

/-- R23, R24: what becomes of the record at the position in service, by whether a check refuses it. -/
theorem exec_loadRecordApply {v : Service} {next applied refused : Nat} {first : Option (Nat × ResultCode)} {s u : State}
    {problem : Option Answer} (serving : s.slips.serving = some v) (stage : v.stage = .loading next applied refused first)
    (refuses : Refuses problem) (slips : u.slips = s.slips)
    (record : v.applyRecord next s = problem.elim (u, .done) (fun a => (s, a.result))) :
    ∃ t, exec .loadRecordApply s = .next t ∧
      (problem = none →
        t = { u with slips := t.slips } ∧ s.ServiceAt v (loadStage (v.body 0 2) next (applied + 1) refused first) t) ∧
      ∀ a, problem = some a → t = { s with slips := t.slips } ∧
        s.ServiceAt v (loadStage (v.body 0 2) next applied (refused + 1) (first.or (some (next, a.result)))) t := by
  cases problem with
  | none =>
    have ends := State.applyNextRecord_of_loading serving stage record
    rw [if_pos rfl] at ends
    exact ⟨_, congrArg Host.Outcome.next ends,
      fun _ => ⟨State.finishService_eq _ u, State.serviceAt_finishService serving slips _⟩, nofun⟩
  | some a =>
    have ends := State.applyNextRecord_of_loading serving stage record
    rw [if_neg (refuses a rfl)] at ends
    refine ⟨_, congrArg Host.Outcome.next ends, nofun, fun b same => ?_⟩
    cases same
    exact ⟨State.finishService_eq _ s, State.serviceAt_finishService serving rfl _⟩

/-- Settles O27: the start of a list, and the record at the position in service. -/
theorem listsAreLoadedRecordByRecord : Obligations.ListsAreLoadedRecordByRecord := by
  intro s v count
  constructor
  · intro c list start length low high
    rcases list with ⟨rfl, serves, fits⟩ | ⟨rfl, serves, fits⟩
    · have width := Service.imageWidth_of_tenants serves.2.2
      exact exec_loadList rfl serves (width.symm ▸ fits) (width.symm ▸ by decide) start length low high
    · have width := Service.imageWidth_of_credentials serves.2.2
      exact exec_loadList rfl serves (width.symm ▸ fits) (width.symm ▸ by decide) start length low high
  intro next applied refused first serving at_ stage
  have stage_eq : stage = loadStage count next := by
    funext applied refused first
    cases first <;> rfl
  rw [stage_eq]
  constructor
  · intro kind f
    obtain ⟨t, done, whole, not⟩ := exec_loadRecordApply serving at_ (s.refuses_credProblem f)
      (show (s.putCredential f).slips = s.slips by rw [s.putCredential_eq f]) (applyRecord_of_credentials kind next s)
    refine ⟨t, done, ?_⟩
    cases problem : s.credProblem f with
    | none => exact whole problem
    | some a => exact not a problem
  · intro kind image f items
    have refuses : Refuses (firstProblem [f.problem, listProblem (field 8 1 image) items,
        s.grantProblem (s.grantsOf f.index) items]) := by
      refine refuses_firstProblem ?_
      simp only [List.forall_mem_cons, List.not_mem_nil, false_implies, implies_true, and_true]
      exact ⟨f.refuses_problem, refuses_listProblem _ items, s.refuses_grantProblem _ items⟩
    have slips : ((s.putTenant f).setGrants f.index items).slips = s.slips :=
      (State.setGrants_leavesSlips f.index items (s.putTenant f)).1.trans (by simp)
    obtain ⟨t, done, whole, not⟩ := exec_loadRecordApply serving at_ refuses slips (applyRecord_of_tenants kind next s)
    refine ⟨t, done, ?_⟩
    cases problem : firstProblem [f.problem, listProblem (field 8 1 image) items,
        s.grantProblem (s.grantsOf f.index) items] with
    | none => exact whole problem
    | some a => exact not a problem

end Sys2Proof.Machine
end

section
/-! The clock and the hours (chapter 2): SECOND_EVENT (O30), VISIT_EXTEND (O33), and PROFILE_PUT, HOLIDAY_SET and the windows
(O29). -/

namespace Sys2Proof.Machine

/-! ## SECOND_EVENT (R27, R29) -/

theorem Timer.tick_eq (t : Timer) : t.tick = match t with
    | .stopped => .stopped
    | .due => .due
    | .running n => if n ≤ 1 then .due else .running (n - 1) := by
  cases t <;> rfl

theorem State.portal_second (p : Nat) (s : State) : s.second.portal p = (s.portal p).tick :=
  Table.read_mapValues Portal.tick Portal.blank rfl p s.portals

theorem State.car_second (c : Nat) (s : State) : s.second.car c = (s.car c).tick :=
  Table.read_mapValues Car.tick Car.blank rfl c s.cars

theorem State.line_second (l : Nat) (s : State) : s.second.line l = (s.line l).tick :=
  Table.read_mapValues Line.tick Line.blank rfl l s.lines

/-- Settles O30: every table is ticked record by record. -/
theorem secondEventDrivesTheTimers : Obligations.SecondEventDrivesTheTimers := by
  intro s tick
  have tick_eq : tick = Timer.tick := by
    funext t
    cases t <;> rfl
  rw [tick_eq]
  refine ⟨s.second, rfl, rfl, rfl, fun p => (s.portal_second p).trans ?_, s.car_second, s.line_second, rfl⟩
  rw [Portal.tick]

/-! ## VISIT_EXTEND, and the deadlines (R41, R42, R83) -/

/-- R41: the deadline of a visit created now. -/
theorem State.deadlineFor_eq (staff : Bool) (number : Nat) (s : State) :
    s.deadlineFor staff number = match s.remainingWindow staff number with
      | some r => some (min 4294967295 (s.clock.minute + (if s.settings.maxVisit = 0 then r + s.settings.exitGrace
          else min s.settings.maxVisit (r + s.settings.exitGrace))))
      | none => if s.settings.maxVisit = 0 then none else some (min 4294967295 (s.clock.minute + s.settings.maxVisit)) := by
  unfold State.deadlineFor
  cases s.remainingWindow staff number with
  | some r => rfl
  | none =>
    by_cases unbounded : s.settings.maxVisit = 0
    · simp [unbounded]
    · simp [unbounded, Config.lastMinute]

/-- R42: the warning minute of a deadline set now. -/
theorem State.warningFor_some (d : Nat) (s : State) : s.warningFor (some d) = if s.settings.warnLead = 0 then none
    else some (if d < s.clock.minute + s.settings.warnLead then s.clock.minute else d - s.settings.warnLead) := by
  unfold State.warningFor
  split
  · rfl
  · rw [Option.map_some]
    congr 1
    split <;> omega

/-- R186: a slip that its owner has carried out, to the stage given; the state is named once for its lemmas. -/
theorem exec_serves {c : Instr} {kind : SlipKind} {owner : Service → State → State × Stage} {v : Service} {s u : State}
    {stage : Stage} (runs : exec c s = .next (s.serve kind owner)) (serves : s.Serves kind v)
    (work : owner v s = (u, stage)) (slips : u.slips = s.slips) :
    ∃ t, exec c s = .next t ∧ t = { u with slips := t.slips } ∧ s.ServiceAt v stage t :=
  have ⟨next, at_⟩ := exec_served runs serves work slips
  ⟨_, next, State.finishService_eq _ u, at_⟩

/-- R83: a VISIT_EXTEND for a tenant with a visit. -/
theorem exec_visitExtend {s : State} {v : Service} (serves : s.Serves .visitExtend v) {r : Tenant} {w : Visit}
    (index : v.body 0 2 ≤ 4095) (minutes : 0 < v.body 2 2) (stands : s.tenant (v.body 0 2) = some r)
    (visit : s.visitOf (v.body 0 2) = some w) :
    let deadline := min 4294967295 (s.clock.minute + min 720 (v.body 2 2))
    let warning := s.warningFor (some deadline)
    ∃ t, exec .visitExtend s = .next t ∧
      t = { s with mem := t.mem, bus := t.bus, journal := t.journal, slips := t.slips,
                   register := { s.register with visits := t.register.visits } } ∧
      t.register.visits = s.register.visits.map (fun x => if x.tenant = v.body 0 2 then
        { x with deadline := some deadline, warning := warning, state := .active } else x) ∧
      State.JournalOf (s.log .visitExtend (some w.slot) (some (v.body 0 2)) (bytesOf 4 deadline)) t ∧
      s.Gives v { result := .done, clamped := decide (720 < v.body 2 2), deferred := false, more := false,
                  detail := bytesOf 2 w.slot ++ bytesOf 4 deadline ++ bytesOfOption 4 warning } t := by
  intro deadline warning
  let u := s.updVisit (v.body 0 2) (fun x => { x with deadline := some deadline, warning := warning, state := .active })
  have work : visitExtend v s = (u.log .visitExtend (some w.slot) (some (v.body 0 2)) (bytesOf 4 deadline),
      .served { Answer.done (bytesOf 2 w.slot ++ bytesOf 4 deadline ++ bytesOfOption 4 warning) with
        clamped := 720 < v.body 2 2 }) := by
    rw [visitExtend]
    dsimp only
    rw [if_neg (show ¬ Config.tenants ≤ v.body 0 2 from Nat.not_le.2 (Nat.lt_succ_of_le index)),
      if_neg (Nat.ne_of_gt minutes), stands, visit]
    rfl
  have logged : State.SameJournal (s.log .visitExtend (some w.slot) (some (v.body 0 2)) (bytesOf 4 deadline)) _ :=
    State.SameJournal.log (t := u) (State.SameJournal.refl s) .visitExtend (some w.slot) (some (v.body 0 2)) (bytesOf 4 deadline)
  have frame := State.log_frame .visitExtend (some w.slot) (some (v.body 0 2)) (bytesOf 4 deadline) u
  generalize u.log .visitExtend (some w.slot) (some (v.body 0 2)) (bytesOf 4 deadline) = x at work logged frame
  obtain ⟨t, next, rest, gives⟩ := exec_serves (c := .visitExtend) rfl serves work (by simp [frame, u])
  have whole := State.OnlyJournal.eq frame
  refine ⟨t, next, ?_, ?_, ?_, gives⟩
  · rw [rest, whole]
    rfl
  · rw [rest, whole]
    rfl
  · rw [rest]
    exact logged.1

/-- Settles O33. -/
theorem visitExtendMovesTheDeadline : Obligations.VisitExtendMovesTheDeadline := by
  unfold Obligations.VisitExtendMovesTheDeadline
  dsimp only
  refine ⟨fun s v serves => ⟨fun high => ?_, fun low zero => ?_, fun low minutes absent => ?_,
    fun r w low minutes stands visit => ?_⟩, fun s => ⟨s.deadlineFor_eq, ?_, s.warningFor_some⟩⟩
  · exact exec_refused (c := .visitExtend) rfl serves (if_pos high)
  · refine exec_refused (c := .visitExtend) (owner := visitExtend) rfl serves ?_
    rw [visitExtend]
    dsimp only
    rw [if_neg (show ¬ Config.tenants ≤ v.body 0 2 from Nat.not_le.2 (Nat.lt_succ_of_le low)), if_pos zero]
  · obtain ⟨t, next, rest, gives⟩ := exec_refused (c := .visitExtend) (owner := visitExtend) (a := .notFound 1) rfl serves (by
      rw [visitExtend]
      dsimp only
      rw [if_neg (show ¬ Config.tenants ≤ v.body 0 2 from Nat.not_le.2 (Nat.lt_succ_of_le low)), if_neg (Nat.ne_of_gt minutes)]
      rcases absent with absent | absent
      · rw [absent]
      · rw [absent]
        cases s.tenant (v.body 0 2) <;> rfl)
    exact ⟨t, _, next, rest, gives⟩
  · exact exec_visitExtend serves low minutes stands visit
  · rw [State.warningFor]
    split <;> rfl

end Sys2Proof.Machine
end

section
/-! The hours (chapter 2): PROFILE_PUT and HOLIDAY_SET, the window test and the remaining window (O29). -/

namespace Sys2Proof.Machine

/-! ## PROFILE_PUT and HOLIDAY_SET (R35, R36) -/

theorem Table.read_insert_self {α : Type} (d v : α) (k : Nat) (t : Table α) : Table.read d k (Table.insert k v t) = v := by
  simp [Table.read]

theorem Table.read_insert_ne {α : Type} (d v : α) {k j : Nat} (h : j ≠ k) (t : Table α) :
    Table.read d j (Table.insert k v t) = Table.read d j t := by
  simp [Table.read, Table.find_insert_ne h]

/-- R36: the day joins the list. -/
theorem mem_insertDay {d x : Nat} {days : List Nat} : x ∈ insertDay d days ↔ x = d ∨ x ∈ days := by
  induction days with
  | nil => simp [insertDay]
  | cons e es ih =>
    unfold insertDay
    split
    · simp
    · split
      · next same => simp [same]
      · simp [ih, or_left_comm]

/-- R36: the list stays ascending. -/
theorem pairwise_insertDay {d : Nat} {days : List Nat} (h : days.Pairwise (· < ·)) : (insertDay d days).Pairwise (· < ·) := by
  induction days with
  | nil => simp [insertDay]
  | cons e es ih =>
    obtain ⟨above, rest⟩ := List.pairwise_cons.1 h
    unfold insertDay
    split
    · next before =>
      refine List.pairwise_cons.2 ⟨fun x member => ?_, h⟩
      rcases List.mem_cons.1 member with rfl | member
      · exact before
      · exact before.trans (above x member)
    · split
      · exact h
      · next later other =>
        refine List.pairwise_cons.2 ⟨fun x member => ?_, ih rest⟩
        rcases mem_insertDay.1 member with rfl | member
        · omega
        · exact above x member

theorem mem_sortDays {x : Nat} {days : List Nat} : x ∈ sortDays days ↔ x ∈ days := by
  induction days with
  | nil => simp [sortDays]
  | cons d days ih => simp [sortDays, List.foldr_cons, mem_insertDay, ← ih]

theorem pairwise_sortDays (days : List Nat) : (sortDays days).Pairwise (· < ·) := by
  induction days with
  | nil => simp [sortDays]
  | cons d days ih => exact pairwise_insertDay ih

theorem findIdx?_eq_none_of_forall {α : Type} {p : α → Bool} {xs : List α} (h : ∀ x ∈ xs, p x = false) : xs.findIdx? p = none :=
  List.findIdx?_eq_none_iff.2 h

/-- R35: the profile that a PROFILE_PUT carries. -/
def Service.profile (v : Service) : Profile :=
  { intervals := v.intervals, honours := v.body (2 + 4 * v.body 1 1) 1 == 1 }

/-- R35: a good PROFILE_PUT replaces one profile. -/
theorem exec_profilePut {s : State} {v : Service} (serves : s.Serves .profilePut v) (low : 1 ≤ v.body 0 1)
    (high : v.body 0 1 ≤ 31) (count : v.body 1 1 ≤ 6) (flag : v.body (2 + 4 * v.body 1 1) 1 ≤ 1)
    (range : ∀ i ∈ v.intervals, i.start < 10080 ∧ i.finish < 10080 ∧ i.start ≠ i.finish) :
    ∃ t, exec .profilePut s = .next t ∧ t = { s with profiles := t.profiles, slips := t.slips } ∧
      t.profile (v.body 0 1) = { intervals := v.intervals, honours := v.body (2 + 4 * v.body 1 1) 1 == 1 } ∧
      (∀ j, j ≠ v.body 0 1 → t.profile j = s.profile j) ∧ s.Gives v (.done []) t := by
  have intervals : v.intervals.findIdx? (fun i => !i.ok) = none :=
    findIdx?_eq_none_of_forall fun i member => by
      obtain ⟨start, finish, apart⟩ := range i member
      simp [Interval.ok, Config.weekMinutes, start, finish, apart]
  have good : firstProblem
      [ require (1 ≤ v.body 0 1 && v.body 0 1 ≤ 31) (.badField 1), require (v.body 1 1 ≤ 6) (.badField 2),
        (v.intervals.findIdx? (fun i => !i.ok)).map (fun i => .atPosition .badField 3 i),
        require (flagOk (v.body (2 + 4 * v.body 1 1) 1)) (.badField 4) ] = none := by
    simp [firstProblem_none, low, high, count, flagOk, flag, intervals]
  have work : profilePut v s = ({ s with profiles := Table.insert (v.body 0 1) v.profile s.profiles },
      .served (.done [])) := by
    rw [profilePut, good, checked_none]
    rfl
  obtain ⟨next, gives⟩ := exec_served (c := .profilePut) rfl serves work rfl
  exact ⟨_, next, rfl, Table.read_insert_self _ _ _ _, fun j other => Table.read_insert_ne _ _ other _, gives⟩

/-- R203: the items of a list in a slip's body. -/
theorem Service.items_eq (a width n : Nat) (v : Service) :
    (List.range n).map (fun i => v.body (a + width * i) width) = itemsAt (32 + a) width n v.copy :=
  List.map_congr_left fun i _ => by rw [Service.body, Nat.add_assoc]

/-- R36: a good HOLIDAY_SET sorts the days. -/
theorem exec_holidaySet {s : State} {v : Service} (serves : s.Serves .holidaySet v) (count : v.body 0 1 ≤ 24)
    (range : ∀ d ∈ itemsAt 33 3 (v.body 0 1) v.copy, d ≤ 2982616) :
    ∃ t, exec .holidaySet s = .next t ∧ t = { s with holidays := t.holidays, slips := t.slips } ∧
      t.holidays.Pairwise (· < ·) ∧ (∀ d, d ∈ t.holidays ↔ d ∈ itemsAt 33 3 (v.body 0 1) v.copy) ∧
      s.Gives v (.done (bytesOf 1 t.holidays.length)) t := by
  have days : (itemsAt 33 3 (v.body 0 1) v.copy).findIdx? (fun d => Config.lastDay < d) = none :=
    findIdx?_eq_none_of_forall fun d member => decide_eq_false (Nat.not_lt.2 (range d member))
  have good : firstProblem
      [ require (v.body 0 1 ≤ 24) (.badField 1),
        ((itemsAt 33 3 (v.body 0 1) v.copy).findIdx? (fun d => Config.lastDay < d)).map
          (fun i => .atPosition .badField 2 i) ] = none := by
    simp [firstProblem_none, count, days]
  have work : holidaySet v s = ({ s with holidays := sortDays (itemsAt 33 3 (v.body 0 1) v.copy) },
      .served (.done (bytesOf 1 (sortDays (itemsAt 33 3 (v.body 0 1) v.copy)).length))) := by
    rw [holidaySet, good, checked_none]
  obtain ⟨next, gives⟩ := exec_served (c := .holidaySet) rfl serves work rfl
  exact ⟨_, next, rfl, pairwise_sortDays _, fun d => mem_sortDays, gives⟩

/-! ## The window test and the remaining window (R37 to R40) -/

theorem Interval.contains_iff (i : Interval) (m : Nat) : i.contains m = true ↔
    (i.start < i.finish ∧ i.start ≤ m ∧ m < i.finish) ∨ (i.finish < i.start ∧ (i.start ≤ m ∨ m < i.finish)) := by
  unfold Interval.contains
  split
  · next ascending => simp [ascending, Nat.lt_asymm ascending]
  · next other => simp [other]

/-- R38, R39: the longest interval at a minute of the week. -/
theorem longestFrom_eq_some {m d : Nat} {intervals : List Interval} :
    longestFrom m intervals = some d ↔ FarthestEnd intervals m d := by
  simp only [longestFrom, List.max?_eq_some_iff, List.mem_map, List.mem_filter, FarthestEnd, weekDist,
    Config.weekMinutes]
  grind

theorem longestFrom_eq_none {m : Nat} {intervals : List Interval} :
    longestFrom m intervals = none ↔ ¬ ∃ i ∈ intervals, i.contains m = true := by
  simp [longestFrom]

/-- R39: the window followed one interval further, where one contains its end. -/
def windowStep (intervals : List Interval) (m r : Nat) : Nat :=
  r + (longestFrom ((m + r) % 10080) intervals).getD 0

/-- R39: a window that no interval carries further stays. -/
theorem followWindow_eq_iterate (intervals : List Interval) (m k r : Nat) :
    followWindow intervals m k r = (windowStep intervals m)^[k] r := by
  induction k generalizing r with
  | zero => rfl
  | succ k ih =>
    rw [Function.iterate_succ_apply, followWindow]
    cases found : longestFrom ((m + r) % Config.weekMinutes) intervals with
    | some d =>
      have step : windowStep intervals m r = r + d := by rw [windowStep, show (10080 : Nat) = Config.weekMinutes from rfl, found]; rfl
      rw [step]
      exact ih (r + d)
    | none =>
      have step : windowStep intervals m r = r := by rw [windowStep, show (10080 : Nat) = Config.weekMinutes from rfl, found]; rfl
      rw [step, Function.iterate_fixed step]

/-- R37: the window test. -/
theorem State.windowTest_iff (number : Nat) (s : State) : s.windowTest number = true ↔ number = 0 ∨
    (s.clock.isSet = true ∧ (∃ i ∈ (s.profile number).intervals, i.contains s.clock.mow = true) ∧
      ¬ ((s.profile number).honours = true ∧ s.clock.today ∈ s.holidays)) := by
  unfold State.windowTest
  by_cases zero : number = 0
  · simp [zero]
  · simp [zero, State.closedToday, and_assoc]
    grind

/-- R38 to R40: the remaining window where the hours are open. -/
theorem State.remainingWindow_of_open {number : Nat} {s : State} (nonzero : number ≠ 0) (set : s.clock.isSet = true)
    (no_holiday : s.closedToday (s.profile number) = false) {first : Nat}
    (found : longestFrom s.clock.mow (s.profile number).intervals = some first) :
    s.remainingWindow false number =
      let r := (windowStep (s.profile number).intervals s.clock.mow)^[6] first
      if 10080 ≤ r then none else some (s.capAtHoliday (s.profile number) r) := by
  unfold State.remainingWindow
  simp only [Bool.false_or, beq_iff_eq, if_neg nonzero, set, no_holiday, found, followWindow_eq_iterate]
  rfl

/-- R38: no window is left where the hours are not open. -/
theorem State.remainingWindow_of_closed {number : Nat} {s : State} (nonzero : number ≠ 0)
    (closed : s.clock.isSet = false ∨ s.closedToday (s.profile number) = true ∨
      longestFrom s.clock.mow (s.profile number).intervals = none) : s.remainingWindow false number = some 0 := by
  unfold State.remainingWindow
  rcases closed with unset | holiday | outside
  · simp [nonzero, unset]
  · cases s.clock.isSet <;> simp [nonzero, holiday]
  · cases s.clock.isSet <;> simp [nonzero, outside]

theorem State.closedToday_iff (p : Profile) (s : State) :
    s.closedToday p = true ↔ p.honours = true ∧ s.clock.today ∈ s.holidays := by
  simp [State.closedToday]

/-- R38 to R40: the remaining window, by the hours of the moment. -/
theorem State.remainingWindow_spec (number : Nat) (s : State) (nonzero : number ≠ 0) (set : s.clock.isSet = true)
    (no_holiday : ¬ ((s.profile number).honours = true ∧ s.clock.today ∈ s.holidays))
    (inside : ∃ i ∈ (s.profile number).intervals, i.contains s.clock.mow = true) :
    ∃ w : Nat → Nat, FarthestEnd (s.profile number).intervals s.clock.mow (w 0) ∧
      (∀ k < 6, (w k ≤ w (k + 1) ∧
          FarthestEnd (s.profile number).intervals ((s.clock.mow + w k) % 10080) (w (k + 1) - w k)) ∨
        (¬ (∃ i ∈ (s.profile number).intervals, i.contains ((s.clock.mow + w k) % 10080) = true) ∧ w (k + 1) = w k)) ∧
      s.remainingWindow false number = if 10080 ≤ w 6 then none else some (s.capAtHoliday (s.profile number) (w 6)) := by
  let intervals := (s.profile number).intervals
  obtain ⟨first, found⟩ : ∃ first, longestFrom s.clock.mow intervals = some first := by
    cases found : longestFrom s.clock.mow intervals with
    | none => exact absurd inside (longestFrom_eq_none.1 found)
    | some first => exact ⟨first, rfl⟩
  have open_ : s.closedToday (s.profile number) = false :=
    Bool.eq_false_iff.2 fun closed => no_holiday ((s.closedToday_iff _).1 closed)
  refine ⟨fun k => (windowStep intervals s.clock.mow)^[k] first, longestFrom_eq_some.1 found, fun k _ => ?_,
    State.remainingWindow_of_open nonzero set open_ found⟩
  dsimp only
  rw [Function.iterate_succ_apply']
  generalize (windowStep intervals s.clock.mow)^[k] first = r
  cases further : longestFrom ((s.clock.mow + r) % 10080) intervals with
  | some d =>
    have step : windowStep intervals s.clock.mow r = r + d := by rw [windowStep, further]; rfl
    rw [step, Nat.add_sub_cancel_left]
    exact .inl ⟨Nat.le_add_right r d, longestFrom_eq_some.1 further⟩
  | none =>
    have step : windowStep intervals s.clock.mow r = r := by rw [windowStep, further]; rfl
    exact .inr ⟨longestFrom_eq_none.1 further, step⟩

/-- Settles O29. -/
theorem profileAndHolidaySlips : Obligations.ProfileAndHolidaySlips := by
  refine ⟨fun s v => ⟨?_, ?_⟩, ?_⟩
  · exact fun serves low high count flag range => exec_profilePut serves low high count flag range
  · rw [Service.items_eq]
    exact fun serves count range => exec_holidaySet serves count range
  intro s number profile today mow inside holiday
  have inside_iff (m : Nat) : inside m ↔ ∃ i ∈ profile.intervals, i.contains m = true :=
    exists_congr fun i => and_congr_right fun _ => (i.contains_iff m).symm
  refine ⟨?_, fun staff => ⟨fun unbounded => ?_, fun tenant nonzero closed => ?_, fun tenant nonzero set no_holiday now => ?_⟩⟩
  · rw [inside_iff]
    exact s.windowTest_iff number
  · rcases unbounded with rfl | rfl <;> simp [State.remainingWindow]
  · subst tenant
    refine State.remainingWindow_of_closed nonzero (closed.imp_right fun h => h.imp (fun h => ?_) fun h => ?_)
    · exact (s.closedToday_iff _).2 h
    · exact longestFrom_eq_none.2 (h ∘ (inside_iff _).2)
  · subst tenant
    obtain ⟨w, starts, follows, ends⟩ := s.remainingWindow_spec number nonzero set no_holiday ((inside_iff _).1 now)
    exact ⟨w, starts, fun k small => (follows k small).imp_right fun ⟨ended, stays⟩ => ⟨ended ∘ (inside_iff _).1, stays⟩, ends⟩

end Sys2Proof.Machine
end

section
/-! Cycles and frames of the reader lines (chapter 8): O48 and O49. -/

namespace Sys2Proof.Machine

/-! ## Cycles (R154, R155) -/

/-- R154: a line as its next cycle starts. -/
def State.cycled (l : Nat) (s : State) (r : Line) : Line :=
  { r with
    cycle := (r.cycle + 1) % 8
    due := (s.lineAddresses l).filter (fun a =>
      (s.node ⟨l, a⟩).any (fun n => n.state != .offline || (r.cycle + 1) % 8 == 0)) }

theorem State.line_nextCycle_self (l : Nat) (s : State) : (s.nextCycle l).line l = s.cycled l (s.line l) :=
  State.line_updLine_self l _ s

theorem State.line_nextCycle_ne {l m : Nat} (h : m ≠ l) (s : State) : (s.nextCycle l).line m = s.line m :=
  State.line_updLine_ne h _ s

/-- R155: what the end of an exchange makes of the line. -/
theorem State.line_endExchange_self (l : Nat) (s : State) : (s.endExchange l).line l =
    if (s.line l).due = [] then s.cycled l { s.line l with exchange := .idle } else { s.line l with exchange := .idle } := by
  have idle : (s.updLine l (fun r => { r with exchange := .idle })).line l = { s.line l with exchange := .idle } :=
    State.line_updLine_self l _ s
  unfold State.endExchange
  dsimp only
  rw [idle]
  split
  · rw [State.line_nextCycle_self, idle]
    rfl
  · exact idle

theorem State.line_endExchange_ne {l m : Nat} (h : m ≠ l) (s : State) : (s.endExchange l).line m = s.line m := by
  unfold State.endExchange
  dsimp only
  split
  · rw [State.line_nextCycle_ne h, State.line_updLine_ne h]
  · exact State.line_updLine_ne h _ s

theorem State.OnlyLines.eq {s t : State} (h : s.OnlyLines t) : t = { s with lines := t.lines } := by
  cases t; cases s; simp_all [State.OnlyLines]

/-- Settles O48. -/
theorem linesPollInCycles : Obligations.LinesPollInCycles := by
  intro s l running next
  refine ⟨fun a rest n g idle due node record => ?_, fun idle due => ?_, fun waits => ?_⟩
  · have sends : s.sendPoll l = s.setLine l { s.line l with due := rest, exchange := .polled a g.rate (n.poll a) } := by
      simp [State.sendPoll, running, idle, due, node, record]
    exact ⟨_, congrArg Host.Outcome.next sends, rfl, fun m other => State.line_setLine_ne other _ s,
      State.line_setLine_self l _ s⟩
  · have starts : s.idleCycleEnd l = s.nextCycle l := if_pos ⟨running, idle, due⟩
    exact ⟨_, congrArg Host.Outcome.next starts, rfl, fun m other => State.line_nextCycle_ne other s,
      s.line_nextCycle_self l⟩
  · have ends : s.quietWaitEnd l = s.endExchange l := if_pos ⟨running, waits⟩
    exact ⟨_, congrArg Host.Outcome.next ends, (s.endExchange_frame l).eq, fun m other => State.line_endExchange_ne other s,
      s.line_endExchange_self l⟩

/-! ## Polls (R151, R152, R209) -/

theorem foldl_add_eq (bs : List Byte) (acc : Byte) : bs.foldl (fun acc b => acc + b) acc = acc + bs.foldl (fun acc b => acc + b) 0 := by
  induction bs generalizing acc with
  | nil => simp
  | cons b bs ih => rw [List.foldl_cons, List.foldl_cons, ih, ih (0 + b)]; simp [BitVec.add_assoc]

/-- R153: a frame with its check character sums to 0. -/
theorem sum_checked (bs : List Byte) : (bs ++ [checkByte bs]).foldl (fun acc b => acc + b) 0 = 0#8 := by
  rw [List.foldl_append, checkByte]
  simp

theorem map_data_sentFrame (bs : List Byte) : (sentFrame bs).map (fun c => c.data) = bs := by
  cases bs <;> simp [sentFrame, Function.comp_def]

/-- R151: the first character alone is marked. -/
theorem getElem?_sentFrame (bs : List Byte) (i : Nat) :
    (sentFrame bs)[i]? = bs[i]?.map (fun b => { data := b, mark := decide (i = 0), stopOk := true }) := by
  cases bs with
  | nil => rfl
  | cons b bs => cases i <;> simp [sentFrame]

/-- R152, R209: the data bytes of a poll before its check character, by the node's kind. -/
theorem Node.pollBody_eq (a : Nat) (n : Node) : ∃ payload,
    n.pollBody a = [BitVec.ofNat 8 a, BitVec.ofNat 8 (n.pollBody a).length.succ] ++ payload ∧
      payload.length + 3 = (match n.kind with | .portal => 11 | .car => 8 | .unit => 5) ∧
      payload = (match n.kind with
        | .portal => [0] ++ tagByte n.tagA ++ tagByte n.tagB ++ bytesOf 1 (n.lock.code + 2 * n.polarity.code) ++
            n.verdictA.bytes ++ n.verdictB.bytes
        | .car => [1] ++ tagByte n.tagCar ++ bytesOf 2 n.floors.toNat ++ flagByte n.recallOn
        | .unit => [2, 15]) := by
  have verdict (v : LastVerdict) : v.bytes.length = 2 := by cases v <;> rfl
  have width : (n.pollBody a).length.succ = match n.kind with | .portal => 11 | .car => 8 | .unit => 5 := by
    unfold Node.pollBody
    cases n.kind <;> simp [tagByte, flagByte, verdict]
  rw [width]
  unfold Node.pollBody
  cases n.kind with
  | portal => exact ⟨_, rfl, by simp [tagByte, verdict], rfl⟩
  | car => exact ⟨_, rfl, by simp [tagByte, flagByte], rfl⟩
  | unit => exact ⟨_, rfl, rfl, rfl⟩

theorem Node.map_data_poll (a : Nat) (n : Node) : (n.poll a).map (fun c => c.data) = n.pollBody a ++ [checkByte (n.pollBody a)] :=
  map_data_sentFrame _

theorem Node.length_poll (a : Nat) (n : Node) : (n.poll a).length = (n.pollBody a).length + 1 := by
  rw [← List.length_map (f := fun c : LineChar => c.data), Node.map_data_poll]
  simp

/-- R209: a verdict's two characters. -/
theorem LastVerdict.bytes_eq (v : LastVerdict) : v.bytes = match v with
    | .none => [0, 0xFF]
    | .pending => [1, 0xFF]
    | .given d => [if d.isGrant then 2 else 3, BitVec.ofNat 8 d.code] := by
  cases v with
  | none => rfl
  | pending => rfl
  | given d =>
    cases grant : d.isGrant <;> simp [LastVerdict.bytes, bytesOf_one, grant]

/-- R209: the lock and polarity character. -/
theorem lockByte_eq (lock : LockCommand) (polarity : Polarity) : bytesOf 1 (lock.code + 2 * polarity.code) =
    [(if lock = .released then 1 else 0) + (if polarity = .powerToRelease then 2 else 0)] := by
  cases lock <;> cases polarity <;> rfl

/-- R209: the two floor characters. -/
theorem floorBytes_eq (floors : Word) :
    bytesOf 2 floors.toNat = [BitVec.ofNat 8 (floors.toNat % 256), BitVec.ofNat 8 (floors.toNat / 256)] := by
  rw [bytesOf_two, show BitVec.ofNat 8 (floors.toNat % 256) = BitVec.ofNat 8 floors.toNat from by
    apply BitVec.eq_of_toNat_eq; simp]

theorem flagByte_eq (b : Bool) : flagByte b = [if b then 1 else 0] := by
  cases b <;> rfl

/-! ## Replies (R153, R155, R156) -/

theorem framingError_eq_false (c : LineChar) : framingError c = false ↔ c.stopOk = true ∧ c.mark = false := by
  cases h : c.stopOk <;> simp [framingError, h]

/-- R155, R156: what is left of a good reply behind its second character. -/
theorem judgeRest_eq_none (kind : NodeKind) (bytes : List Byte) (left : Nat) (cs : List LineChar) :
    judgeRest kind bytes left cs = none ↔ cs.length = left ∧ (∀ x ∈ cs, x.stopOk = true ∧ x.mark = false) ∧
      bytes.foldl (fun acc b => acc + b) 0 = 0#8 ∧ contentOk kind bytes = true := by
  induction left generalizing cs with
  | zero =>
    cases cs with
    | nil =>
      rw [judgeRest]
      by_cases sum : bytes.foldl (fun acc b => acc + b) 0 = 0
      · cases content : contentOk kind bytes <;> simp_all
      · rw [if_pos sum]
        simp only [reduceCtorEq, false_iff]
        exact fun ⟨_, _, zero, _⟩ => sum zero
    | cons c cs => simp [judgeRest]
  | succ left ih =>
    cases cs with
    | nil => simp [judgeRest]
    | cons c cs =>
      rw [judgeRest]
      cases bad : framingError c with
      | true =>
        have framed := (framingError_eq_false c).not.1 (by simp [bad])
        simp only [if_true, reduceCtorEq, List.mem_cons, forall_eq_or_imp, false_iff]
        exact fun ⟨_, ⟨clean, _⟩, _⟩ => framed clean
      | false =>
        have clean := (framingError_eq_false c).1 bad
        simp [ih, clean]

theorem NodeKind.lengthOk_iff (kind : NodeKind) (n : Nat) :
    kind.lengthOk n = true ↔ if kind = .unit then n = 8 else n = 4 ∨ n = 13 := by
  cases kind <;> simp [NodeKind.lengthOk]

/-- R155, R156: a reply is good. -/
theorem judge_eq_none (kind : NodeKind) (a : Nat) (frame : List LineChar) : judge kind a frame = none ↔
    ∃ c n rest, frame = c :: n :: rest ∧ (∀ x ∈ frame, x.stopOk = true) ∧ c.mark = true ∧ c.data.toNat = a ∧
      (∀ x ∈ n :: rest, x.mark = false) ∧ n.data.toNat = frame.length ∧
      (if kind = .unit then frame.length = 8 else frame.length = 4 ∨ frame.length = 13) ∧
      (frame.map (fun x => x.data)).foldl (fun acc b => acc + b) 0 = 0#8 ∧
      contentOk kind (frame.map (fun x => x.data)) = true := by
  rcases frame with _ | ⟨c, _ | ⟨n, rest⟩⟩
  · simp [judge]
  · simp only [judge]
    split <;> (try split) <;> simp
  generalize bytes_eq : (c :: n :: rest).map (fun x : LineChar => x.data) = bytes
  have judged : judge kind a (c :: n :: rest) = none ↔ c.stopOk = true ∧ (c.mark = true ∧ c.data.toNat = a) ∧
      framingError n = false ∧ kind.lengthOk n.data.toNat = true ∧
      judgeRest kind bytes (n.data.toNat - 2) rest = none := by
    rw [judge, bytes_eq]
    cases c.stopOk
    · simp
    cases c.mark
    · simp
    by_cases address : c.data.toNat = a
    · cases framingError n
      · cases kind.lengthOk n.data.toNat <;> simp [address]
      · simp [address]
    · simp [address]
  rw [judged, framingError_eq_false, judgeRest_eq_none, NodeKind.lengthOk_iff]
  constructor
  · rintro ⟨stop, ⟨mark, address⟩, ⟨stop', mark'⟩, length, left, clean, sum, content⟩
    have long : 2 ≤ n.data.toNat := by split at length <;> omega
    have counted : n.data.toNat = (c :: n :: rest).length := by simp [left]; omega
    refine ⟨c, n, rest, rfl, ?_, mark, address, ?_, counted, counted ▸ length, sum, content⟩
    · simp only [List.forall_mem_cons]
      exact ⟨stop, stop', fun x member => (clean x member).1⟩
    · simp only [List.forall_mem_cons]
      exact ⟨mark', fun x member => (clean x member).2⟩
  · rintro ⟨c', n', rest', same, stops, mark, address, marks, counted, length, sum, content⟩
    cases same
    simp only [List.forall_mem_cons] at stops marks
    obtain ⟨stop, stop', stops⟩ := stops
    obtain ⟨mark', marks⟩ := marks
    refine ⟨stop, ⟨mark, address⟩, ⟨stop', mark'⟩, counted.symm ▸ length, ?_, fun x member => ⟨stops x member, marks x member⟩,
      sum, content⟩
    simp [counted]

/-! ## What a channel hands to its node (R110, R140) -/

theorem State.lockCommand_eq (r : Portal) (c : PortalConfig) (s : State) :
    s.lockCommand r c = (s.withCommandOf c r).command := by
  unfold State.lockCommand State.withCommandOf State.overridden
  by_cases evacuate : s.mode.mode = .evacuate ∧ c.egress = true
  · simp [evacuate]
  · have over_ : (s.mode.mode == .evacuate && c.egress) = false := by simpa using evacuate
    rw [over_]
    simp only [evacuate, if_false, Bool.false_eq_true]
    cases r.state <;> cases c.polarity <;> rfl

theorem State.node_handLock_self {p : Nat} {c : PortalConfig} {s : State} (config : (s.portal p).config = some c) :
    (s.handLock p).node c.node = (s.node c.node).map
      (fun n => { n with lock := (s.withCommandOf c (s.portal p)).command, polarity := c.polarity }) := by
  rw [← State.lockCommand_eq]
  simp only [State.handLock, config]
  exact State.node_updNode_self c.node _ _

theorem State.handFloors_eq {i : Nat} {g : CarConfig} {s : State} (config : (s.car i).config = some g) :
    s.handFloors i = s.updNode g.node (Node.sentFloors s.mode.mode g (s.car i).releases) := by
  rw [State.handFloors, config]
  simp only [State.CarBut.floorOutput_eq]

theorem State.node_handFloors_self {i : Nat} {g : CarConfig} {s : State} (config : (s.car i).config = some g) :
    (s.handFloors i).node g.node = (s.node g.node).map (Node.sentFloors s.mode.mode g (s.car i).releases) := by
  rw [State.handFloors_eq config, State.node_updNode_self]

/-- Settles O49. -/
theorem framesAreWellFormed : Obligations.FramesAreWellFormed := by
  refine ⟨fun n a small => ?_, fun s p c n config node => ?_, fun s i g n config node => ?_, judge_eq_none⟩
  · obtain ⟨payload, body, width, carries⟩ := n.pollBody_eq a
    have length : (n.poll a).length = match n.kind with | .portal => 11 | .car => 8 | .unit => 5 := by
      rw [← width, n.length_poll, body]
      simp
    have chars (i : Nat) : (n.poll a)[i]? = (n.pollBody a ++ [checkByte (n.pollBody a)])[i]?.map
        (fun b => { data := b, mark := decide (i = 0), stopOk := true }) := getElem?_sentFrame _ i
    refine ⟨?_, ?_, ?_, length, ?_, fun i c found => ?_⟩
    · rw [n.map_data_poll, sum_checked]
    · rw [chars, body]
      rfl
    · rw [chars, n.length_poll]
      conv_lhs => rw [body]
      rfl
    · intro tag head lock
      have dropped : (((n.poll a).map (fun c => c.data)).drop 2).dropLast = payload := by
        rw [n.map_data_poll]
        conv_lhs => rw [body]
        simp
      rw [dropped, carries]
      cases n.kind with
      | portal =>
        dsimp only
        rw [lockByte_eq]
        simp only [tagByte, bytesOf_one, LastVerdict.bytes_eq]
        rfl
      | car => simp only [tagByte, bytesOf_one, floorBytes_eq, flagByte_eq]; rfl
      | unit => rfl
    · rw [chars] at found
      obtain ⟨b, -, rfl⟩ := Option.map_eq_some_iff.1 found
      exact ⟨rfl, rfl⟩
  · rw [State.node_handLock_self config, node]
    rfl
  · rw [State.node_handFloors_self config, node]
    rfl

end Sys2Proof.Machine
end

section
/-! The ruling on a read (chapter 3): portal heads and car heads, step by step (O53, O54). -/

namespace Sys2Proof.Machine

/-! ## Steps in their order (sections 3.3 and 3.4) -/

theorem firstDenial_nil : firstDenial [] = none := rfl

/-- A step that denies gives the verdict, or the later steps do. -/
theorem getD_firstDenial_cons (step : Option Verdict) (steps : List (Option Verdict)) (v : Verdict) :
    (firstDenial (step :: steps)).getD v = step.getD ((firstDenial steps).getD v) := by
  cases step <;> rfl

theorem getD_denyIf (fails : Bool) (v w : Verdict) : (denyIf fails v).getD w = if fails = true then v else w := by
  cases fails <;> rfl

/-- R50: the credential and the tenant. -/
theorem State.getD_credentialDenial (cr : Credential) (x : Tenant) (w : Verdict) (s : State) :
    (s.credentialDenial cr x).getD w =
      if cr.state = .suspended then .credentialSuspended
      else if s.clock.isSet = true ∧ cr.expiry.any (fun d => d < s.clock.minute / 1440) = true then .credentialExpired
      else if x.state = .blocked then .tenantBlocked else w := by
  simp only [State.credentialDenial, getD_firstDenial_cons, getD_denyIf, firstDenial_nil, Option.getD_none, beq_iff_eq,
    Bool.and_eq_true]
  rfl

/-- R50: no step on credential and tenant denies. -/
theorem State.credentialDenial_eq_none (cr : Credential) (x : Tenant) (s : State) :
    s.credentialDenial cr x = none ↔ cr.state ≠ .suspended ∧ x.state ≠ .blocked ∧
      ¬ (s.clock.isSet = true ∧ cr.expiry.any (fun d => d < s.clock.minute / 1440) = true) := by
  simp only [State.credentialDenial, firstDenial, List.findSome?_eq_none_iff, List.forall_mem_cons, List.not_mem_nil,
    false_implies, implies_true, and_true, id, denyIf]
  by_cases suspended : cr.state = .suspended <;> by_cases blocked : x.state = .blocked <;>
    simp only [suspended, blocked, beq_self_eq_true, if_true, reduceCtorEq, false_and, and_false, ne_eq, not_true,
      not_false_iff, true_and, and_true, beq_iff_eq, if_false, Bool.and_eq_true, ite_eq_right_iff, imp_false]
  exact Iff.rfl

/-- R7: a standing is given where the clock is SET. -/
theorem State.standing_eq_none {paid : Option Nat} {s : State} : s.standing paid = none ↔ s.clock.isSet = false := by
  refine ⟨fun absent => ?_, fun unset => State.standing_of_clock_unset unset paid⟩
  cases set : s.clock.isSet with
  | false => rfl
  | true =>
    cases paid with
    | none => rw [State.standing_of_absent_day set] at absent; cases absent
    | some p => rw [State.standing_of_day set] at absent; cases absent

/-- R7, R53: the standing of a tenant, by the clock. -/
theorem State.getD_standingDenial (x : Tenant) (w : Verdict) (s : State) :
    (s.standingDenial x).getD w =
      if s.clock.isSet = false then .clockUnset else if s.standing x.paid = some .lockedOut then .lockedOut else w := by
  unfold State.standingDenial
  cases set : s.clock.isSet with
  | false => simp [State.standing_of_clock_unset set]
  | true =>
    cases standing : s.standing x.paid with
    | none => exact absurd (State.standing_eq_none.1 standing) (by simp [set])
    | some st => simp [getD_denyIf]

/-- R8: the zones permitted by the standing. -/
theorem State.getLsbD_permitted (x : Tenant) (z : Nat) (s : State) :
    inSet z (s.permitted x ((s.standing x.paid).getD .lockedOut)) = (match s.standing x.paid with
      | some .current | some .grace => x.mask.getLsbD z
      | some .overdue => z < 16 && (s.zone z).common
      | _ => false) := by
  cases s.standing x.paid with
  | none => simp [State.permitted, inSet]
  | some st =>
    cases st with
    | current => rfl
    | grace => rfl
    | overdue =>
      by_cases small : z < 16
      · show s.commonZones.getLsbD z = (Decidable.decide (z < 16) && (s.zone z).common)
        rw [State.getLsbD_commonZones small]
        simp [small]
      · simp [State.permitted, inSet, small, BitVec.getLsbD_of_ge _ z (Nat.le_of_not_lt small)]
    | lockedOut => simp [State.permitted, inSet]

/-! ## Portal heads (R51 to R58) -/

/-- R52: the site mode. -/
theorem State.getD_modeDenial (h : Head) (x : Tenant) (w : Verdict) (s : State) :
    (s.modeDenial h x).getD w =
      if h.isEntry = true ∧ s.mode.mode = .evacuate then .evacuation
      else if h.isEntry = true ∧ s.mode.mode = .lockdown ∧ x.staff = false then .lockdown else w := by
  unfold State.modeDenial
  cases s.mode.mode <;> simp [getD_denyIf]

/-- R53: standing, hours and zone at an ENTRY head. -/
theorem State.getD_entryDenial (h : Head) (target : Nat) (x : Tenant) (w : Verdict) (s : State) :
    (s.entryDenial h target x).getD w =
      if h.isEntry = true ∧ x.staff = false ∧ s.clock.isSet = false then .clockUnset
      else if h.isEntry = true ∧ x.staff = false ∧ s.standing x.paid = some .lockedOut then .lockedOut
      else if h.isEntry = true ∧ x.staff = false ∧ s.windowTest x.profile = false then .outsideHours
      else if h.isEntry = true ∧ x.staff = false ∧
        inSet target (s.permitted x ((s.standing x.paid).getD .lockedOut)) = false then .zoneNotPermitted else w := by
  unfold State.entryDenial
  by_cases tested : h.isEntry = true ∧ x.staff = false
  · simp [tested, getD_firstDenial_cons, State.getD_standingDenial, State.hoursDenial, getD_denyIf, firstDenial_nil]
  · have skipped : (h.isEntry && !x.staff) = false := by simpa using tested
    simp only [skipped, ← and_assoc, tested, false_and, if_false, Bool.false_eq_true, Option.getD_none]

/-- R54: passback. -/
theorem getD_passbackDenial (visit : Option Visit) (origin : Nat) (c : PortalConfig) (x : Tenant) (w : Verdict) :
    (passbackDenial visit origin c x).getD w =
      if c.passback = .strict ∧ x.staff = false ∧ (!mismatch visit origin) = false then
        if visit.isSome then .passback else .notOnSite
      else w := by
  rw [passbackDenial, getD_denyIf]
  cases mismatch visit origin <;> simp

/-- R56: the zone limit. -/
theorem State.getD_zoneDenial (h : Head) (visit : Option Visit) (target party : Nat) (x : Tenant) (w : Verdict) (s : State) :
    (s.zoneDenial h visit target party x).getD w =
      if target ≠ 0 ∧ x.staff = false ∧ visit.any (fun w => w.zone == target) = false ∧
          ¬ (s.mode.mode = .evacuate ∧ h.isEntry = false) ∧
          (s.zone target).limit < (s.zone target).count + (s.zone target).reserved + party then .zoneFull else w := by
  rw [State.zoneDenial, getD_denyIf]
  simp [and_assoc, Decidable.imp_iff_not_or]

/-- R56: room in the register. -/
theorem State.getD_registerDenial (visit : Option Visit) (target : Nat) (w : Verdict) (s : State) :
    (s.registerDenial (passageKind visit target)).getD w =
      if target ≠ 0 ∧ visit = none ∧ 512 ≤ s.register.visits.length + s.register.creating then .registerFull else w := by
  rw [State.registerDenial, getD_denyIf, passageKind]
  by_cases outside : target = 0
  · simp [outside]
  · cases visit with
    | none =>
      simp only [outside, if_false, Option.isSome_none, Bool.false_eq_true, beq_self_eq_true, Bool.true_and, ne_eq,
        not_false_iff, true_and, decide_eq_true_eq]
      rfl
    | some w => simp [outside]

/-- R57: the portal's state and list. -/
theorem Portal.getD_denial (r : Portal) (w : Verdict) : r.denial.getD w =
    if r.state.inService = false then .portalFault else if 2 ≤ r.passages.length then .portalBusy else w := by
  unfold Portal.denial
  cases r.state.inService <;> simp [getD_denyIf]

theorem mismatch_eq (visit : Option Visit) (origin : Nat) : (!mismatch visit origin) = (match visit with
    | some w => w.zone == origin
    | none => origin == 0) := by
  cases visit <;> simp [mismatch, bne]

/-- R58: the verdict of a read that no step on credential, tenant and link decides. -/
theorem State.verdict_of_free {p : Nat} {r : Read} {c : PortalConfig} {cr : Credential} {x : Tenant} {s : State}
    (passes : s.credentialDenial cr x = none) (free : s.transitAt p r.head cr.tenant x = .free) :
    (s.portalRuling p r c cr x).verdict = (s.laterDenial p r c cr.tenant x).getD
      (grantForm x (mismatch (s.visitOf cr.tenant) (c.origin r.head))) := by
  rw [State.portalRuling, passes, free]
  cases s.laterDenial p r c cr.tenant x <;> rfl

/-- R50, R51: the verdict of a read whose credential, tenant or link decides. -/
theorem State.verdict_portalRuling (p : Nat) (r : Read) (c : PortalConfig) (cr : Credential) (x : Tenant) (s : State) :
    (s.portalRuling p r c cr x).verdict = (s.credentialDenial cr x).getD (match s.transitAt p r.head cr.tenant x with
      | .elsewhere => .inTransit
      | .again => .grant
      | .free => (s.laterDenial p r c cr.tenant x).getD
          (grantForm x (mismatch (s.visitOf cr.tenant) (c.origin r.head)))) := by
  cases passes : s.credentialDenial cr x with
  | some v => rw [State.portalRuling, passes]; rfl
  | none =>
    cases link : s.transitAt p r.head cr.tenant x with
    | free => exact State.verdict_of_free passes link
    | again => rw [State.portalRuling, passes, link]; rfl
    | elsewhere => rw [State.portalRuling, passes, link]; rfl

/-- R51: a repeat grant. -/
theorem State.portalRuling_eq_again (p : Nat) (r : Read) (c : PortalConfig) (cr : Credential) (x : Tenant) (s : State) :
    s.portalRuling p r c cr x = .again ↔ s.credentialDenial cr x = none ∧ x.transit = some p ∧
      (s.portal p).passages.any (fun g => g.tenant == cr.tenant && g.head == r.head) = true := by
  have link : s.transitAt p r.head cr.tenant x = .again ↔ x.transit = some p ∧
      (s.portal p).passages.any (fun g => g.tenant == cr.tenant && g.head == r.head) = true := by
    unfold State.transitAt
    cases x.transit with
    | none => simp
    | some q =>
      by_cases here : q = p ∧ (s.portal p).passages.any (fun g => g.tenant == cr.tenant && g.head == r.head) = true
      · simp [here]
      · simp
  rw [← link, State.portalRuling]
  cases s.credentialDenial cr x with
  | some v => simp
  | none =>
    cases s.transitAt p r.head cr.tenant x with
    | free => cases s.laterDenial p r c cr.tenant x <;> simp
    | again => simp
    | elsewhere => simp

theorem firstDenial_denies {steps : List (Option Verdict)} (h : ∀ c ∈ steps, ∀ v, c = some v → v.isGrant = false) {v : Verdict}
    (found : firstDenial steps = some v) : v.isGrant = false := by
  obtain ⟨step, listed, finds⟩ := List.exists_of_findSome?_eq_some found
  exact h step listed v finds

theorem denyIf_denies {fails : Bool} {v w : Verdict} (h : w.isGrant = false) (found : denyIf fails w = some v) : v.isGrant = false := by
  unfold denyIf at found
  split at found <;> cases found
  exact h

/-- R50: a step on credential and tenant denies. -/
theorem State.credentialDenial_denies {cr : Credential} {x : Tenant} {v : Verdict} {s : State}
    (found : s.credentialDenial cr x = some v) : v.isGrant = false := by
  refine firstDenial_denies ?_ found
  simp only [List.forall_mem_cons, List.not_mem_nil, false_implies, implies_true, and_true]
  exact ⟨fun _ => denyIf_denies rfl, fun _ => denyIf_denies rfl, fun _ => denyIf_denies rfl⟩

theorem State.standingDenial_denies {x : Tenant} {v : Verdict} {s : State} (found : s.standingDenial x = some v) :
    v.isGrant = false := by
  unfold State.standingDenial at found
  split at found
  · cases found
    rfl
  · exact denyIf_denies rfl found

/-- R52 to R57: a later step denies. -/
theorem State.laterDenial_denies {p : Nat} {r : Read} {c : PortalConfig} {tenant : Nat} {x : Tenant} {v : Verdict} {s : State}
    (found : s.laterDenial p r c tenant x = some v) : v.isGrant = false := by
  refine firstDenial_denies ?_ found
  simp only [List.forall_mem_cons, List.not_mem_nil, false_implies, implies_true, and_true]
  refine ⟨fun w mode => ?_, fun w entry => ?_, fun w passback => ?_, fun w => denyIf_denies rfl, fun w => denyIf_denies rfl,
    fun w portal => ?_⟩
  · unfold State.modeDenial at mode
    split at mode
    · cases mode
    · exact denyIf_denies rfl mode
    · exact denyIf_denies rfl mode
  · unfold State.entryDenial at entry
    split at entry
    · refine firstDenial_denies ?_ entry
      simp only [List.forall_mem_cons, List.not_mem_nil, false_implies, implies_true, and_true]
      exact ⟨fun _ => s.standingDenial_denies, fun _ => denyIf_denies rfl, fun _ => denyIf_denies rfl⟩
    · cases entry
  · unfold passbackDenial at passback
    exact denyIf_denies (by split <;> rfl) passback
  · unfold Portal.denial at portal
    split at portal
    · cases portal
      rfl
    · exact denyIf_denies rfl portal

theorem grantForm_isGrant (x : Tenant) (soft : Bool) : (grantForm x soft).isGrant = true := by
  unfold grantForm
  split
  · rfl
  · split <;> rfl

/-- R53, R55, R58: what is not a repeat is denied, or is a grant that hands the portal its passage. -/
theorem State.portalRuling_of_not_again {p : Nat} {r : Read} {c : PortalConfig} {cr : Credential} {x : Tenant} {s : State}
    (first : s.portalRuling p r c cr x ≠ .again) : s.portalRuling p r c cr x =
      if (s.portalRuling p r c cr x).verdict.isGrant = true then
        .pass (s.portalRuling p r c cr x).verdict (s.passageFor r c cr.tenant x)
      else .deny (s.portalRuling p r c cr x).verdict := by
  unfold State.portalRuling at first ⊢
  cases cred : s.credentialDenial cr x with
  | some v => simp [Ruling.verdict, State.credentialDenial_denies cred]
  | none =>
    rw [cred] at first
    cases link : s.transitAt p r.head cr.tenant x with
    | elsewhere => simp [Ruling.verdict, Verdict.isGrant]
    | again => simp [link] at first
    | free =>
      cases later : s.laterDenial p r c cr.tenant x with
      | some v => simp [Ruling.verdict, State.laterDenial_denies later]
      | none => simp [Ruling.verdict, grantForm_isGrant]

/-! ## What the head asks for (R49) -/

/-- R49: what a head of a portal's node asks for. -/
theorem State.asked_of_portal {r : Read} {q : Nat} {s : State} (portal : s.portalOf r.node = some q) :
    s.asked r = match (s.portal q).config with
      | none => .nothing
      | some d => if r.head = .a ∨ (r.head = .b ∧ d.headB = true) then .portal q d else .nothing := by
  rw [State.asked, portal]
  dsimp only
  cases (s.portal q).config with
  | none => cases r.head <;> rfl
  | some d => cases r.head <;> simp

/-- R49: what a head of a car's node asks for. -/
theorem State.asked_of_car {r : Read} {i : Nat} {s : State} (portal : s.portalOf r.node = none) (car : s.carOf r.node = some i) :
    s.asked r = match (s.car i).config with
      | none => .nothing
      | some g => if r.head = .car then .car i g else .nothing := by
  rw [State.asked, portal, car]
  dsimp only
  cases (s.car i).config with
  | none => cases r.head <;> rfl
  | some g => cases r.head <;> simp

theorem State.asked_of_none {r : Read} {s : State} (portal : s.portalOf r.node = none) (car : s.carOf r.node = none) :
    s.asked r = .nothing := by
  rw [State.asked, portal, car]

theorem State.asked_portal_iff (r : Read) (p : Nat) (c : PortalConfig) (s : State) : s.asked r = .portal p c ↔
    s.portalOf r.node = some p ∧ (s.portal p).config = some c ∧ (r.head = .a ∨ (r.head = .b ∧ c.headB = true)) := by
  cases portal : s.portalOf r.node with
  | none =>
    cases car : s.carOf r.node with
    | none => simp [State.asked_of_none portal car]
    | some i =>
      rw [State.asked_of_car portal car]
      cases (s.car i).config with
      | none => simp
      | some g => dsimp only; split <;> simp
  | some q =>
    rw [State.asked_of_portal portal]
    cases config : (s.portal q).config with
    | none =>
      simp only [reduceCtorEq, Option.some.injEq, false_iff]
      rintro ⟨rfl, named, -⟩
      rw [config] at named
      cases named
    | some d =>
      dsimp only
      constructor
      · intro asks
        split at asks
        · cases asks
          exact ⟨rfl, config, ‹_›⟩
        · cases asks
      · rintro ⟨here, named, head⟩
        cases here
        rw [config] at named
        cases named
        exact if_pos head

theorem State.asked_car_iff (r : Read) (i : Nat) (g : CarConfig) (s : State) : s.asked r = .car i g ↔
    s.portalOf r.node = none ∧ s.carOf r.node = some i ∧ (s.car i).config = some g ∧ r.head = .car := by
  cases portal : s.portalOf r.node with
  | some q =>
    rw [State.asked_of_portal portal]
    cases (s.portal q).config with
    | none => simp
    | some d => dsimp only; split <;> simp
  | none =>
    cases car : s.carOf r.node with
    | none => simp [State.asked_of_none portal car]
    | some j =>
      rw [State.asked_of_car portal car]
      cases config : (s.car j).config with
      | none =>
        simp only [reduceCtorEq, Option.some.injEq, false_iff]
        rintro ⟨-, rfl, named, -⟩
        rw [config] at named
        cases named
      | some d =>
        dsimp only
        constructor
        · intro asks
          split at asks
          · cases asks
            exact ⟨rfl, rfl, config, ‹_›⟩
          · cases asks
        · rintro ⟨-, here, named, head⟩
          cases here
          rw [config] at named
          cases named
          exact if_pos head

theorem State.presented_eq_none {r : Read} {s : State} (h : Table.find r.key.code s.creds = none) : s.presented r = none := by
  simp [State.presented, h]

/-- Settles O53: each step, in its order, is one branch of the verdict. -/
theorem portalReadsAreDecidedInOrder : Obligations.PortalReadsAreDecidedInOrder := by
  refine ⟨fun s r p c cr x asks finds => ?_, fun s r => ⟨fun p c => s.asked_portal_iff r p c, fun p c asks absent => ?_,
    fun no_portal no_car => ?_⟩⟩
  · have rules : s.ruling r = s.portalRuling p r c cr x := by rw [State.ruling, asks, finds]
    rw [rules]
    intro entry target origin visit stands party allowed z
    have form : grantForm x (mismatch (s.visitOf cr.tenant) (c.origin r.head)) =
        if x.staff = true then .grantStaff else if stands = true then .grant else .grantSoft := by
      rw [show stands = !mismatch (s.visitOf cr.tenant) (c.origin r.head) from (mismatch_eq _ _).symm]
      unfold grantForm
      cases mismatch (s.visitOf cr.tenant) (c.origin r.head) <;> rfl
    refine ⟨?_, ?_, fun first => ?_⟩
    · rw [State.verdict_portalRuling, State.getD_credentialDenial]
      refine if_congr Iff.rfl rfl (if_congr Iff.rfl rfl (if_congr Iff.rfl rfl ?_))
      unfold State.transitAt
      cases x.transit with
      | some q =>
        by_cases here : q = p ∧ (s.portal p).passages.any (fun g => g.tenant == cr.tenant && g.head == r.head) = true
        · simp only [if_pos here]
        · simp only [if_neg here]
      | none =>
        simp only [State.laterDenial, getD_firstDenial_cons, firstDenial_nil, Option.getD_none, State.getD_modeDenial,
          State.getD_entryDenial, getD_passbackDenial, State.getD_zoneDenial, State.getD_registerDenial,
          Portal.getD_denial, State.getLsbD_permitted, mismatch_eq]
        rw [form]
        rfl
    · rw [State.portalRuling_eq_again, State.credentialDenial_eq_none]
      simp only [and_assoc]
    · have shape := State.portalRuling_of_not_again first
      have soft : (!stands) = mismatch (s.visitOf cr.tenant) (c.origin r.head) := by
        rw [show stands = !mismatch (s.visitOf cr.tenant) (c.origin r.head) from (mismatch_eq _ _).symm, Bool.not_not]
      rw [soft]
      exact shape
  · rw [State.ruling, asks, State.presented_eq_none absent]
  · unfold State.ruling
    cases asks : s.asked r with
    | nothing => rfl
    | portal p c => exact absurd asks (no_portal p c)
    | car i g => exact absurd asks (no_car i g)

end Sys2Proof.Machine
end

section
/-! The ruling on a read at a car head (chapter 3): O54. -/

namespace Sys2Proof.Machine

/-- R61: the floors of the zones in a mask. -/
theorem State.getLsbD_floorsOf {f : Nat} (small : f < 16) (zones : Word) (s : State) :
    (s.floorsOf zones).getLsbD f = (List.range 16).any (fun z => (s.zone z).floor == some f && inSet z zones) := by
  rw [Bool.eq_iff_iff, State.floorsOf, getLsbD_foldl_or _ (fun z => (s.zone z).floor = some f ∧ inSet z zones = true)]
  · simp
  · intro acc z
    cases floor : (s.zone z).floor with
    | none => simp
    | some g =>
      cases inSet z zones
      · simp
      · simp [getLsbD_only small]

/-- R61: the floors of a grant. -/
theorem State.getLsbD_carFloors {f : Nat} (small : f < 16) (g : CarConfig) (x : Tenant) (s : State) :
    (s.carFloors g x).getLsbD f = (g.served.getLsbD f && !(s.mode.mode == .normal && g.pub.getLsbD f) &&
      (x.staff || (List.range 16).any (fun z => (s.zone z).floor == some f &&
        inSet z (s.permitted x ((s.standing x.paid).getD .lockedOut))))) := by
  have reach : (if x.staff = true then g.served
      else s.floorsOf (s.permitted x ((s.standing x.paid).getD .lockedOut)) &&& g.served).getLsbD f =
        (g.served.getLsbD f && (x.staff || (List.range 16).any (fun z => (s.zone z).floor == some f &&
          inSet z (s.permitted x ((s.standing x.paid).getD .lockedOut))))) := by
    cases x.staff
    · simp only [Bool.false_eq_true, if_false, BitVec.getLsbD_and, State.getLsbD_floorsOf small, Bool.false_or, Bool.and_comm]
    · simp
  unfold State.carFloors
  dsimp only
  by_cases normal : s.mode.mode = .normal
  · rw [if_pos normal, BitVec.getLsbD_and, reach, BitVec.getLsbD_not]
    simp only [normal, beq_self_eq_true, Bool.true_and, small, decide_true]
    rw [Bool.and_assoc, Bool.and_assoc, Bool.and_comm (!g.pub.getLsbD f)]
  · have other : (s.mode.mode == .normal) = false := by simpa using normal
    rw [if_neg normal, reach, other]
    simp

/-- R60: the verdict at a car head. -/
theorem State.verdict_carRuling (i : Nat) (g : CarConfig) (cr : Credential) (x : Tenant) (s : State) :
    (s.carRuling i g cr x).verdict = (s.carDenial i g cr x).getD (if x.staff then .grantStaff else .grant) := by
  unfold State.carRuling
  cases s.carDenial i g cr x <;> rfl

theorem State.carDenial_denies {i : Nat} {g : CarConfig} {cr : Credential} {x : Tenant} {v : Verdict} {s : State}
    (found : s.carDenial i g cr x = some v) : v.isGrant = false := by
  refine firstDenial_denies ?_ found
  simp only [List.forall_mem_cons, List.not_mem_nil, false_implies, implies_true, and_true]
  refine ⟨fun _ => State.credentialDenial_denies, fun _ => denyIf_denies rfl, fun _ => denyIf_denies rfl,
    fun w standing => ?_, fun w hours => ?_, fun _ => denyIf_denies rfl, fun _ => denyIf_denies rfl, fun _ => denyIf_denies rfl⟩
  · split at standing
    · cases standing
    · exact s.standingDenial_denies standing
  · split at hours
    · cases hours
    · exact denyIf_denies rfl hours

/-- R60, R62: a read at a car head is denied, or rides. -/
theorem State.carRuling_shape (i : Nat) (g : CarConfig) (cr : Credential) (x : Tenant) (s : State) :
    if (s.carRuling i g cr x).verdict.isGrant = true then
      s.carRuling i g cr x = .ride (s.carRuling i g cr x).verdict (s.carFloors g x)
    else s.carRuling i g cr x = .deny (s.carRuling i g cr x).verdict := by
  unfold State.carRuling
  cases denied : s.carDenial i g cr x with
  | some v => simp [Ruling.verdict, State.carDenial_denies denied]
  | none => cases x.staff <;> simp [Ruling.verdict, Verdict.isGrant]

/-- R60: a step that is not made for staff. -/
theorem getD_unlessStaff (staff : Bool) (step : Option Verdict) (w : Verdict) :
    (if staff = true then none else step).getD w = if staff = false then step.getD w else w := by
  cases staff <;> rfl

/-- R61: no floor is left where the set is empty. -/
theorem State.carFloors_eq_zero (g : CarConfig) (x : Tenant) (s : State) :
    (s.carFloors g x == 0#16) = (List.range 16).all (fun f => !(s.carFloors g x).getLsbD f) := by
  rw [Bool.eq_iff_iff, beq_iff_eq, BitVec.eq_of_getLsbD_eq_iff, List.all_eq_true]
  simp

/-- Settles O54. -/
theorem carReadsAreDecidedInOrder : Obligations.CarReadsAreDecidedInOrder := by
  refine ⟨fun s r i g cr x asks finds => ?_, fun s r i g => ⟨s.asked_car_iff r i g, fun asks absent => ?_⟩⟩
  · have rules : s.ruling r = s.carRuling i g cr x := by rw [State.ruling, asks, finds]
    rw [rules]
    intro allowed floors none_
    have floors_eq (f : Nat) (small : f < 16) : (s.carFloors g x).getLsbD f = floors f := by
      rw [State.getLsbD_carFloors small]
      refine congrArg (fun reached => g.served.getLsbD f && !(s.mode.mode == .normal && g.pub.getLsbD f) &&
        (x.staff || reached)) ?_
      rw [Bool.eq_iff_iff, List.any_eq_true, List.any_eq_true]
      refine exists_congr fun z => and_congr_right fun member => ?_
      rw [State.getLsbD_permitted]
      simp only [List.mem_range.1 member, decide_true, Bool.true_and]
      exact Iff.rfl
    have none_eq : (s.carFloors g x == 0#16) = none_ := by
      rw [State.carFloors_eq_zero]
      rw [Bool.eq_iff_iff, List.all_eq_true, List.all_eq_true]
      exact forall_congr' fun f => forall_congr' fun member => by rw [floors_eq f (List.mem_range.1 member)]
    have shape := s.carRuling_shape i g cr x
    refine ⟨?_, ?_, fun verdict set rides f small => ?_⟩
    · rw [State.verdict_carRuling]
      simp only [State.carDenial, getD_firstDenial_cons, firstDenial_nil, Option.getD_none, State.getD_credentialDenial,
        getD_denyIf, getD_unlessStaff, State.getD_standingDenial, State.hoursDenial, none_eq, Bool.and_eq_true, beq_iff_eq,
        Bool.not_eq_true', Option.isNone_iff_eq_none, bne_iff_ne]
      cases x.staff <;> simp
    · by_cases grants : (s.carRuling i g cr x).verdict.isGrant = true
      · rw [if_pos grants] at shape ⊢
        exact ⟨_, shape⟩
      · rw [if_neg grants] at shape ⊢
        exact shape
    · split at shape
      · rw [shape] at rides
        cases rides
        exact floors_eq f small
      · rw [shape] at rides
        cases rides
  · rw [State.ruling, asks, State.presented_eq_none absent]

end Sys2Proof.Machine
end

section
/-! What the operations of a portal do to it (chapter 6), followed from one state through an event: its record, what the journal
is told, and what stays. -/

namespace Sys2Proof.Machine

/-- From `s` to `t` nothing but portals, nodes and what the journal touches has changed. -/
abbrev State.OnlyDoors (s t : State) : Prop :=
  t.bus.run = s.bus.run ∧ t.bus.mask = s.bus.mask ∧ t.bus.lastRefusal = s.bus.lastRefusal ∧
    t.settings = s.settings ∧ t.slips = s.slips ∧ t.tenants = s.tenants ∧ t.creds = s.creds ∧ t.units = s.units ∧
    t.clock = s.clock ∧ t.profiles = s.profiles ∧ t.holidays = s.holidays ∧ t.reads = s.reads ∧
    t.register = s.register ∧ t.cars = s.cars ∧ t.lines = s.lines ∧ t.mode = s.mode ∧ t.revision = s.revision ∧
    t.pending = s.pending

theorem State.OnlyDoors.refl (s : State) : s.OnlyDoors s := by simp [State.OnlyDoors]

theorem State.OnlyDoors.trans {s t u : State} (h : s.OnlyDoors t) (k : t.OnlyDoors u) : s.OnlyDoors u := by
  simp_all [State.OnlyDoors]

/-- The frame of portal events, as one equation. -/
theorem State.OnlyDoors.eq {s t : State} (h : s.OnlyDoors t) :
    t = { s with mem := t.mem, bus := t.bus, journal := t.journal, portals := t.portals, nodes := t.nodes } := by
  cases t; cases s; simp_all [State.OnlyDoors]

/-- The frame of portal events, the causes alone of the bus port. -/
theorem State.OnlyDoors.eq_cause {s t : State} (h : s.OnlyDoors t) :
    t = { s with mem := t.mem, journal := t.journal, bus := { s.bus with cause := t.bus.cause },
                 portals := t.portals, nodes := t.nodes } := by
  obtain ⟨run, mask, refusal, settings, slips, tenants, creds, units, clock, profiles, holidays, reads, register, cars, lines,
    mode, revision, pending⟩ := h
  have bus : t.bus = { s.bus with cause := t.bus.cause } := by
    generalize t.bus = b at run mask refusal ⊢
    cases b
    simp_all
  rw [← bus]
  clear bus
  cases t; cases s; simp_all

theorem State.OnlyDoors.sameAround {s t : State} (h : s.OnlyDoors t) : s.SameAround t := by
  obtain ⟨-, -, -, -, -, -, -, -, clock, profiles, holidays, -, -, -, -, mode, -, -⟩ := h
  exact ⟨mode, clock, profiles, holidays⟩

/-- From `s` to `t`, with the journal told what it is told in `w`, portal `p` has come to the record `r`, and nothing else has
changed but nodes. -/
structure State.Turns (p : Nat) (r : Portal) (s w t : State) : Prop where
  record : t.portal p = r
  journal : State.SameJournal w t
  others : ∀ q, q ≠ p → t.portal q = s.portal q
  frame : s.OnlyDoors t

/-- A record's sources do not depend on what handing on the command changes. -/
theorem State.sources_withCommandOf (c d : PortalConfig) (r : Portal) (s : State) :
    s.sources (s.withCommandOf c { r with config := some d }) = s.sources { r with config := some d } := by
  simp [State.sources, State.withCommandOf]

namespace State.Turns

variable {p : Nat} {r : Portal} {w s t : State}

theorem start {w s : State} (p : Nat) (h : State.SameJournal w s) : s.Turns p (s.portal p) w s :=
  ⟨rfl, h, fun _ _ => rfl, .refl s⟩

theorem sameAround (h : s.Turns p r w t) : s.SameAround t := h.frame.sameAround

theorem mode (h : s.Turns p r w t) : t.mode = s.mode := h.sameAround.1

theorem sources (h : s.Turns p r w t) (x : Portal) : t.sources x = s.sources x := State.sources_congr h.mode x

theorem updPortal (h : s.Turns p r w t) (f : Portal → Portal) : s.Turns p (f r) w (t.updPortal p f) where
  record := by rw [State.portal_updPortal_self, h.record]
  journal := h.journal.trans (by simp [State.SameJournal, State.JournalOf])
  others q other := by rw [State.portal_updPortal_ne other, h.others q other]
  frame := h.frame.trans (by simp [State.OnlyDoors])

theorem log (h : s.Turns p r w t) (kind : EntryKind) (subject tenant : Option Nat) (detail : List Byte) :
    s.Turns p r (w.log kind subject tenant detail) (t.log kind subject tenant detail) where
  record := by rw [State.log_portal, h.record]
  journal := h.journal.log kind subject tenant detail
  others q other := by rw [State.log_portal, h.others q other]
  frame := h.frame.trans (by simp [State.OnlyDoors])

theorem handLock {c : PortalConfig} (h : s.Turns p r w t) (config : r.config = some c) :
    s.Turns p (s.withCommandOf c r) w (t.handLock p) where
  record := by
    rw [State.handLock_portal_self (c := c) (by rw [h.record, config]), h.record, State.withCommandOf_congr h.mode]
  journal := h.journal.trans (State.handLock_sameJournal p t)
  others q other := by rw [State.handLock_portal_ne other, h.others q other]
  frame := h.frame.trans (by rw [State.handLock_only]; simp [State.OnlyDoors])

theorem releaseLockNode (h : s.Turns p r w t) (n : NodeId) : s.Turns p r w (t.releaseLockNode n) where
  record := by rw [State.releaseLockNode_portal, h.record]
  journal := h.journal.trans (by rw [State.releaseLockNode_only]; exact .refl t)
  others q other := by rw [State.releaseLockNode_portal, h.others q other]
  frame := h.frame.trans (by rw [State.releaseLockNode_only]; simp [State.OnlyDoors])

/-- R122: the portal comes to HELD_UNLOCKED. -/
theorem holdUnlocked {c : PortalConfig} (h : s.Turns p r w t) (config : r.config = some c) :
    s.Turns p (s.withCommandOf c r.unlockedHeld) (w.log .portalUnlocked (some p) none (bytesOf 1 (s.sources r)))
      (t.holdUnlocked p) := by
  have put := h.updPortal (fun r => { r.enter .heldUnlocked with openCounting := false })
  have same : s.sources { r.enter .heldUnlocked with openCounting := false } = s.sources r := rfl
  unfold State.holdUnlocked
  dsimp only
  rw [put.record, put.sources, same]
  exact (put.log _ _ _ _).handLock config

end State.Turns

/-! ## Entries of a portal that comes to HELD_UNLOCKED -/

/-- R122: the entry of a portal that is held unlocked. -/
theorem State.heldEntry_unlockedHeld (p : Nat) (c : PortalConfig) (s : State) (r : Portal) (w : State) :
    s.heldEntry p (s.withCommandOf c r.unlockedHeld) w =
      w.log .portalUnlocked (some p) none (bytesOf 1 (s.sources r)) := if_pos rfl

/-- R122: a portal in another state writes no PORTAL_UNLOCKED. -/
theorem State.heldEntry_of_ne {p : Nat} {r : Portal} (s w : State) (h : r.state ≠ .heldUnlocked) :
    s.heldEntry p r w = w := if_neg h

theorem State.windowOf_eq (c : PortalConfig) (s : State) :
    s.windowOf c = c.free.any (fun n => s.windowTest n) := by
  unfold State.windowOf
  cases c.free <;> rfl

namespace State.Turns

variable {p : Nat} {r : Portal} {w s t : State}

/-- R107: a record is applied. -/
theorem applyConfig {old : PortalConfig} (h : s.Turns p r w t) (config : r.config = some old)
    (state : r.state ≠ .heldUnlocked) (new : PortalConfig) :
    s.Turns p (s.configApplied old new r) (s.heldEntry p (s.configApplied old new r) w) (t.applyConfig p new) := by
  have window : t.windowOf new = new.free.any (fun n => s.windowTest n) := by
    rw [State.windowOf_eq]
    simp only [State.windowTest_congr h.sameAround]
  have put := h.updPortal
    (fun r => { r with config := some new, deferred := none, window := new.free.any (fun n => s.windowTest n) })
  unfold State.applyConfig State.configApplied
  simp only [h.record, config, window]
  by_cases node : new.node = old.node
  · have same : ¬ Option.any (fun o => o.node != new.node) (some old) = true := by simp [node]
    rw [if_neg same, if_neg (not_not.2 node)]
    simp only [put.record, put.sources]
    split
    · rw [State.heldEntry_unlockedHeld]
      exact put.holdUnlocked rfl
    · rw [State.heldEntry_of_ne s w (by exact state)]
      exact put.handLock rfl
  · have differs : Option.any (fun o => o.node != new.node) (some old) = true := by
      simpa using fun e : old.node = new.node => node e.symm
    rw [if_pos differs, if_pos node, State.heldEntry_of_ne s w (by exact (by decide : PortalState.waiting ≠ .heldUnlocked))]
    exact ((put.releaseLockNode old.node).updPortal (fun r => r.enter .waiting)).handLock rfl

theorem secured_eq (c : PortalConfig) (s : State) (r : Portal) : s.secured c r = match (r.enter .secure).deferred with
    | none => s.withCommandOf c (r.enter .secure)
    | some d => s.configApplied c d (r.enter .secure) := rfl

/-- R107: the portal enters SECURE. -/
theorem enterSecure {c : PortalConfig} (h : s.Turns p r w t) (config : r.config = some c) :
    s.Turns p (s.secured c r) (s.heldEntry p (s.secured c r) w) (t.enterSecure p) := by
  have secure := h.updPortal (fun r => r.enter .secure)
  have state : (r.enter .secure).state ≠ .heldUnlocked := by exact (by decide : PortalState.secure ≠ .heldUnlocked)
  have config : (r.enter .secure).config = some c := config
  unfold State.enterSecure State.applyDeferred
  rw [secure.record, secured_eq]
  generalize r.enter .secure = x at secure state config ⊢
  cases x.deferred with
  | none =>
    rw [State.heldEntry_of_ne s w (by exact state)]
    exact secure.handLock config
  | some d => exact secure.applyConfig config state d

/-- R122: the portal is OPEN and timed. -/
theorem openTimed {c : PortalConfig} (h : s.Turns p r w t) (config : r.config = some c) :
    s.Turns p (s.withCommandOf c (r.timedFrom c)) w ((t.updPortal p (fun r => r.openTimed)).handLock p) := by
  have timed : r.openTimed = r.timedFrom c := by
    simp [Portal.openTimed, Portal.enter, Portal.startHold, Portal.startCount, Portal.timedFrom, config]
  have opened := h.updPortal (fun r => r.openTimed)
  rw [timed] at opened
  exact opened.handLock config

/-- R122: the portal relocks. -/
theorem relock {c : PortalConfig} (h : s.Turns p r w t) (config : r.config = some c) :
    s.Turns p (s.relocked c r)
      (s.heldEntry p (s.relocked c r) (w.log .portalRelocked (some p) none (bytesOf 1 r.relocksTo.code)))
      (t.relock p) := by
  have told := h.log .portalRelocked (some p) none (bytesOf 1 r.relocksTo.code)
  have by_target : t.relock p = match r.relocksTo with
      | .opened => ((t.log .portalRelocked (some p) none (bytesOf 1 r.relocksTo.code)).updPortal p
          (fun r => r.openTimed)).handLock p
      | .released => ((t.log .portalRelocked (some p) none (bytesOf 1 r.relocksTo.code)).updPortal p
          (fun r => r.enter .released)).handLock p
      | _ => (t.log .portalRelocked (some p) none (bytesOf 1 r.relocksTo.code)).enterSecure p := by
    rw [← h.record]
    rfl
  rw [by_target]
  unfold State.relocked
  generalize r.relocksTo = k at told ⊢
  cases k
  case opened =>
    rw [State.heldEntry_of_ne s _ (by exact (by decide : PortalState.opened ≠ .heldUnlocked))]
    exact told.openTimed config
  case released =>
    rw [State.heldEntry_of_ne s _ (by exact (by decide : PortalState.released ≠ .heldUnlocked))]
    exact (told.updPortal (fun r => r.enter .released)).handLock config
  all_goals exact told.enterSecure config

/-- R121, R122: the sources of the portal are evaluated. -/
theorem evaluateSources {c : PortalConfig} (h : s.Turns p r w t) (config : r.config = some c) :
    s.Turns p (s.evaluated c r) (s.evaluatedEntries p c r w) (t.evaluateSources p) := by
  have hand := h.handLock config
  have hold := h.holdUnlocked config
  have relock := h.relock config
  have same (state : r.state ≠ .heldUnlocked) : s.heldEntry p (s.withCommandOf c r) w = w :=
    State.heldEntry_of_ne s w state
  unfold State.evaluateSources State.evaluatedEntries State.evaluated
  simp only [h.record, h.sources]
  cases state : r.state
  case heldUnlocked =>
    by_cases none : s.sources r = 0
    · simpa [none] using relock
    · simpa [none] using hand
  case secure | released | opened | held | forced =>
    rw [state] at same
    by_cases none : s.sources r = 0
    · simpa [none, same] using hand
    · simpa [none, same, State.heldEntry_unlockedHeld] using hold
  all_goals
    rw [state] at same
    simpa [same] using hand

end State.Turns

end Sys2Proof.Machine
end

section
/-! The portal slips and the portal timers (chapter 6), the parts of O39 to O43 that start at a slip or at a timer. -/

namespace Sys2Proof.Machine

/-- R108: a slip of a configured portal is served by the work on it. -/
theorem withPortal_configured {v : Service} {s : State} {p : Nat} {c : PortalConfig} (names : v.body 0 1 = p)
    (small : p < 48) (config : (s.portal p).config = some c) (work : Nat → Portal → State × Answer) :
    withPortal v s work = ((work p (s.portal p)).1, .served (work p (s.portal p)).2) := by
  subst names
  have known : ¬ (s.portal (v.body 0 1)).config.isNone = true := by simp [config]
  unfold withPortal
  dsimp only
  rw [if_neg (show ¬ Config.portals ≤ v.body 0 1 from Nat.not_le.2 small), if_neg known]

/-- A slip served by work on portal `p`, which has come from `s` to `u`: what the next state `t` is. -/
structure State.PortalServed (p : Nat) (r : Portal) (v : Service) (a : Answer) (s w u t : State) : Prop where
  frame : t = { s with mem := t.mem, bus := t.bus, journal := t.journal, portals := t.portals, nodes := t.nodes,
                       slips := t.slips }
  frame_cause : t = { s with mem := t.mem, journal := t.journal, bus := { s.bus with cause := t.bus.cause },
                             portals := t.portals, nodes := t.nodes, slips := t.slips }
  nodes : t.nodes = u.nodes
  others : ∀ q, q ≠ p → t.portal q = s.portal q
  record : t.portal p = r
  journal : State.JournalOf w t
  sources : ∀ x, t.sources x = s.sources x
  gives : s.Gives v a t

/-- R186: a slip that portal `p` has served, described by what its work has done. -/
theorem exec_turns {c : Instr} {kind : SlipKind} {owner : Service → State → State × Stage} {v : Service} {s w u : State}
    {p : Nat} {r : Portal} {a : Answer} (runs : exec c s = .next (s.serve kind owner)) (serves : s.Serves kind v)
    (work : owner v s = (u, .served a)) (turns : s.Turns p r w u) :
    ∃ t, exec c s = .next t ∧ s.PortalServed p r v a w u t := by
  have slips : u.slips = s.slips := by rw [turns.frame.eq]
  obtain ⟨t, next, same, gives⟩ := exec_serves runs serves work slips
  obtain ⟨x, rfl⟩ : ∃ x, t = { u with slips := x } := ⟨_, same⟩
  exact ⟨_, next, congrArg (fun y : State => { y with slips := x }) turns.frame.eq,
    congrArg (fun y : State => { y with slips := x }) turns.frame.eq_cause, rfl, turns.others, turns.record, turns.journal.1, turns.sources, gives⟩

/-! ## PORTAL_PULSE (R120) -/

/-- R120: PORTAL_PULSE by the portal's state. -/
theorem exec_portalPulse {s : State} {v : Service} (serves : s.Serves .portalPulse v) {p : Nat} {c : PortalConfig}
    (names : v.body 0 1 = p) (small : p < 48) (config : (s.portal p).config = some c) (unlock : 1 ≤ c.unlock) :
    ∃ t, exec .portalPulse s = .next t ∧
      t = { s with mem := t.mem, bus := t.bus, journal := t.journal, portals := t.portals, nodes := t.nodes,
                   slips := t.slips } ∧
      (∀ q, q ≠ p → t.portal q = s.portal q) ∧
      (((s.portal p).state = .secure ∨ (s.portal p).state = .released) →
        (t.portal p).state = .released ∧ (t.portal p).passageTimer = .running c.unlock ∧
          (t.portal p).passages = (s.portal p).passages ∧
          State.JournalOf (s.log .portalPulse (some p) none (bytesOf 1 (s.portal p).state.code)) t ∧
          s.Gives v (.done [3]) t) ∧
      ((s.portal p).state = .secure → (t.portal p).command = .released) ∧
      ((s.portal p).state = .heldUnlocked → t = { s with slips := t.slips } ∧ s.Gives v (.done [7]) t) ∧
      ((s.portal p).state ≠ .secure → (s.portal p).state ≠ .released → (s.portal p).state ≠ .heldUnlocked →
        t = { s with slips := t.slips } ∧
          s.Gives v (.refusal .notApplicable (bytesOf 1 (s.portal p).state.code)) t) := by
  have timer : Timer.set c.unlock = .running c.unlock := if_neg (by omega)
  have start := State.Turns.start p (State.SameJournal.refl s)
  have pulse : portalPulse v s = _ := withPortal_configured names small config _
  cases state : (s.portal p).state <;> simp only [state] at pulse
  case secure =>
    have turns := ((start.updPortal (fun r => (r.enter .released).startPassage)).log .portalPulse (some p) none
      (bytesOf 1 PortalState.secure.code)).handLock (c := c) config
    obtain ⟨t, next, served⟩ := exec_turns (c := .portalPulse) rfl serves pulse turns
    refine ⟨t, next, served.frame, served.others, fun _ => ⟨?_, ?_, ?_, served.journal, served.gives⟩, fun _ => ?_, by simp,
      by simp⟩
    all_goals rw [served.record]
    · rfl
    · simp [State.withCommandOf, Portal.enter, Portal.startPassage, config, timer]
    · rfl
    · simp [State.withCommandOf, Portal.enter, Portal.startPassage]
  case released =>
    have turns := (start.updPortal (fun r => r.startPassage)).log .portalPulse (some p) none
      (bytesOf 1 PortalState.released.code)
    obtain ⟨t, next, served⟩ := exec_turns (c := .portalPulse) rfl serves pulse turns
    refine ⟨t, next, served.frame, served.others, fun _ => ⟨?_, ?_, ?_, served.journal, served.gives⟩, by simp, by simp, by simp⟩
    all_goals rw [served.record]
    · exact state
    · simp [Portal.startPassage, config, timer]
    · rfl
  all_goals
    obtain ⟨t, next, served⟩ := exec_turns (c := .portalPulse) rfl serves pulse start
    obtain ⟨u, same, only, gives⟩ := exec_serves (c := .portalPulse) rfl serves pulse rfl
    obtain rfl : t = u := Host.Outcome.next.inj (next.symm.trans same)
    refine ⟨t, next, served.frame, served.others, by simp, by simp, ?_⟩
  case heldUnlocked => exact ⟨fun _ => ⟨only, gives⟩, fun _ _ other => absurd rfl other⟩
  all_goals exact ⟨fun held => absurd held (by decide), fun _ _ _ => ⟨only, gives⟩⟩

/-! ## PORTAL_HOLD and PORTAL_SECURE (R121 to R123) -/

/-- R123: the host hold is set or cleared, and the sources are evaluated. -/
theorem State.Turns.setHostHold {p : Nat} {c : PortalConfig} {s : State} (config : (s.portal p).config = some c)
    (hold : Bool) :
    s.Turns p (s.evaluated c { s.portal p with hostHold := hold })
      (s.evaluatedEntries p c { s.portal p with hostHold := hold } s) (s.setHostHold p hold) :=
  ((State.Turns.start p (.refl s)).updPortal (fun r => { r with hostHold := hold })).evaluateSources config

/-- R107: applying a record keeps the passages, the host hold and the faults. -/
theorem State.configApplied_keeps (old new : PortalConfig) (s : State) (r : Portal) :
    (s.configApplied old new r).passages = r.passages ∧ (s.configApplied old new r).hostHold = r.hostHold ∧
      (s.configApplied old new r).faults = r.faults ∧ (s.configApplied old new r).probePending = r.probePending ∧
      (s.configApplied old new r).cooldown = r.cooldown ∧ (s.configApplied old new r).egressMemory = r.egressMemory ∧
      (s.configApplied old new r).deferred = none := by
  unfold State.configApplied
  dsimp only
  split
  · exact ⟨rfl, rfl, rfl, rfl, rfl, rfl, rfl⟩
  · split <;> exact ⟨rfl, rfl, rfl, rfl, rfl, rfl, rfl⟩

theorem State.secured_keeps (c : PortalConfig) (s : State) (r : Portal) :
    (s.secured c r).passages = r.passages ∧ (s.secured c r).hostHold = r.hostHold ∧
      (s.secured c r).faults = r.faults ∧ (s.secured c r).probePending = r.probePending ∧
      (s.secured c r).cooldown = r.cooldown ∧ (s.secured c r).egressMemory = r.egressMemory := by
  unfold State.secured
  dsimp only
  split
  · exact ⟨rfl, rfl, rfl, rfl, rfl, rfl⟩
  · obtain ⟨passages, hold, faults, probe, cooldown, egress, -⟩ := State.configApplied_keeps c _ s
      { r with state := .secure, passageTimer := .stopped, holdTimer := .stopped }
    exact ⟨passages, hold, faults, probe, cooldown, egress⟩

/-- R107: a portal that enters SECURE with no record deferred is in SECURE. -/
theorem State.secured_of_none {r : Portal} (c : PortalConfig) (s : State) (deferred : r.deferred = none) :
    s.secured c r = s.withCommandOf c { r with state := .secure, passageTimer := .stopped, holdTimer := .stopped } := by
  unfold State.secured
  dsimp only
  rw [deferred]

theorem State.relocked_keeps (c : PortalConfig) (s : State) (r : Portal) :
    (s.relocked c r).passages = r.passages ∧ (s.relocked c r).hostHold = r.hostHold := by
  obtain ⟨passages, hold, -⟩ := State.secured_keeps c s r
  unfold State.relocked
  split
  · exact ⟨rfl, rfl⟩
  · exact ⟨rfl, rfl⟩
  · exact ⟨passages, hold⟩

theorem State.evaluated_keeps (c : PortalConfig) (s : State) (r : Portal) :
    (s.evaluated c r).passages = r.passages ∧ (s.evaluated c r).hostHold = r.hostHold := by
  have relocked := State.relocked_keeps c s r
  unfold State.evaluated
  split
  case h_6 => split; exacts [⟨rfl, rfl⟩, relocked]
  case h_1 | h_2 | h_3 | h_4 | h_5 => split <;> exact ⟨rfl, rfl⟩
  all_goals exact ⟨rfl, rfl⟩

/-- R122: a portal with no record deferred relocks to its target. -/
theorem State.relocked_state {r : Portal} (c : PortalConfig) (s : State) (deferred : r.deferred = none) :
    (s.relocked c r).state = r.relocksTo := by
  have target : r.relocksTo = .opened ∨ r.relocksTo = .released ∨ r.relocksTo = .secure := by
    unfold Portal.relocksTo
    (repeat' split) <;> simp
  have secured : (s.secured c r).state = .secure := by rw [State.secured_of_none c s deferred]; rfl
  unfold State.relocked
  obtain target | target | target := target <;> rw [target]
  exacts [rfl, rfl, secured]

/-- R121: with no source present, the evaluation of a portal that is not held unlocked leaves its state. -/
theorem State.evaluated_state_of_zero {r : Portal} (c : PortalConfig) (s : State) (none : s.sources r = 0)
    (state : r.state ≠ .heldUnlocked) : (s.evaluated c r).state = r.state := by
  unfold State.evaluated
  cases h : r.state <;> simp_all [State.withCommandOf]

/-- R121: with a source present, a portal in service is held unlocked. -/
theorem State.evaluated_state_of_source {r : Portal} (c : PortalConfig) (s : State) (present : s.sources r ≠ 0) :
    (s.evaluated c r).state = if r.state.inService then .heldUnlocked else r.state := by
  unfold State.evaluated
  cases h : r.state <;> simp_all [State.withCommandOf, Portal.unlockedHeld, PortalState.inService]

/-- R122: with no source left, a portal in HELD_UNLOCKED relocks. -/
theorem State.evaluated_of_held {r : Portal} (c : PortalConfig) (s : State) (none : s.sources r = 0)
    (state : r.state = .heldUnlocked) : s.evaluated c r = s.relocked c r := by
  unfold State.evaluated
  rw [state]
  exact if_neg (not_not.2 none)

/-- R121: the sources of a portal with no host hold. -/
theorem State.sources_released {c : PortalConfig} {r : Portal} {s : State} (config : r.config = some c) :
    s.sources { r with hostHold := false } = 0 ↔
      ((s.mode.mode == .evacuate && c.egress) || (r.window && s.mode.mode == .normal)) = false := by
  rw [Bool.or_eq_false_iff]
  cases evacuates : s.mode.mode == .evacuate && c.egress <;> cases window : r.window && s.mode.mode == .normal <;>
    simp [State.sources, config, State.overridden, evacuates, window]

/-- Settles O40: both slips set the host hold and evaluate the sources. -/
theorem portalHoldAndSecure : Obligations.PortalHoldAndSecure := by
  unfold Obligations.PortalHoldAndSecure
  dsimp only
  intro s v c small config
  have details {hold : Bool} {t : State} (record : t.portal (v.body 0 1) = s.evaluated c { s.portal (v.body 0 1) with hostHold := hold })
      (sources : ∀ x, t.sources x = s.sources x) : (s.setHostHold (v.body 0 1) hold).holdDetail (v.body 0 1) =
        bytesOf 1 (t.portal (v.body 0 1)).state.code ++ bytesOf 1 (t.sources (t.portal (v.body 0 1))) := by
    have turns := State.Turns.setHostHold config hold
    unfold State.holdDetail
    rw [turns.record, turns.sources, record, sources]
  have keeps (hold : Bool) := State.evaluated_keeps c s { s.portal (v.body 0 1) with hostHold := hold }
  refine ⟨fun serves => ?_, fun serves => ?_⟩
  · obtain ⟨t, next, served⟩ := exec_turns (c := .portalHold) rfl serves (withPortal_configured rfl small config _)
      (State.Turns.setHostHold config true)
    have present : s.sources { s.portal (v.body 0 1) with hostHold := true } ≠ 0 := by
      simp [State.sources, config]
    obtain ⟨passages, held⟩ := keeps true
    refine ⟨t, next, served.frame, served.others, ?_, ?_, ?_, served.record, served.journal, ?_⟩
    · rw [served.record, held]
    · rw [served.record, State.evaluated_state_of_source c s present]
    · rw [served.record, passages]
    · rw [← details served.record served.sources]
      exact served.gives
  · obtain ⟨t, next, served⟩ := exec_turns (c := .portalSecure) rfl serves (withPortal_configured rfl small config _)
      (State.Turns.setHostHold config false)
    obtain ⟨passages, held⟩ := keeps false
    have released := State.sources_released (s := s) config
    refine ⟨t, next, served.frame, served.others, ?_, fun others state deferred => ?_, fun others state => ?_,
      fun others state => ?_, ?_, served.record, served.journal, ?_⟩
    · rw [served.record, held]
    · rw [served.record]
      rw [State.evaluated_of_held c s (released.2 others) (by exact state), State.relocked_state c s (by exact deferred)]
      rfl
    · rw [served.record, State.evaluated_state_of_zero c s (released.2 others) (by exact state)]
    · rw [served.record, State.evaluated_state_of_source c s (fun none => by simp [released.1 none] at others)]
      simp [state]
    · rw [served.record, passages]
    · rw [← details served.record served.sources]
      exact served.gives

end Sys2Proof.Machine
end

section
/-! PORTAL_PUT (chapter 6): O37. -/

namespace Sys2Proof.Machine

/-! ## What the nodes are handed (R110, R148) -/

/-- R110: handing on the lock command writes it, with the polarity, to the record of the portal's node alone. -/
theorem State.node_handLock {p : Nat} {c : PortalConfig} {s : State} (config : (s.portal p).config = some c) (m : NodeId) :
    (s.handLock p).node m = if m.code = c.node.code
      then (s.node m).map (fun n => { n with lock := ((s.handLock p).portal p).command, polarity := c.polarity })
      else s.node m := by
  rw [State.handLock_portal_self config, ← State.lockCommand_eq]
  simp only [State.handLock, config]
  exact State.node_updNode c.node m _ _

theorem State.node_releaseLockNode (n m : NodeId) (s : State) : (s.releaseLockNode n).node m = if m.code = n.code
    then (s.node m).map (fun r => { r with lock := .locked, polarity := .powerToRelease }) else s.node m :=
  State.node_updNode n m _ s

/-- R122: the node of a portal that is held unlocked. -/
theorem State.node_holdUnlocked {p : Nat} {c : PortalConfig} {s : State} (config : (s.portal p).config = some c) (m : NodeId) :
    (s.holdUnlocked p).node m = if m.code = c.node.code
      then (s.node m).map (fun n => { n with lock := ((s.holdUnlocked p).portal p).command, polarity := c.polarity })
      else s.node m := by
  have same (u : State) (kind : EntryKind) (detail : List Byte) : (u.log kind (some p) none detail).node m = u.node m := by
    rw [State.node, (u.log_frame kind (some p) none detail).eq]
    rfl
  unfold State.holdUnlocked
  dsimp only
  rw [State.node_handLock (c := c) (by rw [State.log_portal, State.portal_updPortal_self]; exact config), same]
  rfl

/-- R107: what the nodes are handed as a record is applied: the new node the command, and the old one, where it stands at
another place, the outputs of a node that nothing names. -/
theorem State.node_applyConfig {p : Nat} {old new : PortalConfig} {s : State} (config : (s.portal p).config = some old)
    (m : NodeId) :
    (s.applyConfig p new).node m = if m.code = new.node.code
      then (s.node m).map (fun n => { n with lock := ((s.applyConfig p new).portal p).command, polarity := new.polarity })
      else if m.code = old.node.code
        then (s.node m).map (fun n => { n with lock := .locked, polarity := .powerToRelease })
      else s.node m := by
  generalize applied : s.applyConfig p new = t
  unfold State.applyConfig at applied
  simp only [config] at applied
  by_cases node : new.node = old.node
  · have same : ¬ Option.any (fun o => o.node != new.node) (some old) = true := by simp [node]
    rw [if_neg same] at applied
    have config' : ((s.updPortal p (fun r => { r with config := some new, deferred := none, window := s.windowOf new })).portal
      p).config = some new := by rw [State.portal_updPortal_self]
    rw [← node]
    split at applied
    · rw [← applied, State.node_holdUnlocked config']
      split <;> rfl
    · rw [← applied, State.node_handLock config']
      split <;> rfl
  · have differs : Option.any (fun o => o.node != new.node) (some old) = true := by
      simpa using fun e : old.node = new.node => node e.symm
    rw [if_pos differs] at applied
    rw [← applied, State.node_handLock (c := new)
      (by rw [State.portal_updPortal_self, State.releaseLockNode_portal, State.portal_updPortal_self]; rfl)]
    split
    · refine (congrArg _ (State.node_releaseLockNode old.node m _)).trans ?_
      split
      · rw [Option.map_map]
        rfl
      · rfl
    · exact State.node_releaseLockNode old.node m _

/-! ## PORTAL_PUT (R105 to R107) -/

theorem State.configApplied_config (old new : PortalConfig) (s : State) (r : Portal) :
    (s.configApplied old new r).config = some new := by
  unfold State.configApplied
  dsimp only
  (repeat' split) <;> rfl

theorem State.configApplied_deferred (old new : PortalConfig) (s : State) (r : Portal) :
    (s.configApplied old new r).deferred = none := by
  obtain ⟨-, -, -, -, -, -, deferred⟩ := State.configApplied_keeps old new s r
  exact deferred

/-- R107: a record that names another node brings the portal to WAITING. -/
theorem State.configApplied_of_moved {old new : PortalConfig} (moved : new.node ≠ old.node) (s : State) (r : Portal) :
    (s.configApplied old new r).state = .waiting := by
  unfold State.configApplied
  dsimp only
  rw [if_pos moved]
  rfl

/-- R106: the records that differ in timing at most. -/
theorem sameButTiming_iff (c d : PortalConfig) :
    c.sameButTiming d = true ↔ { c with unlock := d.unlock, hold := d.hold } = d := by
  simp [PortalConfig.sameButTiming]

/-- Settles O37: the work of PORTAL_PUT, branch by branch. -/
theorem portalPutConfiguresOrDefers : Obligations.PortalPutConfiguresOrDefers := by
  unfold Obligations.PortalPutConfiguresOrDefers
  dsimp only
  intro s v serves
  have start := State.Turns.start (v.body 0 1) (State.SameJournal.refl s)
  refine ⟨fun a refused => ?_, fun fine => ?_⟩
  · have work : portalPut v s = (s, .served a) := by
      unfold portalPut
      rw [portalPutProblem_eq, refused]
    exact exec_refused (c := .portalPut) rfl serves work
  · have work : portalPut v s = portalPut v s := rfl
    conv at work => rhs; rw [portalPut, portalPutProblem_eq, fine]
    dsimp only at work
    cases config : (s.portal (v.body 0 1)).config with
    | none =>
      simp only [config] at work
      have put := start.updPortal
        (fun r => { r with state := .waiting, config := some v.portalConfig, window := s.windowOf v.portalConfig })
      have turns := put.handLock (c := v.portalConfig) rfl
      obtain ⟨t, next, served⟩ := exec_turns (c := .portalPut) rfl serves work turns
      have node (n : NodeId) := State.node_handLock (c := v.portalConfig) (by rw [put.record]) n
      refine ⟨t, next, served.frame_cause, served.others, ?_, ?_, fun n other => ?_, served.journal.1, served.gives⟩
      · rw [served.record, State.windowOf_eq]
      · rw [State.node, served.nodes, served.record]
        exact (node _).trans ((if_pos rfl).trans (by rw [turns.record]; rfl))
      · rw [State.node, served.nodes]
        exact (node n).trans (if_neg other)
    | some old =>
      simp only [config] at work
      by_cases timing : { v.portalConfig with unlock := old.unlock, hold := old.hold } = old
      · rw [if_pos ((sameButTiming_iff _ _).2 timing)] at work
        have turns := start.updPortal (fun r => { r with config := some v.portalConfig, deferred := none })
        obtain ⟨t, next, served⟩ := exec_turns (c := .portalPut) rfl serves work turns
        refine ⟨t, next, served.frame_cause, served.others, ?_⟩
        simp only [if_pos timing]
        exact ⟨served.record, served.nodes, served.journal.1, served.gives⟩
      · rw [if_neg (fun same => timing ((sameButTiming_iff _ _).1 same))] at work
        by_cases state : (s.portal (v.body 0 1)).state = .secure ∨ (s.portal (v.body 0 1)).state = .waiting
        · rw [if_pos state] at work
          have turns := start.applyConfig config (by obtain h | h := state <;> rw [h] <;> decide) v.portalConfig
          obtain ⟨t, next, served⟩ := exec_turns (c := .portalPut) rfl serves work turns
          have node (n : NodeId) := State.node_applyConfig (new := v.portalConfig) config n
          refine ⟨t, next, served.frame_cause, served.others, ?_⟩
          simp only [if_neg timing, if_pos state]
          rw [served.record]
          refine ⟨?_, ?_, ?_, rfl, served.journal, ?_, ?_, ?_, served.gives⟩
          · exact State.configApplied_config old v.portalConfig s _
          · exact State.configApplied_deferred old v.portalConfig s _
          · exact fun other => State.configApplied_of_moved (Ne.symm other) s _
          · rw [State.node, served.nodes]
            exact (node _).trans ((if_pos rfl).trans (by rw [turns.record]))
          · intro other
            rw [State.node, served.nodes]
            exact (node _).trans ((if_neg other).trans (if_pos rfl))
          · intro n new former
            rw [State.node, served.nodes]
            exact (node n).trans ((if_neg new).trans (if_neg former))
        · rw [if_neg state] at work
          have turns := start.updPortal (fun r => { r with deferred := some v.portalConfig })
          obtain ⟨t, next, served⟩ := exec_turns (c := .portalPut) rfl serves work turns
          refine ⟨t, next, served.frame_cause, served.others, ?_⟩
          simp only [if_neg timing, if_neg state]
          exact ⟨by rw [served.record, ← config], served.nodes, served.journal.1, served.gives⟩

end Sys2Proof.Machine
end

section
/-! What cancelling passages does (chapter 6, R75, R114): to the portal, to the tenants' links and to the reservations. -/

namespace Sys2Proof.Machine

/-- From `s` to `t` nothing but portals, tenants, the register and what the journal touches has changed. -/
abbrev State.OnlyPassages (s t : State) : Prop :=
  t.bus.run = s.bus.run ∧ t.bus.mask = s.bus.mask ∧ t.bus.lastRefusal = s.bus.lastRefusal ∧
    t.settings = s.settings ∧ t.slips = s.slips ∧ t.creds = s.creds ∧ t.units = s.units ∧
    t.clock = s.clock ∧ t.profiles = s.profiles ∧ t.holidays = s.holidays ∧ t.reads = s.reads ∧
    t.cars = s.cars ∧ t.lines = s.lines ∧ t.nodes = s.nodes ∧ t.mode = s.mode ∧ t.revision = s.revision ∧
    t.pending = s.pending

theorem State.OnlyPassages.refl (s : State) : s.OnlyPassages s := by simp [State.OnlyPassages]

theorem State.OnlyPassages.trans {s t u : State} (h : s.OnlyPassages t) (k : t.OnlyPassages u) : s.OnlyPassages u := by
  simp_all [State.OnlyPassages]

/-! ## Reservations (R74, R75) -/

theorem creationsIn_cons (g : Passage) (gs : List Passage) : creationsIn (g :: gs) = creationsIn [g] + creationsIn gs := by
  simp only [creationsIn, List.filter_cons, List.filter_nil]
  split <;> simp [Nat.add_comm]

theorem reservedIn_cons (z : Nat) (g : Passage) (gs : List Passage) :
    reservedIn z (g :: gs) = reservedIn z [g] + reservedIn z gs := by
  simp only [reservedIn, List.filter_cons, List.filter_nil]
  (repeat' split) <;> simp

theorem State.zone_updZone (z y : Nat) (f : Zone → Zone) (s : State) :
    (s.updZone z f).zone y = if y = z ∧ 1 ≤ z ∧ z ≤ 15 then f (s.zone y) else s.zone y := by
  by_cases same : y = z
  · subst same
    by_cases range : 1 ≤ y ∧ y ≤ 15
    · rw [State.zone_updZone_self range, if_pos ⟨rfl, range⟩]
    · rw [if_neg (fun h => range h.2), State.updZone, if_neg range]
  · rw [State.zone_updZone_ne same, if_neg (fun h => same h.1)]

theorem State.register_updZone (z : Nat) (f : Zone → Zone) (s : State) :
    (s.updZone z f).register = { s.register with zones := (s.updZone z f).register.zones } := by
  unfold State.updZone
  split <;> rfl

theorem reservedIn_one (y : Nat) (g : Passage) :
    reservedIn y [g] = if y = g.target ∧ 1 ≤ g.target ∧ g.target ≤ 15 ∧ g.kind ≠ .finish then g.party else 0 := by
  unfold reservedIn
  by_cases same : g.target = y
  · subst same
    cases kind : g.kind <;> simp [kind]
  · simp [same, Ne.symm same]

/-- R75: the reservation of one passage is undone. -/
theorem State.unreserve_unreserves (g : Passage) (s : State) : s.Unreserves [g] (s.unreserve g) := by
  have zones (y : Nat) (h : g.kind ≠ .finish) :
      (s.updZone g.target (fun r => { r with reserved := r.reserved - g.party })).zone y =
        { s.zone y with reserved := (s.zone y).reserved - reservedIn y [g] } := by
    rw [State.zone_updZone, reservedIn_one]
    by_cases target : y = g.target ∧ 1 ≤ g.target ∧ g.target ≤ 15
    · rw [if_pos target, if_pos ⟨target.1, target.2.1, target.2.2, h⟩]
    · rw [if_neg target, if_neg (fun k => target ⟨k.1, k.2.1, k.2.2.1⟩)]
      simp
  have register := State.register_updZone g.target (fun r => { r with reserved := r.reserved - g.party }) s
  unfold State.unreserve State.Unreserves
  cases kind : g.kind with
  | create =>
    refine ⟨?_, fun y => zones y (by simp [kind])⟩
    dsimp only
    generalize s.updZone g.target _ = t at register ⊢
    rw [register]
    simp [creationsIn, kind]
  | move =>
    refine ⟨?_, fun y => zones y (by simp [kind])⟩
    dsimp only
    generalize s.updZone g.target _ = t at register ⊢
    rw [register]
    simp [creationsIn, kind]
  | finish => exact ⟨by simp [creationsIn, kind], fun y => by simp [reservedIn_one, kind]⟩

/-- R75: reservations undone one after another. -/
theorem State.Unreserves.cons {s t u : State} {g : Passage} {gs : List Passage} (first : s.Unreserves [g] t)
    (rest : t.Unreserves gs u) : s.Unreserves (g :: gs) u := by
  obtain ⟨r₁, z₁⟩ := first
  obtain ⟨r₂, z₂⟩ := rest
  refine ⟨?_, fun z => ?_⟩
  · rw [r₂, r₁, creationsIn_cons g gs]
    simp [Nat.sub_sub]
  · rw [z₂, z₁, reservedIn_cons z g gs]
    simp [Nat.sub_sub]

theorem State.Unreserves.congr {s t u : State} {gs : List Passage} (h : s.Unreserves gs t) (same : u.register = t.register) :
    s.Unreserves gs u := by
  obtain ⟨register, zones⟩ := h
  refine ⟨by rw [same, register], fun z => ?_⟩
  rw [← zones z, State.zone, State.zone, same]

theorem State.Unlinks.congr {s t u : State} {gs : List Passage} (h : s.Unlinks gs t) (same : u.tenants = t.tenants) :
    s.Unlinks gs u := by
  intro j
  rw [← h j, State.tenant, State.tenant, same]

theorem State.Unlinks.cons {s t u : State} {g : Passage} {gs : List Passage} (first : s.Unlinks [g] t)
    (rest : t.Unlinks gs u) : s.Unlinks (g :: gs) u := by
  intro j
  rw [rest j, first j, Option.map_map]
  refine congrArg (Option.map · _) (funext fun x => ?_)
  by_cases one : j = g.tenant <;> by_cases more : j ∈ gs.map (fun g => g.tenant) <;> simp [one, more]

/-! ## Cancelling (R114) -/

/-- From `s` to `t` the passages of a list have left portal `p` and have been undone, and the journal has been told. -/
structure State.Cancels (p : Nat) (gs : List Passage) (s t : State) : Prop where
  record : t.portal p = { s.portal p with
    passages := (s.portal p).passages.filter (fun h => gs.all (fun g => h.tenant != g.tenant)) }
  others : ∀ q, q ≠ p → t.portal q = s.portal q
  unlinks : s.Unlinks gs t
  unreserves : s.Unreserves gs t
  frame : s.OnlyPassages t

theorem State.Cancels.nil (p : Nat) (s : State) : s.Cancels p [] s where
  record := by simp
  others _ _ := rfl
  unlinks j := by simp
  unreserves := by simp [State.Unreserves, creationsIn, reservedIn]
  frame := .refl s

theorem State.Cancels.cons {p : Nat} {g : Passage} {gs : List Passage} {s t u : State} (first : s.Cancels p [g] t)
    (rest : t.Cancels p gs u) : s.Cancels p (g :: gs) u where
  record := by
    rw [rest.record, first.record]
    simp [List.filter_filter, Bool.and_comm]
  others q other := (rest.others q other).trans (first.others q other)
  unlinks := first.unlinks.cons rest.unlinks
  unreserves := first.unreserves.cons rest.unreserves
  frame := first.frame.trans rest.frame

theorem State.unlist_unlinks (p : Nat) (g : Passage) (s : State) : s.Unlinks [g] (s.unlist p g) := by
  intro j
  unfold State.unlist
  by_cases own : j = g.tenant
  · subst own
    rw [State.tenant_updTenant_self]
    simp [State.tenant, State.updPortal, State.setPortal]
  · rw [State.tenant_updTenant_ne own]
    simp [own, State.tenant, State.updPortal, State.setPortal]

/-- R114: one passage is cancelled. -/
theorem State.cancelPassage_cancels (p : Nat) (reason : CancelReason) (g : Passage) (s : State) :
    s.Cancels p [g] (s.cancelPassage p reason g) := by
  have unreserve := State.unreserve_unreserves g (s.unlist p g)
  have unlinks := State.unlist_unlinks p g s
  have portals (q : Nat) : (s.cancelPassage p reason g).portal q =
      (s.updPortal p (fun r => { r with passages := r.passages.filter (fun h => h.tenant != g.tenant) })).portal q := by
    simp [State.cancelPassage, State.unlist, State.portal]
  have tenants : (s.cancelPassage p reason g).tenants = (s.unlist p g).tenants := by simp [State.cancelPassage]
  have register : (s.cancelPassage p reason g).register = ((s.unlist p g).unreserve g).register := by
    simp [State.cancelPassage]
  have same : (s.unlist p g).register = s.register := by simp [State.unlist]
  refine ⟨?_, fun q other => ?_, unlinks.congr tenants, ?_, ?_⟩
  · rw [portals, State.portal_updPortal_self]
    simp
  · rw [portals, State.portal_updPortal_ne other]
  · refine State.Unreserves.congr ?_ register
    unfold State.Unreserves State.zone at unreserve ⊢
    rwa [same] at unreserve
  · unfold State.cancelPassage State.unlist
    simp [State.OnlyPassages]

theorem State.forEach_cancels (p : Nat) (reason : CancelReason) (gs : List Passage) (s : State) :
    s.Cancels p gs (s.forEach gs (State.cancelPassage p reason)) := by
  induction gs generalizing s with
  | nil => exact .nil p s
  | cons g gs ih => exact (State.cancelPassage_cancels p reason g s).cons (ih _)

/-- R114: every pending passage of the portal is cancelled. -/
theorem State.cancelAll_cancels (p : Nat) (reason : CancelReason) (s : State) :
    s.Cancels p (s.portal p).passages (s.cancelAll p reason) :=
  State.forEach_cancels p reason _ s

theorem State.portal_cancelAll_self (p : Nat) (reason : CancelReason) (s : State) :
    (s.cancelAll p reason).portal p = { s.portal p with passages := [] } := by
  rw [(State.cancelAll_cancels p reason s).record]
  have none : (s.portal p).passages.filter (fun h => (s.portal p).passages.all (fun g => h.tenant != g.tenant)) = [] := by
    simp only [List.filter_eq_nil_iff, List.all_eq_true, not_forall]
    exact fun h listed => ⟨h, listed, by simp⟩
  rw [none]

theorem State.Cancels.sameAround {p : Nat} {gs : List Passage} {s t : State} (h : s.Cancels p gs t) : s.SameAround t := by
  obtain ⟨-, -, -, -, -, -, -, clock, profiles, holidays, -, -, -, -, mode, -, -⟩ := h.frame
  exact ⟨mode, clock, profiles, holidays⟩

/-! ## Events of a portal that cancel its passages -/

/-- From `s` to `t`, with the journal told what it is told in `w`, the passages of a list have been undone, portal `p` has come to
the record `r`, and nothing else has changed but nodes. -/
structure State.CancelTurns (p : Nat) (r : Portal) (gs : List Passage) (s w t : State) : Prop where
  record : t.portal p = r
  journal : State.SameJournal w t
  others : ∀ q, q ≠ p → t.portal q = s.portal q
  unlinks : s.Unlinks gs t
  unreserves : s.Unreserves gs t
  frame : s.OnlyPortalUnit t
  units : t.units = s.units

theorem State.OnlyPortalUnit.trans {s t u : State} (h : s.OnlyPortalUnit t) (k : t.OnlyPortalUnit u) : s.OnlyPortalUnit u := by
  simp_all [State.OnlyPortalUnit]

theorem State.OnlyDoors.portalUnit {s t : State} (h : s.OnlyDoors t) : s.OnlyPortalUnit t := by
  simp_all [State.OnlyDoors, State.OnlyPortalUnit]

theorem State.OnlyPassages.portalUnit {s t : State} (h : s.OnlyPassages t) : s.OnlyPortalUnit t := by
  simp_all [State.OnlyPassages, State.OnlyPortalUnit]

/-- R114: every pending passage is cancelled in the course of an event of the portal. -/
theorem State.Turns.cancelAll {p : Nat} {r : Portal} {s w t : State} (h : s.Turns p r w t) (reason : CancelReason) :
    s.CancelTurns p { r with passages := [] } r.passages (w.unusedEntries p reason.code r.passages) (t.cancelAll p reason) := by
  have cancels := State.cancelAll_cancels p reason t
  have told := State.cancelAll_entries p reason h.journal
  have record := State.portal_cancelAll_self p reason t
  rw [h.record] at cancels told record
  obtain ⟨-, -, -, -, -, tenants, -, units, -, -, -, -, register, -⟩ := h.frame
  refine ⟨record, told, fun q other => (cancels.others q other).trans (h.others q other), fun j => ?_, ?_,
    h.frame.portalUnit.trans cancels.frame.portalUnit, ?_⟩
  · rw [cancels.unlinks j, State.tenant, State.tenant, tenants]
  · have unreserves := cancels.unreserves
    unfold State.Unreserves State.zone at unreserves ⊢
    rwa [register] at unreserves
  · obtain ⟨-, -, -, -, -, -, kept, -⟩ := cancels.frame
    exact kept.trans units

/-- What follows in the same event. -/
theorem State.CancelTurns.after {p : Nat} {r r' : Portal} {gs : List Passage} {s w w' t u : State}
    (h : s.CancelTurns p r gs w t) (k : t.Turns p r' w' u) : s.CancelTurns p r' gs w' u where
  record := k.record
  journal := k.journal
  others q other := (k.others q other).trans (h.others q other)
  unlinks := h.unlinks.congr (by obtain ⟨-, -, -, -, -, tenants, -⟩ := k.frame; exact tenants)
  unreserves := h.unreserves.congr (by obtain ⟨-, -, -, -, -, -, -, -, -, -, -, -, register, -⟩ := k.frame; exact register)
  frame := h.frame.trans k.frame.portalUnit
  units := by obtain ⟨-, -, -, -, -, -, -, units, -⟩ := k.frame; exact units.trans h.units

theorem State.CancelTurns.start {p : Nat} {r : Portal} {gs : List Passage} {s w t : State} (h : s.CancelTurns p r gs w t) :
    t.Turns p r w t := by
  have start := State.Turns.start p h.journal
  rwa [h.record] at start

theorem State.CancelTurns.sameAround {p : Nat} {r : Portal} {gs : List Passage} {s w t : State}
    (h : s.CancelTurns p r gs w t) : s.SameAround t := by
  obtain ⟨-, -, -, -, -, -, clock, profiles, holidays, -, -, -, mode, -⟩ := h.frame
  exact ⟨mode, clock, profiles, holidays⟩

end Sys2Proof.Machine
end

section
/-! The portal timers and PORTAL_RESET (chapter 6), the parts of O41 to O43 that start at a timer or at a slip. -/

namespace Sys2Proof.Machine

theorem State.secured_passageTimer (c : PortalConfig) (s : State) (r : Portal) : (s.secured c r).passageTimer = .stopped := by
  unfold State.secured State.configApplied
  dsimp only
  (repeat' split) <;> rfl

theorem State.secured_state_ne_opened (c : PortalConfig) (s : State) (r : Portal) : (s.secured c r).state ≠ .opened := by
  unfold State.secured State.configApplied
  dsimp only
  (repeat' split) <;> exact fun same => nomatch same

/-- R110: a portal, configured or not, after its lock command has been formed anew. -/
def State.commanded (s : State) (r : Portal) : Portal :=
  r.config.elim r (fun c => s.withCommandOf c r)

theorem State.commanded_of_some {c : PortalConfig} {r : Portal} (s : State) (config : r.config = some c) :
    s.commanded r = s.withCommandOf c r := by
  rw [State.commanded, config]
  rfl

theorem State.commanded_keeps (s : State) (r : Portal) :
    (s.commanded r).state = r.state ∧ (s.commanded r).passages = r.passages ∧
      (s.commanded r).passageTimer = r.passageTimer ∧ (s.commanded r).openSeconds = r.openSeconds := by
  unfold State.commanded
  cases r.config <;> exact ⟨rfl, rfl, rfl, rfl⟩

namespace State.Turns

variable {p : Nat} {r : Portal} {w s t : State}

/-- R110: handing on the command, whether the portal is configured or not. -/
theorem handLock_any (h : s.Turns p r w t) : s.Turns p (s.commanded r) w (t.handLock p) := by
  cases config : r.config with
  | some c =>
    rw [State.commanded_of_some s config]
    exact h.handLock config
  | none =>
    have idle : t.handLock p = t := by
      unfold State.handLock
      rw [h.record, config]
    rw [idle, State.commanded, config]
    exact h

/-- R107: a record is applied to a portal that has none in force. -/
theorem applyConfig_fresh (h : s.Turns p r w t) (config : r.config = none) (new : PortalConfig) :
    ∃ r' w', s.Turns p r' w' (t.applyConfig p new) ∧ r'.passages = r.passages ∧ r'.passageTimer = r.passageTimer := by
  have put := h.updPortal (fun r => { r with config := some new, deferred := none, window := t.windowOf new })
  have fresh : ¬ Option.any (fun o : PortalConfig => o.node != new.node) none = true := by simp
  unfold State.applyConfig
  simp only [h.record, config]
  rw [if_neg fresh]
  split
  · exact ⟨_, _, put.holdUnlocked rfl, rfl, rfl⟩
  · exact ⟨_, _, put.handLock rfl, rfl, rfl⟩

/-- R107: the portal enters SECURE, whether it is configured or not. -/
theorem enterSecure_any (h : s.Turns p r w t) :
    ∃ r' w', s.Turns p r' w' (t.enterSecure p) ∧ r'.passages = r.passages ∧ r'.passageTimer = .stopped ∧
      (r.deferred = none → r'.state = .secure ∧ w' = w) ∧
      ∀ c, r.config = some c → r' = s.secured c r ∧ w' = s.heldEntry p (s.secured c r) w := by
  cases config : r.config with
  | some c =>
    obtain ⟨passages, -⟩ := State.secured_keeps c s r
    refine ⟨_, _, h.enterSecure config, passages, State.secured_passageTimer c s r, fun deferred => ?_, fun d same => ?_⟩
    · have state : (s.secured c r).state = .secure := by rw [State.secured_of_none c s deferred]; rfl
      exact ⟨state, State.heldEntry_of_ne s w (by rw [state]; decide)⟩
    · obtain rfl : c = d := Option.some.inj same
      exact ⟨rfl, rfl⟩
  | none =>
    have secure := h.updPortal (fun r => r.enter .secure)
    unfold State.enterSecure State.applyDeferred
    rw [secure.record, show (r.enter .secure).deferred = r.deferred from rfl]
    cases deferred : r.deferred with
    | none =>
      obtain ⟨state, passages, timer, -⟩ := State.commanded_keeps s (r.enter .secure)
      exact ⟨_, _, secure.handLock_any, passages, timer, fun _ => ⟨state, rfl⟩, by simp⟩
    | some d =>
      obtain ⟨r', w', turns, passages, timer⟩ := secure.applyConfig_fresh config d
      exact ⟨r', w', turns, passages, timer, by simp, by simp⟩

end State.Turns

theorem State.heldEntry_congr {s t : State} (mode : t.mode = s.mode) (p : Nat) (r : Portal) (w : State) :
    t.heldEntry p r w = s.heldEntry p r w := by
  unfold State.heldEntry
  rw [State.sources_congr mode]

/-! ## The passage timer, the hold timer and the probe interval (R113, R118, R126) -/

/-- R113: the expiry of a passage timer. -/
theorem exec_passageTimerExpiry {s : State} {p : Nat} (due : (s.portal p).passageTimer = .due) :
    let cancelled := (s.portal p).passages
    let emptied : Portal := { s.portal p with passages := [], passageTimer := .stopped }
    let unused := s.unusedEntries p 0 cancelled
    ∃ t, exec (.passageTimerExpiry p) s = .next t ∧
      t.settings = s.settings ∧ t.slips = s.slips ∧ t.clock = s.clock ∧ t.creds = s.creds ∧ t.cars = s.cars ∧
      t.lines = s.lines ∧ t.reads = s.reads ∧ t.mode = s.mode ∧ t.units = s.units ∧
      (∀ q, q ≠ p → t.portal q = s.portal q) ∧
      (t.portal p).passages = [] ∧ (t.portal p).passageTimer = .stopped ∧
      ((s.portal p).state = .released → (s.portal p).deferred = none → (t.portal p).state = .secure) ∧
      ((s.portal p).state ≠ .released → t.portal p = emptied) ∧
      (∀ c, (s.portal p).state = .released → (s.portal p).config = some c →
        t.portal p = s.secured c emptied ∧ State.JournalOf (s.heldEntry p (t.portal p) unused) t) ∧
      ((s.portal p).state ≠ .released ∨ (s.portal p).deferred = none → State.JournalOf unused t) ∧
      s.Unlinks cancelled t ∧ s.Unreserves cancelled t := by
  intro cancelled emptied unused
  have stopped := (State.Turns.start p (State.SameJournal.refl s)).updPortal (fun r => { r with passageTimer := .stopped })
  have cancelled := stopped.cancelAll .expired
  have runs : s.passageExpiry p = _ := if_pos due
  dsimp only at runs
  rw [cancelled.record] at runs
  generalize State.cancelAll p .expired _ = u at cancelled runs
  refine ⟨_, congrArg Host.Outcome.next runs, ?_⟩
  by_cases released : (s.portal p).state = .released
  · rw [if_pos released]
    obtain ⟨r, w, turns, passages, timer, plain, configured⟩ := cancelled.start.enterSecure_any
    have done := cancelled.after turns
    obtain ⟨-, -, -, settings, slips, creds, clock, -, -, reads, cars, lines, mode, -⟩ := done.frame
    refine ⟨settings, slips, clock, creds, cars, lines, reads, mode, done.units, done.others, ?_, ?_, fun _ deferred => ?_,
      fun other => absurd released other, fun c _ config => ?_, fun simple => ?_, done.unlinks, done.unreserves⟩
    · rw [done.record, passages]
    · rw [done.record, timer]
    · rw [done.record, (plain deferred).1]
    · obtain ⟨same, told⟩ := configured c config
      rw [State.secured_congr cancelled.sameAround] at same told
      refine ⟨done.record.trans same, ?_⟩
      have journal := done.journal.1
      rw [told, State.heldEntry_congr cancelled.sameAround.1] at journal
      rwa [done.record, same]
    · have journal := done.journal.1
      rwa [(plain (simple.resolve_left (not_not.2 released))).2] at journal
  · rw [if_neg released]
    obtain ⟨-, -, -, settings, slips, creds, clock, -, -, reads, cars, lines, mode, -⟩ := cancelled.frame
    refine ⟨settings, slips, clock, creds, cars, lines, reads, mode, cancelled.units, cancelled.others, ?_, ?_,
      fun state => absurd state released, fun _ => cancelled.record, fun _ state => absurd state released,
      fun _ => cancelled.journal.1, cancelled.unlinks, cancelled.unreserves⟩
    all_goals rw [cancelled.record]

/-- R118: the expiry of a hold timer. -/
theorem exec_holdTimerExpiry {s : State} {p : Nat} (due : (s.portal p).holdTimer = .due) (state : (s.portal p).state = .opened) :
    ∃ t, exec (.holdTimerExpiry p) s = .next t ∧
      t = { s with mem := t.mem, bus := t.bus, journal := t.journal, portals := t.portals, nodes := t.nodes } ∧
      (∀ q, q ≠ p → t.portal q = s.portal q) ∧ (t.portal p).state = .held ∧
      (t.portal p).openSeconds = (s.portal p).openSeconds ∧
      State.JournalOf (s.log .doorHeld (some p) none (bytesOf 2 (s.portal p).openSeconds ++ [0])) t := by
  have turns := (((State.Turns.start p (State.SameJournal.refl s)).updPortal (fun r => r.enter .held)).log .doorHeld
    (some p) none (bytesOf 2 (s.portal p).openSeconds ++ [0])).handLock_any
  have runs : s.holdExpiry p = _ := if_pos ⟨due, state⟩
  obtain ⟨held, -, -, seconds⟩ := State.commanded_keeps s ((s.portal p).enter .held)
  refine ⟨_, congrArg Host.Outcome.next runs, turns.frame.eq, turns.others, ?_, ?_, turns.journal.1⟩
  · exact (congrArg Portal.state turns.record).trans held
  · exact (congrArg Portal.openSeconds turns.record).trans seconds

/-- R126: the expiry of a probe interval. -/
theorem exec_probeIntervalExpiry {s : State} {p : Nat} (due : (s.portal p).probe = .due) :
    ∃ t, exec (.probeIntervalExpiry p) s = .next t ∧ t = { s with portals := t.portals } ∧
      (∀ q, q ≠ p → t.portal q = s.portal q) ∧
      t.portal p = { s.portal p with probe := .stopped, probeElapsed := true } :=
  ⟨_, congrArg Host.Outcome.next (if_pos due), rfl, fun _ other => State.portal_updPortal_ne other _ s,
    State.portal_updPortal_self p _ s⟩

/-! ## The cooldown timer (R125) -/

/-- R125: the expiry of a cooldown timer. -/
theorem exec_cooldownExpiry {s : State} {p : Nat} {c : PortalConfig} (due : (s.portal p).cooldown = .due)
    (state : (s.portal p).state = .cooldown) (config : (s.portal p).config = some c) (unlock : 1 ≤ c.unlock) (hold : 1 ≤ c.hold) :
    let probing : Portal :=
      { s.portal p with cooldown := .stopped, egressMemory := false, probePending := true }
    ∃ t, exec (.cooldownExpiry p) s = .next t ∧
      t = { s with mem := t.mem, bus := t.bus, journal := t.journal, portals := t.portals, nodes := t.nodes } ∧
      (∀ q, q ≠ p → t.portal q = s.portal q) ∧ (t.portal p).cooldown = .stopped ∧
      (t.portal p).egressMemory = false ∧ (t.portal p).faults = (s.portal p).faults ∧
      if (s.portal p).faults = 3 then
        (t.portal p).state = .faultDriver ∧ (t.portal p).probePending = (s.portal p).probePending ∧
          State.JournalOf (s.log .driverFault (some p) none [0]) t
      else (t.portal p).probePending = true ∧
        if s.sources (s.portal p) ≠ 0 then
          (t.portal p).state = .heldUnlocked ∧ t.portal p = s.withCommandOf c probing.unlockedHeld ∧
            State.JournalOf (s.heldEntry p (t.portal p) s) t
        else if (s.portal p).door = .opened then
          (t.portal p).state = .opened ∧ (t.portal p).holdTimer = .running c.hold ∧ (t.portal p).openSeconds = 0 ∧
            t.portal p = s.withCommandOf c (probing.timedFrom c) ∧ State.JournalOf s t
        else if (s.portal p).egressMemory then
          (t.portal p).state = .released ∧ (t.portal p).passageTimer = .running c.unlock ∧
            State.JournalOf (s.log .egress (some p) none [1]) t
        else
          ((s.portal p).deferred = none → (t.portal p).state = .secure) ∧ t.portal p = s.secured c probing ∧
            State.JournalOf (s.heldEntry p (t.portal p) s) t := by
  intro probing
  have timer {n : Nat} (h : 1 ≤ n) : Timer.set n = .running n := if_neg (by omega)
  have cleared := (State.Turns.start p (State.SameJournal.refl s)).updPortal
    (fun r => { r with cooldown := .stopped, egressMemory := false })
  have runs : s.cooldownExpiry p = _ := if_pos ⟨due, state⟩
  dsimp only at runs
  by_cases latched : (s.portal p).faults = 3
  · have turns := ((cleared.updPortal (fun r => r.enter .faultDriver)).log .driverFault (some p) none
      (bytesOf 1 reasonShorts)).handLock (c := c) config
    refine ⟨_, congrArg Host.Outcome.next (runs.trans (if_pos latched)), turns.frame.eq, turns.others, ?_⟩
    rw [turns.record, if_pos latched]
    exact ⟨rfl, rfl, rfl, rfl, rfl, turns.journal.1⟩
  rw [if_neg latched] at runs
  simp only [if_neg latched]
  have probes := cleared.updPortal (fun r => { r with probePending := true })
  rw [probes.sources] at runs
  by_cases sources : s.sources (s.portal p) ≠ 0
  · have turns := probes.holdUnlocked config
    refine ⟨_, congrArg Host.Outcome.next (runs.trans (if_pos sources)), turns.frame.eq, turns.others, ?_⟩
    rw [turns.record, if_pos sources]
    exact ⟨rfl, rfl, rfl, rfl, rfl, rfl, turns.journal.1⟩
  rw [if_neg sources] at runs
  simp only [if_neg sources]
  by_cases door : (s.portal p).door = .opened
  · have turns := probes.openTimed config
    refine ⟨_, congrArg Host.Outcome.next (runs.trans (if_pos door)), turns.frame.eq, turns.others, ?_⟩
    rw [turns.record, if_pos door]
    exact ⟨rfl, rfl, rfl, rfl, rfl, timer hold, rfl, rfl, turns.journal.1⟩
  rw [if_neg door] at runs
  simp only [if_neg door]
  by_cases memory : (s.portal p).egressMemory = true
  · have turns := ((probes.updPortal (fun r => (r.enter .released).startPassage)).log .egress (some p) none
      (bytesOf 1 markRemembered)).handLock (c := c) config
    refine ⟨_, congrArg Host.Outcome.next (runs.trans (if_pos memory)), turns.frame.eq, turns.others, ?_⟩
    rw [turns.record, if_pos memory]
    refine ⟨rfl, rfl, rfl, rfl, rfl, ?_, turns.journal.1⟩
    simp [State.withCommandOf, Portal.startPassage, Portal.enter, config, timer unlock]
  · obtain ⟨-, -, faults, probe, cooldown, egress⟩ := State.secured_keeps c s probing
    have turns := probes.enterSecure config
    refine ⟨_, congrArg Host.Outcome.next (runs.trans (if_neg memory)), turns.frame.eq, turns.others, ?_⟩
    rw [turns.record, if_neg memory]
    refine ⟨cooldown, egress, faults, probe, fun deferred => ?_, rfl, turns.journal.1⟩
    exact congrArg Portal.state (State.secured_of_none (r := probing) c s deferred)

/-! ## PORTAL_RESET (R128) -/

/-- R128: the portal `r`, in FAULT_DRIVER under the record `c`, after PORTAL_RESET. -/
def State.driverReset (c : PortalConfig) (s : State) (r : Portal) : Portal :=
  let cleared : Portal := { r with faults := 0, probePending := false, probe := .stopped, probeElapsed := false }
  match s.afterReset r with
  | .heldUnlocked => s.withCommandOf c cleared.unlockedHeld
  | .opened => s.withCommandOf c (cleared.timedFrom c)
  | _ => s.secured c cleared

/-- R128: a portal leaves FAULT_DRIVER. -/
theorem State.Turns.resetDriver {p : Nat} {c : PortalConfig} {s : State} (config : (s.portal p).config = some c) :
    s.Turns p (s.driverReset c (s.portal p)) (s.heldEntry p (s.driverReset c (s.portal p))
      (s.log .portalReset (some p) none (bytesOf 1 (s.afterReset (s.portal p)).code))) (s.resetDriver p) := by
  have told := ((State.Turns.start p (State.SameJournal.refl s)).updPortal
    (fun r => { r with faults := 0, probePending := false, probe := .stopped, probeElapsed := false })).log .portalReset
    (some p) none (bytesOf 1 (s.afterReset (s.portal p)).code)
  unfold State.resetDriver State.driverReset
  dsimp only
  generalize s.afterReset (s.portal p) = k at told ⊢
  cases k
  case heldUnlocked =>
    rw [State.heldEntry_unlockedHeld]
    exact told.holdUnlocked config
  case opened =>
    rw [State.heldEntry_of_ne s _ (by exact (by decide : PortalState.opened ≠ .heldUnlocked))]
    exact told.openTimed config
  all_goals exact told.enterSecure config

/-- R128: PORTAL_RESET at a configured portal. -/
theorem exec_portalReset {s : State} {v : Service} (serves : s.Serves .portalReset v) {p : Nat} {c : PortalConfig}
    (names : v.body 0 1 = p) (small : p < 48) (config : (s.portal p).config = some c) (hold : 1 ≤ c.hold) :
    ((s.portal p).state ≠ .faultDriver → ∃ t, exec .portalReset s = .next t ∧ t = { s with slips := t.slips } ∧
      s.Gives v (.refusal .notApplicable (bytesOf 1 (s.portal p).state.code)) t) ∧
    ((s.portal p).state = .faultDriver → ∃ t, exec .portalReset s = .next t ∧
      let cleared : Portal :=
        { s.portal p with faults := 0, probePending := false, probe := .stopped, probeElapsed := false }
      let goesTo : PortalState := if s.sources (s.portal p) ≠ 0 then .heldUnlocked
        else if (s.portal p).door = .opened then .opened else .secure
      t = { s with mem := t.mem, bus := t.bus, journal := t.journal, portals := t.portals, nodes := t.nodes,
                   slips := t.slips } ∧
      (∀ q, q ≠ p → t.portal q = s.portal q) ∧ (t.portal p).faults = 0 ∧ (t.portal p).probePending = false ∧
      ((s.portal p).deferred = none → (t.portal p).state = goesTo) ∧
      t.portal p = (match goesTo with
        | .heldUnlocked => s.withCommandOf c cleared.unlockedHeld
        | .opened => s.withCommandOf c (cleared.timedFrom c)
        | _ => s.secured c cleared) ∧
      State.JournalOf (s.heldEntry p (t.portal p)
        (s.log .portalReset (some p) none (bytesOf 1 goesTo.code))) t ∧
      ((t.portal p).state = .opened → (t.portal p).holdTimer = .running c.hold ∧ (t.portal p).openSeconds = 0) ∧
      s.Gives v (.done (bytesOf 1 (t.portal p).state.code)) t) := by
  have reset : portalReset v s = _ := withPortal_configured names small config _
  refine ⟨fun other => ?_, fun fault => ?_⟩
  · rw [if_pos other] at reset
    exact exec_refused (c := .portalReset) rfl serves reset
  · rw [if_neg (not_not.2 fault)] at reset
    have turns := State.Turns.resetDriver config
    rw [turns.record] at reset
    obtain ⟨t, next, served⟩ := exec_turns (c := .portalReset) rfl serves reset turns
    refine ⟨t, next, ?_⟩
    have goes : s.afterReset (s.portal p) = .heldUnlocked ∨ s.afterReset (s.portal p) = .opened ∨
        s.afterReset (s.portal p) = .secure := by
      unfold State.afterReset
      (repeat' split) <;> simp
    have timer : Timer.set c.hold = .running c.hold := if_neg (by omega)
    intro cleared goesTo
    have journal := served.journal
    have gives := served.gives
    rw [← served.record] at journal gives
    have record := served.record
    obtain ⟨-, -, faults, probe, -⟩ := State.secured_keeps c s cleared
    unfold State.driverReset at record
    dsimp only at record
    have same : s.afterReset (s.portal p) = goesTo := rfl
    rw [same] at goes record journal
    refine ⟨served.frame, served.others, ?_, ?_, ?_, record, journal, ?_, gives⟩
    all_goals
      rw [record]
      obtain goes | goes | goes := goes <;> rw [goes]
    case refine_1.inr.inr => exact faults
    case refine_2.inr.inr => exact probe
    case refine_3.inr.inr => exact fun deferred => congrArg Portal.state (State.secured_of_none (r := cleared) c s deferred)
    case refine_4.inl => exact fun held => absurd held (by exact (by decide : PortalState.heldUnlocked ≠ .opened))
    case refine_4.inr.inl => exact fun _ => ⟨timer, rfl⟩
    case refine_4.inr.inr => exact fun opened => absurd opened (State.secured_state_ne_opened c s cleared)
    case refine_3.inl | refine_3.inr.inl => exact fun _ => rfl
    all_goals rfl

end Sys2Proof.Machine
end

section
/-! Good replies that are handed on (R155, R157, R160), and what the status block of a portal's node does (R115). -/

namespace Sys2Proof.Machine

/-! ## A good reply, up to the owner and behind it -/

/-- From `s` to `t` nothing but lines, nodes and reads has changed. -/
abbrev State.OnlyExchange (s t : State) : Prop :=
  t = { s with lines := t.lines, nodes := t.nodes, reads := t.reads }

theorem State.OnlyExchange.refl (s : State) : s.OnlyExchange s := rfl

theorem State.OnlyExchange.trans {s t u : State} (h : s.OnlyExchange t) (k : t.OnlyExchange u) : s.OnlyExchange u := by
  unfold State.OnlyExchange at *
  rw [k, h]

theorem State.takeRead_only (n : NodeId) (b : ReadBlock) (s : State) : s.OnlyExchange (s.takeRead n b) := by
  unfold State.takeRead
  dsimp only
  (repeat' split) <;> rfl

theorem State.endExchange_only (l : Nat) (s : State) : s.OnlyExchange (s.endExchange l) := by
  have h := (s.endExchange_frame l).eq
  unfold State.OnlyExchange
  rw [h]

/-- R157, R159: the node's record counts the good reply, and a node that is restored is told. -/
def State.counted (n : NodeId) (r : Node) (s : State) : State :=
  match r.state with
  | .unknown => s.setNode n { r with faults := r.faults - 1, state := .online }
  | .online => s.setNode n { r with faults := r.faults - 1 }
  | .offline => s.restoreNode n r

/-- R160: how the reply stands to the node's owner. -/
def ReplyStanding.of : NodeState → ReplyStanding
  | .unknown => .fromUnknown
  | .online => .online
  | .offline => .restoring

theorem State.goodReply_handsOn {n : NodeId} {r : Node} {s : State} (node : s.node n = some r)
    (ready : r.state = .offline → 2 ≤ r.restore) (bytes : List Byte) :
    s.goodReply n bytes = (s.counted n r).handOn n r.kind (.of r.state) bytes := by
  unfold State.goodReply State.counted
  rw [node]
  dsimp only
  cases state : r.state with
  | unknown => rfl
  | online => rfl
  | offline => exact if_neg (by have := ready state; omega)

/-- R155, R160: a reply that is handed on counts for the node, goes to its owner and then, as a read block, to the queue; and the
exchange ends. -/
theorem exec_reply_handsOn {s : State} {l a : Nat} {frame : List LineChar} {r : Node} (hands : s.HandsOn l a frame r) :
    ∃ t, exec (.reply l frame) s = .next t ∧
      ((s.counted ⟨l, a⟩ r).handStatus ⟨l, a⟩ r.kind (.of r.state) (frame.map (fun c => c.data))).OnlyExchange t := by
  obtain ⟨-, polled, node, good, ready⟩ := hands
  have runs : s.judgeReply l frame = (s.goodReply ⟨l, a⟩ (frame.map (fun c => c.data))).endExchange l := by
    unfold State.judgeReply
    rw [polled]
    dsimp only
    rw [node]
    dsimp only
    rw [good]
  refine ⟨_, congrArg Host.Outcome.next runs, ?_⟩
  rw [State.goodReply_handsOn node ready]
  refine State.OnlyExchange.trans ?_ (State.endExchange_only l _)
  unfold State.handOn
  dsimp only
  (repeat' split)
  · exact .refl _
  · exact State.takeRead_only _ _ _
  · exact .refl _

/-! ## The status block of a portal's node (R115) -/

theorem State.Turns.setNode {p : Nat} {r : Portal} {s w t : State} (h : s.Turns p r w t) (n : NodeId) (x : Node) :
    s.Turns p r w (t.setNode n x) where
  record := h.record
  journal := h.journal
  others := h.others
  frame := h.frame.trans (by simp [State.OnlyDoors])

/-- R157, R159: what counts for a PORTAL node before its portal acts. -/
theorem State.Turns.counted {n : NodeId} {r : Node} (kind : r.kind = .portal) (p : Nat) (s : State) :
    s.Turns p (s.portal p) (s.beforeOwner n r) (s.counted n r) := by
  have start := State.Turns.start p (State.SameJournal.refl s)
  unfold State.counted State.beforeOwner
  cases state : r.state with
  | unknown => exact start.setNode n _
  | online => exact start.setNode n _
  | offline =>
    unfold State.restoreNode
    dsimp only
    rw [kind]
    exact (start.setNode n _).log .nodeRestored (some n.subject) none []

/-- R209: the status character of a reply. -/
theorem field_status (frame : List LineChar) : field 2 1 (frame.map (fun c => c.data)) = statusByte frame := by
  unfold field statusByte statusBytes
  cases (frame.map (fun c => c.data)).drop 2 with
  | nil => rfl
  | cons b bs => simp [numberOf]

theorem reportedDoor_eq (frame : List LineChar) :
    reportedDoor frame = if (statusByte frame % 2 == 1) = true then .opened else .closed := by
  unfold reportedDoor
  rw [Nat.testBit_zero]
  by_cases h : statusByte frame % 2 = 1 <;> simp [h]

theorem State.portalOf_congr {s t : State} (same : ∀ q, t.portal q = s.portal q) (n : NodeId) : t.portalOf n = s.portalOf n := by
  simp only [State.portalOf, State.portalNumbers, same]

/-- R115, R160: a reply of a portal's node: the portal takes the status block, and what follows in the reply is not its
concern. -/
theorem exec_reply_portal {s : State} {l a : Nat} {frame : List LineChar} {r : Node} {p : Nat} {c : PortalConfig}
    (hands : s.HandsPortal l a frame r p c) :
    ∃ m t, exec (.reply l frame) s = .next t ∧ s.Turns p (s.portal p) (s.beforeOwner ⟨l, a⟩ r) m ∧
      (m.portalStatus p (statusByte frame % 2 == 1) (statusByte frame / 16) (driverOf (statusByte frame))).OnlyExchange t := by
  obtain ⟨handed, kind, owner, config, -⟩ := hands
  obtain ⟨t, next, only⟩ := exec_reply_handsOn handed
  have counted := State.Turns.counted (n := ⟨l, a⟩) kind p s
  refine ⟨_, t, next, counted, ?_⟩
  have named : (s.counted ⟨l, a⟩ r).portalOf ⟨l, a⟩ = some p := by
    rw [← owner, State.portalOf_congr]
    intro q
    by_cases own : q = p
    · rw [own, counted.record]
    · exact counted.others q own
  unfold State.handStatus at only
  rw [field_status] at only
  dsimp only at only
  rw [kind] at only
  dsimp only at only
  rwa [named] at only

/-- R160, R161: what a portal event of a good reply leaves, from what the portal has made of it. -/
theorem State.Turns.exchanged {p : Nat} {r : Portal} {s w u t : State} (h : s.Turns p r w u) (only : u.OnlyExchange t) :
    t.portal p = r ∧ State.JournalOf w t ∧ s.AtPortal p t ∧ t.tenants = s.tenants ∧ t.register = s.register ∧
      t.units = s.units := by
  obtain ⟨-, -, -, settings, -, tenants, creds, units, clock, -, -, -, register, cars, -, mode, -⟩ := h.frame
  unfold State.OnlyExchange at only
  rw [only]
  exact ⟨h.record, h.journal.1, ⟨h.others, cars, mode, clock, settings, creds⟩, tenants, register, units⟩

/-- R114, R160, R161: the same for an event that cancels the passages. -/
theorem State.CancelTurns.exchanged {p : Nat} {r : Portal} {gs : List Passage} {s w u t : State}
    (h : s.CancelTurns p r gs w u) (only : u.OnlyExchange t) :
    t.portal p = r ∧ State.JournalOf w t ∧ s.AtPortal p t ∧ s.Unlinks gs t ∧ s.Unreserves gs t ∧ t.units = s.units := by
  obtain ⟨-, -, -, settings, -, creds, clock, -, -, -, cars, -, mode, -⟩ := h.frame
  unfold State.OnlyExchange at only
  rw [only]
  exact ⟨h.record, h.journal.1, ⟨h.others, cars, mode, clock, settings, creds⟩, h.unlinks, h.unreserves, h.units⟩

/-! ## The driver (R124, R126, R127) -/

namespace State.Turns

variable {p : Nat} {r : Portal} {s w t : State}

theorem logUnsecured {c : PortalConfig} (h : s.Turns p r w t) (config : r.config = some c) :
    s.Turns p r (w.unsecuredEntry p c) (t.logUnsecured p) := by
  unfold State.logUnsecured State.unsecuredEntry
  rw [h.record, config]
  by_cases lock : c.polarity = .powerToLock
  · rw [if_pos lock, if_pos (by simp [lock])]
    exact h.log _ _ _ _
  · rw [if_neg lock, if_neg (by simp [lock])]
    exact h

/-- R124: a driver failure by a short. -/
theorem shortFailure {c : PortalConfig} (h : s.Turns p r w t) (config : r.config = some c) :
    s.CancelTurns p (s.shortedPortal c r) r.passages (w.shortEntries p c r) (t.shortFailure p) := by
  have cancelled := h.cancelAll .driverShort
  have failed := cancelled.start.updPortal (fun r =>
    { r.enter .cooldown with
      openCounting := false, probe := .stopped, probeElapsed := false, probePending := false
      egressMemory := false, faults := min 3 (r.faults + 1)
      cooldown := .running Config.cooldownSeconds })
  have turns := cancelled.after (((failed.log .driverShort (some p) none (bytesOf 1 (min 3 (r.faults + 1)))).logUnsecured
    (c := c) config).handLock (c := c) config)
  rw [State.withCommandOf_congr cancelled.sameAround.1] at turns
  unfold State.shortFailure
  dsimp only
  rw [failed.record]
  exact turns

/-- R127: an open load. -/
theorem openLoadFailure {c : PortalConfig} (h : s.Turns p r w t) (config : r.config = some c) :
    s.CancelTurns p (s.openLoadPortal c r) r.passages (w.openLoadEntries p c r) (t.openLoadFailure p) := by
  have cancelled := h.cancelAll .driverFault
  have failed := cancelled.start.updPortal (fun r =>
    { r.enter .faultDriver with
      cooldown := .stopped, probe := .stopped, probeElapsed := false, probePending := false
      egressMemory := false, faults := 3 })
  have turns := cancelled.after (((failed.log .driverFault (some p) none [1]).logUnsecured
    (c := c) config).handLock (c := c) config)
  rw [State.withCommandOf_congr cancelled.sameAround.1] at turns
  exact turns

/-- R126: a report of OK that completes no probe changes nothing. -/
theorem driverReport_idle {c : PortalConfig} (h : s.Turns p r w t) (config : r.config = some c) (done : ¬ r.ProbeDone c) :
    t.driverReport p .ok = t := by
  have ready : ¬ r.probeReady = true := by
    simpa [Portal.probeReady, config, energises_eq_energised, and_assoc] using done
  unfold State.driverReport
  dsimp only
  rw [h.record, if_neg ready]

theorem driverReport_done {c : PortalConfig} (h : s.Turns p r w t) (config : r.config = some c) (done : r.ProbeDone c) :
    t.driverReport p .ok = t.probeComplete p := by
  have ready : r.probeReady = true := by
    simpa [Portal.probeReady, config, energises_eq_energised, and_assoc] using done
  unfold State.driverReport
  dsimp only
  rw [h.record, if_pos ready]

/-- R115: a door contact that agrees changes nothing. -/
theorem doorReport_same (h : s.Turns p r w t) {opened : Bool} (same : r.door = if opened = true then .opened else .closed) :
    t.doorReport p opened = t := by
  unfold State.doorReport
  dsimp only
  rw [h.record, if_pos same]

/-- R119: a REX count that agrees changes nothing. -/
theorem rexReport_same (h : s.Turns p r w t) {rex : Nat} (same : r.rex = some rex) : t.rexReport p rex = t := by
  unfold State.rexReport
  rw [h.record, if_pos same]

/-- R115: a portal in contact takes the driver, the door and the REX count in this order. -/
theorem portalStatus_inContact (h : s.Turns p r w t) (state : r.state ≠ .unconfigured) (waiting : r.state ≠ .waiting)
    (offline : r.state ≠ .faultOffline) (opened : Bool) (rex : Nat) (d : Driver) :
    t.portalStatus p opened rex d = ((t.driverReport p d).doorReport p opened).rexReport p rex := by
  unfold State.portalStatus
  rw [h.record]
  cases k : r.state <;> first | rfl | contradiction

end State.Turns

end Sys2Proof.Machine
end

section
/-! The reports of a portal's node (R115 to R119, R124 to R127, R130): O39, O41, O42 and O43. -/

namespace Sys2Proof.Machine

theorem driverOf_ok {b : Nat} (h : b / 2 % 4 = 0) : driverOf b = .ok := by
  simp [driverOf, h]

theorem driverOf_short {b : Nat} (h : b / 2 % 4 = 1) : driverOf b = .short := by
  simp [driverOf, h]

theorem driverOf_openLoad {b : Nat} (h : b / 2 % 4 ≠ 0) (k : b / 2 % 4 ≠ 1) : driverOf b = .openLoad := by
  unfold driverOf
  split <;> first | rfl | contradiction

theorem Timer.set_pos {n : Nat} (h : 1 ≤ n) : Timer.set n = .running n := if_neg (by omega)

/-! ## The egress press (R119) -/

/-- R119: what one press makes of the portal `r`, whose record in force is `c`. -/
def State.pressed (c : PortalConfig) (s : State) (r : Portal) : Portal :=
  match r.state with
  | .secure => s.withCommandOf c { r with
      state := .released, passageTimer := Timer.set c.unlock, holdTimer := .stopped }
  | .released => { r with passageTimer := Timer.set c.unlock }
  | .cooldown => { r with egressMemory := true }
  | .unconfigured | .waiting | .opened | .held | .forced | .heldUnlocked | .faultDriver | .faultOffline => r

theorem State.Turns.egressPress {p : Nat} {r : Portal} {c : PortalConfig} {s w t : State} (h : s.Turns p r w t)
    (config : r.config = some c) :
    s.Turns p (s.pressed c r) (if r.state = .secure then w.log .egress (some p) none [0] else w) (t.egressPress p) := by
  have released : (r.enter .released).startPassage = { r with
      state := .released, passageTimer := Timer.set c.unlock, holdTimer := .stopped } := by
    simp [Portal.enter, Portal.startPassage, config]
  have restarted : r.startPassage = { r with passageTimer := Timer.set c.unlock } := by simp [Portal.startPassage, config]
  unfold State.egressPress State.pressed
  rw [h.record]
  cases state : r.state
  case secure =>
    rw [if_pos rfl, ← released]
    exact ((h.updPortal (fun r => (r.enter .released).startPassage)).log .egress (some p) none [0]).handLock config
  case released =>
    rw [if_neg (by decide)]
    have turns := h.updPortal (fun r => r.startPassage)
    rw [restarted, state] at turns
    exact turns
  case cooldown =>
    rw [if_neg (by decide)]
    have turns := h.updPortal (fun r => { r with egressMemory := true })
    rw [state] at turns
    exact turns
  all_goals
    rw [if_neg (by decide)]
    exact h

/-- Settles O39: the slip acts by the portal's state, and so does the press that a reply reports. -/
theorem portalPulseReleasesTheLock : Obligations.PortalPulseReleasesTheLock := by
  unfold Obligations.PortalPulseReleasesTheLock
  dsimp only
  refine ⟨fun s v serves c small config unlock => exec_portalPulse serves rfl small config unlock, ?_⟩
  intro s l a frame r p c hands unlock waiting offline door driver probe
  obtain ⟨m, t, next, before, only⟩ := exec_reply_portal hands
  obtain ⟨-, -, -, config, configured⟩ := hands
  rw [before.portalStatus_inContact configured waiting offline, driverOf_ok driver, before.driverReport_idle config probe,
    before.doorReport_same (by rw [door, reportedDoor_eq])] at only
  refine ⟨t, next, ?_⟩
  by_cases same : (s.portal p).rex = some (statusByte frame / 16)
  · rw [before.rexReport_same same] at only
    obtain ⟨record, journal, at_, tenants, register, units⟩ := before.exchanged only
    refine ⟨at_, tenants, register, units, ?_⟩
    rw [if_pos same]
    exact ⟨record, journal⟩
  · have turns := (before.updPortal (fun r => { r with rex := some (statusByte frame / 16) })).egressPress config
    have reports : m.rexReport p (statusByte frame / 16) = _ := if_neg (by rw [before.record]; exact same)
    rw [reports] at only
    obtain ⟨record, journal, at_, tenants, register, units⟩ := turns.exchanged only
    refine ⟨at_, tenants, register, units, ?_⟩
    rw [if_neg same]
    rw [State.pressed, Timer.set_pos unlock] at record
    dsimp only at record journal
    cases state : (s.portal p).state <;> rw [state] at record journal <;>
      trivial

/-! ## SHORT, OPEN_LOAD and OK (R124, R126, R127) -/

/-- R210: a good reply of a PORTAL node reports one of the three driver states. -/
theorem State.HandsPortal.driver_ne {s : State} {l a : Nat} {frame : List LineChar} {r : Node} {p : Nat} {c : PortalConfig}
    (hands : s.HandsPortal l a frame r p c) : statusByte frame / 2 % 4 ≠ 3 := by
  obtain ⟨⟨-, -, -, good, -⟩, kind, -⟩ := hands
  obtain ⟨_, _, _, -, -, -, -, -, -, -, -, content⟩ := (judge_eq_none _ _ _).1 good
  rw [kind, contentOk, field_status] at content
  intro same
  simp [same] at content

theorem inService_iff (st : PortalState) : st.inService = true ↔
    st ∈ [PortalState.secure, .released, .opened, .held, .forced, .heldUnlocked] := by
  cases st <;> decide

/-- Settles O41: the slip, and what a report of the driver does at a portal in contact. -/
theorem portalResetLeavesTheFault : Obligations.PortalResetLeavesTheFault := by
  unfold Obligations.PortalResetLeavesTheFault
  dsimp only
  refine ⟨fun s v serves c small config hold => exec_portalReset serves rfl small config hold, ?_⟩
  intro s l a frame r p c hands waiting offline door rex
  have known := hands.driver_ne
  obtain ⟨m, t, next, before, only⟩ := exec_reply_portal hands
  obtain ⟨-, -, -, config, configured⟩ := hands
  rw [before.portalStatus_inContact configured waiting offline] at only
  rw [reportedDoor_eq] at door
  simp only [← inService_iff]
  refine ⟨t, next, ?_⟩
  by_cases short : statusByte frame / 2 % 4 = 1 ∧ (s.portal p).state.inService = true
  · have turns := before.shortFailure config
    have report : m.driverReport p .short = m.shortFailure p := by
      unfold State.driverReport
      dsimp only
      rw [before.record, if_pos short.2]
    rw [driverOf_short short.1, report, turns.start.doorReport_same door, turns.start.rexReport_same rex] at only
    obtain ⟨record, journal, at_, unlinks, unreserves, units⟩ := turns.exchanged only
    rw [if_pos short]
    exact ⟨at_, units, record, unlinks, unreserves, journal⟩
  rw [if_neg short]
  by_cases load : statusByte frame / 2 % 4 = 2 ∧ ((s.portal p).state.inService = true ∨ (s.portal p).state = .cooldown)
  · have turns := before.openLoadFailure config
    have report : m.driverReport p .openLoad = m.openLoadFailure p := by
      unfold State.driverReport
      dsimp only
      rw [before.record, if_pos (by simpa using load.2)]
    rw [driverOf_openLoad (by omega) (by omega), report, turns.start.doorReport_same door,
      turns.start.rexReport_same rex] at only
    obtain ⟨record, journal, at_, unlinks, unreserves, units⟩ := turns.exchanged only
    rw [if_pos load]
    exact ⟨at_, units, record, unlinks, unreserves, journal⟩
  rw [if_neg load]
  by_cases ok : statusByte frame / 2 % 4 = 0 ∧ (s.portal p).ProbeDone c
  · have turns := (before.updPortal (fun r =>
      { r with probePending := false, probe := .stopped, probeElapsed := false, faults := 0 })).log .driverRestored
      (some p) none []
    rw [driverOf_ok ok.1, before.driverReport_done config ok.2, State.probeComplete, turns.doorReport_same door,
      turns.rexReport_same rex] at only
    obtain ⟨record, journal, at_, tenants, register, units⟩ := turns.exchanged only
    rw [if_pos ok]
    exact ⟨at_, units, tenants, register, record, journal⟩
  rw [if_neg ok]
  have idle : m.driverReport p (driverOf (statusByte frame)) = m := by
    by_cases zero : statusByte frame / 2 % 4 = 0
    · rw [driverOf_ok zero]
      exact before.driverReport_idle config (fun done => ok ⟨zero, done⟩)
    by_cases one : statusByte frame / 2 % 4 = 1
    · rw [driverOf_short one]
      unfold State.driverReport
      dsimp only
      rw [before.record, if_neg (fun service => short ⟨one, service⟩)]
    · rw [driverOf_openLoad zero one]
      unfold State.driverReport
      dsimp only
      rw [before.record, if_neg (fun service => load ⟨by omega, by simpa using service⟩)]
  rw [idle, before.doorReport_same door, before.rexReport_same rex] at only
  obtain ⟨record, journal, at_, tenants, register, units⟩ := before.exchanged only
  exact ⟨at_, units, tenants, register, record, journal⟩

/-! ## The door (R116, R117) -/

/-- R116: what a door opening makes of the portal `r`, which has no passage pending. -/
def State.opensTo (c : PortalConfig) (s : State) (r : Portal) : Portal :=
  match r.state with
  | .released => s.withCommandOf c (r.timedFrom c)
  | .secure => s.withCommandOf c (r.enter .forced).startCount
  | .heldUnlocked => { r with passageTimer := .stopped }
  | .cooldown | .faultDriver | .unconfigured | .waiting | .opened | .held | .forced | .faultOffline => r

/-- R116: the entries of a door opening. -/
def State.opensEntries (p : Nat) (r : Portal) (w : State) : State :=
  match r.state with
  | .secure => w.log .doorForced (some p) none (bytesOf 1 PortalState.secure.code)
  | .cooldown | .faultDriver => w.log .openedInFault (some p) none (bytesOf 1 r.state.code)
  | .released | .heldUnlocked | .unconfigured | .waiting | .opened | .held | .forced | .faultOffline => w

/-- R117: what a door closing makes of the portal `r`. -/
def State.closesTo (c : PortalConfig) (s : State) (r : Portal) : Portal :=
  let closed : Portal := { r with openCounting := false, holdTimer := .stopped }
  match r.state with
  | .opened | .held | .forced => s.secured c closed
  | .unconfigured | .waiting | .secure | .released | .heldUnlocked | .cooldown | .faultDriver | .faultOffline => closed

/-- R117: the entries of a door closing. -/
def State.closesEntries (p : Nat) (c : PortalConfig) (s : State) (r : Portal) (w : State) : State :=
  match r.state with
  | .opened | .held | .forced => s.heldEntry p (s.closesTo c r)
      (w.log .doorClosed (some p) none (bytesOf 2 r.openSeconds ++ bytesOf 1 (closedMark r.state)))
  | .unconfigured | .waiting | .secure | .released | .heldUnlocked | .cooldown | .faultDriver | .faultOffline => w

theorem State.secured_rex (c : PortalConfig) (s : State) (r : Portal) : (s.secured c r).rex = r.rex := by
  unfold State.secured State.configApplied
  dsimp only
  (repeat' split) <;> rfl

theorem State.opensTo_rex (c : PortalConfig) (s : State) (r : Portal) : (s.opensTo c r).rex = r.rex := by
  unfold State.opensTo
  split <;> rfl

theorem State.closesTo_rex (c : PortalConfig) (s : State) (r : Portal) : (s.closesTo c r).rex = r.rex := by
  unfold State.closesTo
  dsimp only
  split <;> first | rfl | exact State.secured_rex c s _

theorem State.Turns.applyAll_none {p : Nat} {r : Portal} {s w t : State} (h : s.Turns p r w t) (none : r.passages = []) :
    t.applyAll p = t := by
  rw [State.applyAll, h.record, none]
  rfl

theorem State.Turns.doorOpens {p : Nat} {r : Portal} {c : PortalConfig} {s w t : State} (h : s.Turns p r w t)
    (config : r.config = some c) (none : r.passages = []) :
    s.Turns p (s.opensTo c r) (State.opensEntries p r w) (t.doorOpens p) := by
  have timed := h.updPortal (fun r => { r.openTimed with passageTimer := .stopped })
  have opened : { r.openTimed with passageTimer := .stopped } = r.timedFrom c := by
    simp [Portal.openTimed, Portal.enter, Portal.startHold, Portal.startCount, Portal.timedFrom, config]
  rw [opened] at timed
  have forced := ((h.updPortal (fun r => (r.enter .forced).startCount)).log .doorForced (some p) Option.none
    (bytesOf 1 PortalState.secure.code)).handLock config
  have unlocked := h.updPortal (fun r => { r with passageTimer := .stopped })
  have told := h.log .openedInFault (some p) Option.none (bytesOf 1 r.state.code)
  have relocks := timed.handLock config
  unfold State.doorOpens State.opensTo State.opensEntries
  dsimp only
  rw [h.record, timed.applyAll_none none, unlocked.applyAll_none none]
  cases state : r.state <;> rw [state] at unlocked told
  case released => exact relocks
  case secure => exact forced
  case heldUnlocked => exact unlocked
  case cooldown => exact told
  case faultDriver => exact told
  all_goals exact h

theorem State.Turns.doorCloses {p : Nat} {r : Portal} {c : PortalConfig} {s w t : State} (h : s.Turns p r w t)
    (config : r.config = some c) :
    s.Turns p (s.closesTo c r) (s.closesEntries p c r w) (t.doorCloses p) := by
  have closed := h.updPortal (fun r => { r with openCounting := false, holdTimer := .stopped })
  have secured := (closed.log .doorClosed (some p) none (bytesOf 2 r.openSeconds ++ bytesOf 1 (closedMark r.state))).enterSecure
    config
  unfold State.doorCloses State.closesEntries State.closesTo
  dsimp only
  rw [h.record]
  cases state : r.state <;> rw [state] at closed secured
  case opened => exact secured
  case held => exact secured
  case forced => exact secured
  all_goals exact closed

/-- R115: a door contact that differs is recorded, and is a door opening or a door closing. -/
theorem State.Turns.doorReport_changed {p : Nat} {r : Portal} {c : PortalConfig} {s w t : State} (h : s.Turns p r w t)
    (config : r.config = some c) (none : r.passages = []) {opened : Bool}
    (changed : r.door ≠ if opened = true then .opened else .closed) :
    let heard : Portal := { r with door := if opened = true then .opened else .closed }
    s.Turns p (if opened = true then s.opensTo c heard else s.closesTo c heard)
      (if opened = true then State.opensEntries p heard w else s.closesEntries p c heard w) (t.doorReport p opened) := by
  intro heard
  have recorded := h.updPortal (fun r => { r with door := if opened = true then .opened else .closed })
  unfold State.doorReport
  dsimp only
  rw [h.record, if_neg changed]
  cases opened
  · exact recorded.doorCloses config
  · exact recorded.doorOpens config none

/-- Settles O42: the three timers, and the door of a portal in contact. -/
theorem portalTimersExpire : Obligations.PortalTimersExpire := by
  unfold Obligations.PortalTimersExpire
  dsimp only
  refine ⟨fun s p => ⟨exec_passageTimerExpiry, exec_holdTimerExpiry, exec_probeIntervalExpiry⟩, ?_⟩
  intro s l a frame r p c hands hold waiting offline none door rex driver probe
  obtain ⟨m, t, next, before, only⟩ := exec_reply_portal hands
  obtain ⟨-, -, -, config, configured⟩ := hands
  rw [reportedDoor_eq] at door ⊢
  have turns := before.doorReport_changed config none door
  have rex' : (if (statusByte frame % 2 == 1) = true
      then s.opensTo c { s.portal p with door := if (statusByte frame % 2 == 1) = true then .opened else .closed }
      else s.closesTo c { s.portal p with door := if (statusByte frame % 2 == 1) = true then .opened else .closed }).rex =
        some (statusByte frame / 16) := by
    split
    · rw [State.opensTo_rex]; exact rex
    · rw [State.closesTo_rex]; exact rex
  rw [before.portalStatus_inContact configured waiting offline, driverOf_ok driver, before.driverReport_idle config probe,
    turns.rexReport_same rex'] at only
  obtain ⟨record, journal, at_, tenants, register, units⟩ := turns.exchanged only
  refine ⟨t, next, at_, tenants, register, units, fun opened => ?_, fun closed => ?_⟩
  · have opened : (statusByte frame % 2 == 1) = true := by
      by_contra other
      rw [if_neg other] at opened
      cases opened
    simp only [if_pos opened] at record journal ⊢
    rw [State.opensTo, Portal.timedFrom, Timer.set_pos hold] at record
    rw [State.opensEntries] at journal
    dsimp only at record journal
    cases state : (s.portal p).state <;> rw [state] at record journal <;> trivial
  · have closed : ¬ (statusByte frame % 2 == 1) = true := by
      intro other
      rw [if_pos other] at closed
      cases closed
    simp only [if_neg closed] at record journal ⊢
    have plain (x : Portal) (deferred : x.deferred = Option.none) := State.secured_of_none c s deferred
    unfold State.closesEntries at journal
    rw [← record] at journal
    unfold State.closesTo at record
    dsimp only at record journal
    cases state : (s.portal p).state <;> rw [state] at record journal
    case opened | held | forced => exact ⟨record, fun deferred => record.trans (plain _ deferred), journal⟩
    case unconfigured | waiting | faultOffline => trivial
    all_goals exact ⟨record, journal⟩

/-! ## The return of a portal (R130) -/

/-- Settles O43: the cooldown timer, and the first report that reaches a portal again. -/
theorem cooldownEnds : Obligations.CooldownEnds := by
  unfold Obligations.CooldownEnds
  dsimp only
  refine ⟨fun s p c due state config unlock hold => exec_cooldownExpiry due state config unlock hold, ?_⟩
  intro s l a frame r p c hands state
  have known := hands.driver_ne
  obtain ⟨m, t, next, before, only⟩ := exec_reply_portal hands
  obtain ⟨-, -, -, config, -⟩ := hands
  rw [reportedDoor_eq]
  have returns : m.portalStatus p (statusByte frame % 2 == 1) (statusByte frame / 16) (driverOf (statusByte frame)) =
      m.portalReturn p (statusByte frame % 2 == 1) (statusByte frame / 16) (driverOf (statusByte frame)) := by
    unfold State.portalStatus
    rw [before.record]
    obtain state | state := state <;> rw [state]
  have heard := before.updPortal (fun r => { r with
    door := if (statusByte frame % 2 == 1) = true then .opened else .closed, rex := some (statusByte frame / 16) })
  rw [returns] at only
  unfold State.portalReturn at only
  dsimp only at only
  simp only [heard.record, heard.sources] at only
  refine ⟨t, next, ?_⟩
  by_cases latched : (s.portal p).faults = 3
  · rw [if_pos latched] at only
    have turns := (heard.updPortal (fun r => r.enter .faultDriver)).handLock (c := c) config
    obtain ⟨record, journal, at_, tenants, register, units⟩ := turns.exchanged only
    rw [if_neg (fun h => h.1 latched), if_neg (fun h => h.1 latched), if_pos latched]
    exact ⟨at_, units, tenants, register, record, journal⟩
  rw [if_neg latched] at only
  by_cases load : statusByte frame / 2 % 4 = 2
  · rw [driverOf_openLoad (by omega) (by omega), if_pos rfl] at only
    obtain ⟨record, journal, at_, unlinks, unreserves, units⟩ := (heard.openLoadFailure (c := c) config).exchanged only
    rw [if_pos ⟨latched, load⟩]
    exact ⟨at_, units, record, unlinks, unreserves, journal⟩
  rw [if_neg (fun h => load h.2)]
  by_cases short : statusByte frame / 2 % 4 = 1
  · rw [driverOf_short short, if_neg (by decide), if_pos rfl] at only
    obtain ⟨record, journal, at_, unlinks, unreserves, units⟩ := (heard.shortFailure (c := c) config).exchanged only
    rw [if_pos ⟨latched, short⟩]
    exact ⟨at_, units, record, unlinks, unreserves, journal⟩
  rw [if_neg (fun h => short h.2), if_neg latched]
  rw [driverOf_ok (by omega), if_neg (by decide), if_neg (by decide)] at only
  by_cases sources : s.sources (s.portal p) ≠ 0
  · rw [if_pos (by exact sources)] at only
    obtain ⟨record, journal, at_, tenants, register, units⟩ := (heard.holdUnlocked (c := c) config).exchanged only
    rw [if_pos sources]
    exact ⟨at_, units, tenants, register, record, journal⟩
  rw [if_neg (by exact sources)] at only
  rw [if_neg sources]
  by_cases opened : (statusByte frame % 2 == 1) = true
  · rw [if_neg (by simp [opened])] at only
    have turns := ((heard.updPortal (fun r => (r.enter .held).startCount)).log .doorHeld (some p) none
      (bytesOf 2 0 ++ bytesOf 1 (returnMark (s.portal p).state))).handLock (c := c) config
    rw [before.record] at only
    obtain ⟨record, journal, at_, tenants, register, units⟩ := turns.exchanged only
    rw [if_neg (by rw [if_pos opened]; decide)]
    refine ⟨at_, units, tenants, register, record, ?_⟩
    obtain state | state := state <;> rw [state] at journal ⊢ <;> exact journal
  · rw [if_pos (by simp [opened])] at only
    have turns := heard.enterSecure (c := c) config
    obtain ⟨record, journal, at_, tenants, register, units⟩ := turns.exchanged only
    rw [if_pos (if_neg opened)]
    refine ⟨at_, units, tenants, register, record, ?_, fun deferred => record.trans (State.secured_of_none c s deferred)⟩
    rw [record]
    exact journal

end Sys2Proof.Machine
end

section
/-! Channels that are dropped, and lift cars (chapters 6 and 7): O38, O44 and O45. -/

namespace Sys2Proof.Machine

/-! ## Dropping a channel (R108, R137) -/

/-- R137: a CAR_DROP of a configured car. -/
theorem carDrop_configured {v : Service} {s : State} {x : Nat} {g : CarConfig} (names : v.body 0 1 = x) (small : x < 4)
    (config : (s.car x).config = some g) : carDrop v s =
      if (s.car x).releases ≠ [] then (s, .served (.refusal .busy (bytesOf 1 (s.car x).releases.length)))
      else ((s.releaseCarNode g.node).setCar x Car.blank, .served (.done (bytesOf 1 (s.car x).state.code))) := by
  subst names
  unfold carDrop
  dsimp only
  rw [if_neg (show ¬ Config.cars ≤ v.body 0 1 from Nat.not_le.2 small), config]

theorem State.node_releaseCarNode (n m : NodeId) (s : State) : (s.releaseCarNode n).node m = if m.code = n.code
    then (s.node m).map (fun r => { r with floors := 0, recallOn := false }) else s.node m :=
  State.node_updNode n m _ s

/-- Settles O38: either drop, by whether its list is empty. -/
theorem channelsAreDropped : Obligations.ChannelsAreDropped := by
  unfold Obligations.ChannelsAreDropped
  dsimp only
  intro s v
  refine ⟨fun serves c small config => ?_, fun serves g small config => ?_⟩
  · have drop : portalDrop v s = _ := withPortal_configured rfl small config _
    dsimp only at drop
    by_cases busy : (s.portal (v.body 0 1)).passages ≠ []
    · rw [if_pos busy] at drop
      obtain ⟨t, next, same, gives⟩ := exec_refused (c := .portalDrop) rfl serves drop
      refine ⟨t, next, by rw [same], ?_⟩
      rw [if_pos busy]
      exact ⟨by rw [same], by rw [same], gives⟩
    · rw [if_neg busy] at drop
      simp only [config] at drop
      obtain ⟨t, next, same, gives⟩ := exec_serves (c := .portalDrop) rfl serves drop
        (by rw [State.releaseLockNode_only]; rfl)
      obtain ⟨x, rfl⟩ : ∃ x, t = { (s.releaseLockNode c.node).setPortal (v.body 0 1) Portal.blank with slips := x } := ⟨_, same⟩
      have node (n : NodeId) := State.node_releaseLockNode c.node n s
      refine ⟨_, next, ?_, ?_⟩
      · rw [State.releaseLockNode_only]; rfl
      rw [if_neg busy]
      exact ⟨State.portal_setPortal_self _ Portal.blank (s.releaseLockNode c.node),
        fun q other => (State.portal_setPortal_ne other Portal.blank _).trans (State.releaseLockNode_portal c.node q s),
        (node c.node).trans (if_pos rfl), fun n other => (node n).trans (if_neg other), gives⟩
  · have drop := carDrop_configured (v := v) rfl small config
    by_cases busy : (s.car (v.body 0 1)).releases ≠ []
    · rw [if_pos busy] at drop
      obtain ⟨t, next, same, gives⟩ := exec_refused (c := .carDrop) rfl serves drop
      refine ⟨t, next, by rw [same], ?_⟩
      rw [if_pos busy]
      exact ⟨by rw [same], by rw [same], gives⟩
    · rw [if_neg busy] at drop
      obtain ⟨t, next, same, gives⟩ := exec_serves (c := .carDrop) rfl serves drop
        (by rw [State.releaseCarNode_only]; rfl)
      obtain ⟨x, rfl⟩ : ∃ x, t = { (s.releaseCarNode g.node).setCar (v.body 0 1) Car.blank with slips := x } := ⟨_, same⟩
      have node (n : NodeId) := State.node_releaseCarNode g.node n s
      refine ⟨_, next, ?_, ?_⟩
      · rw [State.releaseCarNode_only]; rfl
      rw [if_neg busy]
      refine ⟨State.car_setCar_self _ Car.blank (s.releaseCarNode g.node), fun q other => (State.car_setCar_ne other Car.blank (s.releaseCarNode g.node)).trans ?_,
        (node g.node).trans (if_pos rfl), fun n other => (node n).trans (if_neg other), gives⟩
      rw [State.releaseCarNode_only]
      rfl

/-! ## What the operations of a car do to it -/

/-- From `s` to `t`, with the journal told what it is told in `w`, car `i` has come to the record `r`, and nothing else has
changed but nodes. -/
structure State.CarTurns (i : Nat) (r : Car) (s w t : State) : Prop where
  record : t.car i = r
  journal : State.SameJournal w t
  others : ∀ d, d ≠ i → t.car d = s.car d
  frame : s.OnlyCarUnit t

theorem State.OnlyCarUnit.trans {s t u : State} (h : s.OnlyCarUnit t) (k : t.OnlyCarUnit u) : s.OnlyCarUnit u := by
  simp_all [State.OnlyCarUnit]

theorem State.OnlyCarUnit.eq {s t : State} (h : s.OnlyCarUnit t) :
    t = { s with mem := t.mem, bus := t.bus, journal := t.journal, cars := t.cars, nodes := t.nodes } := by
  cases t; cases s; simp_all [State.OnlyCarUnit]

theorem State.log_car (kind : EntryKind) (subject tenant : Option Nat) (detail : List Byte) (i : Nat) (s : State) :
    (s.log kind subject tenant detail).car i = s.car i := by
  rw [State.car, (s.log_frame kind subject tenant detail).eq]
  rfl

theorem State.log_node (kind : EntryKind) (subject tenant : Option Nat) (detail : List Byte) (n : NodeId) (s : State) :
    (s.log kind subject tenant detail).node n = s.node n := by
  rw [State.node, (s.log_frame kind subject tenant detail).eq]
  rfl

namespace State.CarTurns

variable {i : Nat} {r : Car} {s w t : State}

theorem start {w s : State} (i : Nat) (h : State.SameJournal w s) : s.CarTurns i (s.car i) w s :=
  ⟨rfl, h, fun _ _ => rfl, by simp [State.OnlyCarUnit]⟩

theorem mode (h : s.CarTurns i r w t) : t.mode = s.mode := by
  obtain ⟨-, -, -, -, -, -, -, -, -, -, -, -, -, -, -, mode, -⟩ := h.frame
  exact mode

theorem updCar (h : s.CarTurns i r w t) (f : Car → Car) : s.CarTurns i (f r) w (t.updCar i f) where
  record := by rw [State.car_updCar_self, h.record]
  journal := h.journal.trans (by simp [State.SameJournal, State.JournalOf])
  others d other := by rw [State.car_updCar_ne other, h.others d other]
  frame := h.frame.trans (by simp [State.OnlyCarUnit])

theorem setNode (h : s.CarTurns i r w t) (n : NodeId) (x : Node) : s.CarTurns i r w (t.setNode n x) where
  record := h.record
  journal := h.journal
  others := h.others
  frame := h.frame.trans (by simp [State.OnlyCarUnit])

theorem log (h : s.CarTurns i r w t) (kind : EntryKind) (subject tenant : Option Nat) (detail : List Byte) :
    s.CarTurns i r (w.log kind subject tenant detail) (t.log kind subject tenant detail) where
  record := by rw [State.log_car, h.record]
  journal := h.journal.log kind subject tenant detail
  others d other := by rw [State.log_car, h.others d other]
  frame := h.frame.trans (by simp [State.OnlyCarUnit])

theorem handFloors (h : s.CarTurns i r w t) : s.CarTurns i r w (t.handFloors i) where
  record := by rw [State.handFloors_car, h.record]
  journal := h.journal.trans (State.handFloors_sameJournal i t)
  others d other := by rw [State.handFloors_car, h.others d other]
  frame := h.frame.trans (by rw [State.handFloors_only]; simp [State.OnlyCarUnit])

theorem releaseCarNode (h : s.CarTurns i r w t) (n : NodeId) : s.CarTurns i r w (t.releaseCarNode n) where
  record := by rw [State.releaseCarNode_only]; exact h.record
  journal := h.journal.trans (by rw [State.releaseCarNode_only]; exact .refl t)
  others d other := by rw [State.releaseCarNode_only]; exact h.others d other
  frame := h.frame.trans (by rw [State.releaseCarNode_only]; simp [State.OnlyCarUnit])

/-- R136: a record replaces the one in force. -/
theorem applyCar {old : CarConfig} (h : s.CarTurns i r w t) (config : r.config = some old) (g : CarConfig) :
    s.CarTurns i
      (if old.node = g.node then { r with config := some g, deferred := none }
        else { r with config := some g, deferred := none, state := t.carStateFor g.node, recallDone := false })
      w (t.applyCar i g) := by
  have put := h.updCar (fun r => { r with config := some g, deferred := none })
  unfold State.applyCar
  dsimp only
  rw [h.record, config]
  dsimp only
  by_cases node : old.node = g.node
  · rw [if_pos node, if_pos node]
    exact put.handFloors
  · rw [if_neg node, if_neg node]
    exact ((put.releaseCarNode old.node).updCar
      (fun r => { r with state := State.carStateFor g.node (t.updCar i _), recallDone := false })).handFloors

/-- R136, R139: the car is settled. -/
theorem settleCar {old : CarConfig} (h : s.CarTurns i r w t) (config : r.config = some old) :
    s.CarTurns i (t.carSettled r) w (t.settleCar i) where
  record := by rw [State.settleCar_car_self (old := old) (by rw [h.record, config]), h.record]
  journal := h.journal.trans (State.settleCar_sameJournal i t)
  others d other := by
    unfold State.settleCar
    rw [h.record]
    cases r.deferred with
    | none => exact h.handFloors.others d other
    | some g =>
      dsimp only
      split
      · exact (h.applyCar config g).others d other
      · exact h.handFloors.others d other
  frame := h.frame.trans (State.settleCar_frame i t)

theorem logReleases (h : s.CarTurns i r w t) (reason : ReleaseReason) (es : List Release) :
    s.CarTurns i r (w.releaseEntries i reason.code es) (t.forEach es (State.logRelease i reason)) := by
  induction es generalizing w t with
  | nil => exact h
  | cons e es ih => exact ih (h.log .liftReleaseEnd (some i) (some e.tenant) (bytesOf 1 reason.code ++ bytesOf 2 e.floors.toNat))

theorem node_logReleases (reason : ReleaseReason) (es : List Release) (n : NodeId) (t : State) :
    (t.forEach es (State.logRelease i reason)).node n = t.node n := by
  induction es generalizing t with
  | nil => rfl
  | cons e es ih => exact (ih _).trans (State.log_node _ _ _ _ n t)

end State.CarTurns

/-- R136: what settling makes of a car depends on the mode and the states of the nodes alone. -/
theorem State.carSettled_congr {s t : State} (mode : t.mode = s.mode)
    (nodes : ∀ n, (t.node n).map (fun x => x.state) = (s.node n).map (fun x => x.state)) (r : Car) :
    t.carSettled r = s.carSettled r := by
  have offline (n : NodeId) : (t.node n).any (fun x => x.state == .offline) = (s.node n).any (fun x => x.state == .offline) := by
    have h := congrArg (fun o : Option NodeState => o.any (· == .offline)) (nodes n)
    simpa [Option.any_map, Function.comp_def] using h
  unfold State.carSettled
  rw [mode]
  simp only [offline]

/-- R139: the list of the car is emptied. -/
theorem State.CarTurns.emptyReleases {i : Nat} {r : Car} {old : CarConfig} {s w t : State} (h : s.CarTurns i r w t)
    (config : r.config = some old) (reason : ReleaseReason) :
    s.CarTurns i (t.carSettled { r with releases := [] }) (w.releaseEntries i reason.code r.releases) (t.emptyReleases i reason) := by
  have emptied := (h.updCar (fun r => { r with releases := [] })).logReleases reason r.releases
  have settled := emptied.settleCar (old := old) config
  have same : ((t.updCar i (fun r => { r with releases := [] })).forEach r.releases (State.logRelease i reason)).carSettled
      { r with releases := [] } = t.carSettled { r with releases := [] } :=
    State.carSettled_congr (emptied.mode.trans h.mode.symm)
      (fun n => by rw [State.CarTurns.node_logReleases]; rfl) _
  rw [same] at settled
  unfold State.emptyReleases
  rw [h.record]
  exact settled

/-! ## CAR_PUT (R135, R136, R140) -/

theorem State.node_handFloors {i : Nat} {g : CarConfig} {s : State} (config : (s.car i).config = some g) (m : NodeId) :
    (s.handFloors i).node m = if m.code = g.node.code
      then (s.node m).map (Node.sentFloors s.mode.mode g (s.car i).releases) else s.node m := by
  rw [State.handFloors_eq config, State.node_updNode]

/-- R136, R148: what the nodes are handed as a record is applied. -/
theorem State.node_applyCar {i : Nat} {old g : CarConfig} {s : State} (config : (s.car i).config = some old) (m : NodeId) :
    (s.applyCar i g).node m = if m.code = g.node.code
      then (s.node m).map (Node.sentFloors s.mode.mode g (s.car i).releases)
      else if old.node ≠ g.node ∧ m.code = old.node.code then (s.node m).map (fun n => { n with floors := 0, recallOn := false })
      else s.node m := by
  unfold State.applyCar
  dsimp only
  rw [config]
  dsimp only
  by_cases node : old.node = g.node
  · rw [if_pos node, State.node_handFloors (g := g) (by rw [State.car_updCar_self]), State.car_updCar_self]
    simp only [node, ne_eq, not_true_eq_false, false_and, if_false]
    rfl
  · rw [if_neg node]
    generalize moved_eq : ((s.updCar i (fun r => { r with config := some g, deferred := none })).releaseCarNode old.node).updCar i
      _ = moved
    have mode : moved.mode = s.mode := by rw [← moved_eq]; simp
    have car : (moved.car i).config = some g ∧ (moved.car i).releases = (s.car i).releases := by
      rw [← moved_eq, State.car_updCar_self, State.releaseCarNode_only]
      simp [State.car, State.updCar, State.setCar]
    have nodes : moved.node m = if m.code = old.node.code
        then (s.node m).map (fun n => { n with floors := 0, recallOn := false }) else s.node m := by
      rw [← moved_eq]
      exact State.node_releaseCarNode old.node m (s.updCar i _)
    rw [State.node_handFloors car.1, car.2, mode, nodes]
    simp only [ne_eq, node, not_false_eq_true, true_and]
    split <;> split
    · rw [Option.map_map]
      rfl
    all_goals rfl

theorem State.OnlyCarUnit.quiet {s t : State} (h : s.OnlyCarUnit t) (k : State.JournalOf s t) :
    t = { s with cars := t.cars, nodes := t.nodes } := by
  obtain ⟨mem, bus, journal⟩ := k
  have same := h.eq
  rw [mem, bus, journal] at same
  exact same

/-- R186: a slip that car `i` has served without an entry, described by what its work has done. -/
theorem exec_carTurns {c : Instr} {kind : SlipKind} {owner : Service → State → State × Stage} {v : Service} {s u : State}
    {i : Nat} {r : Car} {a : Answer} (runs : exec c s = .next (s.serve kind owner)) (serves : s.Serves kind v)
    (work : owner v s = (u, .served a)) (turns : s.CarTurns i r s u) :
    ∃ t, exec c s = .next t ∧ t = { s with cars := t.cars, nodes := t.nodes, slips := t.slips } ∧
      (∀ q, q ≠ i → t.car q = s.car q) ∧ t.car i = r ∧ (∀ n, t.node n = u.node n) ∧ t.nodes = u.nodes ∧ s.Gives v a t := by
  have quiet := turns.frame.quiet turns.journal.1
  obtain ⟨t, next, same, gives⟩ := exec_serves runs serves work (by rw [quiet])
  obtain ⟨x, rfl⟩ : ∃ x, t = { u with slips := x } := ⟨_, same⟩
  exact ⟨_, next, congrArg (fun y : State => { y with slips := x }) quiet, turns.others, turns.record, fun _ => rfl, rfl, gives⟩

/-- R135: the state that the node and the mode give. -/
theorem State.carStateFor_eq (n : NodeId) (s : State) [Decidable (∃ r, s.node n = some r ∧ r.state = .offline)] :
    s.carStateFor n = if (∃ r, s.node n = some r ∧ r.state = .offline) then .offline
      else if s.mode.mode = .evacuate then .inRecall else .inService := by
  have offline : (s.node n).any (fun r => r.state == .offline) = true ↔ ∃ r, s.node n = some r ∧ r.state = .offline := by
    simp [Option.any_eq_true]
  unfold State.carStateFor State.carStateByMode
  by_cases h : ∃ r, s.node n = some r ∧ r.state = .offline
  · rw [if_pos (offline.2 h), if_pos h]
  · rw [if_neg (fun k => h (offline.1 k)), if_neg h]

/-- R135: a car configured for the first time. -/
def Car.configured (st : CarState) (g : CarConfig) : Car :=
  { state := st, config := some g, deferred := none, releases := [], recallDone := false }

/-- Settles O44: the work of CAR_PUT, branch by branch. -/
theorem carPutConfiguresOrDefers : Obligations.CarPutConfiguresOrDefers := by
  unfold Obligations.CarPutConfiguresOrDefers
  dsimp only
  intro s v serves
  have start := State.CarTurns.start (v.body 0 1) (State.SameJournal.refl s)
  refine ⟨fun a refused => ?_, fun fine => ?_⟩
  · have work : carPut v s = (s, .served a) := by
      unfold carPut
      rw [carPutProblem_eq, refused]
    exact exec_refused (c := .carPut) rfl serves work
  · have work : carPut v s = carPut v s := rfl
    conv at work => rhs; rw [carPut, carPutProblem_eq, fine]
    dsimp only at work
    simp only [← State.carStateFor_eq]
    cases config : (s.car (v.body 0 1)).config with
    | none =>
      simp only [config] at work
      have put := start.updCar (fun _ => Car.configured (s.carStateFor v.carConfig.node) v.carConfig)
      have car := put.record
      obtain ⟨t, next, frame, others, record, node, -, gives⟩ := exec_carTurns (c := .carPut) rfl serves work put.handFloors
      have handed (n : NodeId) := State.node_handFloors (g := v.carConfig) (by rw [car]; rfl) n
      rw [car] at handed
      exact ⟨t, next, frame, others, record, (node _).trans ((handed _).trans (if_pos rfl)),
        fun n other => (node n).trans ((handed n).trans (if_neg other)), gives⟩
    | some old =>
      simp only [config] at work
      by_cases visit : { v.carConfig with needsVisit := old.needsVisit } = old
      · rw [if_pos visit] at work
        have turns := start.updCar (fun r => { r with config := some v.carConfig, deferred := none })
        obtain ⟨t, next, frame, others, record, -, nodes, gives⟩ := exec_carTurns (c := .carPut) rfl serves work turns
        refine ⟨t, next, frame, others, ?_⟩
        simp only [if_pos visit]
        exact ⟨record, nodes, gives⟩
      rw [if_neg visit] at work
      by_cases empty : (s.car (v.body 0 1)).releases = []
      · rw [if_pos empty] at work
        have turns := start.applyCar config v.carConfig
        obtain ⟨t, next, frame, others, record, node, -, gives⟩ := exec_carTurns (c := .carPut) rfl serves work turns
        have handed (n : NodeId) := State.node_applyCar (g := v.carConfig) config n
        rw [empty] at handed
        refine ⟨t, next, frame, others, ?_⟩
        simp only [if_neg visit, if_pos empty]
        refine ⟨?_, (node _).trans ((handed _).trans (if_pos rfl)), fun differ => ?_, fun n new former => ?_, gives⟩
        · by_cases node : old.node = v.carConfig.node
          · rw [if_pos node] at record ⊢
            exact record
          · rw [if_neg node] at record ⊢
            exact record
        · have moved : old.node ≠ v.carConfig.node := fun same => differ (by rw [same])
          exact (node _).trans ((handed _).trans ((if_neg differ).trans (if_pos ⟨moved, rfl⟩)))
        · exact (node n).trans ((handed n).trans ((if_neg new).trans (if_neg (fun h => former h.2))))
      · rw [if_neg empty] at work
        have turns := start.updCar (fun r => { r with deferred := some v.carConfig })
        obtain ⟨t, next, frame, others, record, -, nodes, gives⟩ := exec_carTurns (c := .carPut) rfl serves work turns
        refine ⟨t, next, frame, others, ?_⟩
        simp only [if_neg visit, if_neg empty]
        exact ⟨by rw [record, ← config], nodes, gives⟩

/-! ## Release entries that expire (R139), and the reply of a car's node (R142) -/

theorem State.carSettled_releases (s : State) (r : Car) : (s.carSettled r).releases = r.releases := by
  unfold State.carSettled
  (repeat' split) <;> rfl

/-- R136, R139: with entries left, or with no record deferred, settling changes nothing of the car. -/
theorem State.carSettled_same {r : Car} (s : State) (stays : r.releases ≠ [] ∨ r.deferred = none) : s.carSettled r = r := by
  unfold State.carSettled
  split
  · next old new config deferred =>
    rw [if_pos (stays.resolve_right (by rw [deferred]; simp))]
  · rfl

theorem State.carSettled_config {r : Car} {g : CarConfig} (s : State) (config : r.config = some g) :
    (s.carSettled r).config = if r.releases = [] ∧ r.deferred ≠ none then r.deferred else some g := by
  unfold State.carSettled
  rw [config]
  cases deferred : r.deferred with
  | none => simp [config]
  | some d =>
    by_cases empty : r.releases = []
    · simp only [empty, ne_eq, not_true_eq_false, if_false, reduceCtorEq, not_false_eq_true, and_self, if_true]
      split <;> rfl
    · simp [empty, config]

/-- R140: settling that applies no record hands the car's node its outputs. -/
theorem State.settleCar_same {i : Nat} {s : State} (stays : (s.car i).releases ≠ [] ∨ (s.car i).deferred = none) :
    s.settleCar i = s.handFloors i := by
  unfold State.settleCar
  split
  · next d deferred => rw [if_neg (stays.resolve_right (by rw [deferred]; simp))]
  · rfl

/-- R139: the expiry of a release entry. -/
theorem exec_releaseExpiry {s : State} {c tenant : Nat} {e : Release} {g : CarConfig}
    (entry : (s.car c).releases.find? (fun e => e.tenant == tenant) = some e) (due : e.timer = .due)
    (config : (s.car c).config = some g) :
    let left := (s.car c).releases.filter (fun e => e.tenant != tenant)
    ∃ t, exec (.releaseExpiry c tenant) s = .next t ∧
      t = { s with mem := t.mem, bus := t.bus, journal := t.journal, cars := t.cars, nodes := t.nodes } ∧
      (∀ d, d ≠ c → t.car d = s.car d) ∧ (t.car c).releases = left ∧
      t.car c = s.carSettled { s.car c with releases := left } ∧
      (t.car c).config = (if left = [] ∧ (s.car c).deferred ≠ none then (s.car c).deferred else some g) ∧
      ((left ≠ [] ∨ (s.car c).deferred = none) → (t.car c).state = (s.car c).state ∧
        (t.car c).deferred = (s.car c).deferred ∧ ∀ n, s.node g.node = some n →
          t.node g.node = some (Node.sentFloors s.mode.mode g left n)) ∧
      State.JournalOf (s.log .liftReleaseEnd (some c) (some tenant) ([0] ++ bytesOf 2 e.floors.toNat)) t := by
  intro left
  have named : e.tenant = tenant := by simpa using List.find?_some entry
  have due_ : (s.car c).releases.any (fun e => e.tenant == tenant && e.timer == .due) = true :=
    List.any_eq_true.2 ⟨e, List.mem_of_find?_eq_some entry, by simp [named, due]⟩
  have removed := ((State.CarTurns.start c (State.SameJournal.refl s)).updCar (fun r =>
    { r with releases := r.releases.filter (fun e => e.tenant != tenant) })).log .liftReleaseEnd (some c) (some e.tenant)
      (bytesOf 1 ReleaseReason.expired.code ++ bytesOf 2 e.floors.toNat)
  have turns := removed.settleCar (old := g) config
  have runs : s.releaseExpiry c tenant = s.removeRelease c tenant .expired := if_pos due_
  unfold State.removeRelease State.logRelease at runs
  rw [entry] at runs
  dsimp only at runs
  generalize left_eq : State.log _ _ _ _ (State.updCar c _ s) = u at removed turns runs
  have nodes (n : NodeId) : u.node n = s.node n := by rw [← left_eq, State.log_node]; rfl
  have record : (u.settleCar c).car c = s.carSettled { s.car c with releases := left } := by
    rw [turns.record, State.carSettled_congr removed.mode (fun n => by rw [nodes])]
  refine ⟨_, congrArg Host.Outcome.next runs, turns.frame.eq, turns.others, ?_, record, ?_, fun stays => ?_, ?_⟩
  · rw [record, State.carSettled_releases]
  · rw [record, State.carSettled_config s (by exact config)]
  · rw [record, State.carSettled_same s (by exact stays)]
    refine ⟨rfl, rfl, fun n node => ?_⟩
    rw [State.settleCar_same (by rw [removed.record]; exact stays), State.node_handFloors (g := g) (by rw [removed.record]; exact config),
      if_pos rfl, nodes, node, removed.mode, removed.record]
    rfl
  · rw [← named]
    exact turns.journal.1

theorem State.carOf_congr {s t : State} (same : ∀ d, (t.car d).config = (s.car d).config) (n : NodeId) : t.carOf n = s.carOf n := by
  simp only [State.carOf, State.carNumbers, same]

/-- R142: the car returns with its node. -/
theorem State.CarTurns.carRestored {i : Nat} {r : Car} {s w t : State} (h : s.CarTurns i r w t) :
    s.CarTurns i { r with state := if s.mode.mode = .evacuate then .inRecall else .inService } w (t.carRestored i) := by
  have back := (h.updCar (fun r => { r with state := t.carStateByMode })).handFloors
  unfold State.carStateByMode at back
  rw [h.mode] at back
  unfold State.carRestored State.carStateByMode
  rwa [h.mode]

/-- R142, R159: what counts for a CAR node, and the return of its car, before the car takes the status block. -/
theorem State.CarTurns.counted {n : NodeId} {r : Node} (kind : r.kind = .car) {i : Nat} {s : State} (owner : s.carOf n = some i) :
    s.CarTurns i (if r.state = .offline then
        { s.car i with state := if s.mode.mode = .evacuate then .inRecall else .inService } else s.car i)
      (s.beforeOwner n r) (s.counted n r) := by
  have start := State.CarTurns.start i (State.SameJournal.refl s)
  unfold State.counted State.beforeOwner
  cases state : r.state with
  | unknown => exact start.setNode n _
  | online => exact start.setNode n _
  | offline =>
    have told := (start.setNode n { r.noTags.noVerdicts with state := .online, faults := 0, restore := 0 }).log .nodeRestored
      (some n.subject) none []
    have named := State.carOf_congr (s := s) (fun d => by
      by_cases own : d = i
      · rw [own, told.record]
      · rw [told.others d own]) n
    unfold State.restoreNode
    dsimp only
    rw [kind]
    dsimp only
    rw [named, owner]
    dsimp only
    exact told.carRestored

/-- R142: a recall that a reply reports complete for the first time. -/
theorem State.CarTurns.carStatus {i : Nat} {r : Car} {s w t : State} (h : s.CarTurns i r w t) (complete : Bool) :
    s.CarTurns i
      (if r.state = .inRecall ∧ complete = true ∧ r.recallDone = false then { r with recallDone := true } else r)
      (if r.state = .inRecall ∧ complete = true ∧ r.recallDone = false then w.log .liftRecallComplete (some i) none [] else w)
      (t.carStatus i complete) := by
  have done := (h.updCar (fun r => { r with recallDone := true })).log .liftRecallComplete (some i) none []
  unfold State.carStatus
  dsimp only
  simp only [h.record, Bool.not_eq_true']
  split
  · exact done
  · exact h

/-- Settles O45: the expiry of an entry, and the reply of a car's node. -/
theorem releaseEntriesExpire : Obligations.ReleaseEntriesExpire := by
  refine ⟨fun s c tenant e g entry due config => exec_releaseExpiry entry due config, ?_⟩
  intro s l a frame r i hands kind owner back before
  obtain ⟨t, next, only⟩ := exec_reply_handsOn hands
  have counted := State.CarTurns.counted (n := ⟨l, a⟩) kind owner
  have named : (s.counted ⟨l, a⟩ r).carOf ⟨l, a⟩ = some i := by
    rw [← owner, State.carOf_congr]
    intro d
    by_cases own : d = i
    · rw [own, counted.record]
      split <;> rfl
    · rw [counted.others d own]
  have status := counted.carStatus (statusByte frame % 2 == 1)
  unfold State.handStatus at only
  rw [field_status] at only
  dsimp only at only
  rw [kind] at only
  dsimp only at only
  rw [named] at only
  dsimp only at only
  obtain ⟨-, -, -, -, -, tenants, -, units, -, -, -, -, register, portals, -⟩ := status.frame
  have bit : (statusByte frame).testBit 0 = (statusByte frame % 2 == 1) := Nat.testBit_zero _
  unfold State.OnlyExchange at only
  refine ⟨t, next, ?_⟩
  have record := status.record
  have journal := status.journal.1
  rw [bit, only]
  refine ⟨portals, units, tenants, register, status.others, ?_⟩
  by_cases recalls : back.state = .inRecall ∧ (statusByte frame % 2 == 1) = true ∧ back.recallDone = false
  · rw [if_pos recalls] at record journal ⊢
    exact ⟨record, journal⟩
  · rw [if_neg recalls] at record journal ⊢
    exact ⟨record, journal⟩

end Sys2Proof.Machine
end

section
/-! Unit door monitoring (chapter 5): O36. -/

namespace Sys2Proof

variable {α β : Type}

theorem Table.mem_of_find {k : Nat} {v : α} {t : Table α} (h : Table.find k t = some v) : (k, v) ∈ t := by
  induction t with
  | nil => cases h
  | cons e t ih =>
    by_cases same : e.1 = k
    · rw [Table.find, if_pos same] at h
      obtain rfl := Option.some.inj h
      rw [← same]
      exact List.mem_cons_self ..
    · rw [Table.find, if_neg same] at h
      exact List.mem_cons_of_mem _ (ih h)

theorem Table.find_of_mem {k : Nat} {v : α} {t : Table α} (sorted : Table.Sorted t) (h : (k, v) ∈ t) :
    Table.find k t = some v := by
  induction t with
  | nil => cases h
  | cons e t ih =>
    obtain ⟨before, rest⟩ := List.pairwise_cons.1 sorted
    obtain rfl | h := List.mem_cons.1 h
    · rw [Table.find, if_pos rfl]
    · rw [Table.find, if_neg (Nat.ne_of_lt (before _ h)), ih rest h]

/-- A value put at a key that is listed leaves the keys, and what the new value agrees in with the old one. -/
theorem Table.map_insert {g : α → β} {k : Nat} {v old : α} {t : Table α} (sorted : Table.Sorted t)
    (found : Table.find k t = some old) (same : g v = g old) :
    (Table.insert k v t).map (fun e => (e.1, g e.2)) = t.map (fun e => (e.1, g e.2)) := by
  induction t with
  | nil => cases found
  | cons e t ih =>
    obtain ⟨before, rest⟩ := List.pairwise_cons.1 sorted
    by_cases own : k = e.1
    · rw [Table.find, if_pos own.symm] at found
      obtain rfl := Option.some.inj found
      rw [Table.insert, if_neg (by omega), if_pos own]
      simp [same, own]
    · rw [Table.find, if_neg (Ne.symm own)] at found
      have above : e.1 < k := before _ (Table.mem_of_find found)
      rw [Table.insert, if_neg (by omega), if_neg own, List.map_cons, ih rest found, List.map_cons]

theorem Table.findKey_congr {p : β → Bool} {g : α → β} {t u : Table α}
    (same : u.map (fun e => (e.1, g e.2)) = t.map (fun e => (e.1, g e.2))) :
    Table.findKey (fun x => p (g x)) u = Table.findKey (fun x => p (g x)) t := by
  have through (t : Table α) : Table.findKey (fun x => p (g x)) t =
      ((t.map (fun e => (e.1, g e.2))).find? (fun e => p e.2)).map (fun e => e.1) := by
    rw [List.find?_map, Option.map_map]
    rfl
  rw [through, through, same]

theorem Table.of_findKey {p : α → Bool} {k : Nat} {t : Table α} (h : Table.findKey p t = some k) : ∃ v, (k, v) ∈ t ∧ p v = true := by
  obtain ⟨e, found, rfl⟩ := Option.map_eq_some_iff.1 h
  exact ⟨e.2, List.mem_of_find?_eq_some found, List.find?_some (p := fun e : Nat × α => p e.2) found⟩

end Sys2Proof

namespace Sys2Proof.Machine

/-! ## Reports of contacts (R93, R94) -/

/-- R94: the record of a unit whose contact is reported. -/
def UnitRecord.reported (opened : Bool) (x : UnitRecord) : UnitRecord :=
  if x.door = (if opened then .opened else .closed) then x
  else if opened = true then { x with door := .opened, fresh := false, arm := if x.arm = .armed then .intrusion else x.arm }
  else { x with door := .closed, fresh := false, arm := if x.arm = .leftOpen then .armed else x.arm }

/-- R94, R101: the entry of one report of unit `u`, whose record is `x`. -/
def State.reportEntry (u : Nat) (opened : Bool) (flag : Nat) (x : UnitRecord) (w : State) : State :=
  if opened = true then
    (if x.arm = .armed ∧ x.door ≠ .opened then
      w.log .unitIntrusion (some u) none (bytesOf 1 (if x.fresh then 1 else flag)) else w)
  else if x.arm = .leftOpen ∧ x.door ≠ .closed then
    w.log .unitArmed (some u) none ([1] ++ bytesOf 1 (if x.fresh then 1 else flag)) else w

/-- R94: one report of a unit's contact. -/
theorem State.contactReport_eq {u : Nat} {x : UnitRecord} {s : State} (h : s.unit u = some x) (opened : Bool)
    (how : ReplyStanding) : s.contactReport u opened how = State.reportEntry u opened how.flag.code x
      (if x.door = (if opened then .opened else .closed) then s else s.setUnit u (x.reported opened)) := by
  have flag : (if x.fresh = true then SeenFlag.firstReport else how.flag).code = if x.fresh = true then 1 else how.flag.code := by
    split <;> rfl
  have shown (f : SeenFlag) : bytesOfOption 1 ((some f).map SeenFlag.code) = bytesOf 1 f.code := rfl
  unfold State.contactReport State.reportEntry UnitRecord.reported State.logArmed
  rw [h]
  dsimp only
  rw [shown, flag]
  cases opened
  · by_cases door : x.door = .closed
    · simp [door]
    · cases x.arm <;> simp [door] <;> rfl
  · by_cases door : x.door = .opened
    · simp [door]
    · cases x.arm <;> simp [door]

theorem State.reportEntry_unit (u : Nat) (opened : Bool) (flag : Nat) (x : UnitRecord) (w : State) :
    (State.reportEntry u opened flag x w).units = w.units := by
  unfold State.reportEntry
  (repeat' split) <;> simp

theorem State.SameJournal.reportEntry {w t : State} (h : State.SameJournal w t) (u : Nat) (opened : Bool) (flag : Nat)
    (x : UnitRecord) : State.SameJournal (State.reportEntry u opened flag x w) (State.reportEntry u opened flag x t) := by
  unfold State.reportEntry
  (repeat' split) <;> first | exact h.log _ _ _ _ | exact h

/-- From `o` to `t` only the door, the arm state and the first report of units have changed. -/
structure State.SameContacts (o t : State) : Prop where
  sorted : Table.Sorted t.units
  same : t.units.map (fun e => (e.1, e.2.contact)) = o.units.map (fun e => (e.1, e.2.contact))

theorem State.SameContacts.unitAt {o t : State} (h : o.SameContacts t) (n : NodeId) (i : Nat) : t.unitAt n i = o.unitAt n i :=
  Table.findKey_congr (p := fun c => c == some ({ node := n, input := i } : Contact)) (g := UnitRecord.contact) h.same

theorem UnitRecord.reported_contact (opened : Bool) (x : UnitRecord) : (x.reported opened).contact = x.contact := by
  unfold UnitRecord.reported
  (repeat' split) <;> rfl

/-- R93, R94: one report, to the unit of a contact: its record, and the entry. -/
theorem State.contactReport_spec {o w t : State} {u : Nat} {x : UnitRecord} (contacts : o.SameContacts t)
    (journal : State.SameJournal w t) (h : t.unit u = some x) (opened : Bool) (how : ReplyStanding) :
    o.SameContacts (t.contactReport u opened how) ∧
      State.SameJournal (State.reportEntry u opened how.flag.code x w) (t.contactReport u opened how) ∧
      (t.contactReport u opened how).unit u = some (x.reported opened) ∧
      ∀ v, v ≠ u → (t.contactReport u opened how).unit v = t.unit v := by
  have unit (v : Nat) (s : State) : (State.reportEntry u opened how.flag.code x s).unit v = s.unit v := by
    rw [State.unit, State.reportEntry_unit, State.unit]
  have units := State.reportEntry_unit u opened how.flag.code x
  rw [State.contactReport_eq h]
  by_cases door : x.door = (if opened = true then .opened else .closed)
  · rw [if_pos door]
    have same : x.reported opened = x := if_pos door
    refine ⟨⟨by rw [units]; exact contacts.sorted, by rw [units]; exact contacts.same⟩, journal.reportEntry .., ?_, fun v _ => unit v t⟩
    rw [unit, h, same]
  · rw [if_neg door]
    refine ⟨⟨?_, ?_⟩, ?_, ?_, fun v other => ?_⟩
    · rw [units]
      exact Table.insert_sorted u _ contacts.sorted
    · rw [units, ← contacts.same]
      exact Table.map_insert contacts.sorted h (x.reported_contact opened)
    · exact (journal.trans (State.setUnit_sameJournal u _ t)).reportEntry ..
    · rw [unit, State.unit_setUnit_self]
    · rw [unit, State.unit_setUnit_ne other]

/-- R93: the unit whose contact is an input of a node. -/
theorem State.unitAt_spec {n : NodeId} {i u : Nat} {s : State} (sorted : Table.Sorted s.units) (h : s.unitAt n i = some u) :
    ∃ x, s.unit u = some x ∧ x.contact = some { node := n, input := i } := by
  obtain ⟨x, listed, contact⟩ := Table.of_findKey h
  exact ⟨x, Table.find_of_mem sorted listed, by simpa using contact⟩

/-- R93, R94: the reports of a list of inputs, each to another unit. -/
theorem State.inputReports_spec {o : State} (sorted : Table.Sorted o.units) (n : NodeId) (inputs : Nat) (how : ReplyStanding)
    (is : List Nat) (nodup : is.Nodup) {w t : State} (contacts : o.SameContacts t) (journal : State.SameJournal w t)
    (waiting : ∀ i ∈ is, ∀ u, o.unitAt n i = some u → t.unit u = o.unit u) :
    let t' := t.forEach is (State.inputReport n inputs how)
    State.SameJournal (is.foldl (fun w i => match o.unitAt n i with
        | none => w
        | some u => match o.unit u with
          | none => w
          | some x => State.reportEntry u (inputs.testBit i) how.flag.code x w) w) t' ∧
      (∀ i ∈ is, ∀ u, o.unitAt n i = some u → t'.unit u = (o.unit u).map (UnitRecord.reported (inputs.testBit i))) ∧
      ∀ u, (∀ i ∈ is, o.unitAt n i ≠ some u) → t'.unit u = t.unit u := by
  induction is generalizing w t with
  | nil => exact ⟨journal, fun i none => absurd none (List.not_mem_nil), fun _ _ => rfl⟩
  | cons i is ih =>
    obtain ⟨fresh, rest⟩ := List.nodup_cons.1 nodup
    have at_ := contacts.unitAt n i
    cases owner : o.unitAt n i with
    | none =>
      have idle : t.inputReport n inputs how i = t := by
        unfold State.inputReport
        rw [at_, owner]
      obtain ⟨told, hit, missed⟩ := ih rest contacts journal (fun j listed => waiting j (List.mem_cons_of_mem _ listed))
      rw [State.forEach_cons, idle, List.foldl_cons, owner]
      refine ⟨told, fun j listed u named => ?_, fun u other => missed u (fun j listed => other j (List.mem_cons_of_mem _ listed))⟩
      obtain rfl | listed := List.mem_cons.1 listed
      · rw [owner] at named
        cases named
      · exact hit j listed u named
    | some u =>
      obtain ⟨x, had, contact⟩ := State.unitAt_spec sorted owner
      have now : t.unit u = some x := (waiting i (List.mem_cons_self ..) u owner).trans had
      have reports : t.inputReport n inputs how i = t.contactReport u (inputs.testBit i) how := by
        unfold State.inputReport
        rw [at_, owner]
      obtain ⟨contacts', journal', self, others⟩ := State.contactReport_spec contacts journal now (inputs.testBit i) how
      have apart (j : Nat) (listed : j ∈ is) (v : Nat) (named : o.unitAt n j = some v) : v ≠ u := by
        rintro rfl
        obtain ⟨y, had', contact'⟩ := State.unitAt_spec sorted named
        obtain rfl : x = y := Option.some.inj (had.symm.trans had')
        have same : i = j := by simpa using contact.symm.trans contact'
        exact fresh (same ▸ listed)
      obtain ⟨told, hit, missed⟩ := ih rest contacts' journal' (fun j listed v named =>
        (others v (apart j listed v named)).trans (waiting j (List.mem_cons_of_mem _ listed) v named))
      rw [State.forEach_cons, reports, List.foldl_cons, owner]
      dsimp only
      rw [had]
      refine ⟨told, fun j listed v named => ?_, fun v other => ?_⟩
      · obtain rfl | listed := List.mem_cons.1 listed
        · obtain rfl : u = v := Option.some.inj (owner.symm.trans named)
          rw [missed u (fun j listed named => apart j listed u named rfl), self, had]
          rfl
        · exact hit j listed v named
      · rw [missed v (fun j listed => other j (List.mem_cons_of_mem _ listed))]
        exact others v (fun same => other i (List.mem_cons_self ..) (same ▸ owner))

/-- R93, R94, R101: the entries of the reports of a node's inputs. -/
theorem State.contactEntries_eq (n : NodeId) (inputs flag : Nat) (s w : State) :
    s.contactEntries n inputs flag w = (List.range 32).foldl (fun w i => match s.unitAt n i with
        | none => w
        | some u => match s.unit u with
          | none => w
          | some x => State.reportEntry u (inputs.testBit i) flag x w) w := rfl

/-! ## The reply of a UNIT node (R97, R160) -/

/-- R155, R160: a reply of a UNIT node: its status block goes to the units, it brings no read, and the exchange ends. -/
theorem exec_reply_unit {s : State} {l a : Nat} {frame : List LineChar} {r : Node} (hands : s.HandsOn l a frame r)
    (kind : r.kind = .unit) :
    ∃ t, exec (.reply l frame) s = .next t ∧
      ((s.counted ⟨l, a⟩ r).unitReport ⟨l, a⟩ (numberOf ((statusBytes frame).take 4))
        (((statusBytes frame).getD 4 0).toNat.testBit 0) (.of r.state)).OnlyLines t := by
  obtain ⟨-, polled, node, good, ready⟩ := hands
  have runs : s.judgeReply l frame = (s.goodReply ⟨l, a⟩ (frame.map (fun c => c.data))).endExchange l := by
    unfold State.judgeReply
    rw [polled]
    dsimp only
    rw [node]
    dsimp only
    rw [good]
  have tamper : (field 6 1 (frame.map (fun c => c.data)) % 2 == 1) = ((statusBytes frame).getD 4 0).toNat.testBit 0 := by
    rw [Nat.testBit_zero, show (statusBytes frame).getD 4 0 = ((frame.map (fun c => c.data)).drop 6).getD 0 0 from by
      simp [statusBytes]]
    unfold field
    cases (frame.map (fun c => c.data)).drop 6 with
    | nil => rfl
    | cons b bs => simp [numberOf, beq_eq_decide]
  have handed : s.goodReply ⟨l, a⟩ (frame.map (fun c => c.data)) = (s.counted ⟨l, a⟩ r).unitReport ⟨l, a⟩
      (numberOf ((statusBytes frame).take 4)) (((statusBytes frame).getD 4 0).toNat.testBit 0) (.of r.state) := by
    have inputs : field 2 4 (frame.map (fun c => c.data)) = numberOf ((statusBytes frame).take 4) := rfl
    rw [State.goodReply_handsOn node ready]
    unfold State.handOn State.handStatus
    rw [kind, inputs, tamper]
    dsimp only
    generalize State.unitReport _ _ _ _ _ = u
    split <;> rfl
  refine ⟨_, congrArg Host.Outcome.next runs, ?_⟩
  rw [handed]
  exact State.endExchange_frame l _

/-- R157, R159: what counts for a UNIT node before its units are told. -/
theorem State.counted_unit {n : NodeId} {r : Node} {s : State} (kind : r.kind = .unit) :
    State.SameJournal (s.beforeOwner n r) (s.counted n r) ∧ (s.counted n r).units = s.units ∧
      (∃ r', (s.counted n r).node n = some r' ∧ r'.tamper = r.tamper) ∧
      s.OnlyField (s.counted n r) ∧ (s.counted n r).portals = s.portals ∧ (s.counted n r).cars = s.cars ∧
      (s.counted n r).tenants = s.tenants ∧ (s.counted n r).register = s.register ∧ (s.counted n r).reads = s.reads := by
  unfold State.counted State.beforeOwner
  cases state : r.state with
  | unknown => exact ⟨.refl s, rfl, ⟨_, State.node_setNode_self _ _ _, rfl⟩, by simp [State.OnlyField], rfl, rfl, rfl, rfl, rfl⟩
  | online => exact ⟨.refl s, rfl, ⟨_, State.node_setNode_self _ _ _, rfl⟩, by simp [State.OnlyField], rfl, rfl, rfl, rfl, rfl⟩
  | offline =>
    unfold State.restoreNode
    dsimp only
    rw [kind]
    dsimp only
    have start : State.SameJournal s (s.setNode n { r.noTags.noVerdicts with state := .online, faults := 0, restore := 0 }) :=
      ⟨⟨rfl, rfl, rfl⟩, rfl, rfl⟩
    refine ⟨start.log _ _ _ _, by simp, ⟨_, (State.log_node _ _ _ _ _ _).trans (State.node_setNode_self _ _ _), rfl⟩,
      by simp [State.OnlyField], by simp, by simp, by simp, by simp, by simp⟩

/-- R97: the tamper flag of the status block. -/
theorem State.tamperReport_spec {n : NodeId} {r : Node} {w t : State} (node : t.node n = some r) (journal : State.SameJournal w t)
    (tamper : Bool) (how : ReplyStanding) :
    State.SameJournal (if tamper = r.tamper then w
        else if tamper = true then w.log .nodeTamper (some n.subject) none (bytesOf 1 how.flag.code)
        else w.log .nodeTamperClear (some n.subject) none []) (t.tamperReport n tamper how) ∧
      (∃ r', (t.tamperReport n tamper how).node n = some r' ∧ r'.tamper = tamper) ∧
      (t.tamperReport n tamper how).units = t.units := by
  unfold State.tamperReport
  rw [node]
  dsimp only
  by_cases same : r.tamper = tamper
  · rw [if_pos same, if_pos same.symm]
    exact ⟨journal, ⟨r, node, same⟩, rfl⟩
  · rw [if_neg same, if_neg (Ne.symm same)]
    have start : State.SameJournal w (t.setNode n { r with tamper := tamper }) := journal.trans ⟨⟨rfl, rfl, rfl⟩, rfl, rfl⟩
    cases tamper
    · exact ⟨start.log _ _ _ _, ⟨_, (State.log_node _ _ _ _ _ _).trans (State.node_setNode_self _ _ _), rfl⟩, by simp⟩
    · exact ⟨start.log _ _ _ _, ⟨_, (State.log_node _ _ _ _ _ _).trans (State.node_setNode_self _ _ _), rfl⟩, by simp⟩

/-! ## UNIT_CLEAR (R96) -/

/-- R96: UNIT_CLEAR of a unit in INTRUSION. -/
theorem exec_unitClear {s : State} {v : Service} (serves : s.Serves .unitClear v) {r : UnitRecord}
    (small : v.body 0 2 ≤ 4095) (unit : s.unit (v.body 0 2) = some r) (arm : r.arm = .intrusion) :
    let number := v.body 0 2
    let cleared := s.log .unitCleared (some number) none (bytesOf 1 r.clearedArm.code)
    ∃ t, exec .unitClear s = .next t ∧
      t = { s with mem := t.mem, bus := t.bus, journal := t.journal, units := t.units, slips := t.slips } ∧
      t.unit number = some { r with arm := r.clearedArm } ∧ (∀ u, u ≠ number → t.unit u = s.unit u) ∧
      State.JournalOf (if r.clearedArm = .leftOpen then cleared.log .unitLeftOpen (some number) none [] else cleared) t ∧
      s.Gives v (.done ({ r with arm := r.clearedArm } : UnitRecord).monitorBytes) t := by
  intro number cleared
  have work : unitClear v s = unitClear v s := rfl
  conv at work => rhs; unfold unitClear
  dsimp only at work
  rw [if_neg (show ¬ Config.units ≤ v.body 0 2 from Nat.not_le.2 (Nat.lt_succ_of_le small)), unit] at work
  dsimp only at work
  rw [if_neg (not_not.2 arm)] at work
  have start : State.SameJournal s (s.setUnit number { r with arm := r.clearedArm }) := State.setUnit_sameJournal _ _ s
  have told := start.log .unitCleared (some number) none (bytesOf 1 r.clearedArm.code)
  have units (u : Nat) (t : State) (h : t.units = (s.setUnit number { r with arm := r.clearedArm }).units) :
      t.unit u = if u = number then some { r with arm := r.clearedArm } else s.unit u := by
    rw [State.unit, h]
    by_cases own : u = number
    · rw [if_pos own, own]
      exact State.unit_setUnit_self _ _ _
    · rw [if_neg own]
      exact State.unit_setUnit_ne own _ _
  obtain ⟨u, work, journal, same, frame⟩ : ∃ u, unitClear v s =
      (u, .served (.done ({ r with arm := r.clearedArm } : UnitRecord).monitorBytes)) ∧
      State.SameJournal (if r.clearedArm = .leftOpen then cleared.log .unitLeftOpen (some number) none [] else cleared) u ∧
      u.units = (s.setUnit number { r with arm := r.clearedArm }).units ∧ s.OnlyUnitMonitor u := by
    refine ⟨_, work, ?_, ?_, ?_⟩
    · split
      · exact told.log _ _ _ _
      · exact told
    · split <;> simp [number]
    · split <;> simp [State.OnlyUnitMonitor]
  have whole : u = { s with mem := u.mem, bus := u.bus, journal := u.journal, units := u.units } := by
    clear journal same work
    cases u; cases s; simp_all [State.OnlyUnitMonitor]
  obtain ⟨t, next, eq, gives⟩ := exec_serves (c := .unitClear) rfl serves work (by rw [whole])
  obtain ⟨x, rfl⟩ : ∃ x, t = { u with slips := x } := ⟨_, eq⟩
  exact ⟨_, next, congrArg (fun y : State => { y with slips := x }) whole, (units number u same).trans (if_pos rfl),
    fun v other => (units v u same).trans (if_neg other), journal.1, gives⟩

/-- R93, R94, R97: what a report of a UNIT node does, by its inputs. -/
theorem exec_reply_unit_spec {s : State} {l a : Nat} {frame : List LineChar} {r : Node} (hands : s.HandsOn l a frame r)
    (kind : r.kind = .unit) (sorted : Table.Sorted s.units) :
    let n : NodeId := { line := l, address := a }
    let inputs := numberOf ((statusBytes frame).take 4)
    let tamper := ((statusBytes frame).getD 4 0).toNat.testBit 0
    let flag := (ReplyStanding.of r.state).flag.code
    let reported := s.contactEntries n inputs flag (s.beforeOwner n r)
    ∃ t, exec (.reply l frame) s = .next t ∧
      t.portals = s.portals ∧ t.cars = s.cars ∧ t.tenants = s.tenants ∧ t.register = s.register ∧ t.reads = s.reads ∧
      (∀ u, s.unit u = none → t.unit u = none) ∧
      (∀ u x, s.unit u = some x → x.contact.any (fun c => c.node == n) = false → t.unit u = some x) ∧
      (∀ u x i, s.unit u = some x → x.contact = some { node := n, input := i } → i < 32 →
        (∀ e ∈ s.units, e.2.contact = x.contact → e.1 = u) → t.unit u = some (x.reported (inputs.testBit i))) ∧
      (∃ r', t.node n = some r' ∧ r'.tamper = tamper) ∧
      State.JournalOf (if tamper = r.tamper then reported
        else if tamper = true then reported.log .nodeTamper (some n.subject) none (bytesOf 1 flag)
        else reported.log .nodeTamperClear (some n.subject) none []) t := by
  intro n inputs tamper flag reported
  obtain ⟨t, next, only⟩ := exec_reply_unit hands kind
  obtain ⟨-, -, node, -, -⟩ := hands
  obtain ⟨before, units, ⟨r', node', same⟩, -, portals, cars, tenants, register, reads⟩ := State.counted_unit (n := n) (s := s) kind
  obtain ⟨told, hit, missed⟩ := State.inputReports_spec sorted n inputs (.of r.state) (List.range 32) List.nodup_range
    (w := s.beforeOwner n r) (t := s.counted n r) ⟨by rw [units]; exact sorted, by rw [units]⟩ before
    (fun i _ u _ => by rw [State.unit, units, State.unit])
  rw [← State.contactEntries_eq] at told
  have frame₁ := State.inputReports_frame n inputs (.of r.state) (List.range 32) (s.counted n r)
  have frame₂ := State.tamperReport_frame n tamper (.of r.state)
    ((s.counted n r).forEach (List.range 32) (State.inputReport n inputs (.of r.state)))
  unfold State.unitReport at only
  generalize (s.counted n r).forEach (List.range 32) (State.inputReport n inputs (.of r.state)) = u at *
  obtain ⟨-, -, -, -, -, tenants₁, -, -, -, -, reads₁, register₁, portals₁, cars₁, -, nodes₁, -⟩ := frame₁
  obtain ⟨-, -, -, -, -, tenants₂, -, -, -, -, reads₂, register₂, portals₂, cars₂, -⟩ := frame₂
  obtain ⟨journal, ⟨r'', node'', tampered⟩, units₂⟩ := State.tamperReport_spec (n := n) (r := r') (w := reported) (t := u)
    (by rw [State.node, nodes₁]; exact node') told tamper (.of r.state)
  rw [same] at journal
  have whole := only.eq
  have unit (v : Nat) : t.unit v = u.unit v := by rw [State.unit, whole, State.unit]; exact congrArg _ units₂
  have unlisted (v : Nat) (none : ∀ i ∈ List.range 32, s.unitAt n i ≠ some v) : t.unit v = s.unit v := by
    rw [unit, missed v none, State.unit, units, State.unit]
  refine ⟨t, next, ?_, ?_, ?_, ?_, ?_, fun v none => ?_, fun v x had elsewhere => ?_, fun v x i had contact small unique => ?_,
    ⟨r'', ?_, tampered⟩, ?_⟩
  · rw [whole]; exact portals₂.trans (portals₁.trans portals)
  · rw [whole]; exact cars₂.trans (cars₁.trans cars)
  · rw [whole]; exact tenants₂.trans (tenants₁.trans tenants)
  · rw [whole]; exact register₂.trans (register₁.trans register)
  · rw [whole]; exact reads₂.trans (reads₁.trans reads)
  · refine (unlisted v (fun i _ named => ?_)).trans none
    obtain ⟨x, had, -⟩ := State.unitAt_spec sorted named
    rw [none] at had
    cases had
  · refine (unlisted v (fun i _ named => ?_)).trans had
    obtain ⟨y, had', contact⟩ := State.unitAt_spec sorted named
    obtain rfl : x = y := Option.some.inj (had.symm.trans had')
    simp [contact] at elsewhere
  · have named : s.unitAt n i = some v := by
      have listed : (v, x) ∈ s.units := Table.mem_of_find had
      cases owner : s.unitAt n i with
      | none =>
        have none := Option.map_eq_none_iff.1 owner
        have differs := List.find?_eq_none.1 none (v, x) listed
        exact absurd (by simp [contact]) differs
      | some k =>
        obtain ⟨y, stands, contact'⟩ := State.unitAt_spec sorted owner
        exact congrArg some (unique (k, y) (Table.mem_of_find stands) (contact'.trans contact.symm))
    rw [unit, hit i (List.mem_range.2 small) v named, had]
    rfl
  · rw [State.node, whole]
    exact node''
  · rw [whole]
    exact journal.1

/-- Settles O36: the slip by its refusals, and the report by inputs. -/
theorem unitClearLeavesIntrusion : Obligations.UnitClearLeavesIntrusion := by
  unfold Obligations.UnitClearLeavesIntrusion
  dsimp only
  refine ⟨fun s v serves => ⟨fun high => ?_, fun small none => ?_, fun r small unit => ⟨fun other => ?_, fun arm => ?_⟩⟩, ?_⟩
  · exact exec_refused (c := .unitClear) rfl serves (if_pos (show Config.units ≤ v.body 0 2 from high))
  · have work : unitClear v s = (s, .served (.notFound 1)) := by
      unfold unitClear
      dsimp only
      rw [if_neg (show ¬ Config.units ≤ v.body 0 2 from Nat.not_le.2 (Nat.lt_succ_of_le small)), none]
    obtain ⟨t, next, same, gives⟩ := exec_refused (c := .unitClear) rfl serves work
    exact ⟨t, _, next, same, gives⟩
  · have work : unitClear v s = (s, .served (.refusal .notApplicable r.monitorBytes)) := by
      unfold unitClear
      dsimp only
      rw [if_neg (show ¬ Config.units ≤ v.body 0 2 from Nat.not_le.2 (Nat.lt_succ_of_le small)), unit]
      exact if_pos other
    exact exec_refused (c := .unitClear) rfl serves work
  · have arms : r.clearedArm = if 0 < r.holders then .disarmed else if r.door = .opened then .leftOpen else .armed := by
      simp only [UnitRecord.clearedArm, Nat.pos_iff_ne_zero]
    rw [← arms]
    exact exec_unitClear serves small unit arm
  · intro s l a frame r hands kind sorted
    have spec := exec_reply_unit_spec hands kind sorted
    cases state : r.state <;> rw [state] at spec <;> exact spec

end Sys2Proof.Machine
end

section
/-! What the journal leaves of the mirror and of the causes: the bytes 24 to 31 of block 0, and every cause that is set. -/

namespace Sys2Proof.Machine

/-- From `s` to `t` the run state, the mode, the source, the clock state and the minute are shown as before, and every cause that
was set stays set. -/
structure State.KeepsShown (s t : State) : Prop where
  shown : ∀ c, 24 ≤ c → c < 32 → t.byteAt c = s.byteAt c
  causes : ∀ i, s.bus.cause.getLsbD i = true → t.bus.cause.getLsbD i = true

namespace State.KeepsShown

theorem refl (s : State) : s.KeepsShown s := ⟨fun _ _ _ => rfl, fun _ => id⟩

theorem trans {s t u : State} (h : s.KeepsShown t) (k : t.KeepsShown u) : s.KeepsShown u :=
  ⟨fun c low high => (k.shown c low high).trans (h.shown c low high), fun i set => k.causes i (h.causes i set)⟩

theorem of_parts {s t : State} (mem : t.mem = s.mem) (bus : t.bus = s.bus) : s.KeepsShown t :=
  ⟨fun c _ _ => State.byteAt_congr mem c, fun i set => by rwa [bus]⟩

theorem withJournal (j : Journal) (s : State) : s.KeepsShown { s with journal := j } := of_parts rfl rfl

theorem raise (c : Cause) (s : State) : s.KeepsShown (s.raise c) :=
  ⟨fun _ _ _ => rfl, fun i set => by simp [State.raise, BitVec.getLsbD_or, set]⟩

theorem mirrorJournal (s : State) : s.KeepsShown s.mirrorJournal where
  shown c low high := State.byteAt_mirror_outside (.inr (by omega)) (.inl (by omega)) s
  causes i set := by simpa [State.mirrorJournal] using set

theorem takePage (p : Nat) (s : State) : s.KeepsShown (s.takePage p) where
  shown c low high := by
    rw [State.byteAt_takePage, if_neg (by omega), if_neg (by omega), if_neg (by omega)]
  causes i set := by rwa [State.takePage_bus]

theorem markFull (r : CloseReason) (s : State) : s.KeepsShown (s.markFull r) where
  shown c low high := by
    rw [State.byteAt_markFull, if_neg (by omega), if_neg (by omega), if_neg (by omega)]
  causes i set := by simp [BitVec.getLsbD_or, set]

theorem stallOn (q : Nat) (s : State) : s.KeepsShown (s.stallOn q) :=
  (withJournal { s.journal with page := q, stalled := true, reexamine := false } s).trans (raise .stall _)

theorem closePage (r : CloseReason) (s : State) : s.KeepsShown (s.closePage r) := by
  unfold State.closePage
  dsimp only
  split
  · exact ((markFull r s).trans (takePage _ _)).trans (mirrorJournal _)
  · exact ((markFull r s).trans (stallOn _ _)).trans (mirrorJournal _)

theorem placeEntry (e : Entry) (s : State) : s.KeepsShown (s.placeEntry e) where
  shown c low high := by
    rw [State.byteAt_placeEntry, if_neg (by omega), if_neg (by omega), if_neg (by omega)]
  causes i set := by rwa [State.placeEntry_bus]

theorem alarmOf (kind : EntryKind) (s : State) : s.KeepsShown (s.alarmOf kind) := by
  unfold State.alarmOf
  split
  · exact raise .alarm s
  · exact refl s

theorem writeEntry (e : Entry) (s : State) : s.KeepsShown (s.writeEntry e) := by
  have placed := (placeEntry e s).trans (alarmOf e.kind _)
  by_cases last : s.entryCount s.journal.page = 62
  · rw [State.writeEntry_last e last]
    exact placed.trans (closePage .full _)
  · rw [State.writeEntry_room e last]
    exact placed

theorem forEach {α : Type} {f : α → State → State} (step : ∀ x (s : State), s.KeepsShown (f x s)) (xs : List α) (s : State) :
    s.KeepsShown (s.forEach xs f) := by
  induction xs generalizing s with
  | nil => exact refl s
  | cons x xs ih => exact (step x s).trans (ih _)

theorem recover (s : State) : s.KeepsShown s.recover := by
  have held := ((takePage s.journal.page s).trans (withJournal { (s.takePage s.journal.page).journal with holdover := [] } _)).trans
    (forEach writeEntry s.journal.holdover _)
  unfold State.recover
  dsimp only
  split
  · exact held
  · exact (held.trans (writeEntry _ _)).trans ((withJournal _ _).trans (mirrorJournal _))

theorem holdEntry (e : Entry) (s : State) : s.KeepsShown (s.holdEntry e) := by
  unfold State.holdEntry State.dropAlarm State.dropRoutine
  dsimp only
  split
  · refine (raise .alarm s).trans ?_
    split
    · exact withJournal _ _
    · split
      · exact (withJournal _ _).trans (mirrorJournal _)
      · exact refl _
  · split
    · exact (withJournal _ _).trans (mirrorJournal _)
    · exact refl _

theorem submit (e : Entry) (s : State) : s.KeepsShown (s.submit e) := by
  unfold State.submit
  split
  · exact writeEntry e s
  · split
    · exact (recover s).trans (writeEntry e _)
    · exact holdEntry e s

/-- R194: an entry leaves what the mirror shows of run state, mode and clock. -/
theorem log (kind : EntryKind) (subject tenant : Option Nat) (detail : List Byte) (s : State) :
    s.KeepsShown (s.log kind subject tenant detail) := submit _ s

theorem foldl {α : Type} {f : State → α → State} (step : ∀ x (s : State), s.KeepsShown (f s x)) (xs : List α) (s : State) :
    s.KeepsShown (xs.foldl f s) := by
  induction xs generalizing s with
  | nil => exact refl s
  | cons x xs ih => exact (step x s).trans (ih _)

end State.KeepsShown

/-! ## An alarm entry raises ALARM (R195, R197) -/

theorem State.alarmOf_raises {kind : EntryKind} (alarm : kind.alarm = true) (s : State) :
    (s.alarmOf kind).bus.cause.getLsbD 2 = true := by
  rw [State.alarmOf_cause, if_pos alarm]
  simp

theorem State.writeEntry_raises {e : Entry} (alarm : e.kind.alarm = true) (s : State) :
    (s.writeEntry e).bus.cause.getLsbD 2 = true := by
  have raised := State.alarmOf_raises alarm (s.placeEntry e)
  by_cases last : s.entryCount s.journal.page = 62
  · rw [State.writeEntry_last e last]
    exact (State.KeepsShown.closePage .full _).causes 2 raised
  · rw [State.writeEntry_room e last]
    exact raised

theorem State.log_raises {kind : EntryKind} (alarm : kind.alarm = true) (subject tenant : Option Nat) (detail : List Byte)
    (s : State) : (s.log kind subject tenant detail).bus.cause.getLsbD 2 = true := by
  unfold State.log State.submit
  split
  · exact State.writeEntry_raises alarm s
  · split
    · exact State.writeEntry_raises alarm _
    · unfold State.holdEntry State.dropAlarm
      rw [if_pos (show (s.entry kind subject tenant detail).kind.alarm = true from alarm)]
      have raised : (s.raise .alarm).bus.cause.getLsbD 2 = true := by simp [State.raise, Cause.bit]
      dsimp only
      split
      · exact raised
      · split
        · exact (State.KeepsShown.mirrorJournal _).causes 2 raised
        · exact raised

end Sys2Proof.Machine
end

section
/-! All portals and all cars in one event (chapters 6, 7 and 9): what the evaluation of every portal, the refreshing of every window
and the telling of every car do, in ascending order. -/

namespace Sys2Proof.Machine

/-! ## Portals, one after another -/

theorem State.SameAround.trans {s t u : State} (h : s.SameAround t) (k : t.SameAround u) : s.SameAround u :=
  ⟨k.1.trans h.1, k.2.1.trans h.2.1, k.2.2.1.trans h.2.2.1, k.2.2.2.trans h.2.2.2⟩

/-- Works on different portals, each described from the state `o`, one after another. -/
theorem State.forEach_turns {o : State} {f : Nat → State → State} {turned : Nat → Portal} {tell : State → Nat → State}
    {ps : List Nat} (step : ∀ p ∈ ps, ∀ w t, o.SameAround t → t.portal p = o.portal p → State.SameJournal w t →
      t.Turns p (turned p) (tell w p) (f p t)) (nodup : ps.Nodup) {w t : State} (around : o.SameAround t)
    (same : ∀ p ∈ ps, t.portal p = o.portal p) (journal : State.SameJournal w t) :
    t.OnlyDoors (t.forEach ps f) ∧ State.SameJournal (ps.foldl tell w) (t.forEach ps f) ∧
      (∀ p ∈ ps, (t.forEach ps f).portal p = turned p) ∧ ∀ p, p ∉ ps → (t.forEach ps f).portal p = t.portal p := by
  induction ps generalizing w t with
  | nil => exact ⟨.refl t, journal, fun p none => absurd none List.not_mem_nil, fun _ _ => rfl⟩
  | cons p ps ih =>
    obtain ⟨fresh, nodup⟩ := List.nodup_cons.1 nodup
    have first := step p (List.mem_cons_self ..) w t around (same p (List.mem_cons_self ..)) journal
    have apart {q : Nat} (listed : q ∈ ps) : q ≠ p := fun own => fresh (own ▸ listed)
    obtain ⟨frame, told, hit, missed⟩ := ih (fun q listed => step q (List.mem_cons_of_mem _ listed)) nodup (around.trans first.sameAround)
      (fun q listed => (first.others q (apart listed)).trans (same q (List.mem_cons_of_mem _ listed))) first.journal
    refine ⟨first.frame.trans frame, told, fun q listed => ?_, fun q unlisted => ?_⟩
    · obtain rfl | listed := List.mem_cons.1 listed
      · exact (missed q fresh).trans first.record
      · exact hit q listed
    · obtain ⟨other, unlisted⟩ := not_or.1 (fun h => unlisted (List.mem_cons.2 h))
      exact (missed q unlisted).trans (first.others q other)

theorem State.evaluatedEntries_congr {s t : State} (h : s.SameAround t) (p : Nat) (c : PortalConfig) (r : Portal) (w : State) :
    t.evaluatedEntries p c r w = s.evaluatedEntries p c r w := by
  unfold State.evaluatedEntries
  rw [State.evaluated_congr h, State.sources_congr h.1, State.heldEntry_congr h.1, State.heldEntry_congr h.1]

theorem State.mem_portalNumbers {p : Nat} {s : State} : p ∈ s.portalNumbers ↔ p < 48 ∧ (s.portal p).config.isSome = true := by
  simp [State.portalNumbers, Config.portals]

theorem State.nodup_portalNumbers (s : State) : s.portalNumbers.Nodup := List.nodup_range.filter _

theorem State.portalNumbers_congr {s t : State} (same : ∀ p, t.portal p = s.portal p) : t.portalNumbers = s.portalNumbers := by
  simp only [State.portalNumbers, same]

/-- The entries of the configured portals, in ascending order. -/
theorem State.foldl_portalNumbers {o t : State} (same : ∀ p, t.portal p = o.portal p) (tell : State → Nat → State) (w : State) :
    t.portalNumbers.foldl tell w =
      (List.range 48).foldl (fun w p => if (o.portal p).config.isSome = true then tell w p else w) w := by
  rw [State.portalNumbers_congr same, State.portalNumbers, List.foldl_filter]
  rfl

/-- R121, R174: the sources of every configured portal are evaluated, in ascending order. -/
theorem State.evaluateAll_spec {o w t : State} (around : o.SameAround t) (same : ∀ p, t.portal p = o.portal p)
    (journal : State.SameJournal w t) : t.OnlyDoors t.evaluateAll ∧ State.SameJournal (o.portalEntries w) t.evaluateAll ∧
      ∀ p < 48, ∀ c, (o.portal p).config = some c → t.evaluateAll.portal p = o.evaluated c (o.portal p) := by
  obtain ⟨frame, told, hit, -⟩ := State.forEach_turns (o := o) (f := State.evaluateSources) (ps := t.portalNumbers)
    (turned := fun p => (o.portal p).config.elim (o.portal p) (fun c => o.evaluated c (o.portal p)))
    (tell := fun w p => (o.portal p).config.elim w (fun c => o.evaluatedEntries p c (o.portal p) w))
    (fun p listed w t around' at_ journal => by
      have start := State.Turns.start p journal
      rw [at_] at start
      obtain ⟨c, config⟩ := Option.isSome_iff_exists.1 (State.mem_portalNumbers.1 listed).2
      rw [same] at config
      have turns := start.evaluateSources config
      rw [State.evaluated_congr around', State.evaluatedEntries_congr around'] at turns
      simp only [config, Option.elim_some]
      exact turns)
    t.nodup_portalNumbers around (fun p _ => same p) journal
  refine ⟨frame, ?_, fun p small c config => ?_⟩
  · have entries : t.portalNumbers.foldl (fun w p => (o.portal p).config.elim w (fun c => o.evaluatedEntries p c (o.portal p) w)) w =
        o.portalEntries w := by
      rw [State.foldl_portalNumbers same]
      unfold State.portalEntries
      congr 1
      funext w p
      cases (o.portal p).config <;> rfl
    rw [entries] at told
    exact told
  · have listed : p ∈ t.portalNumbers := State.mem_portalNumbers.2 ⟨small, by rw [same, config]; rfl⟩
    have turned := hit p listed
    simp only [config, Option.elim_some] at turned
    exact turned

/-- R28, R31, R121: the free-access window of every portal with a profile is found anew and its sources are evaluated, in
ascending order. -/
theorem State.refreshWindows_spec {o w t : State} (around : o.SameAround t) (same : ∀ p, t.portal p = o.portal p)
    (journal : State.SameJournal w t) : t.OnlyDoors t.refreshWindows ∧ State.SameJournal (o.windowEntries w) t.refreshWindows ∧
      ∀ p < 48, ∀ c, (o.portal p).config = some c → t.refreshWindows.portal p = match c.free with
        | none => o.portal p
        | some n => o.evaluated c { o.portal p with window := o.windowTest n } := by
  obtain ⟨frame, told, hit, -⟩ := State.forEach_turns (o := o) (f := State.refreshWindow) (ps := t.portalNumbers)
    (turned := fun p => (o.portal p).config.elim (o.portal p) (fun c => c.free.elim (o.portal p)
      (fun n => o.evaluated c { o.portal p with window := o.windowTest n })))
    (tell := fun w p => (o.portal p).config.elim w (fun c => c.free.elim w
      (fun n => o.evaluatedEntries p c { o.portal p with window := o.windowTest n } w)))
    (fun p listed w t around' at_ journal => by
      have start := State.Turns.start p journal
      rw [at_] at start
      obtain ⟨c, config⟩ := Option.isSome_iff_exists.1 (State.mem_portalNumbers.1 listed).2
      rw [same] at config
      simp only [config, Option.elim_some]
      unfold State.refreshWindow
      rw [at_, config]
      dsimp only
      rw [State.windowOf_eq]
      cases free : c.free with
      | none => exact start
      | some n =>
        have turns := (start.updPortal (fun r => { r with window := t.windowTest n })).evaluateSources config
        rw [State.evaluated_congr around', State.evaluatedEntries_congr around', State.windowTest_congr around'] at turns
        simp only [← State.windowTest_congr around'] at turns ⊢
        rw [config] at turns
        exact turns)
    t.nodup_portalNumbers around (fun p _ => same p) journal
  refine ⟨frame, ?_, fun p small c config => ?_⟩
  · have entries : t.portalNumbers.foldl (fun w p => (o.portal p).config.elim w (fun c => c.free.elim w
        (fun n => o.evaluatedEntries p c { o.portal p with window := o.windowTest n } w))) w = o.windowEntries w := by
      rw [State.foldl_portalNumbers same]
      unfold State.windowEntries
      congr 1
      funext w p
      cases (o.portal p).config with
      | none => rfl
      | some c => cases free : c.free <;> simp [free]
    rw [entries] at told
    exact told
  · have listed : p ∈ t.portalNumbers := State.mem_portalNumbers.2 ⟨small, by rw [same, config]; rfl⟩
    have turned := hit p listed
    simp only [config, Option.elim_some] at turned
    cases free : c.free with
    | none => exact turned.trans (by rw [free]; rfl)
    | some n => exact turned.trans (by rw [free, ← config]; rfl)

end Sys2Proof.Machine
end

section
/-! The cars that are told of the site mode (chapter 7), and what every event keeps of the states of the nodes. -/

namespace Sys2Proof.Machine

/-! ## Works that keep something of every node -/

/-- From `s` to `t` every node keeps `g` of it. -/
abbrev State.KeepsOfNodes {α : Type} (g : Node → α) (s t : State) : Prop := ∀ n, (t.node n).map g = (s.node n).map g

/-- From `s` to `t` every node keeps its state. -/
abbrev State.KeepsNodeStates (s t : State) : Prop := State.KeepsOfNodes (fun x => x.state) s t

namespace State.KeepsOfNodes

variable {α : Type} {g : Node → α} {o s : State}

theorem updNode (h : State.KeepsOfNodes g o s) (m : NodeId) {f : Node → Node} (keeps : ∀ r, g (f r) = g r) :
    State.KeepsOfNodes g o (s.updNode m f) := by
  intro n
  rw [← h n, State.node_updNode]
  split
  · rw [Option.map_map]
    exact congrFun (congrArg _ (funext keeps)) _
  · rfl

theorem of_nodes {t : State} (h : State.KeepsOfNodes g o s) (nodes : t.nodes = s.nodes) : State.KeepsOfNodes g o t := fun n => by
  rw [← h n, State.node, nodes]
  rfl

theorem updCar (h : State.KeepsOfNodes g o s) (i : Nat) (f : Car → Car) : State.KeepsOfNodes g o (s.updCar i f) := h.of_nodes rfl

theorem log (h : State.KeepsOfNodes g o s) (kind : EntryKind) (subject tenant : Option Nat) (detail : List Byte) :
    State.KeepsOfNodes g o (s.log kind subject tenant detail) :=
  fun n => by rw [State.log_node, h n]

section
variable (blind : ∀ (r : Node) (floors : Word) (on : Bool), g { r with floors := floors, recallOn := on } = g r)
include blind

theorem handFloors (h : State.KeepsOfNodes g o s) (i : Nat) : State.KeepsOfNodes g o (s.handFloors i) := by
  unfold State.handFloors
  split
  · exact h
  · exact h.updNode _ (fun r => blind r _ _)

theorem releaseCarNode (h : State.KeepsOfNodes g o s) (n : NodeId) : State.KeepsOfNodes g o (s.releaseCarNode n) :=
  h.updNode _ (fun r => blind r _ _)

theorem settleCar (h : State.KeepsOfNodes g o s) (i : Nat) : State.KeepsOfNodes g o (s.settleCar i) := by
  unfold State.settleCar State.applyCar
  dsimp only
  split
  · split
    · split
      · split
        · exact handFloors blind (h.updCar i _) i
        · exact handFloors blind ((releaseCarNode blind (h.updCar i _) _).updCar i _) i
      · exact handFloors blind (h.updCar i _) i
    · exact handFloors blind h i
  · exact handFloors blind h i

theorem emptyReleases (h : State.KeepsOfNodes g o s) (i : Nat) (reason : ReleaseReason) :
    State.KeepsOfNodes g o (s.emptyReleases i reason) := by
  refine settleCar blind (fun n => ?_) i
  rw [State.CarTurns.node_logReleases]
  exact h.updCar i _ n

end

end State.KeepsOfNodes

namespace State.KeepsNodeStates

variable {o s : State}

theorem portalWork (o : State) (p : Nat) : PortalWork p (fun _ => o.KeepsNodeStates) where
  more h := h
  updPortal h _ := KeepsOfNodes.of_nodes h rfl
  keep h _ _ := KeepsOfNodes.of_nodes h rfl
  handLock h := by
    unfold State.handLock
    dsimp only
    split
    · exact KeepsOfNodes.of_nodes h rfl
    · refine KeepsOfNodes.updNode (KeepsOfNodes.of_nodes h ?_) _ (fun _ => rfl)
      rfl
  releaseLockNode h := KeepsOfNodes.updNode h _ (fun _ => rfl)
  elsewhere h frame := by
    obtain ⟨-, -, -, -, -, -, -, -, -, -, -, -, -, nodes, -⟩ := frame
    exact KeepsOfNodes.of_nodes h nodes

theorem evaluateAll (s : State) : s.KeepsNodeStates s.evaluateAll :=
  PortalWork.evaluateEach (P := fun _ => s.KeepsNodeStates) (portalWork s) (fun _ => rfl)

end State.KeepsNodeStates

/-! ## A car that is told of the mode (R141) -/

/-- R141: the car `r` after it has been told of the mode of `s`. -/
def State.carTold (s : State) (r : Car) : Car :=
  if r.state = .inService ∨ r.state = .inRecall then
    match s.mode.mode with
    | .normal => if r.state = .inRecall then { r with state := .inService, recallDone := false } else r
    | .lockdown => s.carSettled { r with releases := [] }
    | .evacuate =>
      let settled := s.carSettled { r with releases := [] }
      { settled with state := if settled.state = .inService then .inRecall else settled.state, recallDone := false }
  else r

/-- R141, R144: the entries of car `i`, which stands as `r`, as it is told of the mode of `s`. -/
def State.toldEntries (i : Nat) (s : State) (r : Car) (w : State) : State :=
  if r.state = .inService ∨ r.state = .inRecall then
    match s.mode.mode with
    | .normal => w
    | .lockdown => w.releaseEntries i 3 r.releases
    | .evacuate => w.releaseEntries i 4 r.releases
  else w

theorem State.carTold_congr {s t : State} (mode : t.mode = s.mode) (nodes : s.KeepsNodeStates t) (r : Car) :
    t.carTold r = s.carTold r := by
  simp only [State.carTold, mode, State.carSettled_congr mode nodes]

theorem State.toldEntries_congr {s t : State} (mode : t.mode = s.mode) (i : Nat) (r : Car) (w : State) :
    t.toldEntries i r w = s.toldEntries i r w := by
  simp only [State.toldEntries, mode]

theorem State.carMode_here {i : Nat} {s : State} (here : (s.car i).state = .inService ∨ (s.car i).state = .inRecall) :
    s.carMode i = match s.mode.mode with
      | .normal =>
        if (s.car i).state = .inRecall then
          (s.updCar i (fun r => { r with state := .inService, recallDone := false })).handFloors i
        else s.handFloors i
      | .lockdown => s.emptyReleases i .lockdown
      | .evacuate => ((s.emptyReleases i .evacuation).updCar i (fun r =>
          { r with state := if r.state = .inService then .inRecall else r.state, recallDone := false })).handFloors i := by
  unfold State.carMode
  obtain here | here := here <;> rw [here] <;> rfl

theorem State.carMode_away {i : Nat} {s : State} (away : ¬ ((s.car i).state = .inService ∨ (s.car i).state = .inRecall)) :
    s.carMode i = s ∨ s.carMode i = s.handFloors i := by
  unfold State.carMode
  split
  · exact .inl rfl
  · exact .inr rfl
  all_goals exact absurd (by simp [*]) away

theorem State.KeepsOfNodes.carMode {α : Type} {g : Node → α} {o s : State}
    (blind : ∀ (r : Node) (floors : Word) (on : Bool), g { r with floors := floors, recallOn := on } = g r)
    (h : State.KeepsOfNodes g o s) (i : Nat) : State.KeepsOfNodes g o (s.carMode i) := by
  by_cases here : (s.car i).state = .inService ∨ (s.car i).state = .inRecall
  · rw [State.carMode_here here]
    split
    · split
      · exact (h.updCar i _).handFloors blind i
      · exact h.handFloors blind i
    · exact h.emptyReleases blind i _
    · exact ((h.emptyReleases blind i _).updCar i _).handFloors blind i
  · obtain same | same := State.carMode_away here <;> rw [same]
    · exact h
    · exact h.handFloors blind i

theorem State.CarTurns.carMode {i : Nat} {r : Car} {old : CarConfig} {s w t : State} (h : s.CarTurns i r w t)
    (config : r.config = some old) : s.CarTurns i (t.carTold r) (t.toldEntries i r w) (t.carMode i) := by
  unfold State.carTold State.toldEntries
  by_cases here : r.state = .inService ∨ r.state = .inRecall
  · rw [if_pos here, if_pos here, State.carMode_here (by rw [h.record]; exact here)]
    cases mode : t.mode.mode with
    | normal =>
      simp only [h.record]
      split
      · exact (h.updCar (fun r => { r with state := .inService, recallDone := false })).handFloors
      · exact h.handFloors
    | lockdown => exact h.emptyReleases config .lockdown
    | evacuate =>
      exact ((h.emptyReleases config .evacuation).updCar (fun r =>
        { r with state := if r.state = .inService then .inRecall else r.state, recallDone := false })).handFloors
  · rw [if_neg here, if_neg here]
    obtain same | same := State.carMode_away (s := t) (i := i) (by rw [h.record]; exact here) <;> rw [same]
    · exact h
    · exact h.handFloors

theorem State.mem_carNumbers {i : Nat} {s : State} : i ∈ s.carNumbers ↔ i < 4 ∧ (s.car i).config.isSome = true := by
  simp [State.carNumbers, Config.cars]

theorem State.nodup_carNumbers (s : State) : s.carNumbers.Nodup := List.nodup_range.filter _

/-- Cars told of the mode one after another, each described from the state `o`. -/
theorem State.forEach_carTold {o : State} {is : List Nat} (nodup : is.Nodup) {w t : State} (mode : t.mode = o.mode)
    (nodes : o.KeepsNodeStates t) (configured : ∀ i ∈ is, (o.car i).config.isSome = true) (same : ∀ i ∈ is, t.car i = o.car i)
    (journal : State.SameJournal w t) :
    let u := t.forEach is State.carMode
    t.OnlyCarUnit u ∧ o.KeepsNodeStates u ∧ State.SameJournal (is.foldl (fun w i => o.toldEntries i (o.car i) w) w) u ∧
      (∀ i ∈ is, u.car i = o.carTold (o.car i)) ∧ ∀ i, i ∉ is → u.car i = t.car i := by
  induction is generalizing w t with
  | nil => exact ⟨(State.CarTurns.start 0 journal).frame, nodes, journal, fun i none => absurd none List.not_mem_nil, fun _ _ => rfl⟩
  | cons i is ih =>
    obtain ⟨fresh, nodup⟩ := List.nodup_cons.1 nodup
    obtain ⟨c, config⟩ := Option.isSome_iff_exists.1 (configured i (List.mem_cons_self ..))
    have start := State.CarTurns.start i journal
    rw [same i (List.mem_cons_self ..)] at start
    have first := start.carMode config
    rw [State.carTold_congr mode nodes, State.toldEntries_congr mode] at first
    have apart {q : Nat} (listed : q ∈ is) : q ≠ i := fun own => fresh (own ▸ listed)
    obtain ⟨frame, kept, told, hit, missed⟩ := ih nodup (first.mode.trans mode) (nodes.carMode (fun _ _ _ => rfl) i)
      (fun q listed => configured q (List.mem_cons_of_mem _ listed))
      (fun q listed => (first.others q (apart listed)).trans (same q (List.mem_cons_of_mem _ listed))) first.journal
    refine ⟨first.frame.trans frame, kept, told, fun q listed => ?_, fun q unlisted => ?_⟩
    · obtain rfl | listed := List.mem_cons.1 listed
      · exact (missed q fresh).trans first.record
      · exact hit q listed
    · obtain ⟨other, unlisted⟩ := not_or.1 (fun h => unlisted (List.mem_cons.2 h))
      exact (missed q unlisted).trans (first.others q other)

/-- R141, R174: the configured cars are told of the mode, in ascending order. -/
theorem State.carModeAll_spec {o w t : State} (mode : t.mode = o.mode) (nodes : o.KeepsNodeStates t) (same : ∀ i, t.car i = o.car i)
    (journal : State.SameJournal w t) : t.OnlyCarUnit t.carModeAll ∧ o.KeepsNodeStates t.carModeAll ∧
      State.SameJournal (o.carEntries w) t.carModeAll ∧
      ∀ i < 4, (o.car i).config.isSome = true → t.carModeAll.car i = o.carTold (o.car i) := by
  have numbers : t.carNumbers = o.carNumbers := by simp only [State.carNumbers, same]
  obtain ⟨frame, kept, told, hit, -⟩ := State.forEach_carTold (nodup := t.nodup_carNumbers) mode nodes
    (fun i listed => by rw [← same]; exact (State.mem_carNumbers.1 listed).2) (fun i _ => same i) journal
  refine ⟨frame, kept, ?_, fun i small config => hit i (State.mem_carNumbers.2 ⟨small, by rw [same, config]⟩)⟩
  have entries : t.carNumbers.foldl (fun w i => o.toldEntries i (o.car i) w) w = o.carEntries w := by
    rw [numbers, State.carNumbers, List.foldl_filter]
    unfold State.carEntries State.toldEntries
    congr 1
    funext w i
    by_cases config : (o.car i).config.isSome = true <;> simp [config] <;> rfl
  rw [entries] at told
  exact told

end Sys2Proof.Machine
end

section
/-! A change of the site mode (section 9.3), and the filter of the FIRE input (section 9.2): O56 and O57. -/

namespace Sys2Proof.Machine

/-! ## Both blocks are told (R174) -/

/-- From `s` to `t` nothing but the portal and car channels, the nodes and what the journal touches has changed. -/
abbrev State.OnlyChannels (s t : State) : Prop :=
  t.bus.run = s.bus.run ∧ t.settings = s.settings ∧ t.slips = s.slips ∧ t.tenants = s.tenants ∧ t.creds = s.creds ∧
    t.units = s.units ∧ t.clock = s.clock ∧ t.profiles = s.profiles ∧ t.holidays = s.holidays ∧ t.reads = s.reads ∧
    t.register = s.register ∧ t.lines = s.lines ∧ t.mode = s.mode

/-- R174, step 4: both blocks have been told of the mode of `o`. -/
structure State.ModeTold (order : ModeOrder) (o t : State) : Prop where
  frame : o.OnlyChannels t
  journal : State.SameJournal (o.modeEntries order) t
  portals : ∀ p < 48, ∀ c, (o.portal p).config = some c → t.portal p = o.evaluated c (o.portal p)
  cars : ∀ i < 4, (o.car i).config.isSome = true → t.car i = o.carTold (o.car i)

/-- R174: in either order each block reads of the other nothing that it changes. -/
theorem State.tellMode_told (order : ModeOrder) (o : State) : o.ModeTold order (o.tellMode order) := by
  have around : o.SameAround o := ⟨rfl, rfl, rfl, rfl⟩
  cases order with
  | portalsFirst =>
    obtain ⟨doors, told, portals⟩ := State.evaluateAll_spec around (fun _ => rfl) (State.SameJournal.refl o)
    have sameCars (i : Nat) : o.evaluateAll.car i = o.car i := by rw [doors.eq]; rfl
    obtain ⟨frame, -, entries, cars⟩ := State.carModeAll_spec (doors.sameAround.1) (State.KeepsNodeStates.evaluateAll o) sameCars told
    refine ⟨?_, entries, fun p small c config => ?_, cars⟩
    · change o.OnlyChannels o.evaluateAll.carModeAll
      simp_all [State.OnlyDoors, State.OnlyCarUnit, State.OnlyChannels]
    · rw [← portals p small c config]
      change o.evaluateAll.carModeAll.portal p = o.evaluateAll.portal p
      rw [frame.eq]
      rfl
  | carsFirst =>
    obtain ⟨frame, -, told, cars⟩ := State.carModeAll_spec (o := o) rfl (fun _ => rfl) (fun _ => rfl) (State.SameJournal.refl o)
    have samePortals (p : Nat) : o.carModeAll.portal p = o.portal p := by rw [frame.eq]; rfl
    obtain ⟨doors, entries, portals⟩ := State.evaluateAll_spec (o := o) (by rw [frame.eq]; exact around) samePortals told
    refine ⟨?_, entries, portals, fun i small config => ?_⟩
    · change o.OnlyChannels o.carModeAll.evaluateAll
      simp_all [State.OnlyDoors, State.OnlyCarUnit, State.OnlyChannels]
    · rw [← cars i small config]
      change o.carModeAll.evaluateAll.car i = o.carModeAll.car i
      rw [doors.eq]
      rfl

/-! ## What the entries leave in the mirror and in the causes -/

namespace State.KeepsShown

theorem heldEntry (p : Nat) (o : State) (r : Portal) (w : State) : w.KeepsShown (o.heldEntry p r w) := by
  unfold State.heldEntry
  split
  · exact log _ _ _ _ w
  · exact refl w

theorem evaluatedEntries (p : Nat) (c : PortalConfig) (o : State) (r : Portal) (w : State) :
    w.KeepsShown (o.evaluatedEntries p c r w) := by
  unfold State.evaluatedEntries
  split
  · exact heldEntry _ _ _ _
  · split
    · exact refl w
    · exact (log _ _ _ _ w).trans (heldEntry _ _ _ _)

theorem portalEntries (o w : State) : w.KeepsShown (o.portalEntries w) := by
  refine foldl (fun p w => ?_) _ w
  split
  · exact evaluatedEntries _ _ _ _ _
  · exact refl w

theorem releaseEntries (i reason : Nat) (es : List Release) (w : State) : w.KeepsShown (w.releaseEntries i reason es) :=
  foldl (fun _ w => log _ _ _ _ w) _ w

theorem carEntries (o w : State) : w.KeepsShown (o.carEntries w) := by
  refine foldl (fun i w => ?_) _ w
  split
  · split
    · exact refl w
    · exact releaseEntries _ _ _ w
    · exact releaseEntries _ _ _ w
  · exact refl w

theorem modeEntries (order : ModeOrder) (o : State) : o.KeepsShown (o.modeEntries order) := by
  cases order with
  | portalsFirst => exact (portalEntries o o).trans (carEntries o _)
  | carsFirst => exact (carEntries o o).trans (portalEntries o _)

end State.KeepsShown

/-! ## The change (R174) -/

theorem State.changeMode_eq (after : SiteMode) (src : Option EvacuationSource) (trigger : Trigger) (order : ModeOrder) (s : State) :
    s.changeMode after src trigger order = (s.modeChanged after src trigger.code).tellMode order := by
  have shown : (s.modeChanged after src trigger.code) =
      State.mirrorMode (((s.setMode after src).log .modeChange none none (bytesOf 1 s.mode.mode.code ++ bytesOf 1 after.code ++
        bytesOfOption 1 (src.map EvacuationSource.code) ++ bytesOf 1 trigger.code)).raise .mode) := by
    unfold State.modeChanged State.mirrorMode State.setMode
    dsimp only
    rw [List.append_assoc (bytesOf 1 s.mode.mode.code) (bytesOf 1 after.code)]
    generalize logged : State.log _ _ _ _ _ = u
    have mode : u.mode.mode = after := by rw [← logged]; simp
    have source : u.mode.source = src := by rw [← logged]; simp
    change _ = State.mirror 25 (bytesOf 1 u.mode.mode.code ++ bytesOfOption 1 (u.mode.source.map EvacuationSource.code)) (u.raise .mode)
    rw [mode, source]
    rfl
  rw [shown]
  rfl

/-- R174: the state as it stands before both blocks are told. -/
theorem State.modeChanged_spec (after : SiteMode) (src : Option EvacuationSource) (trigger : Nat) (s : State) :
    let m := s.modeChanged after src trigger
    m = { s with mem := m.mem, bus := m.bus, journal := m.journal, mode := { s.mode with mode := after, source := src } } ∧
      m.bus.run = s.bus.run ∧ m.bus.cause.getLsbD 5 = true ∧ m.bus.cause.getLsbD 2 = true ∧
      m.peek 25 2 = bytesOf 1 after.code ++ bytesOfOption 1 (src.map EvacuationSource.code) := by
  unfold State.modeChanged
  dsimp only
  generalize logged : State.log _ _ _ _ _ = u
  have frame := State.log_frame .modeChange none none (bytesOf 1 s.mode.mode.code ++
    (bytesOf 1 after.code ++ bytesOfOption 1 (src.map EvacuationSource.code)) ++ bytesOf 1 trigger)
    { s with mode := { s.mode with mode := after, source := src } }
  have alarm : u.bus.cause.getLsbD 2 = true := by
    rw [← logged]
    exact State.log_raises rfl _ _ _ _
  rw [logged] at frame
  have same := frame.eq
  obtain ⟨run, -⟩ := frame
  generalize raised : ({ u with bus := { u.bus with cause := u.bus.cause ||| 0x20#7 } } : State) = x
  have mirrored := State.mirror_frame 25 (bytesOf 1 after.code ++ bytesOfOption 1 (src.map EvacuationSource.code)) x
  have shown := State.peek_mirror (a := 25) (by decide) (bytesOf 1 after.code ++ bytesOfOption 1 (src.map EvacuationSource.code)) x
  have two : (bytesOf 1 after.code ++ bytesOfOption 1 (src.map EvacuationSource.code)).length = 2 := by
    rw [List.length_append, length_bytesOf, length_bytesOfOption]
  rw [two] at shown
  have bus := mirrored.1
  refine ⟨?_, ?_, ?_, ?_, shown⟩
  · rw [mirrored.eq, ← raised]
    dsimp only
    rw [same]
  · rw [bus, ← raised]
    exact run
  · rw [bus, ← raised]
    simp
  · rw [bus, ← raised]
    simp [alarm]

theorem State.byteAt_of_peek_two {a : Nat} {x y : Byte} {s : State} (h : s.peek a 2 = [x, y]) : s.byteAt a = x ∧ s.byteAt (a + 1) = y := by
  change [s.byteAt (a + 0), s.byteAt (a + 1)] = [x, y] at h
  simpa using h

/-- Two states agree in all that a change of the mode leaves: all but memory, the bus port, the journal and the mode. -/
abbrev State.SameBlocks (s t : State) : Prop :=
  t = { s with mem := t.mem, bus := t.bus, journal := t.journal, mode := t.mode }

namespace State.ModeTold

variable {order : ModeOrder} {s o t : State} (h : o.ModeTold order t)
include h

theorem mode : t.mode = o.mode := by
  obtain ⟨-, -, -, -, -, -, -, -, -, -, -, -, mode⟩ := h.frame
  exact mode

theorem sourcesEvaluated (same : s.SameBlocks o) : s.SourcesEvaluated t := by
  intro p small c config
  have portal : o.portal p = s.portal p := by rw [same]; rfl
  rw [h.portals p small c (by rw [portal, config]), portal]
  exact State.evaluated_congr (s := { s with mode := t.mode }) ⟨h.mode.symm, by rw [same], by rw [same], by rw [same]⟩ c _

theorem carsTold (same : s.SameBlocks o) : s.CarsTold t := by
  intro i small config
  have car : o.car i = s.car i := by rw [same]; rfl
  have told := h.cars i small (by rw [car, config])
  rw [car] at told
  refine ⟨fun away => ?_, fun here => ?_⟩
  · rw [told, State.carTold, if_neg (by simp [away])]
  · have settles : o.carSettled { s.car i with releases := [] } =
        State.carSettled { s with mode := t.mode } { s.car i with releases := [] } :=
      State.carSettled_congr (s := { s with mode := t.mode }) h.mode.symm (fun n => by rw [same]; rfl) _
    dsimp only
    rw [told, State.carTold, if_pos here, ← settles, h.mode] <;> cases o.mode.mode <;> rfl

theorem shown : t.byteAt 25 = o.byteAt 25 ∧ t.byteAt 26 = o.byteAt 26 := by
  have kept := State.KeepsShown.modeEntries order o
  exact ⟨(State.byteAt_congr h.journal.1.1 25).trans (kept.shown 25 (by decide) (by decide)),
    (State.byteAt_congr h.journal.1.1 26).trans (kept.shown 26 (by decide) (by decide))⟩

theorem causes {i : Nat} (set : o.bus.cause.getLsbD i = true) : t.bus.cause.getLsbD i = true := by
  rw [h.journal.1.2.1]
  exact (State.KeepsShown.modeEntries order o).causes i set

end State.ModeTold

/-- R174, R204: the byte that shows a source of evacuation, or none. -/
def shownSource : Option EvacuationSource → Byte
  | some e => BitVec.ofNat 8 e.code
  | none => 0xFF

/-- R174: what is shown of a change, and what is told. -/
theorem State.changeMode_shown (after : SiteMode) (src : Option EvacuationSource) (trigger : Trigger) (order : ModeOrder) (s : State) :
    let t := s.changeMode after src trigger order
    (s.modeChanged after src trigger.code).ModeTold order t ∧ s.SameBlocks (s.modeChanged after src trigger.code) ∧
      t.mode = { s.mode with mode := after, source := src } ∧ t.bus.run = s.bus.run ∧ t.bus.cause.getLsbD 5 = true ∧ t.bus.cause.getLsbD 2 = true ∧
      t.byteAt 25 = BitVec.ofNat 8 after.code ∧ t.byteAt 26 = shownSource src := by
  obtain ⟨same, run, mode, alarm, shown⟩ := State.modeChanged_spec after src trigger.code s
  have told := State.tellMode_told order (s.modeChanged after src trigger.code)
  rw [State.changeMode_eq]
  generalize State.modeChanged after src trigger.code s = m at *
  have bytes : m.peek 25 2 = [BitVec.ofNat 8 after.code, shownSource src] := shown.trans (by cases src <;> rfl)
  obtain ⟨first, second⟩ := State.byteAt_of_peek_two bytes
  refine ⟨told, ?_, told.mode.trans (by rw [same]), told.frame.1.trans run, told.causes mode, told.causes alarm,
    told.shown.1.trans first, told.shown.2.trans second⟩
  have eq := same
  rw [show ({ s.mode with mode := after, source := src } : ModeUnit) = m.mode by rw [same]] at eq
  exact eq

/-! ## The mode slips (R172, R173) -/

/-- R141: a car with no record deferred, told of the mode. -/
theorem State.carTold_plain {s : State} {r : Car} (plain : r.deferred = none) :
    (s.mode.mode ≠ .normal → r.state = .inService ∨ r.state = .inRecall → (s.carTold r).releases = []) ∧
      (s.mode.mode = .evacuate → r.state = .inService → (s.carTold r).state = .inRecall) ∧
      (s.mode.mode = .normal → r.state = .inRecall → (s.carTold r).state = .inService) ∧
      (s.mode.mode = .normal → (s.carTold r).releases = r.releases) := by
  have settled : s.carSettled { r with releases := [] } = { r with releases := [] } := State.carSettled_same s (.inr plain)
  unfold State.carTold
  rw [settled]
  cases mode : s.mode.mode with
  | normal =>
    refine ⟨fun h => absurd rfl h, fun h => (nomatch h), fun _ here => ?_, fun _ => ?_⟩
    · rw [if_pos (.inr here)]
      exact congrArg Car.state (if_pos here)
    · dsimp only
      (repeat' split) <;> rfl
  | lockdown =>
    refine ⟨fun _ here => ?_, fun h => (nomatch h), fun h => (nomatch h), fun h => (nomatch h)⟩
    rw [if_pos here]
  | evacuate =>
    refine ⟨fun _ here => ?_, fun _ here => ?_, fun h => (nomatch h), fun h => (nomatch h)⟩
    · rw [if_pos here]
    · rw [if_pos (.inl here)]
      exact if_pos here

/-- Settles O57: each of the three slips, by the mode and the FIRE state. -/
theorem modeSlipsChangeTheMode : Obligations.ModeSlipsChangeTheMode := by
  intro s v order shown resumed still becomes
  have changes (after : SiteMode) (src : Option EvacuationSource) (trigger : Trigger) (x : SlipUnit) :
      becomes after src trigger.code { s.changeMode after src trigger order with slips := x } := by
    obtain ⟨told, same, mode, run, five, two, first, second⟩ := State.changeMode_shown after src trigger order s
    generalize s.changeMode after src trigger order = t at *
    have frame := told.frame
    have cars := told.carsTold same
    have sources := told.sourcesEvaluated same
    refine ⟨told.journal.1, mode, five, two, first, second.trans (by cases src <;> rfl), run, ?_⟩
    obtain ⟨-, settings, -, tenants, creds, units, clock, profiles, holidays, reads, register, lines, -⟩ := frame
    refine ⟨settings.trans (by rw [same]), tenants.trans (by rw [same]), creds.trans (by rw [same]), units.trans (by rw [same]),
      clock.trans (by rw [same]), profiles.trans (by rw [same]), holidays.trans (by rw [same]), reads.trans (by rw [same]),
      register.trans (by rw [same]), lines.trans (by rw [same]), sources, cars, fun i small config plain => ?_⟩
    have car : (s.modeChanged after src trigger.code).car i = s.car i := by rw [same]; rfl
    have record := told.cars i small (by rw [car, config])
    have becomesMode : (s.modeChanged after src trigger.code).mode.mode = after := by rw [← told.mode, mode]
    have facts := State.carTold_plain (s := s.modeChanged after src trigger.code) plain
    rw [becomesMode] at facts
    rw [car] at record
    change _ ∧ _ ∧ _ ∧ _
    rw [show State.car i { t with slips := x } = t.car i from rfl, record]
    exact facts
  have change {c : Instr} {kind : SlipKind} {owner : Service → State → State × Stage} (runs : exec c s = .next (s.serve kind owner))
      (serves : s.Serves kind v) (after : SiteMode) (src : Option EvacuationSource) (trigger : Trigger) (a : Answer)
      (work : owner v s = (s.changeMode after src trigger order, .served a)) :
      ∃ t, exec c s = .next t ∧ becomes after src trigger.code t ∧ s.Gives v a t := by
    obtain ⟨t, next, same, gives⟩ := exec_serves runs serves work (by simp)
    obtain ⟨x, rfl⟩ : ∃ x, t = { s.changeMode after src trigger order with slips := x } := ⟨_, same⟩
    exact ⟨_, next, changes after src trigger x, gives⟩
  have mode (after : SiteMode) (src : Option EvacuationSource) (trigger : Trigger) :
      (s.changeMode after src trigger order).mode = { s.mode with mode := after, source := src } :=
    (State.changeMode_shown after src trigger order s).2.2.1
  have detail (t : State) (after : SiteMode) (src : Option EvacuationSource) (now : t.mode.mode = after)
      (source : t.mode.source = src) : modeDetail s t = shown after src := by
    subst now source
    rfl
  have fire (t : State) (after : SiteMode) (now : t.mode.mode = after) (same : t.mode.fireActive = s.mode.fireActive) :
      resumeDetail s t = resumed after := by
    subst now
    unfold resumeDetail
    rw [same]
    change _ ++ _ ++ _ = bytesOf 1 s.mode.mode.code ++ bytesOf 1 t.mode.mode.code ++ [if s.mode.fireActive = true then 0 else 1]
    cases s.mode.fireActive <;> rfl
  refine ⟨fun serves => ?_, fun serves => ?_, fun serves => ?_⟩
  · have begins := change (c := .lockdown order) rfl serves .lockdown none .lockdown (.done (shown .lockdown none))
    have work : lockdown order v s = lockdown order v s := rfl
    conv at work => rhs; unfold lockdown
    cases now : s.mode.mode <;> simp only [now] at work ⊢
    case normal => exact begins (work.trans (by rw [detail _ .lockdown none (by rw [mode]) (by rw [mode])]))
    all_goals exact exec_refused (c := .lockdown order) rfl serves (work.trans (by rw [detail s _ _ now rfl]))
  · have begins := change (c := .evacuate order) rfl serves .evacuate (some .host) .evacuate (.done (shown .evacuate (some .host)))
    have work : evacuate order v s = evacuate order v s := rfl
    conv at work => rhs; unfold evacuate
    cases now : s.mode.mode <;> simp only [now] at work ⊢
    case evacuate => exact exec_refused (c := .evacuate order) rfl serves (work.trans (by rw [detail s _ _ now rfl]))
    all_goals exact begins (work.trans (by rw [detail _ .evacuate (some .host) (by rw [mode]) (by rw [mode])]))
  · have back := change (c := .resume order) rfl serves .normal none .resume (.done (resumed .normal))
    have kept := fire (s.changeMode .normal none .resume order) .normal (by rw [mode]) (by rw [mode])
    have work : resume order v s = resume order v s := rfl
    conv at work => rhs; unfold resume
    cases now : s.mode.mode <;> simp only [now] at work ⊢
    case normal => exact exec_refused (c := .resume order) rfl serves (work.trans (by rw [fire s _ now rfl]))
    case lockdown => exact back (work.trans (by rw [kept]))
    case evacuate =>
      by_cases active : s.mode.fireActive = true
      · rw [if_pos active] at work
        simp only [if_pos active]
        exact exec_refused (c := .resume order) rfl serves (work.trans (by rw [fire s _ now rfl]))
      · rw [if_neg active] at work
        simp only [if_neg active]
        exact back (work.trans (by rw [kept]))

/-! ## The FIRE input (R169, R171) -/

/-- R169: a changed level of the input. -/
theorem exec_fireInputChange (s : State) (closed : Bool) (changes : closed ≠ s.mode.contactClosed) :
    ∃ t, exec (.fireInputChange closed) s = .next t ∧
      t = { s with mode := { s.mode with contactClosed := closed, hold := t.mode.hold } } ∧
      t.mode.hold = if (closed == (s.settings.polarity == .normallyOpen)) = s.mode.fireActive then .stopped else .running 0 :=
  ⟨_, congrArg Host.Outcome.next (if_neg (fun same => changes same.symm)), rfl, rfl⟩

theorem State.OnlyJournal.blocks {s t : State} (h : s.OnlyJournal t) :
    t = { s with mem := t.mem, bus := t.bus, journal := t.journal } := by
  cases t; cases s; simp_all [State.OnlyJournal]

/-- R179: what the mirror writes depends on memory alone. -/
theorem State.mem_mirror_congr {s t : State} (h : t.mem = s.mem) (a : Nat) (v : List Byte) : (t.mirror a v).mem = (s.mirror a v).mem := by
  unfold State.mirror State.mirrorAccesses State.updateCount
  rw [State.wordAt_congr (State.byteAt_congr h 4) (State.byteAt_congr h 5)]
  exact State.mem_pass_congr h _

theorem State.SameJournal.mirror {w t : State} (h : State.SameJournal w t) (a : Nat) (v : List Byte) :
    State.SameJournal (w.mirror a v) (t.mirror a v) := by
  obtain ⟨⟨mem, bus, journal⟩, settings, clock⟩ := h
  refine ⟨⟨State.mem_mirror_congr mem a v, ?_, ?_⟩, ?_, ?_⟩ <;> simp [*]

/-- The FIRE state is none of the journal's. -/
theorem State.setFire_sameJournal (active : Bool) (s : State) : State.SameJournal s (s.setFire active) := ⟨⟨rfl, rfl, rfl⟩, rfl, rfl⟩

/-- R171: the FIRE state becomes CLEAR. -/
theorem exec_fireClear {s : State} {n : Nat} (runs : s.mode.hold = .running n) (quiet : s.fireReading = false)
    (active : s.mode.fireActive = true) : ∃ t, exec .fireClear s = .next t ∧
      t = { s with mem := t.mem, bus := t.bus, journal := t.journal, mode := { s.mode with fireActive := false, hold := .stopped } } ∧
      State.JournalOf (s.log .fireClear none none []) t := by
  have due : (s.holdRuns && !s.fireReading) = true := by simp [State.holdRuns, runs, quiet, active]
  exact ⟨_, congrArg Host.Outcome.next (if_pos due), (State.log_frame .fireClear none none [] (s.setFire false)).blocks,
    ((s.setFire_sameJournal false).log .fireClear none none []).1⟩

/-- R171: the FIRE state becomes ACTIVE. -/
theorem exec_fireActive {s : State} {n : Nat} (order : ModeOrder) (runs : s.mode.hold = .running n) (reads : s.fireReading = true)
    (quiet : s.mode.fireActive = false) : ∃ t, exec (.fireActive order) s = .next t ∧
      t.mode = { s.mode with mode := .evacuate, source := some .fire, fireActive := true, hold := .stopped } ∧
      t.settings = s.settings ∧ t.slips = s.slips ∧ t.tenants = s.tenants ∧ t.creds = s.creds ∧ t.units = s.units ∧
      t.clock = s.clock ∧ t.register = s.register ∧ t.lines = s.lines ∧ t.reads = s.reads ∧
      t.bus.cause.getLsbD 2 = true ∧
      (s.mode.mode ≠ .evacuate → t.bus.cause.getLsbD 5 = true ∧ t.byteAt 25 = 2 ∧ t.byteAt 26 = 0 ∧
        s.SourcesEvaluated t ∧ s.CarsTold t ∧
        State.JournalOf ((((s.setFire true).log .fireActive none none []).modeChanged .evacuate (some .fire) 0).modeEntries order) t) ∧
      (s.mode.mode = .evacuate → t = { s with mode := t.mode, mem := t.mem, bus := t.bus, journal := t.journal } ∧
        t.bus = (s.log .fireActive none none []).bus ∧ t.journal = (s.log .fireActive none none []).journal ∧
        (s.mode.source = some .fire → t.mem = (s.log .fireActive none none []).mem) ∧
        (s.mode.source ≠ some .fire →
          t.mem = ((s.log .fireActive none none []).mirror 25 [2, 0]).mem ∧ t.byteAt 26 = 0)) := by
  have due : (s.holdRuns && s.fireReading) = true := by simp [State.holdRuns, runs, reads, quiet]
  have next : exec (.fireActive order) s = .next (s.fireBecomesActive order) := congrArg Host.Outcome.next (if_pos due)
  unfold State.fireBecomesActive at next
  dsimp only at next
  have same := (State.log_frame .fireActive none none [] (s.setFire true)).blocks
  have told := (s.setFire_sameJournal true).log .fireActive none none []
  have alarm : ((s.setFire true).log .fireActive none none []).bus.cause.getLsbD 2 = true := State.log_raises rfl _ _ _ _
  generalize (s.setFire true).log .fireActive none none [] = u at *
  have modeUnit : u.mode = { s.mode with fireActive := true, hold := .stopped } := by rw [same]; rfl
  have mode : u.mode.mode = s.mode.mode := by rw [modeUnit]
  have source : u.mode.source = s.mode.source := by rw [modeUnit]
  rw [mode, source] at next
  have sameBlocks : s.SameBlocks u := same.trans (by rw [modeUnit]; rfl)
  by_cases evacuated : s.mode.mode = .evacuate
  · rw [evacuated] at next
    by_cases fire : s.mode.source = some .fire
    · rw [fire] at next
      refine ⟨u, next, ?_, ?_⟩
      · rw [modeUnit, ← evacuated, ← fire]
      · refine ⟨by rw [same]; rfl, by rw [same]; rfl, by rw [same]; rfl, by rw [same]; rfl, by rw [same]; rfl, by rw [same]; rfl,
          by rw [same]; rfl, by rw [same]; rfl, by rw [same]; rfl, alarm, fun other => absurd evacuated other, fun _ =>
          ⟨sameBlocks, told.1.2.1, told.1.2.2, fun _ => told.1.1, fun other => absurd fire other⟩⟩
    · have mirrored := State.mirror_frame 25 [2, 0] (u.setMode .evacuate (some .fire))
      have shown := State.peek_mirror (a := 25) (by decide) [2, 0] (u.setMode .evacuate (some .fire))
      have journal := (told.trans ⟨⟨rfl, rfl, rfl⟩, rfl, rfl⟩ :
        State.SameJournal (s.log .fireActive none none []) (u.setMode .evacuate (some .fire))).mirror 25 [2, 0]
      have next : exec (.fireActive order) s = .next ((u.setMode .evacuate (some .fire)).mirror 25 [2, 0]) := by
        rw [next]
        split
        · next h => exact absurd h fire
        · rfl
        all_goals contradiction
      generalize (u.setMode .evacuate (some .fire)).mirror 25 [2, 0] = t at *
      have eq := mirrored.eq
      have mode_ : t.mode = { s.mode with mode := .evacuate, source := some .fire, fireActive := true, hold := .stopped } := by
        rw [eq]
        unfold State.setMode
        rw [modeUnit]
      have bus : t.bus = u.bus := mirrored.1
      have sameT : s.SameBlocks t := by
        unfold State.SameBlocks
        rw [eq, sameBlocks]
        rfl
      refine ⟨t, next, mode_, by rw [sameT], by rw [sameT], by rw [sameT], by rw [sameT], by rw [sameT], by rw [sameT], by rw [sameT],
        by rw [sameT], by rw [sameT], by rw [bus]; exact alarm, fun other => absurd evacuated other, fun _ =>
        ⟨sameT, bus.trans told.1.2.1, ?_, fun own => absurd own fire, fun _ => ⟨journal.1.1, (State.byteAt_of_peek_two shown).2⟩⟩⟩
      rw [eq]
      exact told.1.2.2
  · have changed := State.changeMode_shown .evacuate (some .fire) .fire order u
    have next : exec (.fireActive order) s = .next (u.changeMode .evacuate (some .fire) .fire order) := by
      rw [next]
      split
      · exact absurd ‹s.mode.mode = .evacuate› evacuated
      · exact absurd ‹s.mode.mode = .evacuate› evacuated
      · rfl
      · rfl
    obtain ⟨held, blocks, mode_, -, five, two, first, second⟩ := changed
    generalize u.changeMode .evacuate (some .fire) .fire order = t at *
    have blocks : s.SameBlocks (u.modeChanged .evacuate (some .fire) Trigger.fire.code) := by
      rw [State.SameBlocks, blocks]
      rw [sameBlocks]
    have sources := held.sourcesEvaluated blocks
    have cars := held.carsTold blocks
    have journal := held.journal.1
    obtain ⟨-, settings, slips, tenants, creds, units, clock, profiles, holidays, reads, register, lines, -⟩ := held.frame
    refine ⟨t, next, by rw [mode_, modeUnit], settings.trans (by rw [blocks]), slips.trans (by rw [blocks]), tenants.trans (by rw [blocks]),
      creds.trans (by rw [blocks]), units.trans (by rw [blocks]), clock.trans (by rw [blocks]), register.trans (by rw [blocks]),
      lines.trans (by rw [blocks]), reads.trans (by rw [blocks]), two, fun _ => ⟨five, first, second, sources, cars, journal⟩,
      fun own => absurd own evacuated⟩

/-- Settles O56: the three commands of the FIRE input. -/
theorem theFireInputIsFiltered : Obligations.TheFireInputIsFiltered := fun s =>
  ⟨fun closed changes => exec_fireInputChange s closed changes, fun _ order runs reads quiet => exec_fireActive order runs reads quiet,
    fun _ runs quiet active => exec_fireClear runs quiet active⟩

end Sys2Proof.Machine
end

section
/-! The clock that is set, and the minute event (chapter 2): O28 and O31. -/

namespace Sys2Proof.Machine

/-- R122: with no record deferred the evaluation of the sources leaves the window. -/
theorem State.evaluated_window {r : Portal} (c : PortalConfig) (s : State) (plain : r.deferred = none) :
    (s.evaluated c r).window = r.window := by
  have relocked : (s.relocked c r).window = r.window := by
    unfold State.relocked
    rw [State.secured_of_none c s plain]
    split <;> rfl
  unfold State.evaluated
  split
  case h_6 => split; exacts [rfl, relocked]
  case h_1 | h_2 | h_3 | h_4 | h_5 => split <;> rfl
  all_goals rfl

/-- R121: what the free-access windows and what the mirror shows of the clock leave alone. -/
theorem State.mirrorClock_eq (s : State) : s.mirrorClock = s.mirror 27 ([if s.clock.isSet then 1 else 0] ++ bytesOf 4 s.clock.minute) := rfl

theorem State.windowsRefreshed_of {s o t : State} (portals : o.portals = s.portals) (clock : t.clock = o.clock)
    (profiles : o.profiles = s.profiles) (holidays : o.holidays = s.holidays) (mode : o.mode = s.mode)
    (turned : ∀ p < 48, ∀ c, (o.portal p).config = some c → t.portal p = match c.free with
        | none => o.portal p
        | some n => o.evaluated c { o.portal p with window := o.windowTest n }) : s.WindowsRefreshed t := by
  intro p small c config
  have portal : o.portal p = s.portal p := by rw [State.portal, portals]; rfl
  have around : o.SameAround ({ s with clock := t.clock } : State) := ⟨mode.symm, clock, profiles.symm, holidays.symm⟩
  have turned := turned p small c (by rw [portal, config])
  cases free : c.free with
  | none =>
    simp only [free] at turned ⊢
    exact turned.trans portal
  | some n =>
    simp only [free] at turned ⊢
    rw [State.evaluated_congr around, State.windowTest_congr around, turned, portal]

/-! ## CLOCK_SET (R31 to R33) -/

theorem shiftMinute_eq (old new m : Nat) :
    shiftMinute old new m = (max 0 (min 4294967295 ((m : Int) + new - old))).toNat := by
  unfold shiftMinute Config.lastMinute
  omega

/-- R32: every visit of a clock that was SET is shifted. -/
def State.shiftedVisits (new : Nat) (s : State) : List Visit :=
  if s.clock.isSet then s.register.visits.map (Visit.shift s.clock.minute new) else s.register.visits

/-- R31: the clock takes its values, and the visits are shifted. -/
theorem State.setClock_eq (minute second weekOffset : Nat) (s : State) :
    s.setClock minute second weekOffset =
      (({ s with
          clock := { minute := minute, second := second, weekOffset := weekOffset, isSet := true, minuteDue := s.clock.minuteDue }
          register := { s.register with visits := s.shiftedVisits minute } } : State).log .clockSet none none
        (bytesOf 4 s.clock.minute)).mirrorClock.refreshWindows := by
  unfold State.setClock State.shiftVisits State.shiftedVisits
  dsimp only
  split <;> rfl

/-- Settles O28: the clock, the visits, the windows and the entries. -/
theorem clockSetShiftsTheVisits : Obligations.ClockSetShiftsTheVisits := by
  unfold Obligations.ClockSetShiftsTheVisits
  dsimp only
  intro s v serves second week
  have work : clockSet v s = (s.setClock (v.body 0 4) (v.body 4 1) (v.body 5 1), .served (.done (bytesOf 4 s.clock.minute))) := by
    simp [clockSet, firstProblem_require, firstProblem_nil, second, week]
  rw [State.setClock_eq] at work
  generalize base_eq : ({ s with
      clock := { minute := v.body 0 4, second := v.body 4 1, weekOffset := v.body 5 1, isSet := true, minuteDue := s.clock.minuteDue }
      register := { s.register with visits := s.shiftedVisits (v.body 0 4) } } : State) = base at work
  generalize o_eq : ({ s with clock := base.clock } : State) = o
  have logged := State.log_frame .clockSet none none (bytesOf 4 s.clock.minute) base
  have told := (show State.SameJournal o base by subst o_eq base_eq; exact ⟨⟨rfl, rfl, rfl⟩, rfl, rfl⟩).log .clockSet none none
    (bytesOf 4 s.clock.minute)
  have set : base.clock.isSet = true ∧ base.clock.minute = v.body 0 4 := by subst base_eq; exact ⟨rfl, rfl⟩
  generalize base.log .clockSet none none (bytesOf 4 s.clock.minute) = l at work logged told
  have clock : l.clock = base.clock := by rw [logged.blocks]
  have shown : l.mirrorClock = l.mirror 27 ([1] ++ bytesOf 4 (v.body 0 4)) := by
    rw [State.mirrorClock_eq, clock, set.1, set.2]
    rfl
  have mirrored := State.mirror_frame 27 ([1] ++ bytesOf 4 (v.body 0 4)) l
  have told := told.mirror 27 ([1] ++ bytesOf 4 (v.body 0 4))
  rw [shown] at work
  generalize l.mirror 27 ([1] ++ bytesOf 4 (v.body 0 4)) = m at work mirrored told
  have quiet : base.OnlyJournal m := by simp_all [State.OnlyMem, State.OnlyJournal]
  have same := quiet.blocks
  have around : o.SameAround m := by rw [same]; subst o_eq base_eq; exact ⟨rfl, rfl, rfl, rfl⟩
  have portal (p : Nat) : m.portal p = o.portal p := by rw [same]; subst o_eq base_eq; rfl
  obtain ⟨doors, told, portals⟩ := State.refreshWindows_spec around portal told
  generalize m.refreshWindows = f at work doors told portals
  have final := doors.eq
  obtain ⟨t, next, frame, gives⟩ := exec_serves (c := .clockSet) rfl serves work (by rw [final, same]; subst base_eq; rfl)
  obtain ⟨x, rfl⟩ : ∃ x, t = { f with slips := x } := ⟨_, frame⟩
  have run : f.bus.run = s.bus.run ∧ f.bus.mask = s.bus.mask := by
    obtain ⟨run, mask, -⟩ := doors
    obtain ⟨run', mask', -⟩ := quiet
    subst base_eq
    exact ⟨run.trans run', mask.trans mask'⟩
  have blocks : f = { s with
      mem := f.mem, bus := f.bus, journal := f.journal, portals := f.portals, nodes := f.nodes, clock := base.clock
      register := { s.register with visits := s.shiftedVisits (v.body 0 4) } } := by
    rw [same] at final
    subst base_eq
    exact final
  have clock_ : f.clock = base.clock := by rw [blocks]
  refine ⟨_, next, ?_, ?_, ?_, ?_, run.1, run.2, ?_⟩
  · subst base_eq
    exact clock_
  · rw [blocks]
    unfold State.shiftedVisits Visit.shift
    simp only [← shiftMinute_eq]
  · exact State.windowsRefreshed_of (s := s) (o := o) (by subst o_eq; rfl) (by subst o_eq; exact clock_) (by subst o_eq; rfl)
      (by subst o_eq; rfl) (by subst o_eq; rfl) portals
  · have same : ({ s with clock := f.clock } : State) = o := by rw [clock_, o_eq]
    dsimp only
    rw [same]
    exact told.1
  · refine ⟨by rw [blocks], by rw [blocks], by rw [blocks], by rw [blocks], by rw [blocks], by rw [blocks], by rw [blocks], by rw [blocks],
      by rw [blocks], by rw [blocks], gives⟩

/-! ## The minute event (R28, R81) -/

theorem Visit.warnDue_iff (now : Nat) (v : Visit) : v.warnDue now = true ↔ v.state = .active ∧ v.warning.any (fun m => m ≤ now) = true := by
  simp [Visit.warnDue]

theorem Visit.overstayDue_iff (now : Nat) (v : Visit) :
    v.overstayDue now = true ↔ v.state ≠ .overstay ∧ v.deadline.any (fun d => d ≤ now) = true := by
  simp [Visit.overstayDue]

/-- R81: the entries of the tests of one visit, by the conditions of the rule. -/
theorem State.minuteEntries_eq {now : Nat} {w : State} (clock : w.clock.minute = now) (v : Visit) : w.minuteEntries v =
    if v.state ≠ .overstay ∧ v.deadline.any (fun d => d ≤ now) = true then
      (if v.state = .active ∧ v.warning.any (fun m => m ≤ now) = true then
        w.log .visitWarn (some v.slot) (some v.tenant) (bytesOfOption 4 v.deadline) else w).log .visitOverstay (some v.slot) (some v.tenant)
          (bytesOf 1 v.zone ++ bytesOf 1 v.party)
    else if v.state = .active ∧ v.warning.any (fun m => m ≤ now) = true then
      w.log .visitWarn (some v.slot) (some v.tenant) (bytesOfOption 4 v.deadline) else w := by
  unfold State.minuteEntries
  simp only [← Visit.warnDue_iff, ← Visit.overstayDue_iff, clock]

theorem State.SameJournal.minuteEntries {w t : State} (h : State.SameJournal w t) (v : Visit) :
    State.SameJournal (w.minuteEntries v) (t.minuteEntries v) := by
  have clock : t.clock = w.clock := h.2.2
  rw [State.minuteEntries_eq rfl, State.minuteEntries_eq (w := t) rfl, clock]
  have warned : State.SameJournal
      (if v.state = .active ∧ v.warning.any (fun m => m ≤ w.clock.minute) = true then
        w.log .visitWarn (some v.slot) (some v.tenant) (bytesOfOption 4 v.deadline) else w)
      (if v.state = .active ∧ v.warning.any (fun m => m ≤ w.clock.minute) = true then
        t.log .visitWarn (some v.slot) (some v.tenant) (bytesOfOption 4 v.deadline) else t) := by
    split
    · exact h.log _ _ _ _
    · exact h
  split
  · exact warned.log _ _ _ _
  · exact warned

theorem State.minuteEntries_quiet (v : Visit) (s : State) : s.OnlyJournal (s.minuteEntries v) := by
  rw [State.minuteEntries_eq rfl]
  (repeat' split) <;> simp [State.OnlyJournal]

/-- R81: the entries of the tests of every visit. -/
theorem State.foldl_minuteEntries (now : Nat) (vs : List Visit) {w : State} (clock : w.clock.minute = now) :
    vs.foldl (fun w v =>
      let warned := if v.state = .active ∧ v.warning.any (fun m => m ≤ now) = true then
          w.log .visitWarn (some v.slot) (some v.tenant) (bytesOfOption 4 v.deadline)
        else w
      if v.state ≠ .overstay ∧ v.deadline.any (fun d => d ≤ now) = true then
        warned.log .visitOverstay (some v.slot) (some v.tenant) (bytesOf 1 v.zone ++ bytesOf 1 v.party)
      else warned) w = vs.foldl (fun w v => w.minuteEntries v) w := by
  induction vs generalizing w with
  | nil => rfl
  | cons v vs ih =>
    have kept : (w.minuteEntries v).clock.minute = now := by rw [(State.minuteEntries_quiet v w).blocks, clock]
    rw [List.foldl_cons, List.foldl_cons, ← ih kept, State.minuteEntries_eq clock]

theorem State.forEach_minuteEntries {w t : State} (h : State.SameJournal w t) (vs : List Visit) :
    State.SameJournal (vs.foldl (fun w v => w.minuteEntries v) w) (t.forEach vs State.minuteEntries) :=
  State.SameJournal.foldl (fun v _ _ h => h.minuteEntries v) vs h

theorem Visit.afterMinute_eq (now : Nat) (v : Visit) [Decidable (v.state ≠ .overstay ∧ ∃ d, v.deadline = some d ∧ d ≤ now)]
    [Decidable (v.state = .active ∧ ∃ m, v.warning = some m ∧ m ≤ now)] : v.afterMinute now = { v with state :=
      if v.state ≠ .overstay ∧ (∃ d, v.deadline = some d ∧ d ≤ now) then .overstay
      else if v.state = .active ∧ (∃ m, v.warning = some m ∧ m ≤ now) then .warned else v.state } := by
  have overstay : v.overstayDue now = true ↔ v.state ≠ .overstay ∧ ∃ d, v.deadline = some d ∧ d ≤ now := by
    rw [Visit.overstayDue_iff]
    simp [Option.any_eq_true]
  have warn : v.warnDue now = true ↔ v.state = .active ∧ ∃ m, v.warning = some m ∧ m ≤ now := by
    rw [Visit.warnDue_iff]
    simp [Option.any_eq_true]
  unfold Visit.afterMinute
  simp only [overstay, warn]
  (repeat' split) <;> rfl

/-- R81: the register's part of a minute event. -/
theorem State.visitMinute_told {o w t : State} (clock : t.clock = o.clock) (register : t.register = o.register)
    (h : State.SameJournal w t) : State.SameJournal (o.visitEntries w) t.visitMinute ∧
      t.visitMinute = { t with
        mem := t.visitMinute.mem, bus := t.visitMinute.bus, journal := t.visitMinute.journal
        register := { o.register with visits := o.register.visits.map (Visit.afterMinute o.clock.minute) } } ∧
      t.visitMinute.bus.run = t.bus.run := by
  have minute : w.clock.minute = o.clock.minute := by rw [← h.2.2, clock]
  have entries : o.visitEntries w = o.register.visits.foldl (fun w v => w.minuteEntries v) w :=
    State.foldl_minuteEntries o.clock.minute _ minute
  rw [entries]
  have put : State.SameJournal w { t with register := { t.register with
      visits := t.register.visits.map (Visit.afterMinute t.clock.minute) } } := h.trans ⟨⟨rfl, rfl, rfl⟩, rfl, rfl⟩
  have told := State.forEach_minuteEntries put t.register.visits
  have quiet := State.minuteEntriesAll_frame t.register.visits { t with register := { t.register with
      visits := t.register.visits.map (Visit.afterMinute t.clock.minute) } }
  unfold State.visitMinute
  rw [register] at told
  refine ⟨by rw [register]; exact told, ?_, quiet.1⟩
  rw [← clock, ← register]
  exact quiet.blocks

/-- R28: the event before it is handed to the mirror, in either order of its consumers. -/
theorem State.minute_told (order : MinuteOrder) (o : State) :
    let x := match order with
      | .registerFirst => o.visitMinute.refreshWindows
      | .portalsFirst => o.refreshWindows.visitMinute
    let told := match order with
      | .registerFirst => o.windowEntries (o.visitEntries o)
      | .portalsFirst => o.visitEntries (o.windowEntries o)
    State.SameJournal told x ∧
      x = { o with
        mem := x.mem, bus := x.bus, journal := x.journal, portals := x.portals, nodes := x.nodes
        register := { o.register with visits := o.register.visits.map (Visit.afterMinute o.clock.minute) } } ∧
      ∀ p < 48, ∀ c, (o.portal p).config = some c → x.portal p = match c.free with
        | none => o.portal p
        | some n => o.evaluated c { o.portal p with window := o.windowTest n } := by
  cases order with
  | registerFirst =>
    obtain ⟨told, same, -⟩ := State.visitMinute_told (o := o) rfl rfl (State.SameJournal.refl o)
    obtain ⟨doors, told, portals⟩ := State.refreshWindows_spec (o := o) (by rw [same]; exact ⟨rfl, rfl, rfl, rfl⟩)
      (fun p => by rw [same]; rfl) told
    refine ⟨told, ?_, portals⟩
    have final := doors.eq
    generalize o.visitMinute.refreshWindows = x at *
    rw [same] at final
    exact final
  | portalsFirst =>
    obtain ⟨doors, told, portals⟩ := State.refreshWindows_spec (o := o) ⟨rfl, rfl, rfl, rfl⟩ (fun _ => rfl) (State.SameJournal.refl o)
    have first := doors.eq
    obtain ⟨told, same, -⟩ := State.visitMinute_told (o := o) (by rw [first]) (by rw [first]) told
    refine ⟨told, ?_, fun p small c config => ?_⟩
    · dsimp only
      generalize o.refreshWindows.visitMinute = x at *
      have channels : x.portals = o.refreshWindows.portals ∧ x.nodes = o.refreshWindows.nodes := by rw [same]; exact ⟨rfl, rfl⟩
      rw [channels.1, channels.2]
      rw [first] at same
      exact same
    · refine Eq.trans ?_ (portals p small c config)
      dsimp only
      rw [same]
      rfl

/-- Settles O31: the register's tests, the windows and the mirror. -/
theorem minuteEventReachesItsConsumers : Obligations.MinuteEventReachesItsConsumers := by
  unfold Obligations.MinuteEventReachesItsConsumers
  dsimp only
  intro s order due
  generalize o_eq : ({ s with clock := { s.clock with minuteDue := false } } : State) = o
  have next : exec (.minuteEvent order) s = .next (match order with
      | .registerFirst => o.visitMinute.refreshWindows
      | .portalsFirst => o.refreshWindows.visitMinute).mirrorClock := by
    subst o_eq
    refine (congrArg Host.Outcome.next (if_pos due)).trans ?_
    cases order <;> rfl
  obtain ⟨told, same, portals⟩ := State.minute_told order o
  dsimp only at told same portals
  generalize (match order with
      | .registerFirst => o.visitMinute.refreshWindows
      | .portalsFirst => o.refreshWindows.visitMinute) = x at *
  have clock : x.clock = { s.clock with minuteDue := false } := by rw [same, ← o_eq]
  have shown : x.mirrorClock = x.mirror 27 ([if s.clock.isSet then 1 else 0] ++ bytesOf 4 s.clock.minute) := by
    rw [State.mirrorClock_eq, clock]
  have mirrored := State.mirror_frame 27 ([if s.clock.isSet then 1 else 0] ++ bytesOf 4 s.clock.minute) x
  have stands := State.peek_mirror (a := 27) (by decide) ([if s.clock.isSet then 1 else 0] ++ bytesOf 4 s.clock.minute) x
  have told := told.mirror 27 ([if s.clock.isSet then 1 else 0] ++ bytesOf 4 s.clock.minute)
  rw [shown] at next
  generalize x.mirror 27 ([if s.clock.isSet then 1 else 0] ++ bytesOf 4 s.clock.minute) = t at *
  have blocks : t = { s with
      mem := t.mem, bus := t.bus, journal := t.journal, portals := x.portals, nodes := x.nodes, clock := { s.clock with minuteDue := false }
      register := { s.register with visits := s.register.visits.map (Visit.afterMinute s.clock.minute) } } := by
    have lift := mirrored.eq
    have bus : x.bus = t.bus := mirrored.1.symm
    have journal : x.journal = t.journal := by rw [lift]
    rw [bus, journal] at lift
    have fields := congrArg (fun y : State => { y with mem := t.mem, bus := t.bus, journal := t.journal }) same
    subst o_eq
    exact lift.trans fields
  have clock_ : t.clock = { s.clock with minuteDue := false } := by rw [blocks]
  have turned : ∀ p < 48, ∀ c, (o.portal p).config = some c → t.portal p = match c.free with
      | none => o.portal p
      | some n => o.evaluated c { o.portal p with window := o.windowTest n } := fun p small c config =>
    Eq.trans (by rw [State.portal, blocks]; rfl) (portals p small c config)
  have refreshed : s.WindowsRefreshed t := State.windowsRefreshed_of (s := s) (o := o) (by subst o_eq; rfl) (by subst o_eq; exact clock_)
    (by subst o_eq; rfl) (by subst o_eq; rfl) (by subst o_eq; rfl) turned
  refine ⟨t, next, clock_, ?_, fun p small c n config free plain => ?_, refreshed, ?_, ?_, ?_, ?_⟩
  · rw [blocks]
    rw [show Visit.afterMinute s.clock.minute = _ from funext fun w => Visit.afterMinute_eq s.clock.minute w]
  · have window := refreshed p small c config
    simp only [free] at window
    rw [window, State.evaluated_window c _ (by exact plain), clock_]
    rfl
  · have same : ({ s with clock := t.clock } : State) = o := by rw [clock_, o_eq]
    rw [same]
    cases order <;> exact told.1
  · have first : (t.peek 27 5).head? = some (if s.clock.isSet then 1 else 0) := by
      rw [show 5 = ([if s.clock.isSet then 1 else 0] ++ bytesOf 4 s.clock.minute : List Byte).length by simp, stands]
      rfl
    change some (t.byteAt 27) = some _ at first
    exact Option.some.inj first
  · have rest : (t.peek 27 5).tail = bytesOf 4 s.clock.minute := by
      rw [show 5 = ([if s.clock.isSet then 1 else 0] ++ bytesOf 4 s.clock.minute : List Byte).length by simp, stands]
      rfl
    exact rest
  · refine ⟨by rw [blocks], by rw [blocks], by rw [blocks], by rw [blocks], by rw [blocks], by rw [blocks], by rw [blocks], by rw [blocks],
      by rw [blocks], by rw [blocks], by rw [blocks]⟩

end Sys2Proof.Machine
end

section
/-! Grants and holds (chapters 1 and 5): O22. -/

namespace Sys2Proof.Machine

/-! ## Works on units, one after another -/

theorem State.updUnit_unit (i u : Nat) (f : UnitRecord → UnitRecord) (s : State) :
    (s.updUnit i f).unit u = if u = i then (s.unit u).map f else s.unit u := by
  by_cases same : u = i
  · rw [if_pos same, same, State.unit_updUnit_self]
  · rw [if_neg same, State.unit_updUnit_ne same]

/-- A change of each unit of a list. -/
theorem State.forEach_updUnit (f : UnitRecord → UnitRecord) {us : List Nat} (nodup : us.Nodup) (s : State) :
    let t := s.forEach us (fun u => State.updUnit u f)
    s.OnlyUnits t ∧ ∀ u, t.unit u = if u ∈ us then (s.unit u).map f else s.unit u := by
  induction us generalizing s with
  | nil => exact ⟨by simp [State.OnlyUnits, State.forEach], fun u => by simp [State.forEach]⟩
  | cons a us ih =>
    obtain ⟨fresh, nodup⟩ := List.nodup_cons.1 nodup
    obtain ⟨frame, units⟩ := ih nodup (s.updUnit a f)
    have first := State.updUnit_frame a f s
    refine ⟨by simp_all [State.OnlyUnits, State.forEach], fun u => (units u).trans ?_⟩
    rw [State.updUnit_unit]
    by_cases same : u = a
    · simp [same, fresh]
    · simp [same]

theorem Standing.holds_iff (st : Standing) : st.holds = true ↔ HoldsUnits st := by
  cases st <;> simp [Standing.holds, HoldsUnits]

/-- What the entries of holds read of a unit. -/
def UnitRecord.heldAs (x : UnitRecord) : Nat × Nat × ArmState × DoorState := (x.zone, x.holders, x.arm, x.door)

theorem State.holdLossEntries_congr {o s : State} {units : List Nat}
    (same : ∀ u ∈ units, (o.unit u).map UnitRecord.heldAs = (s.unit u).map UnitRecord.heldAs) (tenant z : Nat) (w : State) :
    o.holdLossEntries tenant z units w = s.holdLossEntries tenant z units w := by
  unfold State.holdLossEntries
  refine List.foldl_ext _ _ w (fun w u listed => ?_)
  have agree := same u listed
  cases old : o.unit u <;> cases new : s.unit u <;> simp only [old, new, Option.map_none, Option.map_some, reduceCtorEq] at agree ⊢
  simp only [Option.some.injEq, UnitRecord.heldAs, Prod.mk.injEq] at agree
  obtain ⟨zone, holders, arm, door⟩ := agree
  rw [zone, holders, arm, door]

theorem State.holdGainEntries_congr {o s : State} {units : List Nat}
    (same : ∀ u ∈ units, (o.unit u).map UnitRecord.heldAs = (s.unit u).map UnitRecord.heldAs) (tenant z : Nat) (w : State) :
    o.holdGainEntries tenant z units w = s.holdGainEntries tenant z units w := by
  unfold State.holdGainEntries
  refine List.foldl_ext _ _ w (fun w u listed => ?_)
  have agree := same u listed
  cases old : o.unit u <;> cases new : s.unit u <;> simp only [old, new, Option.map_none, Option.map_some, reduceCtorEq] at agree ⊢
  simp only [Option.some.injEq, UnitRecord.heldAs, Prod.mk.injEq] at agree
  obtain ⟨zone, holders, arm, door⟩ := agree
  simp only [zone, holders, arm]

theorem State.OnlyUnitMonitor.trans {s t u : State} (h : s.OnlyUnitMonitor t) (k : t.OnlyUnitMonitor u) : s.OnlyUnitMonitor u := by
  simp_all [State.OnlyUnitMonitor]

theorem State.OnlyUnitMonitor.eq {s t : State} (h : s.OnlyUnitMonitor t) :
    t = { s with mem := t.mem, bus := t.bus, journal := t.journal, units := t.units } := by
  cases t; cases s; simp_all [State.OnlyUnitMonitor]

/-- The holds that a visit of the tenant has, by the register of `s`: those of the units of its zone. -/
abbrev State.VisitHolds (tenant z : Nat) (s : State) : Prop :=
  ∃ w, s.visitOf tenant = some w ∧ HoldsUnits w.standing ∧ w.zone = z

/-- R17: the entries of the holds that a tenant's visit loses and gains. -/
def State.movedEntries (index : Nat) (left joined : List Nat) (s w : State) : State :=
  match s.visitOf index with
  | some v =>
    if HoldsUnits v.standing then s.holdGainEntries index v.zone joined (s.holdLossEntries index v.zone left w) else w
  | none => w

/-- R17: the hold changes of a tenant, the units that leave first and then those that join. -/
theorem State.moveHolds_spec (index : Nat) {left joined : List Nat} (nodupLeft : left.Nodup) (nodupJoined : joined.Nodup)
    (apart : ∀ u ∈ joined, u ∉ left) {w o : State} (journal : State.SameJournal w o) :
    let t := o.moveHolds index left joined
    o.OnlyUnitMonitor t ∧ State.SameJournal (o.movedEntries index left joined w) t ∧
      (∀ u x, o.unit u = some x → (o.VisitHolds index x.zone → t.unit u = some (if u ∈ left then x.unheld else
        if u ∈ joined then x.heldOnce else x)) ∧ (¬ o.VisitHolds index x.zone → t.unit u = some x)) ∧
      ∀ u, o.unit u = none → t.unit u = none := by
  unfold State.moveHolds State.movedEntries
  have refl : o.OnlyUnitMonitor o := by simp [State.OnlyUnitMonitor]
  cases visit : o.visitOf index with
  | none =>
    exact ⟨refl, journal, fun u x unit => ⟨fun ⟨w, found, _⟩ => (nomatch visit.symm.trans found), fun _ => unit⟩, fun u unit => unit⟩
  | some v =>
    dsimp only
    by_cases holds : HoldsUnits v.standing
    · rw [if_pos ((Standing.holds_iff _).2 holds), if_pos holds]
      obtain ⟨lost, losses⟩ := State.loseHolds_list index v.zone o left nodupLeft (fun _ _ => rfl) journal
      have frame : o.OnlyUnitMonitor (o.forEach (o.unitsIn v.zone left) (fun u s => s.loseHold u index)) :=
        State.forEach_frame State.OnlyUnitMonitor (by simp [State.OnlyUnitMonitor]) (fun _ _ _ h k => h.trans k) _
          (fun u s => State.loseHold_frame u index s) _ o
      generalize o.forEach (o.unitsIn v.zone left) (fun u s => s.loseHold u index) = m at lost losses frame
      obtain ⟨gained, gains⟩ := State.gainHolds_list index v.zone m joined nodupJoined (fun _ _ => rfl) lost
      have frame' : m.OnlyUnitMonitor (m.forEach (m.unitsIn v.zone joined) (fun u s => s.gainHold u index)) :=
        State.forEach_frame State.OnlyUnitMonitor (by simp [State.OnlyUnitMonitor]) (fun _ _ _ h k => h.trans k) _
          (fun u s => State.gainHold_frame u index s) _ m
      have untouched : ∀ u ∈ joined, m.unit u = o.unit u := fun u new => by rw [losses, if_neg (fun h => apart u new h.1)]
      rw [State.holdGainEntries_congr (s := o) (fun u new => by rw [untouched u new])] at gained
      have unheld (x : UnitRecord) : x.unheld.zone = x.zone := rfl
      refine ⟨frame.trans frame', gained, fun u x unit => ⟨fun held => ?_, fun free => ?_⟩, fun u unit => ?_⟩
      · obtain ⟨y, found, -, zone⟩ := held
        obtain rfl : v = y := Option.some.inj (visit.symm.trans found)
        have stands : (o.unit u).any (fun x => x.zone == v.zone) = true := by simp [unit, zone]
        by_cases out : u ∈ left
        · have lost : m.unit u = some x.unheld := by rw [losses, if_pos ⟨out, stands⟩, unit]; rfl
          rw [gains, if_neg (fun h => apart u h.1 out), if_pos out, lost]
        · have kept : m.unit u = some x := by rw [losses, if_neg (fun h => out h.1), unit]
          rw [gains, kept, if_neg out]
          by_cases new : u ∈ joined
          · rw [if_pos ⟨new, by simp [zone]⟩, if_pos new]
            rfl
          · rw [if_neg (fun h => new h.1), if_neg new]
      · have elsewhere : x.zone ≠ v.zone := fun zone => free ⟨v, visit, holds, zone.symm⟩
        have first : m.unit u = some x := by rw [losses, if_neg (fun h => by simp [unit, elsewhere] at h), unit]
        rw [gains, if_neg (fun h => by simp [first, elsewhere] at h), first]
      · have first : m.unit u = none := by rw [losses, if_neg (fun h => by simp [unit] at h), unit]
        rw [gains, if_neg (fun h => by simp [first] at h), first]
    · rw [if_neg (fun h => holds ((Standing.holds_iff _).1 h)), if_neg holds]
      refine ⟨refl, journal, fun u x unit => ⟨fun held => ?_, fun _ => unit⟩, fun u unit => unit⟩
      obtain ⟨y, found, held, -⟩ := held
      obtain rfl : v = y := Option.some.inj (visit.symm.trans found)
      exact absurd held holds

/-- A bus port of which only the causes have changed. -/
theorem BusPort.eq_of_quiet {a b : BusPort} (run : a.run = b.run) (mask : a.mask = b.mask) (refusal : a.lastRefusal = b.lastRefusal) :
    a = { b with cause := a.cause } := by
  cases a; cases b; simp_all

/-! ## The grant list (R16, R17) -/

/-- R4: a unit that a list names gains or loses one grantee. -/
def UnitRecord.granted (x : UnitRecord) : UnitRecord := { x with grantees := x.grantees + 1 }

def UnitRecord.ungranted (x : UnitRecord) : UnitRecord := { x with grantees := x.grantees - 1 }

/-- R16, R17: the grant list of a standing tenant is replaced. -/
theorem State.setGrants_spec {index : Nat} {new : List Nat} {s : State} {r : Tenant} (tenant : s.tenant index = some r)
    (nodupOld : r.grants.Nodup) (nodupNew : new.Nodup) :
    let left := r.grants.filter (fun u => !new.contains u)
    let joined := new.filter (fun u => !r.grants.contains u)
    let t := s.setGrants index new
    t = { s with mem := t.mem, bus := t.bus, journal := t.journal, tenants := t.tenants, units := t.units } ∧
      (t.bus.run = s.bus.run ∧ t.bus.mask = s.bus.mask ∧ t.bus.lastRefusal = s.bus.lastRefusal) ∧
      (∀ j, j ≠ index → t.tenant j = s.tenant j) ∧
      (∃ mask, t.tenant index = some { r with grants := new, mask := mask } ∧ ∀ z < 16, (mask.getLsbD z = true ↔
        (s.zone z).common = true ∨ ∃ u ∈ new, ∃ ru, s.unit u = some ru ∧ ru.zone = z)) ∧
      (∀ u, s.unit u = none → t.unit u = none) ∧
      (∀ u x, s.unit u = some x →
        (u ∈ joined → (s.VisitHolds index x.zone → t.unit u = some x.heldOnce.granted) ∧
          (¬ s.VisitHolds index x.zone → t.unit u = some x.granted)) ∧
        (u ∈ left → (s.VisitHolds index x.zone → t.unit u = some x.unheld.ungranted) ∧
          (¬ s.VisitHolds index x.zone → t.unit u = some x.ungranted)) ∧
        (u ∉ joined → u ∉ left → t.unit u = some x)) ∧
      State.JournalOf (s.movedEntries index left joined s) t := by
  intro left joined t
  have apart : ∀ u ∈ joined, u ∉ left := fun u hj hl => by
    simp only [left, joined, List.mem_filter] at hj hl
    simp [hj.1] at hl
  have nodupLeft : left.Nodup := nodupOld.filter _
  have nodupJoined : joined.Nodup := nodupNew.filter _
  have grants : s.grantsOf index = r.grants := by simp [State.grantsOf, tenant]
  obtain ⟨dropFrame, drops⟩ := State.forEach_updUnit UnitRecord.ungranted nodupLeft s
  obtain ⟨addFrame, adds⟩ := State.forEach_updUnit UnitRecord.granted nodupJoined (s.forEach left (fun u => State.updUnit u UnitRecord.ungranted))
  have run : t = (((s.forEach left (fun u => State.updUnit u UnitRecord.ungranted)).forEach joined
      (fun u => State.updUnit u UnitRecord.granted)).updTenant index (fun t => { t with
        grants := new
        mask := ((s.forEach left (fun u => State.updUnit u UnitRecord.ungranted)).forEach joined
          (fun u => State.updUnit u UnitRecord.granted)).maskOf new })).moveHolds index left joined := by
    simp only [t, left, joined, State.setGrants, grants]
    rfl
  generalize s.forEach left (fun u => State.updUnit u UnitRecord.ungranted) = a at *
  generalize a.forEach joined (fun u => State.updUnit u UnitRecord.granted) = b at *
  have ab : s.OnlyUnits b := by simp_all [State.OnlyUnits]
  have units (u : Nat) : b.unit u = if u ∈ joined then (s.unit u).map UnitRecord.granted
      else if u ∈ left then (s.unit u).map UnitRecord.ungranted else s.unit u := by
    rw [adds, drops]
    by_cases new : u ∈ joined
    · rw [if_pos new, if_pos new, if_neg (apart u new)]
    · rw [if_neg new, if_neg new]
  have same := ab.eq
  have named : b.tenant index = some r := by rw [same]; exact tenant
  have put := State.updTenant_frame index (fun t => { t with grants := new, mask := b.maskOf new }) b
  have tenants (j : Nat) : (b.updTenant index (fun t => { t with grants := new, mask := b.maskOf new })).tenant j =
      if j = index then some { r with grants := new, mask := b.maskOf new } else s.tenant j := by
    by_cases own : j = index
    · rw [own, if_pos rfl, State.tenant_updTenant_self, named]
      rfl
    · rw [if_neg own, State.tenant_updTenant_ne own, same]
      rfl
  generalize b.updTenant index (fun t => { t with grants := new, mask := b.maskOf new }) = o at *
  have told := put.eq
  have journal : State.SameJournal s o := by rw [told, same]; exact ⟨⟨rfl, rfl, rfl⟩, rfl, rfl⟩
  have visit : o.visitOf index = s.visitOf index := by rw [told, same]; rfl
  have unit (u : Nat) : o.unit u = b.unit u := by rw [told]; rfl
  obtain ⟨frame, entries, held, vacant⟩ := State.moveHolds_spec index nodupLeft nodupJoined apart journal
  rw [← run] at frame entries held vacant
  have final := frame.eq
  have moved : o.movedEntries index left joined s = s.movedEntries index left joined s := by
    unfold State.movedEntries
    rw [visit]
    have losses : ∀ u ∈ left, (o.unit u).map UnitRecord.heldAs = (s.unit u).map UnitRecord.heldAs := fun u out => by
      rw [unit, units, if_neg (fun new => apart u new out), if_pos out, Option.map_map]
      rfl
    have gains : ∀ u ∈ joined, (o.unit u).map UnitRecord.heldAs = (s.unit u).map UnitRecord.heldAs := fun u new => by
      rw [unit, units, if_pos new, Option.map_map]
      rfl
    simp only [State.holdLossEntries_congr losses, State.holdGainEntries_congr gains]
  rw [moved] at entries
  have holds (z : Nat) : o.VisitHolds index z ↔ s.VisitHolds index z := by simp only [State.VisitHolds, visit]
  simp only [holds] at held
  have blocks : t = { s with mem := t.mem, bus := t.bus, journal := t.journal, tenants := t.tenants, units := t.units } := by
    have tenants : t.tenants = o.tenants := by rw [final]
    rw [tenants]
    rw [told, same] at final
    exact final
  have bus : o.bus = s.bus := by rw [told, same]
  obtain ⟨run_, mask_, refusal_, -⟩ := frame
  rw [bus] at run_ mask_ refusal_
  have tenantsT (j : Nat) : t.tenant j = o.tenant j := by rw [final]; rfl
  refine ⟨blocks, ⟨run_, mask_, refusal_⟩, fun j other => by rw [tenantsT, tenants, if_neg other], ⟨_, by rw [tenantsT, tenants, if_pos rfl], fun z small => ?_⟩,
    fun u none => vacant u ?_, fun u x stands => ⟨fun new => ?_, fun out => ?_, fun notNew notOut => ?_⟩, entries.1⟩
  · rw [State.getLsbD_maskOf small]
    have zone : b.zone z = s.zone z := by rw [same]; rfl
    have zones (u : Nat) : (∃ ru, b.unit u = some ru ∧ ru.zone = z) ↔ ∃ ru, s.unit u = some ru ∧ ru.zone = z := by
      rw [units]
      cases s.unit u <;> (repeat' split) <;> simp [UnitRecord.granted, UnitRecord.ungranted]
    simp only [zone, zones]
  · rw [unit, units, none]
    simp
  · have now : o.unit u = some x.granted := by rw [unit, units, if_pos new, stands]; rfl
    have notOut := apart u new
    refine ⟨fun h => ?_, fun h => (held u _ now).2 h⟩
    rw [(held u _ now).1 h, if_neg notOut, if_pos new]
    rfl
  · have now : o.unit u = some x.ungranted := by rw [unit, units, if_neg (fun new => apart u new out), if_pos out, stands]; rfl
    refine ⟨fun h => ?_, fun h => (held u _ now).2 h⟩
    rw [(held u _ now).1 h, if_pos out]
    rfl
  · have now : o.unit u = some x := by rw [unit, units, if_neg notNew, if_neg notOut, stands]
    by_cases h : s.VisitHolds index x.zone
    · rw [(held u x now).1 h, if_neg notOut, if_neg notNew]
    · exact (held u x now).2 h

/-- R16: the checks of a good list. -/
theorem grantSet_work {s : State} {v : Service} {r : Tenant} {items : List Nat} (itemsEq : itemsAt 35 2 (v.body 2 1) v.copy = items)
    (small : v.body 0 2 < 4096) (count : v.body 2 1 ≤ 8) (nodup : items.Nodup) (tenant : s.tenant (v.body 0 2) = some r)
    (stand : ∀ u ∈ items, u < 4096 ∧ ∃ ru, s.unit u = some ru ∧ (u ∉ r.grants → ru.grantees < 4)) :
    grantSet v s = (s.setGrants (v.body 0 2) items, .served (.done [])) := by
  have grants : s.grantsOf (v.body 0 2) = r.grants := by simp [State.grantsOf, tenant]
  have repeats : firstRepeat items = none := by
    unfold firstRepeat
    rw [List.find?_eq_none]
    intro i listed found
    have inRange : i < items.length := List.mem_range.1 listed
    rw [List.contains_iff_mem, List.getD_eq_getElem _ _ inRange, List.mem_take_iff_getElem] at found
    obtain ⟨j, earlier, same⟩ := found
    have := (nodup.getElem_inj_iff).1 same
    omega
  have list : listProblem (v.body 2 1) items = none := by
    rw [listProblem, repeats, findIdx?_eq_none_of_forall (p := fun u => decide (Config.units ≤ u))
      fun u listed => decide_eq_false (Nat.not_le.2 (stand u listed).1)]
    simp [firstProblem_none, count]
  have room : s.grantProblem r.grants items = none := by
    rw [State.grantProblem, findIdx?_eq_none_of_forall fun u listed => by
        obtain ⟨-, ru, unit, -⟩ := stand u listed
        simp [unit],
      findIdx?_eq_none_of_forall fun u listed => by
        obtain ⟨-, ru, unit, few⟩ := stand u listed
        by_cases old : u ∈ r.grants <;> simp [unit, old]
        exact few old]
    simp [firstProblem_none]
  unfold grantSet
  dsimp only
  rw [itemsEq, grants, list, room]
  simp only [Config.tenants, small, tenant, decide_true, Option.isSome_some]
  rfl

/-- Settles O22: the list, the mask, the counts, the holds and their entries. -/
theorem grantSetReplacesTheList : Obligations.GrantSetReplacesTheList := by
  unfold Obligations.GrantSetReplacesTheList
  dsimp only
  intro s v r serves small count nodup tenant nodupOld stand
  have items := (Service.items_eq 3 2 (v.body 2 1) v).symm
  generalize (List.range (v.body 2 1)).map (fun i => v.body (3 + 2 * i) 2) = list at *
  have work := grantSet_work items small count nodup tenant stand
  obtain ⟨blocks, ⟨run, mask, refusal⟩, others, own, vacant, units, entries⟩ := State.setGrants_spec tenant nodupOld nodup
  generalize s.setGrants (v.body 0 2) list = u at *
  obtain ⟨t, next, frame, gives⟩ := exec_serves (c := .grantSet) rfl serves work (by rw [blocks])
  obtain ⟨x, rfl⟩ : ∃ x, t = { u with slips := x } := ⟨_, frame⟩
  refine ⟨_, next, ?_, others, own, vacant, units, ?_, gives⟩
  · have bus := BusPort.eq_of_quiet run mask refusal
    refine (congrArg (fun y : State => { y with slips := x }) blocks).trans ?_
    conv => lhs; rw [bus]
  · exact entries

end Sys2Proof.Machine
end

section
/-! Visits that end, and a tenant's pending passage that is cancelled (sections 4.3, 4.4 and 6.4). -/

namespace Sys2Proof.Machine

/-! ## The pending passage that the link names (R13, R84) -/

/-- R2, R13: the tenant's pending passage at the portal that its link names. -/
def State.linkedPassage (index : Nat) (r : Tenant) (s : State) : List Passage :=
  (r.transit.bind (fun p => (s.portal p).passages.find? (fun g => g.tenant == index))).toList

/-- R13, R114: the entry of the passage that the tenant's link names. -/
def State.linkedEntries (index reason : Nat) (r : Tenant) (s w : State) : State :=
  match r.transit with
  | some p => w.unusedEntries p reason (s.linkedPassage index r)
  | none => w

/-- What the cancelling of the passage that a tenant's link names does. -/
structure State.CancelsLink (index : Nat) (reason : CancelReason) (r : Tenant) (s w t : State) : Prop where
  own : t.tenant index = some { r with transit := none }
  tenants : ∀ j, j ≠ index → t.tenant j = s.tenant j
  linked : ∀ p, r.transit = some p → t.portal p = { s.portal p with
    passages := (s.portal p).passages.filter (fun g => g.tenant != index) }
  others : ∀ p, r.transit ≠ some p → t.portal p = s.portal p
  unreserves : s.Unreserves (s.linkedPassage index r) t
  journal : State.SameJournal (s.linkedEntries index reason.code r w) t
  frame : s.OnlyPassages t

theorem State.Unreserves.nil (s : State) : s.Unreserves [] s := by simp [State.Unreserves, creationsIn, reservedIn]

/-- R13, R84: the passage that the link names is cancelled. -/
theorem State.cancelTransit_spec {index : Nat} {r : Tenant} {s w : State} (reason : CancelReason) (tenant : s.tenant index = some r)
    (journal : State.SameJournal w s) : s.CancelsLink index reason r w (s.cancelTransit index reason) := by
  unfold State.cancelTransit
  rw [tenant, Option.bind_some]
  cases link : r.transit with
  | none =>
    have none_ : s.linkedPassage index r = [] := by simp [State.linkedPassage, link]
    refine ⟨?_, fun _ _ => rfl, fun p named => (nomatch link.symm.trans named), fun _ _ => rfl, ?_, ?_, .refl s⟩
    · exact tenant.trans (congrArg some (by rw [← link]))
    · rw [none_]
      exact .nil s
    · unfold State.linkedEntries
      rw [link]
      exact journal
  | some p =>
    have named (q : Nat) (h : r.transit = some q) : q = p := Option.some.inj (h.symm.trans link)
    dsimp only
    cases found : (s.portal p).passages.find? (fun g => g.tenant == index) with
    | none =>
      have none_ : s.linkedPassage index r = [] := by simp [State.linkedPassage, link, found]
      have absent : (s.portal p).passages.filter (fun g => g.tenant != index) = (s.portal p).passages := by
        rw [List.filter_eq_self]
        intro g listed
        have := List.find?_eq_none.1 found g listed
        simpa using this
      refine ⟨?_, fun j other => State.tenant_updTenant_ne other _ _, fun q h => ?_, fun q _ => ?_, ?_, ?_, ?_⟩
      · rw [State.tenant_updTenant_self, tenant]
        rfl
      · rw [named q h, absent, State.portal, (State.updTenant_frame index _ s).eq]
        rfl
      · rw [State.portal, (State.updTenant_frame index _ s).eq]
        rfl
      · rw [none_]
        exact (State.Unreserves.nil s).congr (by simp)
      · unfold State.linkedEntries
        rw [link, none_]
        exact journal.trans (by simp [State.SameJournal, State.JournalOf])
      · simp [State.OnlyPassages]
    | some g =>
      have own : g.tenant = index := by simpa using List.find?_some found
      have one : s.linkedPassage index r = [g] := by simp [State.linkedPassage, link, found]
      have cancels := State.cancelPassage_cancels p reason g s
      refine ⟨?_, fun j other => ?_, fun q h => ?_, fun q h => cancels.others q (fun same => h (by rw [same, link])), ?_, ?_, cancels.frame⟩
      · rw [cancels.unlinks index, tenant]
        simp [own]
      · rw [cancels.unlinks j]
        simp [own, other]
      · rw [named q h, cancels.record]
        simp [own]
      · rw [one]
        exact cancels.unreserves
      · unfold State.linkedEntries
        rw [link, one]
        refine State.SameJournal.log (t := (s.unlist p g).unreserve g) (journal.trans ?_) _ _ _ _
        unfold State.unlist
        simp [State.SameJournal, State.JournalOf]

/-! ## Ending a visit (R79) -/

/-- R71: what a party leaves of the count of zone `z`. -/
def Visit.leaves (v : Visit) (z : Nat) : Nat := if v.zone = z ∧ 1 ≤ z ∧ z ≤ 15 then v.party else 0

/-- The zone of whose units a visit holds. -/
def Visit.heldZone (v : Visit) : Option Nat := if HoldsUnits v.standing then some v.zone else none

theorem State.zone_leaveZone (v : Visit) (z : Nat) (s : State) :
    (s.leaveZone v.zone v.party).zone z = { s.zone z with count := (s.zone z).count - v.leaves z } := by
  unfold State.leaveZone Visit.leaves
  rw [State.zone_updZone]
  by_cases own : z = v.zone
  · subst own
    by_cases range : 1 ≤ v.zone ∧ v.zone ≤ 15
    · rw [if_pos ⟨rfl, range⟩, if_pos ⟨rfl, range⟩]
    · rw [if_neg (fun h => range h.2), if_neg (fun h => range h.2)]
      rfl
  · rw [if_neg (fun h => own h.1), if_neg (fun h => own h.1.symm)]
    rfl

/-- R79: the holds of a visit that ends are lost. -/
def State.endHolds (tenant : Nat) (v : Visit) (s : State) : State :=
  if v.standing.holds then (s.leaveZone v.zone v.party).loseHolds tenant v.zone else s.leaveZone v.zone v.party

/-- R79, R101: the entries of the holds of a visit that ends. -/
def State.endedEntries (tenant : Nat) (v : Visit) (s w : State) : State :=
  if HoldsUnits v.standing then s.holdLossEntries tenant v.zone (s.grantsOf tenant) w else w

theorem State.endHolds_frame (tenant : Nat) (v : Visit) (s : State) : (s.leaveZone v.zone v.party).OnlyUnitMonitor (s.endHolds tenant v) := by
  unfold State.endHolds
  split
  · exact State.loseHolds_frame _ _ _
  · simp [State.OnlyUnitMonitor]

/-- R79, R91: the holds of a visit that ends, for a grant list that names no unit twice. -/
theorem State.endHolds_spec {tenant : Nat} (v : Visit) {s w : State} (nodup : (s.grantsOf tenant).Nodup) (journal : State.SameJournal w s) :
    s.MovesHolds (s.grantsOf tenant) v.heldZone none (s.endHolds tenant v) ∧
      State.SameJournal (s.endedEntries tenant v w) (s.endHolds tenant v) := by
  have left := State.updZone_frame v.zone (fun r => { r with count := r.count - v.party }) s
  have told : State.SameJournal w (s.leaveZone v.zone v.party) := journal.trans (by simp [State.SameJournal, State.JournalOf, State.leaveZone])
  have unit (u : Nat) : (s.leaveZone v.zone v.party).unit u = s.unit u := by rw [State.leaveZone, left.eq]; rfl
  have grants : (s.leaveZone v.zone v.party).grantsOf tenant = s.grantsOf tenant := by rw [State.leaveZone, left.eq]; rfl
  unfold State.endHolds State.endedEntries Visit.heldZone
  by_cases holds : HoldsUnits v.standing
  · rw [if_pos ((Standing.holds_iff _).2 holds), if_pos holds, if_pos holds]
    unfold State.loseHolds
    rw [grants]
    obtain ⟨entries, units⟩ := State.loseHolds_list tenant v.zone (s.leaveZone v.zone v.party) (s.grantsOf tenant) nodup
      (fun _ _ => rfl) told
    rw [State.holdLossEntries_congr (s := s) (fun u _ => by rw [unit])] at entries
    refine ⟨fun u => (units u).trans ?_, entries⟩
    rw [unit]
    cases stands : s.unit u with
    | none => simp
    | some x =>
      by_cases here : u ∈ s.grantsOf tenant ∧ x.zone = v.zone
      · rw [if_pos ⟨here.1, by simp [here.2]⟩]
        have on : u ∈ s.grantsOf tenant ∧ some v.zone = some x.zone := ⟨here.1, by rw [here.2]⟩
        simp only [Option.map_some, if_pos on]
        rfl
      · rw [if_neg (fun h => here ⟨h.1, by simpa using h.2⟩)]
        have off : ¬ (u ∈ s.grantsOf tenant ∧ some v.zone = some x.zone) := fun h => here ⟨h.1, (Option.some.inj h.2).symm⟩
        simp only [Option.map_some, if_neg off, reduceCtorEq, and_false, if_false]
  · rw [if_neg (fun h => holds ((Standing.holds_iff _).1 h)), if_neg holds, if_neg holds]
    refine ⟨fun u => ?_, told⟩
    rw [unit]
    simp

/-- R79, R208: the entry of a visit that ends. -/
def State.visitEndEntry (tenant reason now : Nat) (v : Visit) (w : State) : State :=
  w.log .visitEnd (some v.slot) (some tenant)
    (bytesOf 1 (reason + 16 * v.party) ++ bytesOf 1 (v.zone + 16 * v.state.code + (if v.unconfirmed then 64 else 0)) ++
      bytesOf 2 (min 65535 (now - v.entry)) ++ bytesOf 2 (min 65535 (now - v.deadline.getD now)))

theorem State.overstayMinutes_eq (v : Visit) (s : State) :
    s.overstayMinutes v = min 65535 (s.clock.minute - v.deadline.getD s.clock.minute) := by
  unfold State.overstayMinutes
  cases v.deadline <;> simp

theorem State.SameJournal.visitEndEntry {w t : State} (h : State.SameJournal w t) (tenant : Nat) (reason : EndReason) (v : Visit) :
    State.SameJournal (w.visitEndEntry tenant reason.code t.clock.minute v)
      (t.log .visitEnd (some v.slot) (some tenant) (t.visitEndDetail v reason)) := by
  unfold State.visitEndEntry State.visitEndDetail State.minutesOnSite
  rw [State.overstayMinutes_eq]
  exact h.log _ _ _ _

/-- What the end of the visit `v` of a tenant does. -/
structure State.EndsVisit (tenant : Nat) (v : Visit) (s t : State) : Prop where
  register : t.register = { s.register with
    visits := s.register.visits.filter (fun w => w.tenant != tenant), zones := t.register.zones, walk := t.register.walk }
  zones : ∀ z, t.zone z = { s.zone z with count := (s.zone z).count - v.leaves z }
  own : t.tenant tenant = (s.tenant tenant).map (fun r => { r with visit := none })
  tenants : ∀ j, j ≠ tenant → t.tenant j = s.tenant j
  shown : t.peek 32 2 = bytesOf 2 t.register.visits.length
  frame : s.OnlyVisits t

/-- R79: the visit leaves the list and the tenant. -/
def State.delisted (tenant : Nat) (s : State) : State :=
  State.updTenant tenant (fun r => { r with visit := none }) { s with register := s.register.removeVisit tenant }

/-- R79: the steps of the end of a visit. -/
theorem State.endVisit_eq {tenant : Nat} {v : Visit} {s : State} (reason : EndReason) (visit : s.visitOf tenant = some v) :
    s.endVisit tenant reason =
      (((s.endHolds tenant v).delisted tenant).log .visitEnd (some v.slot) (some tenant)
        (((s.endHolds tenant v).delisted tenant).visitEndDetail v reason)).mirrorVisits := by
  unfold State.endVisit State.endHolds
  rw [visit]
  rfl

theorem State.mirrorVisits_eq (s : State) : s.mirrorVisits = s.mirror 32 (bytesOf 2 s.register.visits.length) := rfl

theorem State.delisted_frame (tenant : Nat) (s : State) :
    s.delisted tenant = { s with register := s.register.removeVisit tenant, tenants := (s.delisted tenant).tenants } :=
  (State.updTenant_frame tenant _ _).eq

/-- R79: all that the end of a visit does but for the holds. -/
theorem State.endVisit_spec {tenant : Nat} {v : Visit} {s : State} (reason : EndReason) (visit : s.visitOf tenant = some v) :
    s.EndsVisit tenant v (s.endVisit tenant reason) ∧ (s.endVisit tenant reason).units = (s.endHolds tenant v).units ∧
      ∀ w, State.SameJournal w (s.endHolds tenant v) →
        State.SameJournal ((w.visitEndEntry tenant reason.code s.clock.minute v).mirror 32
          (bytesOf 2 (s.register.visits.filter (fun w => w.tenant != tenant)).length)) (s.endVisit tenant reason) := by
  have held := State.endHolds_frame tenant v s
  have left := State.updZone_frame v.zone (fun r => { r with count := r.count - v.party }) s
  have register := State.register_updZone v.zone (fun r => { r with count := r.count - v.party }) s
  have zones (z : Nat) := State.zone_leaveZone v z s
  have frame := State.endVisit_frame tenant reason s
  rw [State.endVisit_eq reason visit] at frame ⊢
  unfold State.leaveZone at held zones
  generalize s.updZone v.zone (fun r => { r with count := r.count - v.party }) = a at *
  generalize s.endHolds tenant v = b at *
  have own := State.tenant_updTenant_self tenant (fun r => { r with visit := none }) { b with register := b.register.removeVisit tenant }
  have others (j : Nat) (other : j ≠ tenant) := State.tenant_updTenant_ne other (fun r => { r with visit := none })
    { b with register := b.register.removeVisit tenant }
  change (b.delisted tenant).tenant tenant = (b.tenant tenant).map _ at own
  change ∀ j, j ≠ tenant → (b.delisted tenant).tenant j = b.tenant j at others
  have delisted := b.delisted_frame tenant
  have logged := State.log_frame .visitEnd (some v.slot) (some tenant) ((b.delisted tenant).visitEndDetail v reason) (b.delisted tenant)
  have now : (b.delisted tenant).clock.minute = s.clock.minute := by rw [delisted, held.eq, left.eq]
  have told (w : State) (h : State.SameJournal w b) : State.SameJournal (w.visitEndEntry tenant reason.code s.clock.minute v)
      ((b.delisted tenant).log .visitEnd (some v.slot) (some tenant) ((b.delisted tenant).visitEndDetail v reason)) :=
    now ▸ (h.trans (by rw [delisted]; exact ⟨⟨rfl, rfl, rfl⟩, rfl, rfl⟩) : State.SameJournal w (b.delisted tenant)).visitEndEntry tenant reason v
  generalize b.delisted tenant = c at *
  generalize c.log .visitEnd (some v.slot) (some tenant) (c.visitEndDetail v reason) = d at *
  have mirrored := State.mirror_frame 32 (bytesOf 2 d.register.visits.length) d
  have shown := State.peek_mirror (a := 32) (by decide) (bytesOf 2 d.register.visits.length) d
  rw [State.mirrorVisits_eq] at frame ⊢
  have registerB : b.register = { s.register with zones := a.register.zones } := by rw [held.eq]; exact register
  have registerD : d.register = b.register.removeVisit tenant := by rw [logged.blocks, delisted]
  have visits : d.register.visits = s.register.visits.filter (fun w => w.tenant != tenant) := by
    rw [registerD, registerB]
    rfl
  have journal (w : State) (h : State.SameJournal w b) := (told w h).mirror 32 (bytesOf 2 d.register.visits.length)
  rw [length_bytesOf] at shown
  generalize d.mirror 32 (bytesOf 2 d.register.visits.length) = e at *
  have final : e = { d with mem := e.mem } := mirrored.eq
  have registerE : e.register = d.register := by rw [final]
  have tenantE (j : Nat) : e.tenant j = c.tenant j := by rw [final, logged.blocks]; rfl
  have tenantB (j : Nat) : b.tenant j = s.tenant j := by rw [held.eq, left.eq]; rfl
  refine ⟨⟨?_, fun z => ?_, ?_, fun j other => ?_, ?_, ?_⟩, ?_, fun w h => ?_⟩
  · rw [registerE, registerD, registerB]
    rfl
  · have same : e.register.zones = a.register.zones := by rw [registerE, registerD, registerB]; rfl
    rw [← zones z, State.zone, State.zone, same]
  · rw [tenantE, own, tenantB]
  · rw [tenantE, others j other, tenantB]
  · rw [shown, registerE]
  · exact frame
  · rw [final, logged.blocks, delisted]
  · rw [← visits]
    exact journal w h

/-! ## A tenant that is taken off site (R13, R84) -/

/-- From `s` to `t` nothing but portals, tenants, units, the register and what the journal touches has changed. -/
abbrev State.OnlySite (s t : State) : Prop :=
  t.bus.run = s.bus.run ∧ t.bus.mask = s.bus.mask ∧ t.bus.lastRefusal = s.bus.lastRefusal ∧
    t.settings = s.settings ∧ t.slips = s.slips ∧ t.creds = s.creds ∧ t.clock = s.clock ∧
    t.profiles = s.profiles ∧ t.holidays = s.holidays ∧ t.reads = s.reads ∧ t.cars = s.cars ∧
    t.lines = s.lines ∧ t.nodes = s.nodes ∧ t.mode = s.mode ∧ t.revision = s.revision ∧ t.pending = s.pending

theorem State.OnlyPassages.site {s t : State} (h : s.OnlyPassages t) : s.OnlySite t := by
  simp_all [State.OnlyPassages, State.OnlySite]

theorem State.OnlySite.visits {s t u : State} (h : s.OnlySite t) (k : t.OnlyVisits u) : s.OnlySite u := by
  simp_all [State.OnlySite, State.OnlyVisits]

/-- What a visit leaves of the count of a zone, where there is a visit. -/
def leavesOf (visit : Option Visit) (z : Nat) : Nat :=
  match visit with
  | some w => w.leaves z
  | none => 0

/-- What taking a tenant off site does: its pending passage is cancelled and its visit ended. -/
structure State.LeavesSite (index : Nat) (r : Tenant) (s t : State) : Prop where
  own : t.tenant index = some { r with visit := if (s.visitOf index).isSome then none else r.visit, transit := none }
  tenants : ∀ j, j ≠ index → t.tenant j = s.tenant j
  visits : t.register.visits = s.register.visits.filter (fun w => w.tenant != index)
  linked : ∀ p, r.transit = some p → t.portal p = { s.portal p with
    passages := (s.portal p).passages.filter (fun g => g.tenant != index) }
  others : ∀ p, r.transit ≠ some p → t.portal p = s.portal p
  creating : t.register.creating = s.register.creating - creationsIn (s.linkedPassage index r)
  zones : ∀ z, t.zone z = { s.zone z with
    count := (s.zone z).count - leavesOf (s.visitOf index) z
    reserved := (s.zone z).reserved - reservedIn z (s.linkedPassage index r) }
  frame : s.OnlySite t

theorem State.filter_visits_of_none {index : Nat} {s : State} (visit : s.visitOf index = none) :
    s.register.visits.filter (fun w => w.tenant != index) = s.register.visits := by
  rw [List.filter_eq_self]
  intro w listed
  have := List.find?_eq_none.1 visit w listed
  simpa using this

/-- R13, R84: the passage that the link names is cancelled, and then the visit is ended. -/
theorem State.leaveSite_spec {index : Nat} {r : Tenant} {s w : State} (cancel : CancelReason) (reason : EndReason)
    (tenant : s.tenant index = some r) (journal : State.SameJournal w s) :
    let t := (s.cancelTransit index cancel).endVisit index reason
    s.LeavesSite index r t ∧
      (s.visitOf index = none → t.units = s.units ∧ State.SameJournal (s.linkedEntries index cancel.code r w) t) ∧
      ∀ v, s.visitOf index = some v → r.grants.Nodup → s.MovesHolds r.grants v.heldZone none t ∧
        State.SameJournal (((s.endedEntries index v (s.linkedEntries index cancel.code r w)).visitEndEntry index reason.code s.clock.minute v).mirror 32
          (bytesOf 2 (s.register.visits.filter (fun w => w.tenant != index)).length)) t := by
  have link := State.cancelTransit_spec cancel tenant journal
  generalize s.cancelTransit index cancel = a at link
  obtain ⟨register, zones⟩ := link.unreserves
  have visitsA : a.register.visits = s.register.visits := by rw [register]
  have visitA : a.visitOf index = s.visitOf index := by rw [State.visitOf, visitsA]; rfl
  have frameA := link.frame
  have siteA := frameA.site
  have unitsA : a.units = s.units := by obtain ⟨-, -, -, -, -, -, units, -⟩ := frameA; exact units
  have unitA (u : Nat) : a.unit u = s.unit u := by rw [State.unit, unitsA]; rfl
  cases visit : s.visitOf index with
  | none =>
    have run : a.endVisit index reason = a := by
      unfold State.endVisit
      rw [visitA, visit]
    rw [run]
    refine ⟨⟨?_, link.tenants, ?_, link.linked, link.others, by rw [register], fun z => ?_, siteA⟩, fun _ => ⟨unitsA, link.journal⟩,
      fun v h => (nomatch h)⟩
    · rw [link.own, visit]
      rfl
    · rw [visitsA, State.filter_visits_of_none visit]
    · rw [zones z, visit]
      rfl
  | some v =>
    obtain ⟨ends, units, told⟩ := State.endVisit_spec (s := a) reason (visitA.trans visit)
    have grants : a.grantsOf index = r.grants := by simp [State.grantsOf, link.own]
    have frameT := ends.frame
    have held (nodup : r.grants.Nodup) := State.endHolds_spec (s := a) (tenant := index) v (by rw [grants]; exact nodup) link.journal
    generalize a.endVisit index reason = t at *
    have portals : t.portals = a.portals := by obtain ⟨-, -, -, -, -, -, -, -, -, -, portals, -⟩ := frameT; exact portals
    have portal (p : Nat) : t.portal p = a.portal p := by rw [State.portal, portals]; rfl
    have registerT := ends.register
    refine ⟨⟨?_, fun j other => (ends.tenants j other).trans (link.tenants j other), ?_, fun p h => (portal p).trans (link.linked p h),
      fun p h => (portal p).trans (link.others p h), ?_, fun z => ?_, ?_⟩, fun h => (nomatch h), fun x h nodup => ?_⟩
    · rw [ends.own, link.own, visit]
      rfl
    · rw [registerT, visitsA]
    · rw [registerT, register]
    · rw [ends.zones z, zones z, visit]
      rfl
    · exact siteA.visits frameT
    · obtain rfl : v = x := Option.some.inj h
      obtain ⟨moves, entries⟩ := held nodup
      rw [grants] at moves
      refine ⟨fun u => ?_, ?_⟩
      · have unit : t.unit u = (a.endHolds index v).unit u := by rw [State.unit, units]; rfl
        rw [unit, moves u, unitA]
      · have same : a.endedEntries index v (s.linkedEntries index cancel.code r w) =
            s.endedEntries index v (s.linkedEntries index cancel.code r w) := by
          have own : s.grantsOf index = r.grants := by simp [State.grantsOf, tenant]
          unfold State.endedEntries
          rw [grants, own, State.holdLossEntries_congr (s := s) (fun u _ => by rw [unitA])]
        have clock : a.clock = s.clock := by obtain ⟨-, -, -, -, -, -, -, clock, -⟩ := frameA; exact clock
        rw [same] at entries
        rw [← visitsA, ← clock]
        exact told _ entries

/-- Settles O34: what is cancelled, what is ended, and the answer. -/
theorem visitEndTakesTheTenantOffSite : Obligations.VisitEndTakesTheTenantOffSite := by
  unfold Obligations.VisitEndTakesTheTenantOffSite
  dsimp only
  intro s v r serves small tenant
  have links : r.links = 0 ↔ r.visit = none ∧ r.transit = none := by
    unfold Tenant.links
    cases r.visit <;> cases r.transit <;> simp
  have work : visitEnd v s = visitEnd v s := rfl
  conv at work => rhs; rw [visitEnd]
  rw [if_neg (show ¬ Config.tenants ≤ v.body 0 2 from Nat.not_le.2 small), tenant] at work
  dsimp only at work
  refine ⟨fun noVisit noTransit => ?_, fun onSite agree => ?_⟩
  · rw [if_pos (links.2 ⟨noVisit, noTransit⟩)] at work
    exact exec_refused (c := .visitEnd) rfl serves work
  · have linked : ¬ r.links = 0 := fun h => by simp [(links.1 h).1, (links.1 h).2] at onSite
    rw [if_neg linked] at work
    obtain ⟨leaves, without, within⟩ := State.leaveSite_spec .host .host tenant (State.SameJournal.refl s)
    generalize (s.cancelTransit (v.body 0 2) .host).endVisit (v.body 0 2) .host = u at *
    obtain ⟨run, mask, -, settings, slips, creds, clock, profiles, holidays, reads, cars, lines, nodes, mode, -⟩ := leaves.frame
    obtain ⟨t, next, frame, gives⟩ := exec_serves (c := .visitEnd) rfl serves work slips
    obtain ⟨x, rfl⟩ : ∃ x, t = { u with slips := x } := ⟨_, frame⟩
    have own : (if (s.visitOf (v.body 0 2)).isSome = true then none else r.visit) = none := by
      split
      · rfl
      · next h => rwa [← agree, Option.not_isSome_iff_eq_none] at h
    refine ⟨_, next, run, mask, settings, creds, clock, profiles, holidays, reads, cars, lines, nodes, mode,
      leaves.own.trans (by rw [own]), leaves.tenants, leaves.visits, leaves.linked, leaves.others, leaves.creating,
      fun z => (leaves.zones z).trans ?_, fun none_ => ⟨(without none_).1, fun p link => ?_⟩, fun w visit nodup => (within w visit nodup).1, ?_⟩
    · cases s.visitOf (v.body 0 2) <;> rfl
    · have told := (without none_).2
      unfold State.linkedEntries at told
      rw [link] at told
      exact told.1
    · unfold State.visitEndAnswer State.minutesOnSite at gives
      cases visit : s.visitOf (v.body 0 2) with
      | none =>
        rw [visit] at gives
        exact gives
      | some w =>
        rw [visit] at gives
        simp only [State.overstayMinutes_eq] at gives
        exact gives

end Sys2Proof.Machine
end

section
/-! TENANT_DROP (R12, R13): O23. -/

namespace Sys2Proof.Machine

/-! ## Release entries of a tenant (R139) -/

theorem State.car_releaseCarNode (n : NodeId) (i : Nat) (s : State) : (s.releaseCarNode n).car i = s.car i := by
  rw [State.releaseCarNode_only]
  rfl

theorem State.settleCar_others {i d : Nat} (other : d ≠ i) (s : State) : (s.settleCar i).car d = s.car d := by
  unfold State.settleCar State.applyCar
  dsimp only
  (repeat' split) <;> simp only [State.handFloors_car, State.car_updCar_ne other, State.car_releaseCarNode]

theorem State.settleCar_releases (i : Nat) (s : State) : ((s.settleCar i).car i).releases = (s.car i).releases := by
  unfold State.settleCar State.applyCar
  dsimp only
  (repeat' split) <;> simp only [State.handFloors_car, State.car_updCar_self, State.car_releaseCarNode]

/-- R139: the tenant's entry, where the list holds one, leaves it. -/
structure State.RemovesRelease (i tenant : Nat) (s t : State) : Prop where
  releases : (t.car i).releases = (s.car i).releases.filter (fun e => e.tenant != tenant)
  car : (s.car i).config.isSome = true → t.car i = if (s.car i).releases.any (fun e => e.tenant == tenant) then
    s.carSettled { s.car i with releases := (s.car i).releases.filter (fun e => e.tenant != tenant) } else s.car i
  others : ∀ d, d ≠ i → t.car d = s.car d
  frame : s.OnlyCarUnit t
  nodes : ∀ {α : Type} (g : Node → α), (∀ (r : Node) (floors : Word) (on : Bool), g { r with floors := floors, recallOn := on } = g r) →
    State.KeepsOfNodes g s t
  absent : (∀ e ∈ (s.car i).releases, e.tenant ≠ tenant) → t = s

theorem State.removeRelease_spec (i tenant : Nat) (reason : ReleaseReason) {s w : State} (journal : State.SameJournal w s) :
    s.RemovesRelease i tenant (s.removeRelease i tenant reason) ∧
      State.SameJournal (w.releaseEntries i reason.code ((s.car i).releases.find? (fun e => e.tenant == tenant)).toList)
        (s.removeRelease i tenant reason) := by
  unfold State.removeRelease
  cases found : (s.car i).releases.find? (fun e => e.tenant == tenant) with
  | none =>
    have free : ∀ e ∈ (s.car i).releases, e.tenant ≠ tenant := fun e listed => by simpa using List.find?_eq_none.1 found e listed
    have same : (s.car i).releases.filter (fun e => e.tenant != tenant) = (s.car i).releases :=
      List.filter_eq_self.2 fun e listed => by simpa using free e listed
    have any : ¬ (s.car i).releases.any (fun e => e.tenant == tenant) = true := by simpa using free
    exact ⟨⟨same.symm, fun _ => (if_neg any).symm, fun _ _ => rfl, (State.CarTurns.start i journal).frame, fun _ _ _ => rfl, fun _ => rfl⟩, journal⟩
  | some e =>
    have listed := List.mem_of_find?_eq_some found
    have named : e.tenant = tenant := by simpa using List.find?_some found
    have any : (s.car i).releases.any (fun e => e.tenant == tenant) = true := List.any_eq_true.2 ⟨e, listed, by simp [named]⟩
    have told := ((State.CarTurns.start i journal).updCar (fun r =>
      { r with releases := r.releases.filter (fun e => e.tenant != tenant) })).log .liftReleaseEnd (some i) (some e.tenant)
        (bytesOf 1 reason.code ++ bytesOf 2 e.floors.toNat)
    have kept {α : Type} (g : Node → α) : State.KeepsOfNodes g s ((s.updCar i (fun r =>
        { r with releases := r.releases.filter (fun e => e.tenant != tenant) })).logRelease i reason e) :=
      (State.KeepsOfNodes.updCar (fun _ => rfl) i _).log _ _ _ _
    change s.CarTurns i _ _ ((s.updCar i (fun r => { r with releases := r.releases.filter (fun e => e.tenant != tenant) })).logRelease i reason e)
      at told
    dsimp only
    generalize (s.updCar i (fun r => { r with releases := r.releases.filter (fun e => e.tenant != tenant) })).logRelease i reason e = m at *
    refine ⟨⟨?_, fun config => ?_, fun d other => (State.settleCar_others other m).trans (told.others d other),
      told.frame.trans (State.settleCar_frame i m), fun g blind => (kept g).settleCar blind i, fun free => absurd named (free e listed)⟩,
      told.journal.trans (State.settleCar_sameJournal i m)⟩
    · rw [State.settleCar_releases, told.record]
    · obtain ⟨c, config⟩ := Option.isSome_iff_exists.1 config
      rw [if_pos any, State.settleCar_car_self (old := c) (by rw [told.record]; exact config), told.record]
      exact State.carSettled_congr told.mode (kept _) _

/-- R12, R13: the tenant's entries leave the lists of the cars, in ascending order. -/
theorem State.forEach_removeRelease {tenant : Nat} {o : State} {is : List Nat} (nodup : is.Nodup) {w t : State} (mode : t.mode = o.mode)
    (nodes : o.KeepsNodeStates t) (same : ∀ i ∈ is, t.car i = o.car i) (journal : State.SameJournal w t) :
    let u := t.forEach is (fun i s => s.removeRelease i tenant .removed)
    t.OnlyCarUnit u ∧ (∀ i ∈ is, (u.car i).releases = (o.car i).releases.filter (fun e => e.tenant != tenant) ∧
      ((o.car i).config.isSome = true → u.car i = if (o.car i).releases.any (fun e => e.tenant == tenant) then
        o.carSettled { o.car i with releases := (o.car i).releases.filter (fun e => e.tenant != tenant) } else o.car i)) ∧
      (∀ i, i ∉ is → u.car i = t.car i) ∧
      (∀ {α : Type} (g : Node → α), (∀ (r : Node) (floors : Word) (on : Bool), g { r with floors := floors, recallOn := on } = g r) →
        State.KeepsOfNodes g t u) ∧
      ((∀ i ∈ is, ∀ e ∈ (o.car i).releases, e.tenant ≠ tenant) → u = t) ∧
      State.SameJournal (is.foldl (fun w i => w.releaseEntries i 2 ((o.car i).releases.find? (fun e => e.tenant == tenant)).toList) w) u := by
  induction is generalizing w t with
  | nil => exact ⟨(State.CarTurns.start 0 journal).frame, fun i none => absurd none List.not_mem_nil, fun _ _ => rfl, fun _ _ _ => rfl,
      fun _ => rfl, journal⟩
  | cons i is ih =>
    obtain ⟨fresh, nodup⟩ := List.nodup_cons.1 nodup
    have car := same i (List.mem_cons_self ..)
    obtain ⟨first, told⟩ := State.removeRelease_spec i tenant .removed journal
    rw [car] at told
    have modeFirst : (t.removeRelease i tenant .removed).mode = o.mode := by
      obtain ⟨-, -, -, -, -, -, -, -, -, -, -, -, -, -, -, kept, -⟩ := first.frame
      exact kept.trans mode
    have apart {q : Nat} (listed : q ∈ is) : q ≠ i := fun own => fresh (own ▸ listed)
    obtain ⟨frame, hit, missed, kept, absent, entries⟩ := ih nodup modeFirst (fun n => (first.nodes _ (fun _ _ _ => rfl) n).trans (nodes n))
      (fun q listed => (first.others q (apart listed)).trans (same q (List.mem_cons_of_mem _ listed))) told
    refine ⟨first.frame.trans frame, fun q listed => ?_, fun q unlisted => ?_, fun g blind n => (kept g blind n).trans (first.nodes g blind n),
      fun free => ?_, entries⟩
    · obtain rfl | listed := List.mem_cons.1 listed
      · have releases := first.releases
        have record := first.car
        rw [car] at releases record
        refine ⟨(congrArg Car.releases (missed q fresh)).trans releases, fun config => (missed q fresh).trans ((record config).trans ?_)⟩
        rw [State.carSettled_congr mode nodes]
      · exact hit q listed
    · obtain ⟨other, unlisted⟩ := not_or.1 (fun h => unlisted (List.mem_cons.2 h))
      exact (missed q unlisted).trans (first.others q other)
    · exact (absent fun q listed => free q (List.mem_cons_of_mem _ listed)).trans
        (first.absent (by rw [car]; exact free i (List.mem_cons_self ..)))

/-! ## Credentials of a tenant (R12, R15) -/

/-- R15, R77: the keys of a list of credentials are forgotten. -/
def forgetKeys (es : List (Nat × Credential)) (key : Option Key) : Option Key := key.filter (fun k => !es.any (fun e => e.2.key == k))

theorem forgetKeys_cons (e : Nat × Credential) (es : List (Nat × Credential)) (key : Option Key) :
    forgetKeys es (if key = some e.2.key then none else key) = forgetKeys (e :: es) key := by
  cases key with
  | none => simp [forgetKeys]
  | some k =>
    by_cases same : k = e.2.key
    · simp [forgetKeys, same, Option.filter]
    · have off : (e.2.key == k) = false := beq_false_of_ne (Ne.symm same)
      simp only [forgetKeys, Option.some.injEq, same, if_false, Option.filter, List.any_cons, off, Bool.false_or]

/-- R15, R77: a visit that carries none of the keys of a list. -/
def Visit.forgetAll (es : List (Nat × Credential)) (w : Visit) : Visit := { w with credential := forgetKeys es w.credential }

/-- R12, R15: credentials of one tenant leave the index. -/
theorem State.forEach_dropCredential {index : Nat} {es : List (Nat × Credential)} (owned : ∀ e ∈ es, e.2.tenant = index) (s : State) :
    let t := s.forEach es (fun e s => s.dropCredential e.2)
    t = { s with
      creds := t.creds, tenants := t.tenants, portals := t.portals
      register := { s.register with visits := s.register.visits.map (Visit.forgetAll es) } } ∧
      (∀ p, t.portal p = { s.portal p with passages := (s.portal p).passages.map (fun g => { g with key := forgetKeys es g.key }) }) ∧
      (∀ j, j ≠ index → t.tenant j = s.tenant j) ∧
      ∀ k, Table.find k t.creds = if es.any (fun e => e.2.key.code == k) then none else Table.find k s.creds := by
  induction es generalizing s with
  | nil => 
    have keep : forgetKeys [] = id := funext fun k => by cases k <;> rfl
    have same : Visit.forgetAll [] = id := funext fun w => by simp [Visit.forgetAll, keep]
    exact ⟨by simp [State.forEach, same], fun p => by simp [State.forEach, keep], fun _ _ => rfl, fun k => by simp [State.forEach]⟩
  | cons e es ih =>
    have own := owned e (List.mem_cons_self ..)
    obtain ⟨frame, portals, tenants, creds⟩ := ih (fun f listed => owned f (List.mem_cons_of_mem _ listed)) (s.dropCredential e.2)
    have first := s.dropCredential_eq e.2
    rw [show s.forEach (e :: es) (fun e s => s.dropCredential e.2) =
      (s.dropCredential e.2).forEach es (fun e s => s.dropCredential e.2) from rfl]
    generalize (s.dropCredential e.2).forEach es (fun e s => s.dropCredential e.2) = u at *
    refine ⟨?_, fun p => ?_, fun j other => (tenants j other).trans (State.tenant_dropCredential_ne (by rw [own]; exact other) s), fun k => ?_⟩
    · refine frame.trans ?_
      have both : Visit.forgetAll es ∘ Visit.forget e.2.key = Visit.forgetAll (e :: es) := funext fun w => by
        simp only [Function.comp, Visit.forgetAll, Visit.forget, forgetKeys_cons]
      have register : (s.dropCredential e.2).register = { s.register with visits := s.register.visits.map (Visit.forget e.2.key) } := by
        rw [first]
      rw [register, List.map_map, both]
      generalize s.dropCredential e.2 = m at *
      rw [first]
    · refine (portals p).trans ?_
      rw [State.portal_dropCredential]
      simp only [List.map_map, Function.comp_def, Passage.forget_eq, forgetKeys_cons]
    · refine (creds k).trans ?_
      rw [State.creds_dropCredential]
      by_cases same : k = e.2.key.code
      · subst same
        simp
      · have off : (e.2.key.code == k) = false := beq_false_of_ne (Ne.symm same)
        rw [Table.find_erase_ne same, List.any_cons, off, Bool.false_or]

/-! ## The entry becomes vacant (R12, R13) -/

/-- R15: with the index in its sorted form, the keys of a tenant's credentials are those that leave it. -/
theorem Table.find_dropped {index : Nat} {creds : Table Credential} (sorted : Table.Sorted creds) (keyed : ∀ e ∈ creds, e.2.key.code = e.1)
    (k : Nat) : (if (creds.filter (fun e => e.2.tenant == index)).any (fun e => e.2.key.code == k) then none else Table.find k creds) =
      (Table.find k creds).filter (fun c => c.tenant != index) := by
  cases found : Table.find k creds with
  | none => simp
  | some c =>
    have listed := Table.mem_of_find found
    by_cases own : c.tenant = index
    · have gone : (creds.filter (fun e => e.2.tenant == index)).any (fun e => e.2.key.code == k) = true :=
        List.any_eq_true.2 ⟨(k, c), List.mem_filter.2 ⟨listed, by simp [own]⟩, by simp [keyed _ listed]⟩
      rw [if_pos gone]
      simp [own, Option.filter]
    · have stays : ¬ (creds.filter (fun e => e.2.tenant == index)).any (fun e => e.2.key.code == k) = true := fun h => by
        obtain ⟨e, member, code⟩ := List.any_eq_true.1 h
        obtain ⟨member, mine⟩ := List.mem_filter.1 member
        have at_ : e.1 = k := (keyed e member).symm.trans (beq_iff_eq.1 code)
        have same := Table.find_of_mem sorted (k := e.1) (v := e.2) member
        rw [at_, found] at same
        exact own ((congrArg Credential.tenant (Option.some.inj same)).trans (beq_iff_eq.1 mine))
      rw [if_neg stays]
      simp [own, Option.filter]

/-- R15, R77: whether a key is that of no credential of the tenant. -/
def State.staysKey (index : Nat) (s : State) (k : Key) : Bool := !s.creds.any (fun e => e.2.tenant == index && e.2.key == k)

theorem forgetKeys_eq (index : Nat) (s : State) (key : Option Key) :
    forgetKeys (s.creds.filter (fun e => e.2.tenant == index)) key = key.filter (s.staysKey index) := by
  unfold forgetKeys State.staysKey
  congr 1
  funext k
  rw [List.any_filter]

/-- R13: the entries of a visit that TENANT_DROP ends. -/
def State.droppedVisitEntries (index : Nat) (s w : State) : State :=
  match s.visitOf index with
  | some v => ((s.endedEntries index v w).visitEndEntry index 2 s.clock.minute v).mirror 32
      (bytesOf 2 (s.register.visits.filter (fun w => w.tenant != index)).length)
  | none => w

/-- R13: the entries of the release entries of a tenant that is dropped, car by car. -/
def State.droppedReleaseEntries (index : Nat) (s w : State) : State :=
  (List.range 4).foldl (fun w c => w.releaseEntries c 2 ((s.car c).releases.find? (fun e => e.tenant == index)).toList) w

/-- What a dropped tenant leaves. -/
structure State.DropsTenant (index : Nat) (r : Tenant) (s t : State) : Prop where
  own : t.tenant index = none
  tenants : ∀ j, j ≠ index → t.tenant j = s.tenant j
  creds : ∀ k, Table.find k t.creds = (Table.find k s.creds).filter (fun c => c.tenant != index)
  visits : t.register.visits = (s.register.visits.filter (fun w => w.tenant != index)).map
    (fun w => { w with credential := w.credential.filter (s.staysKey index) })
  portals : ∀ p, t.portal p = { s.portal p with
    passages := (if r.transit = some p then (s.portal p).passages.filter (fun g => g.tenant != index)
      else (s.portal p).passages).map (fun g => { g with key := g.key.filter (s.staysKey index) }) }
  creating : t.register.creating = s.register.creating - creationsIn (s.linkedPassage index r)
  zones : ∀ z, t.zone z = { s.zone z with
    count := (s.zone z).count - leavesOf (s.visitOf index) z
    reserved := (s.zone z).reserved - reservedIn z (s.linkedPassage index r) }
  cars : ∀ i < 4, (t.car i).releases = (s.car i).releases.filter (fun e => e.tenant != index) ∧
    ((s.car i).config.isSome = true → t.car i = if (s.car i).releases.any (fun e => e.tenant == index) then
      s.carSettled { s.car i with releases := (s.car i).releases.filter (fun e => e.tenant != index) } else s.car i)
  otherCars : ∀ i, 4 ≤ i → t.car i = s.car i
  nodes : State.KeepsOfNodes (fun x => { x with floors := 0, recallOn := false }) s t
  sameNodes : (∀ i < 4, ∀ e ∈ (s.car i).releases, e.tenant ≠ index) → t.nodes = s.nodes
  units : ∀ u, t.unit u = (s.unit u).map (fun x =>
    { (if u ∈ r.grants ∧ (s.visitOf index).bind Visit.heldZone = some x.zone then x.unheld else x) with
      grantees := x.grantees - (if u ∈ r.grants then 1 else 0) })
  journal : State.JournalOf (s.droppedReleaseEntries index (s.droppedVisitEntries index (s.linkedEntries index 6 r s))) t
  frame : t.settings = s.settings ∧ t.clock = s.clock ∧ t.profiles = s.profiles ∧ t.holidays = s.holidays ∧ t.reads = s.reads ∧
    t.lines = s.lines ∧ t.mode = s.mode ∧ t.slips = s.slips

/-- R12, R13: the steps of TENANT_DROP. -/
theorem State.dropTenant_spec {index : Nat} {r : Tenant} {s : State} (tenant : s.tenant index = some r) (sorted : Table.Sorted s.creds)
    (keyed : ∀ e ∈ s.creds, e.2.key.code = e.1) (nodup : r.grants.Nodup) : s.DropsTenant index r (s.dropTenant index) := by
  obtain ⟨leaves, without, within⟩ := State.leaveSite_spec .removed .removed tenant (State.SameJournal.refl s)
  unfold State.dropTenant
  generalize (s.cancelTransit index .removed).endVisit index .removed = a at *
  have told : State.SameJournal (s.droppedVisitEntries index (s.linkedEntries index 6 r s)) a := by
    unfold State.droppedVisitEntries
    cases visit : s.visitOf index with
    | none => exact (without visit).2
    | some v => exact (within v visit nodup).2
  have held : ∀ u, a.unit u = (s.unit u).map (fun x =>
      if u ∈ r.grants ∧ (s.visitOf index).bind Visit.heldZone = some x.zone then x.unheld else x) := fun u => by
    cases visit : s.visitOf index with
    | none =>
      rw [State.unit, (without visit).1]
      simp [State.unit]
    | some v =>
      refine ((within v visit nodup).1 u).trans (congrArg (Option.map · _) (funext fun x => ?_))
      by_cases here : u ∈ r.grants ∧ v.heldZone = some x.zone
      · rw [if_pos here, if_pos (show u ∈ r.grants ∧ (some v).bind Visit.heldZone = some x.zone from here)]
        rfl
      · rw [if_neg here, if_neg (fun h => nomatch h.2), if_neg (show ¬ (u ∈ r.grants ∧ (some v).bind Visit.heldZone = some x.zone) from here)]
  obtain ⟨-, -, -, settingsA, slipsA, credsA, clockA, profilesA, holidaysA, readsA, carsA, linesA, nodesA, modeA, -⟩ := leaves.frame
  have carA (i : Nat) : a.car i = s.car i := by rw [State.car, carsA]; rfl
  have nodeA (n : NodeId) : a.node n = s.node n := by rw [State.node, nodesA]; rfl
  -- the release entries
  obtain ⟨frameB, hit, missed, kept, absent, told⟩ := State.forEach_removeRelease (o := s) (tenant := index) (is := List.range 4)
    List.nodup_range modeA (fun n => by rw [nodeA]) (fun i _ => carA i) told
  change a.OnlyCarUnit (a.removeReleases index) at frameB
  change State.SameJournal _ (a.removeReleases index) at told
  have frameB' := frameB.eq
  dsimp only
  have hit (i : Nat) (small : i < 4) := hit i (List.mem_range.2 small)
  have missed (i : Nat) (large : 4 ≤ i) := missed i (fun h => absurd (List.mem_range.1 h) (Nat.not_lt.2 large))
  have kept {α : Type} (g : Node → α) (blind) := kept g blind
  change ∀ i, i < 4 → ((a.removeReleases index).car i).releases = _ ∧ ((s.car i).config.isSome = true → (a.removeReleases index).car i = _) at hit
  change ∀ i, 4 ≤ i → (a.removeReleases index).car i = a.car i at missed
  have blank := kept (fun x : Node => { x with floors := 0, recallOn := false }) (fun _ _ _ => rfl)
  change State.KeepsOfNodes _ a (a.removeReleases index) at blank
  change _ → a.removeReleases index = a at absent
  clear kept
  generalize a.removeReleases index = b at *
  -- the credentials
  have tenantB (j : Nat) : b.tenant j = a.tenant j := by rw [State.tenant, frameB']; rfl
  have grants : b.grantsOf index = r.grants := by rw [State.grantsOf, tenantB, leaves.own]; rfl
  have credsB : b.creds = s.creds := by rw [frameB', ← credsA]
  have dropped := State.forEach_dropCredential (index := index) (es := s.creds.filter (fun e => e.2.tenant == index))
    (fun e listed => by simpa using (List.mem_filter.1 listed).2) b
  unfold State.dropCredentials
  rw [grants, credsB]
  dsimp only at dropped
  generalize b.forEach (s.creds.filter (fun e => e.2.tenant == index)) (fun e s => s.dropCredential e.2) = c at *
  obtain ⟨frameC, portalsC, tenantsC, credsC⟩ := dropped
  -- the grantee counts
  rw [show c.forEach r.grants State.dropGrantee = c.forEach r.grants (fun u => State.updUnit u UnitRecord.ungranted) from rfl]
  obtain ⟨frameD, unitsD⟩ := State.forEach_updUnit UnitRecord.ungranted nodup c
  generalize c.forEach r.grants (fun u => State.updUnit u UnitRecord.ungranted) = d at *
  have frameD' := frameD.eq
  have blocks : d = { b with
      creds := c.creds, tenants := c.tenants, portals := c.portals, units := d.units
      register := { b.register with visits := b.register.visits.map (Visit.forgetAll (s.creds.filter (fun e => e.2.tenant == index))) } } := by
    have lift := frameD'
    rw [frameC] at lift
    exact lift
  have carD (i : Nat) : d.car i = b.car i := by rw [State.car, blocks]; rfl
  have nodesD : d.nodes = b.nodes := by rw [blocks]
  have registerB : b.register = a.register := by rw [frameB']
  have portalB (p : Nat) : b.portal p = a.portal p := by rw [State.portal, frameB']; rfl
  have tenantD (j : Nat) : d.tenant j = c.tenant j := by rw [State.tenant, blocks]; rfl
  have unitC (u : Nat) : c.unit u = a.unit u := by rw [State.unit, frameC, frameB']; rfl
  refine ⟨Table.find_erase_self index d.tenants, fun j other => ?_, fun k => ?_, ?_, fun p => ?_, ?_, fun z => ?_, fun i small => ?_,
    fun i large => ?_, ?_, fun free => ?_, fun u => ?_, ?_, ?_⟩
  · exact (Table.find_erase_ne other d.tenants).trans ((tenantD j).trans ((tenantsC j other).trans ((tenantB j).trans (leaves.tenants j other))))
  · have same : d.creds = c.creds := by rw [blocks]
    rw [same, credsC k, credsB, Table.find_dropped sorted keyed]
  · have same : d.register.visits = b.register.visits.map (Visit.forgetAll (s.creds.filter (fun e => e.2.tenant == index))) := by
      rw [blocks]
    rw [same, registerB, leaves.visits]
    unfold Visit.forgetAll
    simp only [forgetKeys_eq]
  · have same : d.portal p = c.portal p := by rw [State.portal, blocks]; rfl
    refine same.trans ((portalsC p).trans ?_)
    rw [portalB]
    simp only [forgetKeys_eq]
    by_cases link : r.transit = some p
    · rw [leaves.linked p link, if_pos link]
    · rw [leaves.others p link, if_neg link]
  · have same : d.register.creating = a.register.creating := by rw [blocks, registerB]
    exact same.trans leaves.creating
  · have same : d.zone z = a.zone z := by rw [State.zone, blocks, registerB]; rfl
    exact same.trans (leaves.zones z)
  · have h := hit i small
    rw [← carD i] at h
    exact h
  · exact (carD i).trans ((missed i large).trans (carA i))
  · intro n
    have same : d.node n = b.node n := by rw [State.node, nodesD]; rfl
    refine (congrArg (Option.map _) same).trans ((blank n).trans ?_)
    rw [nodeA]
  · have same := absent fun i listed => free i (List.mem_range.1 listed)
    exact nodesD.trans (by rw [same, nodesA])
  · have unit : d.unit u = _ := unitsD u
    refine unit.trans ?_
    rw [unitC, held]
    cases s.unit u with
    | none => simp
    | some x => 
      by_cases listed : u ∈ r.grants <;> simp only [listed, if_true, if_false, true_and, false_and, Option.map_some]
      split <;> rfl
      rfl
  · have same : State.JournalOf b d := by rw [blocks]; exact ⟨rfl, rfl, rfl⟩
    have h := told.1
    exact ⟨same.1.trans h.1, same.2.1.trans h.2.1, same.2.2.trans h.2.2⟩
  · refine ⟨?_, ?_, ?_, ?_, ?_, ?_, ?_, ?_⟩
    all_goals
      dsimp only
      rw [blocks, frameB']
      assumption

theorem Visit.heldZone_eq (visit : Option Visit) :
    visit.bind Visit.heldZone = (visit.filter (fun w => w.standing.holds)).map (fun w => w.zone) := by
  cases visit with
  | none => rfl
  | some v =>
    by_cases holds : HoldsUnits v.standing
    · simp [Visit.heldZone, holds, Option.filter, (Standing.holds_iff _).2 holds]
    · simp [Visit.heldZone, holds, Option.filter, Bool.eq_false_iff.2 (fun h => holds ((Standing.holds_iff _).1 h))]

/-- Settles O23: the refusal, and what goes with the entry. -/
theorem tenantDropVacatesTheEntry : Obligations.TenantDropVacatesTheEntry := by
  unfold Obligations.TenantDropVacatesTheEntry
  dsimp only
  intro s v r serves small tenant
  have good (flag : v.body 2 1 ≤ 1) : firstProblem [require (v.body 0 2 < Config.tenants) (.badField 1),
      require (flagOk (v.body 2 1)) (.badField 2)] = none := by
    simp [firstProblem_none, flagOk, Config.tenants, small, flag]
  have work : tenantDrop v s = tenantDrop v s := rfl
  conv at work => rhs; unfold tenantDrop
  dsimp only at work
  refine ⟨fun linked clear => ?_, fun goes sorted keyed nodup => ?_⟩
  · rw [good (by omega), tenant] at work
    dsimp only at work
    rw [if_pos ⟨linked, clear⟩] at work
    exact exec_refused (c := .tenantDrop) rfl serves work
  · rw [good (by omega), tenant] at work
    dsimp only at work
    rw [if_neg (fun h => by
      obtain ⟨free, -⟩ | force := goes
      · exact h.1 free
      · omega)] at work
    have drops := State.dropTenant_spec tenant sorted keyed nodup
    generalize s.dropTenant (v.body 0 2) = u at *
    obtain ⟨settings, clock, profiles, holidays, reads, lines, mode, slips⟩ := drops.frame
    obtain ⟨t, next, frame, gives⟩ := exec_serves (c := .tenantDrop) rfl serves work slips
    obtain ⟨x, rfl⟩ : ∃ x, t = { u with slips := x } := ⟨_, frame⟩
    refine ⟨_, next, drops.own, settings, clock, profiles, holidays, reads, lines, mode, drops.creds, drops.tenants, drops.visits,
      drops.portals, drops.creating, fun z => (drops.zones z).trans ?_, drops.cars, drops.otherCars, drops.nodes, drops.sameNodes,
      fun w => (drops.units w).trans ?_, ?_, gives⟩
    · cases s.visitOf (v.body 0 2) <;> rfl
    · rw [Visit.heldZone_eq]
    · have journal := drops.journal
      have grants : s.grantsOf (v.body 0 2) = r.grants := by simp [State.grantsOf, tenant]
      unfold State.droppedReleaseEntries State.droppedVisitEntries State.linkedEntries State.endedEntries State.visitEndEntry at journal
      rw [grants] at journal
      exact journal

end Sys2Proof.Machine
end

section
/-! UNIT_PUT (R19, R20, R95): O24. -/

namespace Sys2Proof.Machine

/-- R91, R92: a holder count set acts on the arm state alone. -/
theorem State.setHolders_unit {u : Nat} {r : UnitRecord} {s : State} (stands : s.unit u = some r) (n : Nat) (tenant : Option Nat) :
    ∃ arm, (s.setHolders u n tenant).unit u = some { r with holders := n, arm := arm } := by
  unfold State.setHolders State.holdBegins State.holdEnds State.logArmed
  rw [stands]
  simp only [State.unit_setUnit_self]
  (repeat' split) <;> simp only [State.log_unit, State.unit_setUnit_self] <;> exact ⟨_, rfl⟩

theorem State.setHolders_unit_ne {u v : Nat} (other : v ≠ u) (n : Nat) (tenant : Option Nat) (s : State) :
    (s.setHolders u n tenant).unit v = s.unit v := by
  unfold State.setHolders State.holdBegins State.holdEnds State.logArmed
  (repeat' split) <;> simp only [State.unit_setUnit_ne other]
  all_goals (repeat' split) <;> simp only [State.log_unit, State.unit_setUnit_ne other]

/-- R95: another contact reads UNKNOWN and may arm a unit left open. -/
theorem State.contactChange_unit {u : Nat} {r : UnitRecord} {s : State} (stands : s.unit u = some r) (contact : Option Contact) :
    ∃ arm, (s.contactChange u contact).unit u =
      some { r with contact := contact, door := .unknown, fresh := contact.isSome, arm := arm } := by
  unfold State.contactChange State.logArmed
  rw [stands]
  dsimp only
  split
  · exact ⟨_, by rw [State.log_unit, State.unit_setUnit_self]⟩
  · exact ⟨_, State.unit_setUnit_self ..⟩

theorem State.contactChange_unit_ne {u v : Nat} (other : v ≠ u) (contact : Option Contact) (s : State) :
    (s.contactChange u contact).unit v = s.unit v := by
  unfold State.contactChange State.logArmed
  (repeat' split) <;> simp only [State.log_unit, State.unit_setUnit_ne other]

/-- R20: the visits of grantees that hold in a zone. -/
theorem State.holdersIn_eq (number zone : Nat) (s : State) : s.holdersIn number zone =
    (s.register.visits.filter (fun w => w.zone == zone && w.standing.holds &&
      (s.tenant w.tenant).any (fun x => x.grants.contains number))).length := by
  unfold State.holdersIn State.grantsOf
  congr 2
  funext w
  cases s.tenant w.tenant <;> simp

/-- From `s` to `t` nothing but units, tenants and what the journal touches has changed. -/
abbrev State.OnlyDirectory (s t : State) : Prop :=
  (t.bus.run = s.bus.run ∧ t.bus.mask = s.bus.mask ∧ t.bus.lastRefusal = s.bus.lastRefusal) ∧
    t = { s with mem := t.mem, bus := t.bus, journal := t.journal, tenants := t.tenants, units := t.units }

/-- R20: what a changed zone does. -/
theorem State.moveUnit_spec {number : Nat} {r : UnitRecord} {s : State} (stands : s.unit number = some r) (zone : Nat) :
    let t := s.moveUnit number zone
    s.OnlyDirectory t ∧ (∃ arm, t.unit number = some { r with zone := zone, arm := arm, holders :=
      (s.register.visits.filter (fun w => w.zone == zone && w.standing.holds &&
        (s.tenant w.tenant).any (fun x => x.grants.contains number))).length }) ∧
      (∀ u, u ≠ number → t.unit u = s.unit u) ∧
      ∀ j x, s.tenant j = some x → ∃ mask, t.tenant j = some { x with mask := mask } ∧
        (number ∉ x.grants → mask = x.mask) ∧
        (number ∈ x.grants → ∀ z < 16, (mask.getLsbD z = true ↔ (s.zone z).common = true ∨
          ∃ u ∈ x.grants, ∃ ru, t.unit u = some ru ∧ ru.zone = z)) := by
  have put := State.updUnit_frame number (fun r => { r with zone := zone }) s
  have units (u : Nat) := State.updUnit_unit number u (fun r => { r with zone := zone }) s
  unfold State.moveUnit
  dsimp only
  generalize s.updUnit number (fun r => { r with zone := zone }) = a at *
  have remask (j : Nat) := State.tenant_remaskWhere (fun t => t.grants.contains number) j a
  have same := put.eq
  have blocks : a.remaskWhere (fun t => t.grants.contains number) = { a with tenants := (a.remaskWhere (fun t => t.grants.contains number)).tenants } := rfl
  generalize a.remaskWhere (fun t => t.grants.contains number) = b at *
  have unitB (u : Nat) : b.unit u = a.unit u := by rw [State.unit, blocks]; rfl
  have tenantA (j : Nat) : a.tenant j = s.tenant j := by rw [State.tenant, same]; rfl
  have registerB : b.register = s.register := by rw [blocks, same]
  have count : b.holdersIn number zone = (s.register.visits.filter (fun w => w.zone == zone && w.standing.holds &&
      (s.tenant w.tenant).any (fun x => x.grants.contains number))).length := by
    rw [State.holdersIn_eq, registerB]
    congr 2
    funext w
    congr 1
    rw [remask, tenantA]
    cases s.tenant w.tenant with
    | none => rfl
    | some x => 
      simp only [Option.map_some, Option.any_some]
      split <;> rfl
  have held := State.setHolders_frame number (b.holdersIn number zone) none b
  obtain ⟨arm, own⟩ := State.setHolders_unit (u := number) (r := { r with zone := zone }) (s := b)
    (by rw [unitB, units, if_pos rfl, stands]; rfl) (b.holdersIn number zone) none
  have others (u : Nat) (other : u ≠ number) := State.setHolders_unit_ne other (b.holdersIn number zone) none b
  rw [count] at held own others ⊢
  generalize b.setHolders number _ none = t at *
  have final := held.eq
  have unitS (u : Nat) (other : u ≠ number) : t.unit u = s.unit u := by rw [others u other, unitB, units, if_neg other]
  have tenantT (j : Nat) : t.tenant j = b.tenant j := by rw [State.tenant, final]; rfl
  refine ⟨⟨?_, ?_⟩, ⟨arm, own⟩, unitS, fun j x tenant => ?_⟩
  · obtain ⟨run, mask, refusal, -⟩ := held
    have bus : b.bus = s.bus := by rw [blocks, same]
    rw [run, mask, refusal, bus]
    exact ⟨rfl, rfl, rfl⟩
  · have tenants : t.tenants = b.tenants := by rw [final]
    rw [tenants]
    rw [blocks, same] at final
    exact final
  · rw [tenantT, remask, tenantA, tenant]
    by_cases listed : number ∈ x.grants
    · refine ⟨a.maskOf x.grants, by simp [listed], fun h => absurd listed h, fun _ z small => ?_⟩
      rw [State.getLsbD_maskOf small]
      have zoneA : a.zone z = s.zone z := by rw [same]; rfl
      have zones (u : Nat) : (∃ ru, a.unit u = some ru ∧ ru.zone = z) ↔ ∃ ru, t.unit u = some ru ∧ ru.zone = z := by
        by_cases own_ : u = number
        · rw [own_, own, units, if_pos rfl, stands]
          simp
        · rw [unitS u own_, units, if_neg own_]
      simp only [zoneA, zones]
    · exact ⟨x.mask, by simp [listed], fun _ => rfl, fun h => absurd h listed⟩

/-- R95: what a changed contact does. -/
theorem State.contactChange_spec {number : Nat} {r : UnitRecord} {s : State} (stands : s.unit number = some r) (contact : Option Contact) :
    let t := s.contactChange number contact
    s.OnlyDirectory t ∧ t.tenants = s.tenants ∧
      (∃ arm, t.unit number = some { r with contact := contact, door := .unknown, fresh := contact.isSome, arm := arm }) ∧
      ∀ u, u ≠ number → t.unit u = s.unit u := by
  have frame := State.contactChange_frame number contact s
  have final := frame.eq
  have tenants : (s.contactChange number contact).tenants = s.tenants := by rw [final]
  refine ⟨⟨?_, by rw [tenants]; exact final⟩, tenants, State.contactChange_unit stands contact,
    fun u other => State.contactChange_unit_ne other contact s⟩
  obtain ⟨run, mask, refusal, -⟩ := frame
  exact ⟨run, mask, refusal⟩

theorem State.OnlyDirectory.refl (s : State) : s.OnlyDirectory s := ⟨⟨rfl, rfl, rfl⟩, rfl⟩

theorem State.OnlyDirectory.trans {s t u : State} (h : s.OnlyDirectory t) (k : t.OnlyDirectory u) : s.OnlyDirectory u := by
  obtain ⟨⟨run, mask, refusal⟩, same⟩ := h
  obtain ⟨⟨run', mask', refusal'⟩, same'⟩ := k
  refine ⟨⟨run'.trans run, mask'.trans mask, refusal'.trans refusal⟩, ?_⟩
  rw [same] at same'
  exact same'

/-- What a standing unit becomes by a new zone and contact. -/
structure State.Replaces (number zone : Nat) (contact : Option Contact) (r : UnitRecord) (s t : State) : Prop where
  frame : s.OnlyDirectory t
  others : ∀ u, u ≠ number → t.unit u = s.unit u
  record : ∃ r', t.unit number = some r' ∧ r'.zone = zone ∧ r'.contact = contact ∧ r'.grantees = r.grantees ∧
    r'.door = (if r.contact = contact then r.door else .unknown) ∧
    (r.zone = zone → r'.holders = r.holders ∧ t.tenants = s.tenants ∧
      (r.contact = contact → r' = r ∧ t.mem = s.mem ∧ t.bus = s.bus ∧ t.journal = s.journal)) ∧
    (r.zone ≠ zone →
      r'.holders = (s.register.visits.filter (fun w => w.zone == zone && w.standing.holds &&
        (s.tenant w.tenant).any (fun x => x.grants.contains number))).length ∧
      ∀ j x, s.tenant j = some x → ∃ mask, t.tenant j = some { x with mask := mask } ∧
        (number ∉ x.grants → mask = x.mask) ∧
        (number ∈ x.grants → ∀ z < 16, (mask.getLsbD z = true ↔ (s.zone z).common = true ∨
          ∃ u ∈ x.grants, ∃ ru, t.unit u = some ru ∧ ru.zone = z)))

/-- R19, R20, R95: a standing unit takes the zone first and the contact second. -/
theorem State.putUnit_replaces {number : Nat} {r : UnitRecord} {s : State} (stands : s.unit number = some r) (zone : Nat)
    (contact : Option Contact) : s.Replaces number zone contact r (s.putUnit number zone contact) := by
  unfold State.putUnit
  rw [stands]
  dsimp only
  by_cases here : r.zone = zone
  · rw [if_pos here]
    by_cases same : r.contact = contact
    · rw [if_pos same]
      exact ⟨.refl s, fun _ _ => rfl, r, stands, here, same, rfl, (if_pos same).symm, fun _ => ⟨rfl, rfl, fun _ => ⟨rfl, rfl, rfl, rfl⟩⟩,
        fun other => absurd here other⟩
    · rw [if_neg same]
      obtain ⟨frame, tenants, ⟨arm, own⟩, others⟩ := State.contactChange_spec stands contact
      exact ⟨frame, others, _, own, here, rfl, rfl, (if_neg same).symm, fun _ => ⟨rfl, tenants, fun own => absurd own same⟩,
        fun other => absurd here other⟩
  · rw [if_neg here]
    obtain ⟨frame, ⟨arm, own⟩, others, masks⟩ := State.moveUnit_spec stands zone
    generalize s.moveUnit number zone = m at *
    by_cases same : r.contact = contact
    · rw [if_pos same]
      exact ⟨frame, others, _, own, rfl, same, rfl, (if_pos same).symm, fun own => absurd own here, fun _ => ⟨rfl, masks⟩⟩
    · rw [if_neg same]
      obtain ⟨frame', tenants, ⟨arm', own'⟩, others'⟩ := State.contactChange_spec own contact
      refine ⟨frame.trans frame', fun u other => (others' u other).trans (others u other), _, own', rfl, rfl, rfl, (if_neg same).symm,
        fun own => absurd own here, fun _ => ⟨rfl, fun j x tenant => ?_⟩⟩
      obtain ⟨mask, record, unlisted, listed⟩ := masks j x tenant
      refine ⟨mask, ?_, unlisted, fun member z small => (listed member z small).trans ?_⟩
      · rw [State.tenant, tenants]
        exact record
      · have zones (u : Nat) : (∃ ru, m.unit u = some ru ∧ ru.zone = z) ↔ ∃ ru, (m.contactChange number contact).unit u = some ru ∧ ru.zone = z := by
          by_cases same_ : u = number
          · rw [same_, own, own']
            simp
          · rw [others' u same_]
        simp only [zones]

/-- R19: the checks of a good UNIT_PUT. -/
theorem unitPut_work {s : State} {v : Service} (small : v.body 0 2 < 4096) (low : 1 ≤ v.body 2 1) (high : v.body 2 1 ≤ 15)
    (good : ∀ c, v.contact = some c → c.node.line ≤ 3 ∧ 1 ≤ c.node.address ∧ c.node.address ≤ 30 ∧ c.input ≤ 31 ∧
      (∃ n, s.node c.node = some n ∧ n.kind = .unit) ∧ ∀ e ∈ s.units, e.1 ≠ v.body 0 2 → e.2.contact ≠ some c) :
    unitPut v s = (s.putUnit (v.body 0 2) (v.body 2 1) v.contact,
      .served (.done (if (s.unit (v.body 0 2)).isNone then createdCode else replacedCode))) := by
  have node : v.contact.all (fun c => s.nodeIs c.node .unit && c.input ≤ 31) = true := by
    cases contact : v.contact with
    | none => rfl
    | some c =>
      obtain ⟨line, address, last, input, ⟨n, stands, kind⟩, -⟩ := good c contact
      have is : s.nodeIs c.node .unit = true := by
        rw [← Bool.not_eq_false, nodeIs_eq_false, stands]
        simp [kind]
        omega
      simp [is, input]
  have free : s.contactClaim (v.body 0 2) v.contact = none := by
    unfold State.contactClaim
    cases contact : v.contact with
    | none => rfl
    | some c =>
      obtain ⟨-, -, -, -, -, others⟩ := good c contact
      simp only [Option.isNone_some, Bool.false_eq_true, if_false, Option.map_eq_none_iff, List.find?_eq_none]
      intro e listed claims
      rw [Bool.and_eq_true, bne_iff_ne, beq_iff_eq] at claims
      exact others e listed claims.1 claims.2
  have problem : s.unitProblem (v.body 0 2) (v.body 2 1) v.contact = none := by
    unfold State.unitProblem
    rw [free, node]
    simp [firstProblem_none, Config.units, small, low, high]
  unfold unitPut
  dsimp only
  rw [problem, checked_none]

/-- Settles O24: a new unit, and one that stands. -/
theorem unitPutCreatesOrReplaces : Obligations.UnitPutCreatesOrReplaces := by
  unfold Obligations.UnitPutCreatesOrReplaces
  dsimp only
  intro s v serves small low high good
  have work := unitPut_work small low high good
  cases stands : s.unit (v.body 0 2) with
  | none =>
    have put : s.putUnit (v.body 0 2) (v.body 2 1) v.contact = s.setUnit (v.body 0 2) (UnitRecord.begin_ (v.body 2 1) v.contact) := by
      unfold State.putUnit
      rw [stands]
    rw [put, stands] at work
    obtain ⟨next, gives⟩ := exec_served (c := .unitPut) rfl serves work rfl
    exact ⟨_, next, rfl, fun u other => State.unit_setUnit_ne other _ _, fun _ => ⟨rfl, rfl, rfl, rfl, State.unit_setUnit_self .., gives⟩,
      fun r h => (nomatch h)⟩
  | some r =>
    have replaces := State.putUnit_replaces stands (v.body 2 1) v.contact
    rw [stands] at work
    generalize s.putUnit (v.body 0 2) (v.body 2 1) v.contact = u at *
    obtain ⟨⟨run, mask, refusal⟩, same⟩ := replaces.frame
    obtain ⟨t, next, frame, gives⟩ := exec_serves (c := .unitPut) rfl serves work (by rw [same])
    obtain ⟨x, rfl⟩ : ∃ x, t = { u with slips := x } := ⟨_, frame⟩
    refine ⟨_, next, ?_, replaces.others, fun h => (nomatch h), fun r' h => ⟨gives, ?_⟩⟩
    · have bus := BusPort.eq_of_quiet run mask refusal
      refine (congrArg (fun y : State => { y with slips := x }) same).trans ?_
      conv => lhs; rw [bus]
    · obtain rfl := Option.some.inj h
      exact replaces.record

end Sys2Proof.Machine
end

section
/-! What the loss of a node does to the portal, the car and the units that name it (R98, R129, R142). -/

namespace Sys2Proof.Machine

/-! ## A portal that loses its node (R129) -/

/-- R129: the entries of portal `p`, which stands as `r`, as it loses its node for the reason given. -/
def State.lostEntries (p reason : Nat) (r : Portal) (w : State) : State :=
  if r.state = .cooldown ∧ r.faults = 3 then (w.unusedEntries p reason r.passages).log .driverFault (some p) none [0]
  else w.unusedEntries p reason r.passages

namespace State.Turns

variable {p : Nat} {r : Portal} {s w t : State}

/-- R129: the passages are cancelled, the portal takes the state, and a latch that COOLDOWN leaves is told. -/
theorem losePortal (h : s.Turns p r w t) (st : PortalState) (reason : CancelReason) :
    s.CancelTurns p ({ r with passages := [] }.lost st) r.passages (w.lostEntries p reason.code r)
      (t.losePortal p st reason) := by
  have cancelled := h.cancelAll reason
  have lost := cancelled.start.updPortal (Portal.lost st)
  unfold State.losePortal State.lostEntries
  dsimp only
  rw [h.record]
  by_cases latched : r.state = .cooldown ∧ r.faults = 3
  · rw [if_pos latched, if_pos latched]
    exact cancelled.after (lost.log .driverFault (some p) none (bytesOf 1 reasonShorts))
  · rw [if_neg latched, if_neg latched]
    exact cancelled.after lost

/-- R129: the node of a configured portal in service, in a fault or out of contact goes OFFLINE. -/
theorem portalOffline {c : PortalConfig} (h : s.Turns p r w t) (config : r.config = some c) (waiting : r.state ≠ .waiting)
    (configured : r.state ≠ .unconfigured) :
    s.CancelTurns p (s.lostPortal .faultOffline c r) r.passages (w.lostEntries p 3 r) (t.portalOffline p) := by
  have lost := h.losePortal .faultOffline .nodeLost
  have runs : t.portalOffline p = (t.losePortal p .faultOffline .nodeLost).handLock p := by
    unfold State.portalOffline
    rw [h.record]
    cases state : r.state <;> first | rfl | contradiction
  have turns := lost.after (lost.start.handLock (c := c) config)
  rw [runs]
  rwa [State.withCommandOf_congr lost.sameAround.1] at turns

theorem portalOffline_waiting (h : s.Turns p r w t) (idle : r.state = .waiting ∨ r.state = .unconfigured) :
    t.portalOffline p = t := by
  unfold State.portalOffline
  rw [h.record]
  obtain idle | idle := idle <;> rw [idle]

end State.Turns

/-- R107, R129: the configured portal `r` after its node has entered UNKNOWN: the deferred record is applied. -/
def State.resetBy (s : State) (c : PortalConfig) (r : Portal) : Portal :=
  match r.deferred with
  | none => s.lostPortal .waiting c r
  | some d => s.lostPortal .waiting d
      { r with config := some d, deferred := none, window := d.free.any (fun n => s.windowTest n) }

/-- R107: a record applied to a portal that has just lost its node. -/
theorem State.configApplied_lost (s : State) (c d : PortalConfig) (r : Portal) :
    s.configApplied c d ({ r with passages := [] }.lost .waiting) = s.lostPortal .waiting d
      { r with config := some d, deferred := none, window := d.free.any (fun n => s.windowTest n) } := by
  unfold State.configApplied
  by_cases moved : d.node ≠ c.node
  · rw [if_pos moved]
    rfl
  · rw [if_neg moved, if_neg (fun h => nomatch h.1)]
    rfl

/-- R129: the node of a configured portal enters UNKNOWN. -/
theorem State.Turns.portalUnknown {p : Nat} {r : Portal} {s w t : State} {c : PortalConfig} (h : s.Turns p r w t)
    (config : r.config = some c) :
    s.CancelTurns p (s.resetBy c r) r.passages (w.lostEntries p CancelReason.nodeReset.code r) (t.portalUnknown p) := by
  have lost := h.losePortal .waiting .nodeReset
  have runs : t.portalUnknown p = (t.losePortal p .waiting .nodeReset).applyDeferred p := by
    unfold State.portalUnknown
    rw [h.record, if_neg (by simp [config])]
  have deferred : ({ r with passages := [] }.lost .waiting).deferred = r.deferred := rfl
  have state : ({ r with passages := [] }.lost .waiting).state ≠ .heldUnlocked := fun same => nomatch same
  rw [runs]
  unfold State.applyDeferred State.resetBy
  rw [lost.record, deferred]
  cases r.deferred with
  | none =>
    have turns := lost.after (lost.start.handLock (c := c) config)
    rwa [State.withCommandOf_congr lost.sameAround.1] at turns
  | some d =>
    have turns := lost.after (lost.start.applyConfig (old := c) config state d)
    rw [State.configApplied_congr lost.sameAround, State.configApplied_lost,
      State.heldEntry_of_ne _ _ (by exact (by decide : PortalState.waiting ≠ .heldUnlocked))] at turns
    exact turns

/-! ## A car that loses its node (R142) -/

/-- R136, R139: the record of a car after an event that has emptied its list. -/
structure Car.Emptied (r r' : Car) : Prop where
  releases : r'.releases = []
  deferred : r'.deferred = none
  config : r'.config = if r.deferred.isSome then r.deferred else r.config

theorem Car.Emptied.trans {r r' r'' : Car} (h : r.Emptied r') (k : r'.Emptied r'') : r.Emptied r'' where
  releases := k.releases
  deferred := k.deferred
  config := by rw [k.config, h.deferred, h.config]; rfl

theorem State.carSettled_emptied {r : Car} {g : CarConfig} (s : State) (config : r.config = some g) (empty : r.releases = []) :
    r.Emptied (s.carSettled r) := by
  unfold State.carSettled
  rw [config]
  cases deferred : r.deferred with
  | none => exact ⟨empty, deferred, by simp [deferred]⟩
  | some d =>
    dsimp only
    rw [if_neg (not_not.2 empty)]
    split <;> exact ⟨empty, rfl, by simp [deferred]⟩

/-- R142: what emptying makes of a configured car whose record has taken another state. -/
theorem State.carSettled_emptiedAs {r : Car} {g : CarConfig} (s : State) (config : r.config = some g) (st : CarState) :
    r.Emptied (s.carSettled { r with state := st, releases := [], recallDone := false }) ∧
      (r.deferred = none → s.carSettled { r with state := st, releases := [], recallDone := false } =
        { r with state := st, releases := [], recallDone := false }) := by
  obtain ⟨releases, deferred, same⟩ := State.carSettled_emptied
    (r := { r with state := st, releases := [], recallDone := false }) s config rfl
  exact ⟨⟨releases, deferred, same⟩, fun none => State.carSettled_same s (.inr none)⟩

namespace State.CarTurns

variable {i : Nat} {r : Car} {s w t : State} {g : CarConfig}

/-- R142: the node of a configured car goes OFFLINE. -/
theorem carOffline (h : s.CarTurns i r w t) (config : r.config = some g) :
    s.CarTurns i (t.carSettled { r with state := .offline, releases := [], recallDone := false })
      (w.releaseEntries i 5 r.releases) (t.carOffline i) :=
  (h.updCar (fun r => { r with state := .offline, recallDone := false })).emptyReleases (old := g) config .nodeLost

/-- R142: the state a car takes whose node enters UNKNOWN. -/
theorem carUnknown (h : s.CarTurns i r w t) (config : r.config = some g) :
    s.CarTurns i (t.carSettled { r with
        state := if r.state = .offline then (if s.mode.mode = .evacuate then .inRecall else .inService) else r.state
        releases := [], recallDone := false })
      (w.releaseEntries i 6 r.releases) (t.carUnknown i) := by
  have turns := (h.updCar (fun r => { r with
    state := if r.state = .offline then t.carStateByMode else r.state, recallDone := false })).emptyReleases (old := g) config
    .nodeReset
  unfold State.carStateByMode at turns
  rw [h.mode] at turns
  unfold State.carUnknown State.carStateByMode
  rw [h.mode]
  exact turns

end State.CarTurns

/-! ## The units on a node (R98) -/

theorem State.contactsUnknown_unit (n : NodeId) (k : Nat) (s : State) : (s.contactsUnknown n).unit k =
    (s.unit k).map (fun x => if x.contact.any (fun c => c.node == n) then { x with door := .unknown } else x) := by
  unfold State.contactsUnknown State.unit
  dsimp only
  exact Table.find_mapValues _ k s.units

/-! ## Who owns a node (R160) -/

theorem State.portalOf_config {n : NodeId} {p : Nat} {s : State} (owner : s.portalOf n = some p) :
    ∃ c, (s.portal p).config = some c ∧ c.node = n := by
  have named := List.find?_some owner
  simpa [Option.any_eq_true] using named

theorem State.carOf_config {n : NodeId} {i : Nat} {s : State} (owner : s.carOf n = some i) :
    ∃ g, (s.car i).config = some g ∧ g.node = n := by
  have named := List.find?_some owner
  simpa [Option.any_eq_true] using named

end Sys2Proof.Machine
end

section
/-! What the owners of a node do when it is lost, as one event (R149, R158, R164). -/

namespace Sys2Proof.Machine

/-- From `s` to `t` nothing but nodes, portals, cars, the register, tenants, units and what the journal touches has changed. -/
abbrev State.OnlyOwners (s t : State) : Prop :=
  s.OnlyField t ∧ t.reads = s.reads ∧ t.lines = s.lines

theorem State.OnlyOwners.refl (s : State) : s.OnlyOwners s := by simp [State.OnlyOwners, State.OnlyField]

theorem State.OnlyOwners.trans {s t u : State} (h : s.OnlyOwners t) (k : t.OnlyOwners u) : s.OnlyOwners u := by
  simp_all [State.OnlyOwners, State.OnlyField]

theorem State.OnlyOwners.sameAround {s t : State} (h : s.OnlyOwners t) : s.SameAround t := by
  obtain ⟨⟨-, -, -, -, -, -, clock, profiles, holidays, mode, -⟩, -⟩ := h
  exact ⟨mode, clock, profiles, holidays⟩

/-- A node's record but for the outputs that its owner hands it (R148). -/
def Node.core (r : Node) : Node :=
  { r with lock := .locked, polarity := .powerToRelease, floors := 0, recallOn := false }

/-- What agrees in two nodes that differ in their outputs alone. -/
theorem Node.of_core {r r' : Node} (same : r'.core = r.core) :
    r'.kind = r.kind ∧ r'.state = r.state ∧ r'.faults = r.faults ∧ r'.restore = r.restore ∧ r'.tagA = r.tagA ∧
      r'.tagB = r.tagB ∧ r'.tagCar = r.tagCar ∧ r'.lastBad = r.lastBad ∧ r'.verdictA = r.verdictA ∧
      r'.verdictB = r.verdictB ∧ r'.tamper = r.tamper := by
  simpa [Node.core, Node.mk.injEq] using same

/-- Handing outputs to nodes keeps what is blind to them. -/
theorem State.KeepsOfNodes.portalWork {α : Type} {g : Node → α}
    (blind : ∀ (r : Node) (lock : LockCommand) (polarity : Polarity), g { r with lock := lock, polarity := polarity } = g r)
    (o : State) (p : Nat) : PortalWork p (fun _ => State.KeepsOfNodes g o) where
  more h := h
  updPortal h _ := KeepsOfNodes.of_nodes h rfl
  keep h _ _ := KeepsOfNodes.of_nodes h rfl
  handLock h := by
    unfold State.handLock
    dsimp only
    split
    · exact KeepsOfNodes.of_nodes h rfl
    · refine KeepsOfNodes.updNode (KeepsOfNodes.of_nodes h ?_) _ (fun r => blind r _ _)
      rfl
  releaseLockNode h := KeepsOfNodes.updNode h _ (fun r => blind r _ _)
  elsewhere h frame := by
    obtain ⟨-, -, -, -, -, -, -, -, -, -, -, -, -, nodes, -⟩ := frame
    exact KeepsOfNodes.of_nodes h nodes

/-- From `s` to `t` the owner of node `n`, of a kind given, has acted on its loss: another portal, another car and other units
stay as they were; links are cleared at most; a portal that has lost its node already stays too. -/
structure State.Tells (n : NodeId) (kind : NodeKind) (s t : State) : Prop where
  frame : s.OnlyOwners t
  nodes : ∀ m : NodeId, m.code ≠ n.code → (t.node m).map Node.core = (s.node m).map Node.core
  portals : ∀ q, (kind = .portal → s.portalOf n ≠ some q) → t.portal q = s.portal q
  lost : ∀ q c, (s.portal q).config = some c → (s.portal q).deferred = none →
    s.portal q = s.lostPortal .waiting c (s.portal q) → t.portal q = s.portal q
  tenants : ∀ j, t.tenant j = s.tenant j ∨ t.tenant j = (s.tenant j).map (fun x => { x with transit := none })
  cars : ∀ i, (kind = .car → s.carOf n ≠ some i) → t.car i = s.car i
  emptied : ∀ i, t.car i = s.car i ∨ (s.car i).Emptied (t.car i)
  units : ∀ k, t.unit k = (s.unit k).map
    (fun x => if kind = .unit ∧ x.contact.any (fun c => c.node == n) = true then { x with door := .unknown } else x)

namespace State.Tells

variable {n : NodeId} {kind : NodeKind} {s t w : State}

/-- An owner that has nothing to do. -/
theorem idle (other : kind ≠ .unit) (s : State) : s.Tells n kind s where
  frame := .refl s
  nodes _ _ := rfl
  portals _ _ := rfl
  lost _ _ _ _ _ := rfl
  tenants _ := .inl rfl
  cars _ _ := rfl
  emptied _ := .inl rfl
  units k := by simp [other]

/-- The portal of the node has cancelled its passages and come to another record. -/
theorem of_portal {p : Nat} {r : Portal} {gs : List Passage} (turns : s.CancelTurns p r gs w t) (owner : s.portalOf n = some p)
    (isPortal : kind = .portal) (nodes : State.KeepsOfNodes Node.core s t)
    (lost : ∀ c, (s.portal p).config = some c → (s.portal p).deferred = none →
      s.portal p = s.lostPortal .waiting c (s.portal p) → r = s.portal p) : s.Tells n kind t where
  frame := by
    obtain ⟨run, mask, refusal, settings, slips, creds, clock, profiles, holidays, reads, -, lines, mode, revision, pending⟩ :=
      turns.frame
    exact ⟨⟨run, mask, refusal, settings, slips, creds, clock, profiles, holidays, mode, revision, pending⟩, reads, lines⟩
  nodes m _ := nodes m
  portals q other := turns.others q (fun own => other isPortal (own ▸ owner))
  lost q c config deferred already := by
    by_cases own : q = p
    · rw [own] at config deferred already ⊢
      rw [turns.record, lost c config deferred already]
    · exact turns.others q own
  tenants j := by
    rw [turns.unlinks j]
    by_cases listed : j ∈ gs.map (fun g => g.tenant)
    · exact .inr (by simp [listed])
    · exact .inl (by simp [listed])
  cars i _ := by
    obtain ⟨-, -, -, -, -, -, -, -, -, -, cars, -⟩ := turns.frame
    rw [State.car, cars, State.car]
  emptied i := by
    obtain ⟨-, -, -, -, -, -, -, -, -, -, cars, -⟩ := turns.frame
    exact .inl (by rw [State.car, cars, State.car])
  units k := by
    rw [State.unit, turns.units, isPortal]
    simp [State.unit]

/-- The car of the node has emptied its list. -/
theorem of_car {i : Nat} {r : Car} (turns : s.CarTurns i r w t) (owner : s.carOf n = some i) (isCar : kind = .car)
    (nodes : State.KeepsOfNodes Node.core s t) (emptied : (s.car i).Emptied r) : s.Tells n kind t := by
  obtain ⟨run, mask, refusal, settings, slips, tenants, creds, units, clock, profiles, holidays, reads, register, portals, lines,
    mode, revision, pending⟩ := turns.frame
  have portal (q : Nat) : t.portal q = s.portal q := by rw [State.portal, portals, State.portal]
  refine ⟨⟨⟨run, mask, refusal, settings, slips, creds, clock, profiles, holidays, mode, revision, pending⟩, reads, lines⟩,
    fun m _ => nodes m, fun q _ => portal q, fun q _ _ _ _ => portal q,
    fun j => .inl (by rw [State.tenant, tenants, State.tenant]), fun j other => turns.others j (fun own => other isCar (own ▸ owner)), fun j => ?_, fun k => ?_⟩
  · by_cases own : j = i
    · rw [own, turns.record]
      exact .inr emptied
    · exact .inl (turns.others j own)
  · rw [State.unit, units, isCar]
    simp [State.unit]

/-- The contacts of the units on the node read UNKNOWN. -/
theorem of_unit (n : NodeId) (s : State) : s.Tells n .unit (s.contactsUnknown n) where
  frame := by simp [State.OnlyOwners, State.OnlyField]
  nodes _ _ := rfl
  portals _ _ := rfl
  lost _ _ _ _ _ := rfl
  tenants _ := .inl rfl
  cars _ _ := rfl
  emptied _ := .inl rfl
  units k := by simpa using State.contactsUnknown_unit n k s

end State.Tells

/-! ## A node that goes OFFLINE (R158) -/

theorem State.KeepsOfNodes.refl {α : Type} (g : Node → α) (s : State) : State.KeepsOfNodes g s s := fun _ => rfl

theorem State.ownersOffline_keeps (n : NodeId) (kind : NodeKind) (s : State) :
    State.KeepsOfNodes Node.core s (s.ownersOffline n kind) := by
  have refl := State.KeepsOfNodes.refl Node.core s
  unfold State.ownersOffline
  split
  · split
    · exact (State.KeepsOfNodes.portalWork (fun _ _ _ => rfl) s _).portalOffline (due := []) refl
    · exact refl
  · split
    · exact State.KeepsOfNodes.emptyReleases (fun _ _ _ => rfl) (refl.updCar _ _) _ _
    · exact refl
  · exact refl

/-- R129: the portal of a node that goes OFFLINE, in service. -/
theorem State.ownersOffline_portal {n : NodeId} {p : Nat} {c : PortalConfig} {s w : State} (journal : State.SameJournal w s)
    (owner : s.portalOf n = some p) (config : (s.portal p).config = some c) (waiting : (s.portal p).state ≠ .waiting)
    (configured : (s.portal p).state ≠ .unconfigured) :
    s.CancelTurns p (s.lostPortal .faultOffline c (s.portal p)) (s.portal p).passages (w.lostEntries p 3 (s.portal p))
      (s.ownersOffline n .portal) := by
  unfold State.ownersOffline
  dsimp only
  rw [owner]
  exact (State.Turns.start p journal).portalOffline config waiting configured

theorem State.ownersOffline_waiting {n : NodeId} {p : Nat} {s : State} (owner : s.portalOf n = some p)
    (idle : (s.portal p).state = .waiting ∨ (s.portal p).state = .unconfigured) : s.ownersOffline n .portal = s := by
  unfold State.ownersOffline
  dsimp only
  rw [owner]
  exact (State.Turns.start p (.refl s)).portalOffline_waiting idle

theorem State.ownersOffline_unnamed {n : NodeId} {s : State} {kind : NodeKind} (portal : kind = .portal → s.portalOf n = none)
    (car : kind = .car → s.carOf n = none) (unit : kind ≠ .unit) : s.ownersOffline n kind = s := by
  unfold State.ownersOffline
  cases kind
  · rw [portal rfl]
  · rw [car rfl]
  · exact absurd rfl unit

/-- R142: the car of a node that goes OFFLINE. -/
theorem State.ownersOffline_car {n : NodeId} {i : Nat} {s w : State} (journal : State.SameJournal w s) (owner : s.carOf n = some i) :
    s.CarTurns i (s.carSettled { s.car i with state := .offline, releases := [], recallDone := false })
      (w.releaseEntries i 5 (s.car i).releases) (s.ownersOffline n .car) := by
  obtain ⟨g, config, -⟩ := State.carOf_config owner
  unfold State.ownersOffline
  dsimp only
  rw [owner]
  exact (State.CarTurns.start i journal).carOffline config

/-- R158: what the owners of a node that goes OFFLINE leave alone. -/
theorem State.ownersOffline_tells (n : NodeId) (kind : NodeKind) (s : State) : s.Tells n kind (s.ownersOffline n kind) := by
  have nodes := State.ownersOffline_keeps n kind s
  cases kind with
  | portal =>
    cases owner : s.portalOf n with
    | none => 
      rw [State.ownersOffline_unnamed (kind := .portal) (fun _ => owner) (fun h => nomatch h) (fun h => nomatch h)]
      exact .idle (by decide) s
    | some p =>
      obtain ⟨c, config, -⟩ := State.portalOf_config owner
      by_cases idle : (s.portal p).state = .waiting ∨ (s.portal p).state = .unconfigured
      · rw [State.ownersOffline_waiting owner idle]
        exact .idle (by decide) s
      · have turns := State.ownersOffline_portal (.refl s) owner config (fun h => idle (.inl h)) (fun h => idle (.inr h))
        refine .of_portal turns owner rfl nodes (fun d _ _ already => absurd (.inl ?_) idle)
        rw [already]
        rfl
  | car =>
    cases owner : s.carOf n with
    | none => 
      rw [State.ownersOffline_unnamed (kind := .car) (fun h => nomatch h) (fun _ => owner) (fun h => nomatch h)]
      exact .idle (by decide) s
    | some i =>
      obtain ⟨g, config, -⟩ := State.carOf_config owner
      exact .of_car (State.ownersOffline_car (.refl s) owner) owner rfl nodes (State.carSettled_emptiedAs s config _).1
  | unit => exact .of_unit n s

/-! ## A node that enters UNKNOWN (R149, R164) -/

theorem State.ownersUnknown_keeps (n : NodeId) (kind : NodeKind) (s : State) :
    State.KeepsOfNodes Node.core s (s.ownersUnknown n kind) := by
  have refl := State.KeepsOfNodes.refl Node.core s
  unfold State.ownersUnknown
  split
  · split
    · exact (State.KeepsOfNodes.portalWork (fun _ _ _ => rfl) s _).portalUnknown (due := []) refl
    · exact refl
  · split
    · exact State.KeepsOfNodes.emptyReleases (fun _ _ _ => rfl) (refl.updCar _ _) _ _
    · exact refl
  · exact refl

/-- R129: the portal of a node that enters UNKNOWN. -/
theorem State.ownersUnknown_portal {n : NodeId} {p : Nat} {c : PortalConfig} {s w : State} (journal : State.SameJournal w s)
    (owner : s.portalOf n = some p) (config : (s.portal p).config = some c) :
    s.CancelTurns p (s.resetBy c (s.portal p)) (s.portal p).passages
      (w.lostEntries p CancelReason.nodeReset.code (s.portal p)) (s.ownersUnknown n .portal) := by
  unfold State.ownersUnknown
  dsimp only
  rw [owner]
  exact (State.Turns.start p journal).portalUnknown config

theorem State.ownersUnknown_unnamed {n : NodeId} {s : State} {kind : NodeKind} (portal : kind = .portal → s.portalOf n = none)
    (car : kind = .car → s.carOf n = none) (unit : kind ≠ .unit) : s.ownersUnknown n kind = s := by
  unfold State.ownersUnknown
  cases kind
  · rw [portal rfl]
  · rw [car rfl]
  · exact absurd rfl unit

/-- R142: the car of a node that enters UNKNOWN. -/
theorem State.ownersUnknown_car {n : NodeId} {i : Nat} {s w : State} (journal : State.SameJournal w s) (owner : s.carOf n = some i) :
    s.CarTurns i (s.carSettled { s.car i with
        state := if (s.car i).state = .offline then (if s.mode.mode = .evacuate then .inRecall else .inService) else (s.car i).state
        releases := [], recallDone := false })
      (w.releaseEntries i 6 (s.car i).releases) (s.ownersUnknown n .car) := by
  obtain ⟨g, config, -⟩ := State.carOf_config owner
  unfold State.ownersUnknown
  dsimp only
  rw [owner]
  exact (State.CarTurns.start i journal).carUnknown config

/-- R164: what the owners of a node that enters UNKNOWN leave alone. -/
theorem State.ownersUnknown_tells (n : NodeId) (kind : NodeKind) (s : State) : s.Tells n kind (s.ownersUnknown n kind) := by
  have nodes := State.ownersUnknown_keeps n kind s
  cases kind with
  | portal =>
    cases owner : s.portalOf n with
    | none => 
      rw [State.ownersUnknown_unnamed (kind := .portal) (fun _ => owner) (fun h => nomatch h) (fun h => nomatch h)]
      exact .idle (by decide) s
    | some p =>
      obtain ⟨c, config, -⟩ := State.portalOf_config owner
      have turns := State.ownersUnknown_portal (.refl s) owner config
      refine .of_portal turns owner rfl nodes (fun d config' deferred already => ?_)
      unfold State.resetBy
      rw [deferred]
      obtain rfl : c = d := Option.some.inj (config.symm.trans config')
      exact already.symm
  | car =>
    cases owner : s.carOf n with
    | none => 
      rw [State.ownersUnknown_unnamed (kind := .car) (fun h => nomatch h) (fun _ => owner) (fun h => nomatch h)]
      exact .idle (by decide) s
    | some i =>
      obtain ⟨g, config, -⟩ := State.carOf_config owner
      exact .of_car (State.ownersUnknown_car (.refl s) owner) owner rfl nodes (State.carSettled_emptiedAs s config _).1
  | unit => exact .of_unit n s

/-! ## The owners of the model's statements -/

/-- R2: a passage's tenant has no link once the passages are undone. -/
theorem State.Unlinks.cleared {s t : State} {gs : List Passage} (h : s.Unlinks gs t) {g : Passage} (listed : g ∈ gs) :
    t.tenant g.tenant = (s.tenant g.tenant).map (fun x => { x with transit := none }) := by
  rw [h g.tenant]
  simp [List.mem_map_of_mem (f := fun g : Passage => g.tenant) listed]

/-- R98: the contacts on the node read UNKNOWN. -/
theorem State.Tells.contact {n : NodeId} {s t : State} (h : s.Tells n .unit t) {u i : Nat} {x : UnitRecord}
    (unit : s.unit u = some x) (contact : x.contact = some { node := n, input := i }) :
    t.unit u = some { x with door := .unknown } := by
  rw [h.units u, unit]
  simp [contact]

/-- R98, R129, R142: the owners of a node that goes OFFLINE. -/
theorem State.ownersOffline_loses (n : NodeId) (r : Node) (s : State) : s.OwnersLose n r (s.ownersOffline n r.kind) := by
  refine ⟨fun kind p c owner config => ⟨fun waiting => ?_, fun waiting configured => ?_⟩, fun kind i owner alone => ?_,
    fun kind u x i unit contact => ?_⟩
  · rw [kind, State.ownersOffline_waiting owner (.inl waiting)]
  · rw [kind]
    have turns := State.ownersOffline_portal (.refl s) owner config waiting configured
    exact ⟨turns.record, fun g listed => turns.unlinks.cleared listed⟩
  · obtain ⟨g, config, -⟩ := State.carOf_config owner
    have turns := State.ownersOffline_car (.refl s) owner
    obtain ⟨⟨releases, deferred, same⟩, plain⟩ := State.carSettled_emptiedAs s config .offline
    rw [kind, turns.record]
    exact ⟨releases, deferred, fun d standing => by rw [same, standing]; rfl, plain⟩
  · have tells := State.ownersOffline_tells n r.kind s
    rw [kind] at tells ⊢
    exact tells.contact unit contact

theorem State.resetBy_keeps (s : State) (c : PortalConfig) (r : Portal) :
    (s.resetBy c r).state = .waiting ∧ (s.resetBy c r).passages = [] ∧ (s.resetBy c r).deferred = none ∧
      (r.config = some c → (s.resetBy c r).config = if r.deferred.isSome then r.deferred else r.config) := by
  unfold State.resetBy
  cases deferred : r.deferred with
  | none => exact ⟨rfl, rfl, deferred, fun _ => rfl⟩
  | some d => exact ⟨rfl, rfl, rfl, fun _ => rfl⟩

/-- R98, R107, R129, R142: the owners of a node that enters UNKNOWN. -/
theorem State.ownersUnknown_resets (n : NodeId) (kind : NodeKind) (s : State) :
    s.OwnersReset n kind (s.ownersUnknown n kind) := by
  refine ⟨fun isPortal p c owner config alone => ?_, fun isCar i owner alone => ?_, fun isUnit u x i unit contact => ?_⟩
  · have turns := State.ownersUnknown_portal (.refl s) owner config
    obtain ⟨state, passages, -⟩ := State.resetBy_keeps s c (s.portal p)
    rw [isPortal, turns.record]
    refine ⟨state, passages, fun none => ?_, fun d standing => ?_, fun g listed => turns.unlinks.cleared listed⟩
    · rw [State.resetBy, none]
    · rw [State.resetBy, standing]
  · obtain ⟨g, config, -⟩ := State.carOf_config owner
    have turns := State.ownersUnknown_car (.refl s) owner
    obtain ⟨⟨releases, deferred, same⟩, plain⟩ := State.carSettled_emptiedAs s config
      (if (s.car i).state = .offline then (if s.mode.mode = .evacuate then .inRecall else .inService) else (s.car i).state)
    rw [isCar, turns.record]
    exact ⟨releases, deferred, fun d standing => by rw [same, standing]; rfl, plain⟩
  · have tells := State.ownersUnknown_tells n kind s
    rw [isUnit] at tells ⊢
    exact tells.contact unit contact

end Sys2Proof.Machine
end

section
/-! Bad replies (R155 to R158): O51. -/

namespace Sys2Proof.Machine

/-! ## The journal of a node that goes OFFLINE -/

/-- R114, R129, R144: what the owners tell the journal. -/
theorem State.ownersOffline_entries {s w : State} (journal : State.SameJournal w s) (n : NodeId) (kind : NodeKind) :
    State.SameJournal (s.lossEntries n kind w) (s.ownersOffline n kind) := by
  unfold State.lossEntries
  cases kind with
  | portal =>
    cases owner : s.portalOf n with
    | none =>
      rw [State.ownersOffline_unnamed (kind := .portal) (fun _ => owner) (fun h => nomatch h) (fun h => nomatch h)]
      exact journal
    | some p =>
      obtain ⟨c, config, -⟩ := State.portalOf_config owner
      dsimp only
      by_cases idle : (s.portal p).state = .waiting ∨ (s.portal p).state = .unconfigured
      · rw [if_pos idle, State.ownersOffline_waiting owner idle]
        exact journal
      · rw [if_neg idle]
        exact (State.ownersOffline_portal journal owner config (fun h => idle (.inl h)) (fun h => idle (.inr h))).journal
  | car =>
    cases owner : s.carOf n with
    | none =>
      rw [State.ownersOffline_unnamed (kind := .car) (fun h => nomatch h) (fun _ => owner) (fun h => nomatch h)]
      exact journal
    | some i => exact (State.ownersOffline_car journal owner).journal
  | unit => exact journal.trans (by simp [State.SameJournal, State.JournalOf, State.ownersOffline])

/-- Two states with the same portals, cars, units, tenants and register, and the same mode, clock and calendar. -/
abbrev State.SameOwners (s u : State) : Prop :=
  u.portals = s.portals ∧ u.cars = s.cars ∧ u.units = s.units ∧ u.tenants = s.tenants ∧ u.register = s.register ∧ s.SameAround u

/-- The channels, units and tenants of such states agree one by one, and so do the owners. -/
theorem State.SameOwners.agree {s u : State} (same : s.SameOwners u) :
    (∀ p, u.portal p = s.portal p) ∧ (∀ i, u.car i = s.car i) ∧ (∀ k, u.unit k = s.unit k) ∧ (∀ j, u.tenant j = s.tenant j) ∧
      (∀ n, u.portalOf n = s.portalOf n) ∧ ∀ n, u.carOf n = s.carOf n := by
  obtain ⟨portals, cars, units, tenants, -⟩ := same
  have portal (p : Nat) : u.portal p = s.portal p := by rw [State.portal, portals, State.portal]
  have car (i : Nat) : u.car i = s.car i := by rw [State.car, cars, State.car]
  exact ⟨portal, car, fun k => by rw [State.unit, units, State.unit], fun j => by rw [State.tenant, tenants, State.tenant],
    State.portalOf_congr portal, State.carOf_congr (fun i => by rw [car])⟩

theorem State.lostPortal_congr {s u : State} (mode : u.mode = s.mode) (st : PortalState) (c : PortalConfig) (r : Portal) :
    u.lostPortal st c r = s.lostPortal st c r := by
  simp only [State.lostPortal, State.withCommandOf_congr mode]

theorem State.SameOwners.refl (s : State) : s.SameOwners s := ⟨rfl, rfl, rfl, rfl, rfl, rfl, rfl, rfl, rfl⟩

theorem State.lossEntries_congr {s u : State} (same : s.SameOwners u) (n : NodeId) (kind : NodeKind) (w : State) :
    u.lossEntries n kind w = s.lossEntries n kind w := by
  obtain ⟨portal, car, -, -, portalOf, carOf⟩ := same.agree
  unfold State.lossEntries
  rw [portalOf, carOf]
  simp only [portal, car]

theorem State.OwnersLose.congr {s u t : State} {n : NodeId} {r : Node} (same : s.SameOwners u) (h : u.OwnersLose n r t) :
    s.OwnersLose n r t := by
  obtain ⟨portal, car, unit, tenant, portalOf, carOf⟩ := same.agree
  obtain ⟨-, -, -, -, -, mode, -⟩ := same
  simpa only [State.OwnersLose, State.CarAlone, portal, car, unit, tenant, portalOf, carOf, State.lostPortal_congr mode] using h

theorem State.OwnersReset.congr {s u t : State} {n : NodeId} {kind : NodeKind} (same : s.SameOwners u) (h : u.OwnersReset n kind t) :
    s.OwnersReset n kind t := by
  obtain ⟨portal, car, unit, tenant, portalOf, carOf⟩ := same.agree
  obtain ⟨-, -, -, -, -, around⟩ := same
  simpa only [State.OwnersReset, State.CarAlone, State.PortalAlone, portal, car, unit, tenant, portalOf, carOf,
    State.lostPortal_congr around.1, State.windowTest_congr around, around.1] using h

/-! ## A node that goes OFFLINE (R158) -/

/-- R158: `s` with the record of a node OFFLINE and NODE_OFFLINE told, before its owners act. -/
def State.takenOffline (n : NodeId) (r : Node) (cause : Nat) (s : State) : State :=
  (s.setNode n { r with state := .offline, restore := 0 }).log .nodeOffline (some n.subject) none
    (bytesOf 1 r.faults ++ bytesOf 1 cause)

theorem State.nodeOffline_eq {n : NodeId} {r : Node} {s : State} (node : s.node n = some r) (cause : Nat) :
    s.nodeOffline n cause = (s.takenOffline n r cause).ownersOffline n r.kind := by
  unfold State.nodeOffline State.takenOffline
  rw [node]

theorem State.takenOffline_only (n : NodeId) (r : Node) (cause : Nat) (s : State) : s.takenOffline n r cause =
    { s with mem := (s.takenOffline n r cause).mem, bus := (s.takenOffline n r cause).bus,
             journal := (s.takenOffline n r cause).journal, nodes := (s.takenOffline n r cause).nodes } := by
  unfold State.takenOffline
  generalize s.setNode n { r with state := .offline, restore := 0 } = u, (State.setNode_frame n
    { r with state := .offline, restore := 0 } s) = frame
  rw [(u.log_frame .nodeOffline (some n.subject) none (bytesOf 1 r.faults ++ bytesOf 1 cause)).eq]
  cases u; simp_all [State.OnlyNodes]

theorem State.takenOffline_node_self (n : NodeId) (r : Node) (cause : Nat) (s : State) :
    (s.takenOffline n r cause).node n = some { r with state := .offline, restore := 0 } := by
  rw [State.takenOffline, State.log_node, State.node_setNode_self]

theorem State.takenOffline_node_ne {n m : NodeId} (other : m.code ≠ n.code) (r : Node) (cause : Nat) (s : State) :
    (s.takenOffline n r cause).node m = s.node m := by
  rw [State.takenOffline, State.log_node, State.node_setNode_ne other]

theorem State.takenOffline_sameOwners (n : NodeId) (r : Node) (cause : Nat) (s : State) : s.SameOwners (s.takenOffline n r cause) := by
  rw [State.takenOffline_only]
  exact ⟨rfl, rfl, rfl, rfl, rfl, rfl, rfl, rfl, rfl⟩

theorem State.takenOffline_journal {s w : State} (journal : State.SameJournal w s) (n : NodeId) (r : Node) (cause : Nat) :
    State.SameJournal (w.log .nodeOffline (some n.subject) none (bytesOf 1 r.faults ++ bytesOf 1 cause)) (s.takenOffline n r cause) :=
  State.SameJournal.log (t := s.setNode n _) journal _ _ _ _

/-- R158: what the journal is told of a node that goes OFFLINE. -/
theorem State.nodeOffline_entries {n : NodeId} {r : Node} {s w : State} (node : s.node n = some r) (journal : State.SameJournal w s)
    (cause : Nat) : State.SameJournal (s.offlineEntries n r.kind r.faults cause w) (s.nodeOffline n cause) := by
  have told := State.ownersOffline_entries (State.takenOffline_journal journal n r cause) n r.kind
  rw [State.lossEntries_congr (State.takenOffline_sameOwners n r cause s)] at told
  rwa [State.nodeOffline_eq node]

/-- R158: the owners of a node that goes OFFLINE. -/
theorem State.nodeOffline_loses {n : NodeId} {r : Node} {s : State} (node : s.node n = some r) (cause : Nat) :
    s.OwnersLose n r (s.nodeOffline n cause) := by
  rw [State.nodeOffline_eq node]
  exact .congr (State.takenOffline_sameOwners n r cause s) (State.ownersOffline_loses n r _)

/-- R158: the record of the node. -/
theorem State.nodeOffline_node {n : NodeId} {r : Node} {s : State} (node : s.node n = some r) (cause : Nat) :
    ∃ r', (s.nodeOffline n cause).node n = some r' ∧ r'.core = Node.core { r with state := .offline, restore := 0 } := by
  have keeps := State.ownersOffline_keeps n r.kind (s.takenOffline n r cause) n
  rw [State.takenOffline_node_self, ← State.nodeOffline_eq node] at keeps
  simpa using keeps

/-- R158: what the owners leave alone. -/
theorem State.nodeOffline_onlyOwners {n : NodeId} {r : Node} {s : State} (node : s.node n = some r) (cause : Nat) :
    s.OnlyOwners (s.nodeOffline n cause) := by
  have tells := (State.ownersOffline_tells n r.kind (s.takenOffline n r cause)).frame
  rw [State.nodeOffline_eq node]
  refine State.OnlyOwners.trans ?_ tells
  unfold State.takenOffline
  simp [State.OnlyOwners, State.OnlyField]

/-- R129: the portal of a node that goes OFFLINE, in service. -/
theorem State.nodeOffline_portal {n : NodeId} {r : Node} {s : State} (node : s.node n = some r) (cause : Nat) {p : Nat}
    (kind : r.kind = .portal) (owner : s.portalOf n = some p) (waiting : (s.portal p).state ≠ .waiting)
    (configured : (s.portal p).state ≠ .unconfigured) :
    let t := s.nodeOffline n cause
    (∀ q, q ≠ p → t.portal q = s.portal q) ∧ t.cars = s.cars ∧ t.units = s.units ∧ s.Unlinks (s.portal p).passages t ∧
      s.Unreserves (s.portal p).passages t := by
  obtain ⟨c, config, -⟩ := State.portalOf_config owner
  dsimp only
  rw [State.nodeOffline_eq node, kind]
  obtain ⟨m, b, j, ns, taken⟩ : ∃ m b j ns, s.takenOffline n r cause = { s with mem := m, bus := b, journal := j, nodes := ns } :=
    ⟨_, _, _, _, State.takenOffline_only n r cause s⟩
  rw [taken]
  have turns := State.ownersOffline_portal (s := { s with mem := m, bus := b, journal := j, nodes := ns }) (.refl _) owner config
    waiting configured
  obtain ⟨-, -, -, -, -, -, -, -, -, -, cars, -⟩ := turns.frame
  exact ⟨turns.others, cars, turns.units, turns.unlinks, turns.unreserves⟩

/-- R129: a portal in WAITING does not act. -/
theorem State.nodeOffline_waiting {n : NodeId} {r : Node} {s : State} (node : s.node n = some r) (cause : Nat) {p : Nat}
    (kind : r.kind = .portal) (owner : s.portalOf n = some p) (waiting : (s.portal p).state = .waiting) :
    s.SameOwners (s.nodeOffline n cause) := by
  rw [State.nodeOffline_eq node, kind, State.ownersOffline_waiting (p := p)]
  · exact State.takenOffline_sameOwners n r cause s
  · rw [State.takenOffline_only]
    exact owner
  · rw [State.takenOffline_only]
    exact .inl waiting

/-- R158: a node that no portal and no car names. -/
theorem State.nodeOffline_unnamed {n : NodeId} {r : Node} {s : State} (node : s.node n = some r) (cause : Nat)
    (portal : r.kind = .portal → s.portalOf n = none) (car : r.kind = .car → s.carOf n = none) :
    let t := s.nodeOffline n cause
    t.portals = s.portals ∧ t.cars = s.cars ∧ t.tenants = s.tenants ∧ t.register = s.register := by
  dsimp only
  rw [State.nodeOffline_eq node]
  obtain ⟨m, b, j, ns, taken⟩ : ∃ m b j ns, s.takenOffline n r cause = { s with mem := m, bus := b, journal := j, nodes := ns } :=
    ⟨_, _, _, _, State.takenOffline_only n r cause s⟩
  rw [taken]
  by_cases unit : r.kind = .unit
  · rw [unit]
    exact ⟨rfl, rfl, rfl, rfl⟩
  · rw [State.ownersOffline_unnamed (s := { s with mem := m, bus := b, journal := j, nodes := ns }) portal car unit]
    exact ⟨rfl, rfl, rfl, rfl⟩

/-- R142: the car of a node that goes OFFLINE. -/
theorem State.nodeOffline_car {n : NodeId} {r : Node} {s : State} (node : s.node n = some r) (cause : Nat) {i : Nat}
    (kind : r.kind = .car) (owner : s.carOf n = some i) :
    let t := s.nodeOffline n cause
    (∀ q, q ≠ i → t.car q = s.car q) ∧ t.portals = s.portals ∧ t.units = s.units ∧ t.tenants = s.tenants ∧
      t.register = s.register := by
  dsimp only
  rw [State.nodeOffline_eq node, kind]
  obtain ⟨m, b, j, ns, taken⟩ : ∃ m b j ns, s.takenOffline n r cause = { s with mem := m, bus := b, journal := j, nodes := ns } :=
    ⟨_, _, _, _, State.takenOffline_only n r cause s⟩
  rw [taken]
  have turns := State.ownersOffline_car (s := { s with mem := m, bus := b, journal := j, nodes := ns }) (.refl _) owner
  obtain ⟨-, -, -, -, -, tenants, -, units, -, -, -, -, register, portals, -⟩ := turns.frame
  exact ⟨turns.others, portals, units, tenants, register⟩

/-! ## A bad reply (R157) -/

/-- R155: each of the four ways in which a reply is bad counts it against the polled node and leaves the line waiting for
quiet. -/
theorem exec_bad {s : State} {l a : Nat} {rate : LineRate} {sent : List LineChar} {r : Node} {c : Instr} {bad : BadReply}
    (running : (s.line l).state = .running) (polled : (s.line l).exchange = .polled a rate sent) (node : s.node ⟨l, a⟩ = some r)
    (way : (∃ frame, c = .reply l frame ∧ judge r.kind a frame = some bad) ∨ (c = .replyWindowExpiry l ∧ bad = .silent) ∨
      (c = .collision l ∧ bad = .collision) ∨ (c = .gapLimitExpiry l ∧ bad = .cutShort)) :
    exec c s = .next ((s.badReply ⟨l, a⟩ bad).updLine l (fun r => { r with exchange := .quietWait })) := by
  have waits : (s.line l).polledNode = some a := by
    unfold Line.polledNode
    rw [running, polled]
  have counts : s.exchangeBad l bad = (s.badReply ⟨l, a⟩ bad).updLine l (fun r => { r with exchange := .quietWait }) := by
    unfold State.exchangeBad
    rw [waits]
  rw [← counts]
  obtain ⟨frame, rfl, judged⟩ | ⟨rfl, rfl⟩ | ⟨rfl, rfl⟩ | ⟨rfl, rfl⟩ := way
  · have judges : s.judgeReply l frame = s.exchangeBad l bad := by
      unfold State.judgeReply
      rw [waits]
      dsimp only
      rw [node]
      dsimp only
      rw [judged]
    exact congrArg Host.Outcome.next judges
  all_goals rfl

/-- R157: what a bad reply makes of the polled node. -/
def Node.blamed (bad : BadReply) (r : Node) : Node :=
  { r with faults := min 15 (r.faults + 1), lastBad := some bad }

theorem State.badReply_eq {n : NodeId} {r : Node} {s : State} (node : s.node n = some r) (bad : BadReply) :
    s.badReply n bad = if r.state = .offline then s.setNode n { r.blamed bad with restore := 0 }
      else if s.settings.faultLimit < min 15 (r.faults + 1) then (s.setNode n (r.blamed bad)).nodeOffline n bad.code
      else s.setNode n (r.blamed bad) := by
  unfold State.badReply
  rw [node]
  dsimp only
  split
  · next state => exact (if_pos state).symm
  all_goals
    next state => exact (if_neg (by rw [state]; decide)).symm

/-- Settles O51: by the three branches of a bad reply. -/
theorem badRepliesAreCounted : Obligations.BadRepliesAreCounted := by
  unfold Obligations.BadRepliesAreCounted
  dsimp only
  intro s l a rate sent r c bad running polled node way
  have runs := exec_bad running polled node way
  rw [State.badReply_eq node] at runs
  have other (u : State) (lines : u.lines = s.lines) (m : Nat) (h : m ≠ l) :
      (u.updLine l (fun r => { r with exchange := .quietWait })).line m = s.line m := by
    rw [State.line_updLine_ne h, State.line, lines, State.line]
  have own (u : State) (lines : u.lines = s.lines) :
      (u.updLine l (fun r => { r with exchange := .quietWait })).line l = { s.line l with exchange := .quietWait } := by
    rw [State.line_updLine_self, State.line, lines, State.line]
  by_cases offline : r.state = .offline
  · rw [if_pos offline] at runs
    refine ⟨_, _, runs, State.node_setNode_self _ _ s, rfl, rfl, rfl, other _ rfl, own _ rfl, rfl, rfl, rfl, rfl, rfl, rfl, rfl, rfl,
      rfl, ?_⟩
    rw [if_pos offline]
    exact ⟨rfl, rfl⟩
  rw [if_neg offline] at runs
  simp only [if_neg offline]
  by_cases lost : s.settings.faultLimit < min 15 (r.faults + 1)
  · rw [if_pos lost] at runs
    simp only [if_pos lost]
    have counted : (s.setNode ⟨l, a⟩ (r.blamed bad)).node ⟨l, a⟩ = some (r.blamed bad) := State.node_setNode_self _ _ s
    obtain ⟨r', node', core⟩ := State.nodeOffline_node counted bad.code
    obtain ⟨kind, state, faults, restore, -, -, -, lastBad, -⟩ := Node.of_core core
    obtain ⟨⟨run, -, -, settings, slips, creds, clock, profiles, holidays, mode, -⟩, reads, lines⟩ :=
      State.nodeOffline_onlyOwners counted bad.code
    obtain ⟨journal, -⟩ := State.nodeOffline_entries (w := s) counted ⟨⟨rfl, rfl, rfl⟩, rfl, rfl⟩ bad.code
    refine ⟨_, r', runs, node', faults, lastBad, kind, other _ lines, own _ lines, settings, slips, creds, clock, profiles, holidays,
      mode, run, reads, state, restore, State.nodeOffline_loses counted bad.code, journal, fun p portal owner waiting configured =>
        State.nodeOffline_portal counted bad.code portal owner waiting configured, fun portal car =>
        State.nodeOffline_unnamed counted bad.code portal car, fun p portal owner waiting => ?_, fun i car owner =>
        State.nodeOffline_car counted bad.code car owner⟩
    obtain ⟨portals, cars, units, tenants, register, -⟩ := State.nodeOffline_waiting counted bad.code portal owner waiting
    exact ⟨portals, cars, units, tenants, register⟩
  · rw [if_neg lost] at runs
    simp only [if_neg lost]
    exact ⟨_, _, runs, State.node_setNode_self _ _ s, rfl, rfl, rfl, other _ rfl, own _ rfl, rfl, rfl, rfl, rfl, rfl, rfl, rfl, rfl,
      rfl, rfl, rfl⟩

end Sys2Proof.Machine
end

section
/-! NODE_PUT and NODE_DROP (R149, R150): O47. -/

namespace Sys2Proof.Machine

/-! ## Exchanges that are abandoned (R154, R155) -/

theorem State.abandonExchange_only (n : NodeId) (s : State) :
    s.abandonExchange n = { s with lines := (s.abandonExchange n).lines } := (State.abandonExchange_frame n s).eq

theorem State.line_abandonExchange_ne {n : NodeId} {m : Nat} (other : m ≠ n.line) (s : State) :
    (s.abandonExchange n).line m = s.line m := by
  unfold State.abandonExchange
  split
  · exact State.line_updLine_ne other _ s
  · rfl

/-- R155: the exchange in progress with the node is abandoned. -/
theorem State.abandonExchange_polled {n : NodeId} {rate : LineRate} {f : List LineChar} {s : State}
    (running : (s.line n.line).state = .running) (polled : (s.line n.line).exchange = .polled n.address rate f) :
    ((s.abandonExchange n).line n.line).exchange = .quietWait := by
  have waits : (s.line n.line).polledNode = some n.address := by
    unfold Line.polledNode
    rw [running, polled]
  unfold State.abandonExchange
  rw [if_pos waits, State.line_updLine_self]

theorem State.line_dropDue_ne {n : NodeId} {m : Nat} (other : m ≠ n.line) (s : State) : (s.dropDue n).line m = s.line m := by
  unfold State.dropDue
  dsimp only
  split
  · rw [State.line_nextCycle_ne other, State.line_setLine_ne other]
  · exact State.line_setLine_ne other _ s

/-- R154: while an exchange lasts no new cycle starts. -/
theorem State.dropDue_busy {n : NodeId} {s : State} (busy : (s.line n.line).exchange ≠ .idle) :
    ((s.dropDue n).line n.line).exchange = (s.line n.line).exchange := by
  unfold State.dropDue
  dsimp only
  rw [if_neg (fun h => busy h.2.2), State.line_setLine_self]

/-! ## A record put anew (R149) -/

/-- R149: a record put anew is that of an UNKNOWN node of its kind, with every counter 0. -/
theorem Node.putAnew_clean (kind : NodeKind) (r : Node) :
    let r' := r.putAnew kind
    r'.kind = kind ∧ r'.state = .unknown ∧ r'.faults = 0 ∧ r'.restore = 0 ∧ r'.tagA = none ∧ r'.tagB = none ∧ r'.tagCar = none ∧
      r'.lastBad = none ∧ r'.verdictA = .none ∧ r'.verdictB = .none ∧ r'.tamper = false := by
  unfold Node.putAnew
  by_cases same : r.kind = kind
  · rw [if_pos same]
    exact ⟨same, rfl, rfl, rfl, rfl, rfl, rfl, rfl, rfl, rfl, rfl⟩
  · rw [if_neg same]
    exact ⟨rfl, rfl, rfl, rfl, rfl, rfl, rfl, rfl, rfl, rfl, rfl⟩

/-- R149: a standing record is put anew: the lines, the nodes and the reads change, and then the owners act. -/
theorem State.renewNode_eq (n : NodeId) (r : Node) (kind : NodeKind) (s : State) :
    s.renewNode n r kind = State.ownersUnknown n kind
      { s with
        lines := (s.abandonExchange n).lines
        nodes := Table.insert n.code (r.putAnew kind) s.nodes
        reads := s.reads.filter (fun q => q.node != n) } := by
  unfold State.renewNode
  rw [State.abandonExchange_only]
  rfl

/-- R149: what becomes of a node record put anew, its reads and its owners. -/
theorem State.renewNode_spec (n : NodeId) (r : Node) (kind : NodeKind) (s : State) :
    let t := s.renewNode n r kind
    s.OnlyField t ∧ t.reads = s.reads.filter (fun q => q.node != n) ∧
      (∃ r', t.node n = some r' ∧ r'.kind = kind ∧ r'.state = .unknown ∧ r'.faults = 0 ∧ r'.restore = 0 ∧
        r'.tagA = none ∧ r'.tagB = none ∧ r'.tagCar = none ∧ r'.lastBad = none ∧ r'.verdictA = .none ∧
        r'.verdictB = .none ∧ r'.tamper = false) ∧
      s.OwnersReset n kind t ∧
      (∀ p, kind = .portal → s.portalOf n = some p →
        (∀ q, q ≠ p → t.portal q = s.portal q) ∧ s.Unlinks (s.portal p).passages t ∧ s.Unreserves (s.portal p).passages t) ∧
      (s.portalOf n = none → t.portals = s.portals ∧ t.tenants = s.tenants ∧ t.register = s.register) ∧
      (kind = .unit → t.mem = s.mem ∧ t.bus = s.bus ∧ t.journal = s.journal) := by
  dsimp only
  rw [State.renewNode_eq]
  obtain ⟨u, put⟩ : ∃ u : State, u = { s with
      lines := (s.abandonExchange n).lines, nodes := Table.insert n.code (r.putAnew kind) s.nodes
      reads := s.reads.filter (fun q => q.node != n) } := ⟨_, rfl⟩
  have same : s.SameOwners u := by rw [put]; exact ⟨rfl, rfl, rfl, rfl, rfl, rfl, rfl, rfl, rfl⟩
  have node : u.node n = some (r.putAnew kind) := by rw [put]; exact Table.find_insert_self _ _ _
  rw [← put]
  obtain ⟨frame, reads, -⟩ := (State.ownersUnknown_tells n kind u).frame
  have keeps := State.ownersUnknown_keeps n kind u n
  rw [node] at keeps
  obtain ⟨r', node', core⟩ := Option.map_eq_some_iff.1 keeps
  obtain ⟨kind', state, faults, restore, tagA, tagB, tagCar, lastBad, verdictA, verdictB, tamper⟩ := Node.of_core core
  obtain ⟨kind_, state_, faults_, restore_, tagA_, tagB_, tagCar_, lastBad_, verdictA_, verdictB_, tamper_⟩ :=
    Node.putAnew_clean kind r
  refine ⟨?_, ?_, ⟨r', node', kind'.trans kind_, state.trans state_, faults.trans faults_, restore.trans restore_,
    tagA.trans tagA_, tagB.trans tagB_, tagCar.trans tagCar_, lastBad.trans lastBad_, verdictA.trans verdictA_,
    verdictB.trans verdictB_, tamper.trans tamper_⟩, .congr same (State.ownersUnknown_resets n kind u), fun p portal owner => ?_,
    fun unnamed => ?_, fun unit => ?_⟩
  · rw [put] at frame ⊢
    exact frame
  · rw [reads, put]
  · rw [portal, put]
    obtain ⟨c, config, -⟩ := State.portalOf_config owner
    have turns := State.ownersUnknown_portal (s := { s with
      lines := (s.abandonExchange n).lines, nodes := Table.insert n.code (r.putAnew kind) s.nodes
      reads := s.reads.filter (fun q => q.node != n) }) (.refl _) owner config
    rw [← portal]
    rw [← portal] at turns
    exact ⟨turns.others, turns.unlinks, turns.unreserves⟩
  · cases kind with
    | portal =>
      obtain ⟨portals, -, -, tenants, register, -⟩ := same
      rw [State.ownersUnknown_unnamed (kind := .portal) (fun _ => by rw [← unnamed, put]; rfl) (fun h => nomatch h) (fun h => nomatch h)]
      exact ⟨portals, tenants, register⟩
    | car =>
      obtain ⟨portals, -, -, tenants, register, -⟩ := same
      cases owner : u.carOf n with
      | none =>
        rw [State.ownersUnknown_unnamed (kind := .car) (fun h => nomatch h) (fun _ => owner) (fun h => nomatch h)]
        exact ⟨portals, tenants, register⟩
      | some i =>
        obtain ⟨-, -, -, -, -, tenants', -, -, -, -, -, -, register', portals', -⟩ :=
          (State.ownersUnknown_car (.refl u) owner).frame
        exact ⟨portals'.trans portals, tenants'.trans tenants, register'.trans register⟩
    | unit =>
      obtain ⟨portals, -, -, tenants, register, -⟩ := same
      exact ⟨portals, tenants, register⟩
  · rw [unit, put]
    exact ⟨rfl, rfl, rfl⟩

/-! ## A record removed (R150) -/

/-- R150: what becomes of a node record removed. -/
theorem State.removeNode_spec (n : NodeId) (s : State) :
    let t := s.removeNode n
    t = { s with nodes := t.nodes, reads := t.reads, lines := t.lines } ∧
      t.node n = none ∧ (∀ m : NodeId, m.code ≠ n.code → t.node m = s.node m) ∧
      t.reads = s.reads.map (fun q => { q with orphan := q.orphan || q.node == n }) ∧
      (∀ m, m ≠ n.line → t.line m = s.line m) ∧
      (∀ f rate, (s.line n.line).state = .running → (s.line n.line).exchange = .polled n.address rate f →
        (t.line n.line).exchange = .quietWait) := by
  obtain ⟨u, removed⟩ : ∃ u : State, u = { s with
      lines := (s.abandonExchange n).lines, nodes := Table.erase n.code s.nodes
      reads := s.reads.map (fun (r : Read) => if r.node = n then { r with orphan := true } else r) } := ⟨_, rfl⟩
  have eq : s.removeNode n = u.dropDue n := by
    unfold State.removeNode
    rw [State.abandonExchange_only, removed]
  have line (m : Nat) : u.line m = (s.abandonExchange n).line m := by rw [removed]; rfl
  have frame := (State.dropDue_frame n u).eq
  dsimp only
  rw [eq]
  refine ⟨?_, ?_, fun m other => ?_, ?_, fun m other => ?_, fun f rate running polled => ?_⟩
  · rw [frame, removed]
  · rw [frame, removed]
    exact Table.find_erase_self _ _
  · rw [frame, removed]
    exact Table.find_erase_ne other _
  · rw [frame, removed]
    refine List.map_congr_left (fun q _ => ?_)
    by_cases own : q.node = n
    · simp [own]
    · simp only [if_neg own, beq_false_of_ne own, Bool.or_false]
  · rw [State.line_dropDue_ne other, line, State.line_abandonExchange_ne other]
  · have waits := State.abandonExchange_polled running polled
    rw [State.dropDue_busy (by rw [line, waits]; exact fun same => nomatch same), line, waits]

/-! ## The slips -/

/-- R10: a place in the node table passes the checks of NODE_PUT and NODE_DROP. -/
theorem nodeChecks_none {l a k : Nat} (line : l ≤ 3) (low : 1 ≤ a) (high : a ≤ 30) (kind : k ≤ 2) :
    firstProblem [require (l ≤ 3) (.badField 1), require (1 ≤ a && a ≤ 30) (.badField 2), require (k ≤ 2) (.badField 3)] = none ∧
      firstProblem [require (l ≤ 3) (.badField 1), require (1 ≤ a && a ≤ 30) (.badField 2)] = none := by
  simp [firstProblem_none, line, low, high, kind]

/-- Settles O47: by whether the node stands, whether something names it and whether its kind would change. -/
theorem nodeSlips : Obligations.NodeSlips := by
  unfold Obligations.NodeSlips
  intro s v n kind line low high
  refine ⟨fun serves small => ?_, fun serves r node => ?_⟩
  · obtain ⟨fine, -⟩ := nodeChecks_none line low high small
    have work : nodePut v s = nodePut v s := rfl
    conv at work => rhs; unfold nodePut; dsimp only
    have fine' : firstProblem [require ((v.nodeAt 0).line ≤ 3) (.badField 1),
      require (1 ≤ (v.nodeAt 0).address && (v.nodeAt 0).address ≤ 30) (.badField 2), require (v.body 2 1 ≤ 2) (.badField 3)] = none :=
      fine
    rw [fine'] at work
    have place : v.nodeAt 0 = n := rfl
    have kinds : kindOf (v.body 2 1) = kind := rfl
    rw [place, kinds] at work
    refine ⟨fun vacant => ?_, fun r who node differs claimed => ?_, fun r node ok => ?_⟩
    · simp only [vacant] at work
      obtain ⟨t, next, same, gives⟩ := exec_serves (c := .nodePut) rfl serves work rfl
      obtain ⟨x, rfl⟩ : ∃ x, t = { s.setNode n (Node.fresh kind) with slips := x } := ⟨_, same⟩
      exact ⟨_, next, rfl, fun m other => State.node_setNode_ne other _ s, ⟨_, State.node_setNode_self n _ s, rfl, rfl, rfl, rfl, rfl,
        rfl, rfl, rfl, rfl, rfl, rfl, rfl, rfl, rfl⟩, gives⟩
    · simp only [node, claimed] at work
      rw [if_neg differs] at work
      exact exec_refused (c := .nodePut) rfl serves work
    · have renews : nodePut v s = (s.renewNode n r kind, .served (.done (replacedCode ++ bytesOf 1 r.state.code))) := by
        rw [work]
        simp only [node]
        cases claimed : s.claimant n with
        | none => rfl
        | some who => exact if_pos (ok.resolve_right (by rw [claimed]; exact fun h => nomatch h))
      obtain ⟨frame, reads, record, owners, portal, unnamed, unit⟩ := State.renewNode_spec n r kind s
      obtain ⟨-, -, -, settings, slips, creds, clock, -, -, mode, -⟩ := frame
      obtain ⟨t, next, same, gives⟩ := exec_serves (c := .nodePut) rfl serves renews slips
      obtain ⟨x, rfl⟩ : ∃ x, t = { s.renewNode n r kind with slips := x } := ⟨_, same⟩
      exact ⟨_, next, settings, clock, creds, mode, reads, record, owners, portal, unnamed, unit, gives⟩
  · obtain ⟨-, fine⟩ := nodeChecks_none (k := 0) line low high (Nat.zero_le 2)
    have work : nodeDrop v s = nodeDrop v s := rfl
    conv at work => rhs; unfold nodeDrop; dsimp only
    have fine' : firstProblem [require ((v.nodeAt 0).line ≤ 3) (.badField 1),
      require (1 ≤ (v.nodeAt 0).address && (v.nodeAt 0).address ≤ 30) (.badField 2)] = none := fine
    have place : v.nodeAt 0 = n := rfl
    rw [fine', place] at work
    simp only [node] at work
    refine ⟨fun who claimed => ?_, fun free => ?_⟩
    · simp only [claimed] at work
      exact exec_refused (c := .nodeDrop) rfl serves work
    · simp only [free] at work
      obtain ⟨only, gone, others, reads, lines, waits⟩ := State.removeNode_spec n s
      obtain ⟨t, next, same, gives⟩ := exec_serves (c := .nodeDrop) rfl serves work (by rw [only])
      obtain ⟨x, rfl⟩ : ∃ x, t = { s.removeNode n with slips := x } := ⟨_, same⟩
      exact ⟨_, next, congrArg (fun y : State => { y with slips := x }) only, gone, others, reads, lines, waits, gives⟩

end Sys2Proof.Machine
end

section
/-! The loss of several nodes, one after another (R162, R164): what the loss of one node leaves of the owners of another. -/

namespace Sys2Proof.Machine

/-! ## Who owns a node, number by number (R160) -/

theorem any_configured {α : Type} (o : Option α) (f : α → Bool) : (o.isSome = true ∧ o.any f = true) ↔ o.any f = true := by
  cases o <;> simp

theorem State.portalOf_iff {n : NodeId} {p : Nat} {s : State} : s.portalOf n = some p ↔
    (s.portal p).config.any (fun c => c.node == n) = true ∧ p < 48 ∧
      ∀ q < p, (s.portal q).config.any (fun c => c.node == n) = false := by
  simp [State.portalOf, State.portalNumbers, List.find?_filter, any_configured, Config.portals]

theorem State.carOf_iff {n : NodeId} {i : Nat} {s : State} : s.carOf n = some i ↔
    (s.car i).config.any (fun g => g.node == n) = true ∧ i < 4 ∧
      ∀ j < i, (s.car j).config.any (fun g => g.node == n) = false := by
  simp [State.carOf, State.carNumbers, List.find?_filter, any_configured, Config.cars]

/-- A record in force that names another node. -/
theorem State.portalOf_ne {m n : NodeId} {p : Nat} {c : PortalConfig} {s : State} (config : (s.portal p).config = some c)
    (named : c.node = n) (other : m ≠ n) : s.portalOf m ≠ some p := by
  intro owner
  obtain ⟨d, config', named'⟩ := State.portalOf_config owner
  obtain rfl : c = d := Option.some.inj (config.symm.trans config')
  exact other (named'.symm.trans named)

theorem State.carOf_ne {m n : NodeId} {i : Nat} {g : CarConfig} {s : State} (config : (s.car i).config = some g)
    (named : g.node = n) (other : m ≠ n) : s.carOf m ≠ some i := by
  intro owner
  obtain ⟨d, config', named'⟩ := State.carOf_config owner
  obtain rfl : g = d := Option.some.inj (config.symm.trans config')
  exact other (named'.symm.trans named)

/-! ## What stands until a node's own loss, and after it -/

/-- In `u`, on the way from `s`, the owners of node `n` stand as they stood in `s`; links have been cleared at most, and cars have
been emptied at most. -/
structure State.Awaits (n : NodeId) (s u : State) : Prop where
  around : s.SameAround u
  portal : ∀ p, s.portalOf n = some p → u.portal p = s.portal p
  car : ∀ i, s.carOf n = some i → u.car i = s.car i
  unit : ∀ k x i, s.unit k = some x → x.contact = some { node := n, input := i } → u.unit k = some x
  tenants : ∀ j, u.tenant j = s.tenant j ∨ u.tenant j = (s.tenant j).map (fun x => { x with transit := none })
  cars : ∀ i, u.car i = s.car i ∨ (s.car i).Emptied (u.car i)

theorem State.Awaits.start {s u : State} (same : s.SameOwners u) (n : NodeId) : s.Awaits n u := by
  obtain ⟨portal, car, unit, tenant, -, -⟩ := same.agree
  obtain ⟨-, -, -, -, -, around⟩ := same
  exact ⟨around, fun p _ => portal p, fun i _ => car i, fun k x _ standing _ => (unit k).trans standing, fun j => .inl (tenant j),
    fun i => .inl (car i)⟩

/-- R2: links cleared twice. -/
theorem cleared_trans {a b c : Option Tenant} (h : b = a ∨ b = a.map (fun x => { x with transit := none }))
    (k : c = b ∨ c = b.map (fun x => { x with transit := none })) : c = a ∨ c = a.map (fun x => { x with transit := none }) := by
  obtain rfl | rfl := h
  · exact k
  · obtain rfl | rfl := k
    · exact .inr rfl
    · exact .inr (by rw [Option.map_map]; rfl)

theorem cleared_of {a b c : Option Tenant} (h : b = a ∨ b = a.map (fun x => { x with transit := none }))
    (k : c = b.map (fun x => { x with transit := none })) : c = a.map (fun x => { x with transit := none }) := by
  obtain rfl | rfl := h
  · exact k
  · rw [k, Option.map_map]
    rfl

/-- R98: the contact on one node does not read UNKNOWN by the loss of another. -/
theorem State.Tells.unit_kept {m n : NodeId} {kind : NodeKind} {s t : State} (h : s.Tells m kind t) (other : m ≠ n) {k i : Nat}
    {x : UnitRecord} (unit : s.unit k = some x) (contact : x.contact = some { node := n, input := i }) : t.unit k = some x := by
  rw [h.units k, unit, Option.map_some, if_neg (by simp [contact, Ne.symm other])]

/-- The loss of another node. -/
theorem State.Awaits.step {m n : NodeId} {kind : NodeKind} {s u v : State} (h : s.Awaits n u) (tells : u.Tells m kind v)
    (other : m ≠ n) : s.Awaits n v where
  around := h.around.trans tells.frame.sameAround
  portal p owner := by
    obtain ⟨c, config, named⟩ := State.portalOf_config owner
    have stands := h.portal p owner
    exact (tells.portals p (fun _ => State.portalOf_ne (by rw [stands]; exact config) named other)).trans stands
  car i owner := by
    obtain ⟨g, config, named⟩ := State.carOf_config owner
    have stands := h.car i owner
    exact (tells.cars i (fun _ => State.carOf_ne (by rw [stands]; exact config) named other)).trans stands
  unit k x i unit contact := tells.unit_kept other (h.unit k x i unit contact) contact
  tenants j := cleared_trans (h.tenants j) (tells.tenants j)
  cars i := by
    obtain same | emptied := h.cars i <;> obtain same' | emptied' := tells.emptied i
    · exact .inl (same'.trans same)
    · exact .inr (same ▸ emptied')
    · exact .inr (same'.symm ▸ emptied)
    · exact .inr (emptied.trans emptied')

/-- R135, R160: with no other car's deferred record naming the node, its car is still its owner. -/
theorem State.Awaits.carOf {n : NodeId} {i : Nat} {s u : State} (h : s.Awaits n u) (owner : s.carOf n = some i)
    (alone : s.CarAlone n i) : u.carOf n = some i := by
  have stands := h.car i owner
  obtain ⟨named, small, before⟩ := State.carOf_iff.1 owner
  refine State.carOf_iff.2 ⟨by rw [stands, named], small, fun j less => ?_⟩
  obtain same | emptied := h.cars j
  · rw [same, before j less]
  · rw [emptied.config]
    cases deferred : (s.car j).deferred with
    | none => exact before j less
    | some d => simpa using alone j (Nat.ne_of_lt less) d deferred

theorem State.Awaits.carAlone {n : NodeId} {i : Nat} {s u : State} (h : s.Awaits n u) (alone : s.CarAlone n i) : u.CarAlone n i := by
  intro j other d deferred
  obtain same | emptied := h.cars j
  · exact alone j other d (same ▸ deferred)
  · rw [emptied.deferred] at deferred
    exact nomatch deferred

/-! ## Nodes that go OFFLINE (R158, R162) -/

/-- R98, R129, R142: what the owners do when the node's own turn comes. -/
theorem State.OwnersLose.of_awaits {n : NodeId} {r : Node} {s u v : State} (h : u.OwnersLose n r v) (awaits : s.Awaits n u)
    (names : ∀ p, s.portalOf n = some p → u.portalOf n = some p) : s.OwnersLose n r v := by
  obtain ⟨portals, cars, units⟩ := h
  refine ⟨fun kind p c owner config => ?_, fun kind i owner alone => ?_, fun kind k x i unit contact =>
    units kind k x i (awaits.unit k x i unit contact) contact⟩
  · have stands := awaits.portal p owner
    obtain ⟨waits, loses⟩ := portals kind p c (names p owner) (by rw [stands, config])
    rw [stands] at waits loses
    refine ⟨waits, fun waiting configured => ?_⟩
    obtain ⟨record, links⟩ := loses waiting configured
    rw [State.lostPortal_congr awaits.around.1] at record
    exact ⟨record, fun g listed => cleared_of (awaits.tenants g.tenant) (links g listed)⟩
  · have stands := awaits.car i owner
    have acts := cars kind i (awaits.carOf owner alone) (awaits.carAlone alone)
    rwa [stands] at acts

/-- What the owners have done stands when another node is lost. -/
theorem State.OwnersLose.kept {m n : NodeId} {r : Node} {kind : NodeKind} {s v w : State} (h : s.OwnersLose n r v)
    (tells : v.Tells m kind w) (other : m ≠ n) : s.OwnersLose n r w := by
  obtain ⟨portals, cars, units⟩ := h
  refine ⟨fun kind p c owner config => ?_, fun kind i owner alone => ?_, fun kind k x i unit contact =>
    tells.unit_kept other (units kind k x i unit contact) contact⟩
  · obtain ⟨d, config', named⟩ := State.portalOf_config owner
    obtain rfl : c = d := Option.some.inj (config.symm.trans config')
    obtain ⟨waits, loses⟩ := portals kind p c owner config
    have kept (record : (v.portal p).config = some c) : w.portal p = v.portal p :=
      tells.portals p (fun _ => State.portalOf_ne record named other)
    refine ⟨fun waiting => ?_, fun waiting configured => ?_⟩
    · have stands := waits waiting
      exact (kept (by rw [stands, config])).trans stands
    · obtain ⟨record, links⟩ := loses waiting configured
      refine ⟨(kept (by rw [record]; exact config)).trans record, fun g listed => ?_⟩
      obtain same | cleared := tells.tenants g.tenant
      · exact same.trans (links g listed)
      · exact cleared_of (.inr (links g listed)) cleared
  · obtain ⟨g, config, named⟩ := State.carOf_config owner
    obtain ⟨releases, deferred, applied, plain⟩ := cars kind i owner alone
    refine ⟨?_, ?_, fun d standing => ?_, fun none => ?_⟩
    · obtain same | emptied := tells.emptied i
      · rw [same, releases]
      · exact emptied.releases
    · obtain same | emptied := tells.emptied i
      · rw [same, deferred]
      · exact emptied.deferred
    · obtain same | emptied := tells.emptied i
      · rw [same, applied d standing]
      · rw [emptied.config, deferred]
        exact applied d standing
    · have record := plain none
      exact (tells.cars i (fun _ => State.carOf_ne (by rw [record]; exact config) named other)).trans record

/-- R158: the loss of a node, as it stands to the owners of another. -/
theorem State.nodeOffline_tells (n : NodeId) (cause : Nat) (s : State) : ∃ kind, s.Tells n kind (s.nodeOffline n cause) := by
  cases node : s.node n with
  | none =>
    refine ⟨.portal, ?_⟩
    unfold State.nodeOffline
    rw [node]
    exact .idle (by decide) s
  | some r =>
    refine ⟨r.kind, ?_⟩
    have frame := State.nodeOffline_onlyOwners node cause
    have others (m : NodeId) (other : m.code ≠ n.code) := State.takenOffline_node_ne other r cause s
    rw [State.nodeOffline_eq node] at frame ⊢
    obtain ⟨m, b, j, ns, taken⟩ : ∃ m b j ns, s.takenOffline n r cause = { s with mem := m, bus := b, journal := j, nodes := ns } :=
      ⟨_, _, _, _, State.takenOffline_only n r cause s⟩
    rw [taken] at frame others ⊢
    have tells := State.ownersOffline_tells n r.kind { s with mem := m, bus := b, journal := j, nodes := ns }
    exact ⟨frame, fun m other => (tells.nodes m other).trans (by rw [others m other]), tells.portals, tells.lost, tells.tenants, tells.cars,
      tells.emptied, tells.units⟩

/-- R129: the configuration records of the portals stay in force. -/
theorem State.ownersOffline_configs (n : NodeId) (kind : NodeKind) (s : State) (q : Nat) :
    ((s.ownersOffline n kind).portal q).config = (s.portal q).config := by
  have tells := State.ownersOffline_tells n kind s
  by_cases own : kind = .portal ∧ s.portalOf n = some q
  · obtain ⟨rfl, owner⟩ := own
    obtain ⟨c, config, -⟩ := State.portalOf_config owner
    by_cases idle : (s.portal q).state = .waiting ∨ (s.portal q).state = .unconfigured
    · rw [State.ownersOffline_waiting owner idle]
    · rw [(State.ownersOffline_portal (.refl s) owner config (fun h => idle (.inl h)) (fun h => idle (.inr h))).record]
      rfl
  · rw [tells.portals q (fun portal owner => own ⟨portal, owner⟩)]

theorem State.nodeOffline_configs (n : NodeId) (cause : Nat) (s : State) (q : Nat) :
    ((s.nodeOffline n cause).portal q).config = (s.portal q).config := by
  cases node : s.node n with
  | none =>
    unfold State.nodeOffline
    rw [node]
  | some r =>
    obtain ⟨portal, -⟩ := (State.takenOffline_sameOwners n r cause s).agree
    rw [State.nodeOffline_eq node, State.ownersOffline_configs, portal]

theorem State.portalOf_congr_config {s t : State} (same : ∀ q, (t.portal q).config = (s.portal q).config) (n : NodeId) :
    t.portalOf n = s.portalOf n := by
  simp only [State.portalOf, State.portalNumbers, same]

/-! ## One event for each object of a list -/

/-- What holds until an object's own turn and what holds from then on. -/
theorem State.forEach_once {α : Type} {f : α → State → State} {x : α} (P Q : State → Prop) (xs : List α)
    (before : ∀ y ∈ xs, y ≠ x → ∀ u, P u → P (f y u)) (turn : ∀ u, P u → Q (f x u))
    (after : ∀ y ∈ xs, y ≠ x → ∀ u, Q u → Q (f y u)) (nodup : xs.Nodup) (mem : x ∈ xs) (s : State) (start : P s) :
    Q (s.forEach xs f) := by
  induction xs generalizing s with
  | nil => exact nomatch mem
  | cons y ys ih =>
    obtain ⟨fresh, nodup⟩ := List.nodup_cons.1 nodup
    by_cases own : y = x
    · subst own
      have kept : ∀ (zs : List α) (u : State), (∀ z ∈ zs, z ∈ ys) → Q u → Q (u.forEach zs f) := by
        intro zs
        induction zs with
        | nil => exact fun _ _ h => h
        | cons z zs rest =>
          exact fun u sub h => rest _ (fun a la => sub a (List.mem_cons_of_mem z la))
            (after z (List.mem_cons_of_mem y (sub z List.mem_cons_self)) (fun same => fresh (same ▸ sub z List.mem_cons_self)) u h)
      exact kept ys _ (fun _ h => h) (turn s start)
    · exact ih (fun z listed => before z (List.mem_cons_of_mem y listed)) (fun z listed => after z (List.mem_cons_of_mem y listed))
        nodup ((List.mem_cons.1 mem).resolve_left (fun same => own same.symm)) _ (before y List.mem_cons_self own s start)

theorem State.mem_lineAddresses {l a : Nat} {s : State} : a ∈ s.lineAddresses l ↔ 1 ≤ a ∧ a ≤ 30 ∧ (s.node ⟨l, a⟩).isSome = true := by
  simp only [State.lineAddresses, List.mem_filter, List.mem_range, Bool.and_eq_true, bne_iff_ne, ne_eq]
  constructor
  · exact fun ⟨small, positive, stands⟩ => ⟨by omega, by omega, stands⟩
  · exact fun ⟨low, high, stands⟩ => ⟨by omega, by omega, stands⟩

theorem State.nodup_lineAddresses (l : Nat) (s : State) : (s.lineAddresses l).Nodup := List.nodup_range.filter _

end Sys2Proof.Machine
end

section
/-! Line faults and their recovery (R162, R163): O52. -/

namespace Sys2Proof.Machine

theorem State.OnlyNodes.eq {s t : State} (h : s.OnlyNodes t) : t = { s with nodes := t.nodes } := by
  cases t; cases s; simp_all [State.OnlyNodes]

/-- A change of one node's record alone. -/
theorem State.Tells.of_node {n : NodeId} {s t : State} (only : t = { s with nodes := t.nodes })
    (others : ∀ m : NodeId, m.code ≠ n.code → t.node m = s.node m) : s.Tells n .portal t := by
  generalize t.nodes = ns at only
  subst only
  exact ⟨by simp [State.OnlyOwners, State.OnlyField], fun m other => by rw [others m other], fun _ _ => rfl, fun _ _ _ _ _ => rfl,
    fun _ => .inl rfl, fun _ _ => rfl, fun _ => .inl rfl, fun k => by simp [State.unit]⟩

/-! ## What a line fault does to the nodes (R162) -/

theorem State.faultNode_tells (l : Nat) (lost : List Nat) (a : Nat) (s : State) :
    ∃ kind, s.Tells ⟨l, a⟩ kind (s.faultNode l lost a) := by
  unfold State.faultNode
  split
  · exact State.nodeOffline_tells _ _ s
  · exact ⟨.portal, .of_node (State.updNode_frame _ _ s).eq fun m other => by rw [State.node_updNode, if_neg other]⟩

theorem State.faultNode_configs (l : Nat) (lost : List Nat) (a : Nat) (s : State) (q : Nat) :
    ((s.faultNode l lost a).portal q).config = (s.portal q).config := by
  unfold State.faultNode
  split
  · exact State.nodeOffline_configs _ _ s q
  · rw [State.portal, (State.updNode_frame ⟨l, a⟩ (fun r => { r with restore := 0 }) s).eq]
    rfl

/-- What a line fault has made of a node record. -/
def Node.faulted (r r' : Node) : Prop :=
  r'.state = .offline ∧ r'.restore = 0 ∧ r'.faults = r.faults ∧ r'.kind = r.kind ∧ r'.lastBad = r.lastBad

theorem Node.faulted_core {r x y : Node} (h : r.faulted x) (same : y.core = x.core) : r.faulted y := by
  obtain ⟨state, restore, faults, kind, lastBad⟩ := h
  obtain ⟨kind', state', faults', restore', -, -, -, lastBad', -⟩ := Node.of_core same
  exact ⟨state'.trans state, restore'.trans restore, faults'.trans faults, kind'.trans kind, lastBad'.trans lastBad⟩

/-- R162: what stands of a node of the line until its turn comes. -/
def State.FaultAwaits (n : NodeId) (r : Node) (s u : State) : Prop :=
  s.Awaits n u ∧ (∀ q, (u.portal q).config = (s.portal q).config) ∧ (u.node n).map Node.core = some r.core

/-- R162: what stands of a node of the line from its turn on. -/
def State.FaultDone (n : NodeId) (r : Node) (s u : State) : Prop :=
  (∃ r', u.node n = some r' ∧ r.faulted r') ∧ (r.state ≠ .offline → s.OwnersLose n r u)

section
variable {l a b : Nat} {lost : List Nat} {r : Node} {s u : State}

/-- The turn of another node of the line. -/
theorem State.FaultAwaits.step (h : s.FaultAwaits ⟨l, a⟩ r u) (high : a ≤ 30) (high' : b ≤ 30) (other : b ≠ a) :
    s.FaultAwaits ⟨l, a⟩ r (u.faultNode l lost b) := by
  obtain ⟨awaits, configs, core⟩ := h
  obtain ⟨kind, tells⟩ := State.faultNode_tells l lost b u
  have differ : (⟨l, b⟩ : NodeId) ≠ ⟨l, a⟩ := fun same => other (congrArg NodeId.address same)
  exact ⟨awaits.step tells differ, fun q => (State.faultNode_configs l lost b u q).trans (configs q),
    (tells.nodes _ (NodeId.code_ne (n := ⟨l, a⟩) (m := ⟨l, b⟩) high high' differ.symm)).trans core⟩

theorem State.FaultDone.step (h : s.FaultDone ⟨l, a⟩ r u) (high : a ≤ 30) (high' : b ≤ 30) (other : b ≠ a) :
    s.FaultDone ⟨l, a⟩ r (u.faultNode l lost b) := by
  obtain ⟨⟨x, node, faulted⟩, loses⟩ := h
  obtain ⟨kind, tells⟩ := State.faultNode_tells l lost b u
  have differ : (⟨l, b⟩ : NodeId) ≠ ⟨l, a⟩ := fun same => other (congrArg NodeId.address same)
  have core := tells.nodes _ (NodeId.code_ne (n := ⟨l, a⟩) (m := ⟨l, b⟩) high high' differ.symm)
  rw [node] at core
  obtain ⟨y, node', same⟩ := Option.map_eq_some_iff.1 core
  exact ⟨⟨y, node', Node.faulted_core faulted same⟩, fun contact => (loses contact).kept tells differ⟩

/-- R162: the node's own turn. -/
theorem State.FaultAwaits.turn (h : s.FaultAwaits ⟨l, a⟩ r u) (listed : lost.contains a = (r.state != .offline)) :
    s.FaultDone ⟨l, a⟩ r (u.faultNode l lost a) := by
  obtain ⟨awaits, configs, core⟩ := h
  obtain ⟨x, node, same⟩ := Option.map_eq_some_iff.1 core
  obtain ⟨kind, state, faults, -, -, -, -, lastBad, -⟩ := Node.of_core same
  unfold State.faultNode
  by_cases offline : r.state = .offline
  · rw [if_neg (by rw [listed]; simp [offline])]
    refine ⟨⟨{ x with restore := 0 }, ?_, state.trans offline, rfl, faults, kind, lastBad⟩, fun contact => absurd offline contact⟩
    rw [State.node_updNode_self, node]
    rfl
  · rw [if_pos (by rw [listed]; simp [offline])]
    obtain ⟨y, node', core'⟩ := State.nodeOffline_node node causeLineFault
    refine ⟨⟨y, node', Node.faulted_core (x := { x with state := .offline, restore := 0 }) ⟨rfl, rfl, faults, kind, lastBad⟩ core'⟩, fun _ => ?_⟩
    have loses : u.OwnersLose ⟨l, a⟩ r (u.nodeOffline ⟨l, a⟩ causeLineFault) := by
      have own := State.nodeOffline_loses node causeLineFault
      unfold State.OwnersLose at own ⊢
      rwa [kind] at own
    exact loses.of_awaits awaits (fun p owner => (State.portalOf_congr_config configs _).trans owner)

/-! ## What the journal is told of the nodes (R158, R162) -/

/-- R158: the entries of a node that goes OFFLINE, told from a state on the way. -/
theorem State.lossEntries_awaits {n : NodeId} {kind : NodeKind} {w : State} (awaits : s.Awaits n u)
    (configs : ∀ q, (u.portal q).config = (s.portal q).config) (alone : ∀ i, s.carOf n = some i → s.CarAlone n i) :
    u.lossEntries n kind w = s.lossEntries n kind w := by
  unfold State.lossEntries
  cases kind with
  | portal =>
    rw [State.portalOf_congr_config configs]
    cases owner : s.portalOf n with
    | none => rfl
    | some p =>
      dsimp only
      rw [awaits.portal p owner]
  | car =>
    cases owner : s.carOf n with
    | some i =>
      rw [awaits.carOf owner (alone i owner)]
      dsimp only
      rw [awaits.car i owner]
    | none =>
      cases owner' : u.carOf n with
      | none => rfl
      | some j =>
        have moved : (u.car j).releases = [] := by
          obtain same | emptied := awaits.cars j
          · obtain ⟨named, small, -⟩ := State.carOf_iff.1 owner'
            rw [same] at named
            have unnamed : ∀ k, k < 4 → ¬ (s.car k).config.any (fun g => g.node == n) = true := by
              simpa [State.carOf, State.carNumbers, List.find?_eq_none, any_configured, Config.cars] using owner
            exact absurd named (unnamed j small)
          · exact emptied.releases
        dsimp only
        rw [moved]
        rfl
  | unit => rfl

end

/-- R158, R162: the entries of the nodes of the line, in ascending order of address. -/
theorem State.forEach_faultNode_entries {l : Nat} {lost : List Nat} {s : State} (records : Nat → Node) (as : List Nat)
    (places : ∀ a ∈ as, a ≤ 30 ∧ s.node ⟨l, a⟩ = some (records a) ∧ lost.contains a = ((records a).state != .offline))
    (alone : ∀ a i, s.carOf ⟨l, a⟩ = some i → s.CarAlone ⟨l, a⟩ i) (nodup : as.Nodup) {u w : State}
    (journal : State.SameJournal w u) (awaits : ∀ a ∈ as, s.FaultAwaits ⟨l, a⟩ (records a) u) :
    State.SameJournal (as.foldl (fun w a => if (records a).state != .offline then
      s.offlineEntries ⟨l, a⟩ (records a).kind (records a).faults 9 w else w) w) (u.forEach as (State.faultNode l lost)) := by
  induction as generalizing u w with
  | nil => exact journal
  | cons a as ih =>
    obtain ⟨fresh, nodup⟩ := List.nodup_cons.1 nodup
    obtain ⟨high, stands, listed⟩ := places a List.mem_cons_self
    obtain ⟨before, configs, core⟩ := awaits a List.mem_cons_self
    refine ih (fun b more => places b (List.mem_cons_of_mem a more)) nodup ?_ (fun b more =>
      (awaits b (List.mem_cons_of_mem a more)).step (places b (List.mem_cons_of_mem a more)).1 high
        (fun same => fresh (same ▸ more)))
    obtain ⟨x, node, same⟩ := Option.map_eq_some_iff.1 core
    obtain ⟨kind, -, faults, -⟩ := Node.of_core same
    unfold State.faultNode
    dsimp only
    rw [listed]
    by_cases contact : ((records a).state != .offline) = true
    · rw [if_pos contact, if_pos contact]
      have told := State.nodeOffline_entries node journal causeLineFault
      rw [kind, faults] at told
      unfold State.offlineEntries at told ⊢
      rwa [State.lossEntries_awaits before configs (alone a)] at told
    · rw [if_neg contact, if_neg contact]
      refine journal.trans ?_
      rw [(State.updNode_frame ⟨l, a⟩ (fun r => { r with restore := 0 }) u).eq]
      exact .refl u

/-! ## A line that enters FAULT (R162) -/

/-- R162: the line in FAULT, before its nodes are lost. -/
def State.faulted (l : Nat) (reason : FaultReason) (s : State) : State :=
  (s.updLine l (fun r =>
    { r with state := .fault, check := .running Config.recoverySeconds, exchange := .idle, due := [] })).log .lineFault (some l) none
      (bytesOf 1 reason.code ++ bytesOf 1 (s.inContact l).length)

theorem State.faulted_node (l : Nat) (reason : FaultReason) (s : State) (n : NodeId) : (s.faulted l reason).node n = s.node n := by
  rw [State.faulted, State.log_node]
  rfl

theorem State.faultLine_eq (l : Nat) (reason : FaultReason) (s : State) : s.faultLine l reason =
    (s.faulted l reason).forEach (s.lineAddresses l) (State.faultNode l (s.inContact l)) := by
  have addresses : (s.faulted l reason).lineAddresses l = s.lineAddresses l := by
    simp only [State.lineAddresses, State.faulted_node]
  have runs : s.faultLine l reason =
      (s.faulted l reason).forEach ((s.faulted l reason).lineAddresses l) (State.faultNode l (s.inContact l)) := rfl
  rw [runs, addresses]

theorem State.faulted_only (l : Nat) (reason : FaultReason) (s : State) : s.faulted l reason =
    { s with mem := (s.faulted l reason).mem, bus := (s.faulted l reason).bus, journal := (s.faulted l reason).journal
             lines := (s.updLine l (fun r => { r with
               state := .fault, check := .running Config.recoverySeconds, exchange := .idle, due := [] })).lines } := by
  unfold State.faulted
  exact (State.log_frame .lineFault (some l) none (bytesOf 1 reason.code ++ bytesOf 1 (s.inContact l).length) _).blocks

/-- R162: what a fault of the line leaves, does to its nodes and tells the journal. -/
theorem State.faultLine_spec (l : Nat) (reason : FaultReason) (s : State) :
    let t := s.faultLine l reason
    (∀ m, m ≠ l → t.line m = s.line m) ∧
      t.line l = { s.line l with state := .fault, check := .running 2, exchange := .idle, due := [] } ∧
      s.OnlyField t ∧ t.reads = s.reads ∧
      ((∀ a i, s.carOf ⟨l, a⟩ = some i → s.CarAlone ⟨l, a⟩ i) → State.JournalOf (s.lineFaultEntries l reason.code) t) ∧
      ∀ a r, 1 ≤ a → a ≤ 30 → s.node ⟨l, a⟩ = some r → s.FaultDone ⟨l, a⟩ r t := by
  dsimp only
  rw [State.faultLine_eq]
  obtain ⟨u, put⟩ : ∃ u, u = s.faulted l reason := ⟨_, rfl⟩
  have only := State.faulted_only l reason s
  have node := State.faulted_node l reason s
  rw [← put] at only node ⊢
  have same : s.SameOwners u := by rw [only]; exact ⟨rfl, rfl, rfl, rfl, rfl, rfl, rfl, rfl, rfl⟩
  have listed (a : Nat) (r : Node) (high : 1 ≤ a ∧ a ≤ 30) (stands : s.node ⟨l, a⟩ = some r) :
      (s.inContact l).contains a = (r.state != .offline) := by
    rw [Bool.eq_iff_iff, List.contains_iff_mem, State.inContact, List.mem_filter, State.mem_lineAddresses, stands]
    simp [high]
  have begins (a : Nat) (r : Node) (stands : s.node ⟨l, a⟩ = some r) : s.FaultAwaits ⟨l, a⟩ r u := by
    obtain ⟨portal, -⟩ := same.agree
    exact ⟨.start same _, fun q => by rw [portal], by rw [node, stands]; rfl⟩
  have frame : u.OnlyOwners (u.forEach (s.lineAddresses l) (State.faultNode l (s.inContact l))) :=
    State.forEach_invariant (fun v => u.OnlyOwners v) _ (fun a v kept => by
      obtain ⟨kind, tells⟩ := State.faultNode_tells l (s.inContact l) a v
      exact kept.trans tells.frame) _ u (.refl u)
  obtain ⟨field, reads, lines⟩ := frame
  have lines' : u.lines = (s.updLine l (fun r => { r with
      state := .fault, check := .running Config.recoverySeconds, exchange := .idle, due := [] })).lines := by rw [only]
  refine ⟨fun m other => ?_, ?_, ?_, ?_, fun alone => ?_, fun a r low high stands => ?_⟩
  · rw [State.line, lines, lines']
    exact State.line_updLine_ne other _ s
  · rw [State.line, lines, lines']
    exact State.line_updLine_self l _ s
  · have logged : s.OnlyField u := by
      rw [put]
      unfold State.faulted
      simp [State.OnlyField]
    have kept : s.OnlyOwners { u with reads := s.reads, lines := s.lines } := ⟨logged, rfl, rfl⟩
    obtain ⟨run, mask, refusal, settings, slips, creds, clock, profiles, holidays, mode, revision, pending⟩ := field
    obtain ⟨run', mask', refusal', settings', slips', creds', clock', profiles', holidays', mode', revision', pending'⟩ := logged
    exact ⟨run.trans run', mask.trans mask', refusal.trans refusal', settings.trans settings', slips.trans slips',
      creds.trans creds', clock.trans clock', profiles.trans profiles', holidays.trans holidays', mode.trans mode',
      revision.trans revision', pending.trans pending'⟩
  · rw [reads, only]
  · have journal : State.SameJournal (s.log .lineFault (some l) none (bytesOf 1 reason.code ++ bytesOf 1 (s.inContact l).length)) u := by
      rw [put]
      exact State.SameJournal.log (w := s) (t := s.updLine l _) ⟨⟨rfl, rfl, rfl⟩, rfl, rfl⟩ _ _ _ _
    have record (a : Nat) (h : a ∈ s.lineAddresses l) : 1 ≤ a ∧ a ≤ 30 ∧ ∃ r, s.node ⟨l, a⟩ = some r := by
      obtain ⟨low, high, stands⟩ := State.mem_lineAddresses.1 h
      exact ⟨low, high, Option.isSome_iff_exists.1 stands⟩
    obtain ⟨told, -⟩ := State.forEach_faultNode_entries (s := s) (l := l) (lost := s.inContact l)
      (fun a => (s.node ⟨l, a⟩).getD (Node.fresh .portal)) (s.lineAddresses l) (fun a h => by
        obtain ⟨low, high, r, stands⟩ := record a h
        rw [stands, Option.getD_some]
        exact ⟨high, rfl, listed a r ⟨low, high⟩ stands⟩) alone (State.nodup_lineAddresses l s) journal (fun a h => by
        obtain ⟨low, high, r, stands⟩ := record a h
        rw [stands, Option.getD_some]
        exact begins a r stands)
    have entries : s.lineFaultEntries l reason.code = (s.lineAddresses l).foldl (fun w a =>
        if ((s.node ⟨l, a⟩).getD (Node.fresh .portal)).state != .offline then
          s.offlineEntries ⟨l, a⟩ ((s.node ⟨l, a⟩).getD (Node.fresh .portal)).kind
            ((s.node ⟨l, a⟩).getD (Node.fresh .portal)).faults 9 w else w)
        (s.log .lineFault (some l) none (bytesOf 1 reason.code ++ bytesOf 1 (s.inContact l).length)) := by
      unfold State.lineFaultEntries
      conv => lhs; arg 3; unfold State.inContact
      rw [List.foldl_filter]
      refine List.foldl_ext _ _ _ (fun w a h => ?_)
      obtain ⟨-, -, r, stands⟩ := record a h
      simp only [stands, Option.getD_some, Option.any_some]
    rw [entries]
    exact told
  · refine State.forEach_once (s.FaultAwaits ⟨l, a⟩ r) (s.FaultDone ⟨l, a⟩ r) (s.lineAddresses l)
      (fun b h other v awaits => awaits.step high (State.mem_lineAddresses.1 h).2.1 other)
      (fun v awaits => awaits.turn (listed a r ⟨low, high⟩ stands))
      (fun b h other v done => done.step high (State.mem_lineAddresses.1 h).2.1 other) (State.nodup_lineAddresses l s)
      (State.mem_lineAddresses.2 ⟨low, high, by rw [stands]; rfl⟩) u (begins a r stands)

/-- Settles O52: the fault of a line by either command, and the recovery check. -/
theorem lineFaultsAndRecovery : Obligations.LineFaultsAndRecovery := by
  unfold Obligations.LineFaultsAndRecovery
  intro s l
  refine ⟨fun c running way => ?_, fun fault due => ⟨?_, ?_⟩⟩
  · obtain ⟨reason, runs, code⟩ : ∃ reason, exec c s = .next (s.faultLine l reason) ∧
        FaultReason.code reason = if c = .lineBreak l then 0 else 1 := by
      obtain ⟨rfl, idle⟩ | ⟨rfl, quiet⟩ := way
      · have watched : (s.line l).watched = true := by
          unfold Line.watched Line.polledNode
          rw [running]
          cases exchange : (s.line l).exchange <;> first | rfl | exact absurd exchange (idle _ _ _)
        exact ⟨.break_, congrArg Host.Outcome.next (if_pos watched), (if_pos rfl).symm⟩
      · exact ⟨.noQuiet, congrArg Host.Outcome.next (if_pos ⟨running, quiet⟩), (if_neg (fun h => nomatch h)).symm⟩
    obtain ⟨lines, line, ⟨run, -, -, settings, slips, creds, clock, profiles, holidays, mode, -⟩, reads, journal, nodes⟩ :=
      State.faultLine_spec l reason s
    rw [code] at journal
    refine ⟨_, runs, lines, line, settings, slips, creds, clock, profiles, holidays, mode, run, reads, journal,
      fun a r low high stands => ?_⟩
    obtain ⟨⟨r', node, state, restore, faults, kind, lastBad⟩, loses⟩ := nodes a r low high stands
    exact ⟨r', node, state, restore, faults, kind, lastBad, loses⟩
  · have runs : s.recoveryCheck l true = (s.enterRunning l).log .lineRestored (some l) none [] := if_pos ⟨fault, due⟩
    have frame := (State.log_frame .lineRestored (some l) none [] (s.enterRunning l)).eq
    have lines : ((s.enterRunning l).log .lineRestored (some l) none []).lines = (s.enterRunning l).lines := by rw [frame]
    have due : s.dueNodes l 0 = s.lineAddresses l := by
      unfold State.dueNodes
      refine List.filter_eq_self.2 (fun a h => ?_)
      obtain ⟨r, stands⟩ := Option.isSome_iff_exists.1 (State.mem_lineAddresses.1 h).2.2
      simp [stands]
    refine ⟨_, congrArg Host.Outcome.next runs, ?_, fun m other => ?_, ?_, ?_⟩
    · rw [frame]
      rfl
    · rw [State.line, lines]
      exact State.line_updLine_ne other _ s
    · rw [State.line, lines, ← due]
      exact State.line_updLine_self l _ s
    · exact (State.SameJournal.log (w := s) (t := s.enterRunning l) ⟨⟨rfl, rfl, rfl⟩, rfl, rfl⟩ _ _ _ _).1
  · have runs : s.recoveryCheck l false = s.setLine l { s.line l with check := .running Config.recoverySeconds } :=
      if_pos ⟨fault, due⟩
    exact ⟨_, congrArg Host.Outcome.next runs, rfl, fun m other => State.line_setLine_ne other _ s, State.line_setLine_self l _ s⟩

end Sys2Proof.Machine
end

section
/-! Nodes that enter UNKNOWN one after another (R164): what stands of the owners of each, and a line that stops. -/

namespace Sys2Proof.Machine

/-! ## Deferred records that come into force (R107) -/

/-- R107: the records of a portal, in force and deferred, stand, or the deferred one has come into force. -/
def Portal.Settled (r r' : Portal) : Prop :=
  (r'.config = r.config ∧ r'.deferred = r.deferred) ∨
    (r'.deferred = none ∧ r'.config = if r.deferred.isSome then r.deferred else r.config)

theorem Portal.Settled.trans {r r' r'' : Portal} (h : r.Settled r') (k : r'.Settled r'') : r.Settled r'' := by
  obtain ⟨config, deferred⟩ | ⟨deferred, config⟩ := h <;> obtain ⟨config', deferred'⟩ | ⟨deferred', config'⟩ := k
  · exact .inl ⟨config'.trans config, deferred'.trans deferred⟩
  · exact .inr ⟨deferred', by rw [config', deferred, config]⟩
  · exact .inr ⟨deferred'.trans deferred, config'.trans config⟩
  · exact .inr ⟨deferred', by rw [config', deferred, config]; rfl⟩

theorem State.ownersUnknown_settles (n : NodeId) (kind : NodeKind) (s : State) (q : Nat) :
    (s.portal q).Settled ((s.ownersUnknown n kind).portal q) := by
  have tells := State.ownersUnknown_tells n kind s
  by_cases own : kind = .portal ∧ s.portalOf n = some q
  · obtain ⟨rfl, owner⟩ := own
    obtain ⟨c, config, -⟩ := State.portalOf_config owner
    obtain ⟨-, -, deferred, config'⟩ := State.resetBy_keeps s c (s.portal q)
    rw [(State.ownersUnknown_portal (.refl s) owner config).record]
    exact .inr ⟨deferred, config' config⟩
  · rw [tells.portals q (fun portal owner => own ⟨portal, owner⟩)]
    exact .inl ⟨rfl, rfl⟩

/-- R105, R160: with no other portal's deferred record naming the node, its portal is still its owner. -/
theorem State.Awaits.portalOf {n : NodeId} {p : Nat} {s u : State} (h : s.Awaits n u)
    (settles : ∀ q, (s.portal q).Settled (u.portal q)) (owner : s.portalOf n = some p) (alone : s.PortalAlone n p) :
    u.portalOf n = some p := by
  have stands := h.portal p owner
  obtain ⟨named, small, before⟩ := State.portalOf_iff.1 owner
  refine State.portalOf_iff.2 ⟨by rw [stands, named], small, fun q less => ?_⟩
  obtain ⟨config, -⟩ | ⟨-, config⟩ := settles q
  · rw [config, before q less]
  · rw [config]
    cases deferred : (s.portal q).deferred with
    | none => exact before q less
    | some d => simpa using alone q (Nat.ne_of_lt less) d deferred

theorem State.portalAlone_settled {n : NodeId} {p : Nat} {s u : State} (settles : ∀ q, (s.portal q).Settled (u.portal q))
    (alone : s.PortalAlone n p) : u.PortalAlone n p := by
  intro q other d deferred
  obtain ⟨-, same⟩ | ⟨none, -⟩ := settles q
  · exact alone q other d (same ▸ deferred)
  · rw [none] at deferred
    exact nomatch deferred

/-- R129: a portal that has lost its node and loses it again. -/
theorem State.lostPortal_again (s : State) (c : PortalConfig) (r : Portal) :
    s.lostPortal .waiting c (s.lostPortal .waiting c r) = s.lostPortal .waiting c r := rfl

/-! ## The owners before, at and after the node's own turn -/

/-- R98, R129, R142: what the owners do when the node's own turn comes. -/
theorem State.OwnersReset.of_awaits {n : NodeId} {kind : NodeKind} {s u v : State} (h : u.OwnersReset n kind v)
    (awaits : s.Awaits n u) (settles : ∀ q, (s.portal q).Settled (u.portal q)) : s.OwnersReset n kind v := by
  obtain ⟨portals, cars, units⟩ := h
  refine ⟨fun kind p c owner config alone => ?_, fun kind i owner alone => ?_, fun kind k x i unit contact =>
    units kind k x i (awaits.unit k x i unit contact) contact⟩
  · have stands := awaits.portal p owner
    obtain ⟨state, passages, plain, applied, links⟩ := portals kind p c (awaits.portalOf settles owner alone)
      (by rw [stands, config]) (State.portalAlone_settled settles alone)
    rw [stands] at plain applied links
    simp only [State.lostPortal_congr awaits.around.1, State.windowTest_congr awaits.around] at plain applied
    exact ⟨state, passages, plain, applied, fun g listed => cleared_of (awaits.tenants g.tenant) (links g listed)⟩
  · have stands := awaits.car i owner
    have acts := cars kind i (awaits.carOf owner alone) (awaits.carAlone alone)
    rwa [stands, awaits.around.1] at acts

/-- What the owners have done stands when another node is lost. -/
theorem State.OwnersReset.kept {m n : NodeId} {kind kind' : NodeKind} {s v w : State} (h : s.OwnersReset n kind v)
    (around : s.SameAround v) (tells : v.Tells m kind' w) (other : m ≠ n) : s.OwnersReset n kind w := by
  obtain ⟨portals, cars, units⟩ := h
  refine ⟨fun kind p c owner config alone => ?_, fun kind i owner alone => ?_, fun kind k x i unit contact =>
    tells.unit_kept other (units kind k x i unit contact) contact⟩
  · obtain ⟨d, config', named⟩ := State.portalOf_config owner
    obtain rfl : c = d := Option.some.inj (config.symm.trans config')
    obtain ⟨state, passages, plain, applied, links⟩ := portals kind p c owner config alone
    have same : w.portal p = v.portal p := by
      cases deferred : (s.portal p).deferred with
      | none =>
        have record := plain deferred
        exact tells.portals p (fun _ => State.portalOf_ne (by rw [record]; exact config) named other)
      | some d =>
        have record := applied d deferred
        refine tells.lost p d (by rw [record]; rfl) (by rw [record]; rfl) ?_
        rw [State.lostPortal_congr around.1, record, State.lostPortal_again]
    rw [same]
    refine ⟨state, passages, plain, applied, fun g listed => ?_⟩
    obtain kept | cleared := tells.tenants g.tenant
    · exact kept.trans (links g listed)
    · exact cleared_of (.inr (links g listed)) cleared
  · obtain ⟨g, config, named⟩ := State.carOf_config owner
    obtain ⟨releases, deferred, applied, plain⟩ := cars kind i owner alone
    refine ⟨?_, ?_, fun d standing => ?_, fun none => ?_⟩
    · obtain same | emptied := tells.emptied i
      · rw [same, releases]
      · exact emptied.releases
    · obtain same | emptied := tells.emptied i
      · rw [same, deferred]
      · exact emptied.deferred
    · obtain same | emptied := tells.emptied i
      · rw [same, applied d standing]
      · rw [emptied.config, deferred]
        exact applied d standing
    · have record := plain none
      exact (tells.cars i (fun _ => State.carOf_ne (by rw [record]; exact config) named other)).trans record

/-! ## A node that enters UNKNOWN (R164) -/

/-- R164: the record of a node that has entered UNKNOWN. -/
def Node.forgotten (r : Node) : Node :=
  { r.noTags with state := .unknown, faults := 0, restore := 0 }

theorem State.nodeUnknown_eq {n : NodeId} {r : Node} {s : State} (node : s.node n = some r) :
    s.nodeUnknown n = (s.setNode n r.forgotten).ownersUnknown n r.kind := by
  unfold State.nodeUnknown
  rw [node]
  rfl

theorem State.nodeUnknown_resets {n : NodeId} {r : Node} {s : State} (node : s.node n = some r) :
    s.OwnersReset n r.kind (s.nodeUnknown n) := by
  rw [State.nodeUnknown_eq node]
  exact State.ownersUnknown_resets n r.kind (s.setNode n r.forgotten)

theorem State.nodeUnknown_node {n : NodeId} {r : Node} {s : State} (node : s.node n = some r) :
    ((s.nodeUnknown n).node n).map Node.core = some r.forgotten.core := by
  have keeps := State.ownersUnknown_keeps n r.kind (s.setNode n r.forgotten) n
  rw [State.nodeUnknown_eq node, keeps, State.node_setNode_self]
  rfl

/-- R164: the loss of a node, as it stands to the owners of another. -/
theorem State.nodeUnknown_tells (n : NodeId) (s : State) : ∃ kind, s.Tells n kind (s.nodeUnknown n) := by
  cases node : s.node n with
  | none =>
    refine ⟨.portal, ?_⟩
    unfold State.nodeUnknown
    rw [node]
    exact .idle (by decide) s
  | some r =>
    rw [State.nodeUnknown_eq node]
    have tells := State.ownersUnknown_tells n r.kind (s.setNode n r.forgotten)
    exact ⟨r.kind, tells.frame, fun m other => (tells.nodes m other).trans (by rw [State.node_setNode_ne other]), tells.portals,
      tells.lost, tells.tenants, tells.cars, tells.emptied, tells.units⟩

theorem State.nodeUnknown_settles (n : NodeId) (s : State) (q : Nat) : (s.portal q).Settled ((s.nodeUnknown n).portal q) := by
  cases node : s.node n with
  | none =>
    unfold State.nodeUnknown
    rw [node]
    exact .inl ⟨rfl, rfl⟩
  | some r =>
    rw [State.nodeUnknown_eq node]
    exact State.ownersUnknown_settles n r.kind (s.setNode n r.forgotten) q

/-- What stands of a node that stands as `r` in `s` until its turn comes. -/
def State.ResetAwaits (n : NodeId) (r : Node) (s u : State) : Prop :=
  s.Awaits n u ∧ (∀ q, (s.portal q).Settled (u.portal q)) ∧ (u.node n).map Node.core = some r.core

/-- What stands of a node that stands as `r` in `s` from its turn on. -/
def State.ResetDone (n : NodeId) (r : Node) (s u : State) : Prop :=
  s.SameAround u ∧ (u.node n).map Node.core = some r.forgotten.core ∧ s.OwnersReset n r.kind u

section
variable {n m : NodeId} {r : Node} {s u : State}

theorem State.ResetAwaits.start (same : s.SameOwners u) (nodes : u.nodes = s.nodes) (node : s.node n = some r) :
    s.ResetAwaits n r u := by
  obtain ⟨portal, -⟩ := same.agree
  exact ⟨.start same n, fun q => by rw [portal]; exact .inl ⟨rfl, rfl⟩, by rw [State.node, nodes, ← State.node, node]; rfl⟩

/-- The turn of another node. -/
theorem State.ResetAwaits.step (h : s.ResetAwaits n r u) (high : n.address ≤ 30) (high' : m.address ≤ 30) (other : m ≠ n) :
    s.ResetAwaits n r (u.nodeUnknown m) := by
  obtain ⟨awaits, settles, core⟩ := h
  obtain ⟨kind, tells⟩ := State.nodeUnknown_tells m u
  exact ⟨awaits.step tells other, fun q => (settles q).trans (State.nodeUnknown_settles m u q),
    (tells.nodes n (NodeId.code_ne high high' other.symm)).trans core⟩

theorem State.ResetDone.step (h : s.ResetDone n r u) (high : n.address ≤ 30) (high' : m.address ≤ 30) (other : m ≠ n) :
    s.ResetDone n r (u.nodeUnknown m) := by
  obtain ⟨around, core, owners⟩ := h
  obtain ⟨kind, tells⟩ := State.nodeUnknown_tells m u
  exact ⟨around.trans tells.frame.sameAround, (tells.nodes n (NodeId.code_ne high high' other.symm)).trans core,
    owners.kept around tells other⟩

/-- R164: the node's own turn. -/
theorem State.ResetAwaits.turn (h : s.ResetAwaits n r u) : s.ResetDone n r (u.nodeUnknown n) := by
  obtain ⟨awaits, settles, core⟩ := h
  obtain ⟨x, node, same⟩ := Option.map_eq_some_iff.1 core
  obtain ⟨kind, tells⟩ := State.nodeUnknown_tells n u
  have forgotten : x.forgotten.core = r.forgotten.core := by
    simp only [Node.core, Node.forgotten, Node.noTags, Node.mk.injEq] at same ⊢
    simp [same]
  have owners := State.nodeUnknown_resets node
  rw [(Node.of_core same).1] at owners
  exact ⟨awaits.around.trans tells.frame.sameAround, (State.nodeUnknown_node node).trans (by rw [forgotten]),
    owners.of_awaits awaits settles⟩

/-- Works that touch neither owners nor node records. -/
theorem State.ResetAwaits.aside {v : State} (h : s.ResetAwaits n r u) (same : u.SameOwners v) (nodes : v.nodes = u.nodes) :
    s.ResetAwaits n r v := by
  obtain ⟨⟨around, portal, car, unit, tenants, cars⟩, settles, core⟩ := h
  obtain ⟨portal', car', unit', tenant', -, -⟩ := same.agree
  obtain ⟨-, -, -, -, -, around'⟩ := same
  exact ⟨⟨around.trans around', fun p owner => (portal' p).trans (portal p owner), fun i owner => (car' i).trans (car i owner),
    fun k x i standing contact => (unit' k).trans (unit k x i standing contact), fun j => by rw [tenant']; exact tenants j,
    fun i => by rw [car']; exact cars i⟩, fun q => by rw [portal']; exact settles q,
    by rw [State.node, nodes, ← State.node, core]⟩

/-- What the owners have done stands while no owner changes. -/
theorem State.OwnersReset.aside {kind : NodeKind} {v : State} (h : s.OwnersReset n kind u) (same : u.SameOwners v) :
    s.OwnersReset n kind v := by
  obtain ⟨portal', car', unit', tenant', -, -⟩ := same.agree
  unfold State.OwnersReset at h ⊢
  simpa only [portal', car', unit', tenant'] using h

/-- Works that touch neither owners nor the node records. -/
theorem State.ResetDone.aside {v : State} (h : s.ResetDone n r u) (same : u.SameOwners v)
    (node : (v.node n).map Node.core = (u.node n).map Node.core) : s.ResetDone n r v := by
  obtain ⟨around, core, owners⟩ := h
  have moved := owners.aside same
  obtain ⟨-, -, -, -, -, around'⟩ := same
  exact ⟨around.trans around', node.trans core, moved⟩

end

/-! ## A line that stops (R164) -/

theorem State.updLine_sameOwners (l : Nat) (f : Line → Line) (s : State) : s.SameOwners (s.updLine l f) :=
  ⟨rfl, rfl, rfl, rfl, rfl, rfl, rfl, rfl, rfl⟩

theorem State.stopLine_eq (l : Nat) (s : State) : s.stopLine l =
    (s.updLine l Line.stop).forEach (s.lineAddresses l) (fun a u => u.nodeUnknown ⟨l, a⟩) := rfl

/-- R164: a line that stops, as it stands to the nodes of other lines and to other lines. -/
theorem State.stopLine_frame_lines (l : Nat) (s : State) :
    s.OnlyField (s.stopLine l) ∧ (s.stopLine l).reads = s.reads ∧ (s.stopLine l).lines = (s.updLine l Line.stop).lines := by
  rw [State.stopLine_eq]
  have frame : (s.updLine l Line.stop).OnlyOwners
      ((s.updLine l Line.stop).forEach (s.lineAddresses l) (fun a u => u.nodeUnknown ⟨l, a⟩)) :=
    State.forEach_invariant (s.updLine l Line.stop).OnlyOwners _ (fun a v kept => by
      obtain ⟨kind, tells⟩ := State.nodeUnknown_tells ⟨l, a⟩ v
      exact kept.trans tells.frame) _ _ (.refl _)
  obtain ⟨field, reads, lines⟩ := frame
  exact ⟨field, reads, lines⟩

/-- What the stop of the line and the turn of each of its nodes keep. -/
theorem State.stopLine_invariant {l : Nat} (P : State → Prop) {u : State} (stopped : P (u.updLine l Line.stop))
    (step : ∀ a ≤ 30, ∀ v, P v → P (v.nodeUnknown ⟨l, a⟩)) : P (u.stopLine l) := by
  rw [State.stopLine_eq]
  have places : ∀ a ∈ u.lineAddresses l, a ≤ 30 := fun a listed => (State.mem_lineAddresses.1 listed).2.1
  generalize u.lineAddresses l = as at places
  generalize u.updLine l Line.stop = v at stopped
  induction as generalizing v with
  | nil => exact stopped
  | cons a as ih => exact ih (fun b more => places b (List.mem_cons_of_mem a more)) _ (step a (places a List.mem_cons_self) v stopped)

section
variable {n : NodeId} {r : Node} {s u : State} {l : Nat}

/-- R164: the nodes of another line wait on. -/
theorem State.ResetAwaits.stopLine (h : s.ResetAwaits n r u) (high : n.address ≤ 30) (other : l ≠ n.line) :
    s.ResetAwaits n r (u.stopLine l) :=
  State.stopLine_invariant (s.ResetAwaits n r) (h.aside (State.updLine_sameOwners l Line.stop u) rfl)
    (fun a small v awaits => awaits.step (m := ⟨l, a⟩) high small (fun same => other (congrArg NodeId.line same)))

theorem State.ResetDone.stopLine (h : s.ResetDone n r u) (high : n.address ≤ 30) (other : l ≠ n.line) :
    s.ResetDone n r (u.stopLine l) :=
  State.stopLine_invariant (s.ResetDone n r) (h.aside (State.updLine_sameOwners l Line.stop u) rfl)
    (fun a small v done => done.step (m := ⟨l, a⟩) high small (fun same => other (congrArg NodeId.line same)))

/-- R164: the nodes of the line that stops. -/
theorem State.ResetAwaits.stops (h : s.ResetAwaits n r u) (low : 1 ≤ n.address) (high : n.address ≤ 30) :
    s.ResetDone n r (u.stopLine n.line) := by
  rw [State.stopLine_eq]
  have start := h.aside (State.updLine_sameOwners n.line Line.stop u) rfl
  have stands : (u.node ⟨n.line, n.address⟩).isSome = true := by
    obtain ⟨-, -, core⟩ := h
    obtain ⟨x, node, -⟩ := Option.map_eq_some_iff.1 core
    rw [node]
    rfl
  refine State.forEach_once (x := n.address) (s.ResetAwaits n r) (s.ResetDone n r) (u.lineAddresses n.line)
    (fun b listed other v awaits => awaits.step (m := ⟨n.line, b⟩) high (State.mem_lineAddresses.1 listed).2.1
      (fun same => other (congrArg NodeId.address same)))
    (fun v awaits => awaits.turn)
    (fun b listed other v done => done.step (m := ⟨n.line, b⟩) high (State.mem_lineAddresses.1 listed).2.1
      (fun same => other (congrArg NodeId.address same)))
    (State.nodup_lineAddresses _ u) (State.mem_lineAddresses.2 ⟨low, high, stands⟩) _ start

end

end Sys2Proof.Machine
end

section
/-! LINE_PUT (R146, R147): O46. -/

namespace Sys2Proof.Machine

/-! ## The nodes of a line that is disabled (R147) -/

/-- R47, R147: the reads of the node at an address are discarded and its last verdicts cleared. -/
def State.silenced (l a : Nat) (s : State) : State := (s.discardReads ⟨l, a⟩).updNode ⟨l, a⟩ Node.noVerdicts

theorem State.silenced_only (l a : Nat) (s : State) :
    s.silenced l a = { s with reads := s.reads.filter (fun r => r.node != ⟨l, a⟩), nodes := (s.silenced l a).nodes } := by
  unfold State.silenced
  exact (State.updNode_frame ⟨l, a⟩ Node.noVerdicts (s.discardReads ⟨l, a⟩)).eq

theorem State.silenced_node (l a : Nat) (n : NodeId) (s : State) : (s.silenced l a).node n =
    if n.code = NodeId.code ⟨l, a⟩ then (s.node n).map Node.noVerdicts else s.node n :=
  State.node_updNode ⟨l, a⟩ n Node.noVerdicts (s.discardReads ⟨l, a⟩)

/-- R147: the reads that are left wait at none of the nodes. -/
theorem State.forEach_silenced_only (l : Nat) (as : List Nat) (s : State) :
    let t := s.forEach as (State.silenced l)
    t = { s with reads := t.reads, nodes := t.nodes } ∧ ∀ r ∈ t.reads, r ∈ s.reads ∧ ∀ a ∈ as, r.node ≠ ⟨l, a⟩ := by
  induction as generalizing s with
  | nil => exact ⟨rfl, fun r listed => ⟨listed, fun _ none => nomatch none⟩⟩
  | cons a as ih =>
    obtain ⟨only, reads⟩ := ih (s.silenced l a)
    have first := State.silenced_only l a s
    have same : s.forEach (a :: as) (State.silenced l) = (s.silenced l a).forEach as (State.silenced l) := rfl
    dsimp only
    rw [same]
    refine ⟨by rw [only, first], fun r listed => ?_⟩
    obtain ⟨left, others⟩ := reads r listed
    rw [first] at left
    obtain ⟨standing, differs⟩ := List.mem_filter.1 left
    exact ⟨standing, fun b more => (List.mem_cons.1 more).elim (fun own => by rw [own]; simpa using differs) (others b)⟩

/-- R47: the node at each of the addresses has no verdict left. -/
theorem State.forEach_silenced_node {l a : Nat} {as : List Nat} (nodup : as.Nodup) (listed : a ∈ as) (small : ∀ b ∈ as, b ≤ 30)
    (s : State) : (s.forEach as (State.silenced l)).node ⟨l, a⟩ = (s.node ⟨l, a⟩).map Node.noVerdicts := by
  have other (b : Nat) (more : b ∈ as) (differs : b ≠ a) (u : State) : (u.silenced l b).node ⟨l, a⟩ = u.node ⟨l, a⟩ := by
    rw [State.silenced_node, if_neg (NodeId.code_ne (n := ⟨l, a⟩) (m := ⟨l, b⟩) (small a listed) (small b more)
      (fun same => differs (congrArg NodeId.address same).symm))]
  exact State.forEach_once (x := a) (fun u => u.node ⟨l, a⟩ = s.node ⟨l, a⟩)
    (fun u => u.node ⟨l, a⟩ = (s.node ⟨l, a⟩).map Node.noVerdicts) as
    (fun b more differs u h => (other b more differs u).trans h)
    (fun u h => by rw [State.silenced_node, if_pos rfl, h])
    (fun b more differs u h => (other b more differs u).trans h) nodup listed s rfl

theorem State.disableLine_eq (l : Nat) (s : State) :
    s.disableLine l = (s.stopLine l).forEach ((s.stopLine l).lineAddresses l) (State.silenced l) := rfl

/-- R147, R164: what disabling a line does to its reads and nodes, and what it leaves. -/
theorem State.disableLine_spec (l : Nat) (s : State) :
    let t := s.disableLine l
    s.OnlyField t ∧ t.lines = (s.updLine l Line.stop).lines ∧
      (∀ r ∈ t.reads, ¬ (r.node.line = l ∧ 1 ≤ r.node.address ∧ r.node.address ≤ 30 ∧ (s.node r.node).isSome)) ∧
      ∀ a r, 1 ≤ a → a ≤ 30 → s.node ⟨l, a⟩ = some r →
        ∃ r', t.node ⟨l, a⟩ = some r' ∧ r'.kind = r.kind ∧ r'.state = .unknown ∧ r'.faults = 0 ∧
          r'.lastBad = r.lastBad ∧ r'.verdictA = .none ∧ r'.verdictB = .none ∧ s.OwnersReset ⟨l, a⟩ r.kind t := by
  have stops (a : Nat) (r : Node) (low : 1 ≤ a) (high : a ≤ 30) (stands : s.node ⟨l, a⟩ = some r) :
      s.ResetDone ⟨l, a⟩ r (s.stopLine l) :=
    (State.ResetAwaits.start (s := s) (u := s) (.refl s) rfl stands).stops low high
  obtain ⟨field, reads, lines⟩ := State.stopLine_frame_lines l s
  dsimp only
  rw [State.disableLine_eq]
  generalize s.stopLine l = u at stops field reads lines
  obtain ⟨only, left⟩ := State.forEach_silenced_only l (u.lineAddresses l) u
  have node (a : Nat) (listed : a ∈ u.lineAddresses l) := State.forEach_silenced_node (l := l) (State.nodup_lineAddresses l u) listed
    (fun b more => (State.mem_lineAddresses.1 more).2.1) u
  generalize u.forEach (u.lineAddresses l) (State.silenced l) = t at only left node
  have address (a : Nat) (r : Node) (low : 1 ≤ a) (high : a ≤ 30) (stands : s.node ⟨l, a⟩ = some r) : a ∈ u.lineAddresses l := by
    obtain ⟨-, core, -⟩ := stops a r low high stands
    obtain ⟨x, found, -⟩ := Option.map_eq_some_iff.1 core
    exact State.mem_lineAddresses.2 ⟨low, high, by rw [found]; rfl⟩
  refine ⟨?_, ?_, fun q listed here => ?_, fun a r low high stands => ?_⟩
  · rw [only]
    exact field
  · rw [only]
    exact lines
  · obtain ⟨line, low, high, stands⟩ := here
    obtain ⟨r, found⟩ := Option.isSome_iff_exists.1 stands
    obtain ⟨⟨k, a⟩, head, key, companions, clamped, tag, orphan⟩ := q
    obtain rfl : k = l := line
    exact (left _ listed).2 a (address a r low high found) rfl
  · obtain ⟨-, core, owners⟩ := stops a r low high stands
    obtain ⟨x, found, same⟩ := Option.map_eq_some_iff.1 core
    obtain ⟨kind, state, faults, -, -, -, -, lastBad, -⟩ := Node.of_core same
    have silent := node a (address a r low high stands)
    rw [found] at silent
    exact ⟨x.noVerdicts, silent, kind, state, faults, lastBad, rfl, rfl, owners.aside (by rw [only]; exact .refl u)⟩

/-! ## LINE_PUT -/

theorem State.dueNodes_zero (l : Nat) (s : State) : s.dueNodes l 0 = s.lineAddresses l := by
  unfold State.dueNodes
  refine List.filter_eq_self.2 (fun a listed => ?_)
  obtain ⟨r, stands⟩ := Option.isSome_iff_exists.1 (State.mem_lineAddresses.1 listed).2.2
  simp [stands]

/-- R203: the rate of a LINE_PUT. -/
theorem rateOf_eq {n : Nat} (small : n ≤ 3) : rateOf n = [LineRate.r19200, .r38400, .r57600, .r115200].getD n .r115200 := by
  obtain rfl | rfl | rfl | rfl : n = 0 ∨ n = 1 ∨ n = 2 ∨ n = 3 := by omega
  all_goals rfl

/-- R147: what settling makes of a line by its state, the enabled flag and the run state. -/
theorem State.settleLine_eq (l : Nat) (enabled : Bool) (s : State) : s.settleLine l enabled =
    if (s.line l).state = .stopped then (if enabled = true ∧ s.bus.run = .run then s.enterRunning l else s)
    else if enabled = true then s else s.disableLine l := by
  unfold State.settleLine
  generalize (s.line l).state = k
  cases k with
  | stopped => simp only [if_true, Bool.and_eq_true, beq_iff_eq]
  | running => exact (if_neg (fun same => nomatch same)).symm
  | fault => exact (if_neg (fun same => nomatch same)).symm

/-- Settles O46: by the state of the line, the enabled flag and the run state. -/
theorem linePutStartsAndStopsTheLine : Obligations.LinePutStartsAndStopsTheLine := by
  unfold Obligations.LinePutStartsAndStopsTheLine
  intro s v serves l enabled line flag small rate
  have fine : firstProblem [require (v.body 0 1 ≤ 3) (.badField 1), require (flagOk (v.body 1 1)) (.badField 2),
      require (v.body 2 1 ≤ 3) (.badField 3)] = none := by
    have line' : v.body 0 1 ≤ 3 := line
    simp [firstProblem_none, flagOk, line', flag, small]
  have work : linePut v s = linePut v s := rfl
  conv at work => rhs; unfold linePut; dsimp only
  rw [fine, checked_none, rateOf_eq small] at work
  obtain ⟨u, put⟩ : ∃ u, u = s.updLine l (fun r => { r with record := some { enabled := enabled, rate := rate } }) := ⟨_, rfl⟩
  have worked : linePut v s = (u.settleLine l enabled, .served (.done
      ((if (s.line l).record.isNone then createdCode else replacedCode) ++ bytesOf 1 ((u.settleLine l enabled).line l).state.code))) := by
    rw [work, put]
  have own : u.line l = { s.line l with record := some { enabled := enabled, rate := rate } } := by
    rw [put]; exact State.line_updLine_self l _ s
  have others (m : Nat) (other : m ≠ l) : u.line m = s.line m := by rw [put]; exact State.line_updLine_ne other _ s
  have blocks : u = { s with lines := u.lines } := by rw [put]; rfl
  have codes : (if (s.line l).record.isNone then createdCode else replacedCode) =
      (if (s.line l).record.isNone then ([0] : List Byte) else [1]) := rfl
  rw [codes] at worked
  have settled := State.settleLine_eq l enabled u
  rw [own] at settled
  dsimp only at settled
  clear work put
  by_cases stopped : (s.line l).state = .stopped
  · rw [if_pos stopped] at settled
    by_cases starts : enabled = true ∧ s.bus.run = .run
    · rw [if_pos (by rw [blocks]; exact starts)] at settled
      rw [settled] at worked
      obtain ⟨t, next, same, gives⟩ := exec_serves (c := .linePut) rfl serves worked (by rw [blocks]; rfl)
      obtain ⟨x, rfl⟩ : ∃ x, t = { u.enterRunning l with slips := x } := ⟨_, same⟩
      have started : (u.enterRunning l).line l = (u.line l).start (u.dueNodes l 0) := State.line_updLine_self l _ u
      have due : u.dueNodes l 0 = s.lineAddresses l := by rw [State.dueNodes_zero, blocks]; rfl
      rw [due, own] at started
      have frame : u.enterRunning l = { s with lines := (u.enterRunning l).lines } := by rw [blocks]; rfl
      have shown : { u.enterRunning l with slips := x } = { s with lines := (u.enterRunning l).lines, slips := x } :=
        congrArg (fun y : State => { y with slips := x }) frame
      refine ⟨_, next, by rw [shown], by rw [shown], by rw [shown], by rw [shown], by rw [shown], by rw [shown], by rw [shown],
        fun m other => (State.line_updLine_ne other _ u).trans (others m other), congrArg Line.record started,
        fun _ => by rw [if_pos starts]; exact congrArg Line.state started, fun _ _ _ => ⟨congrArg Line.cycle started,
        congrArg Line.due started, congrArg Line.exchange started⟩, fun running => absurd stopped running,
        fun running => absurd stopped running, gives⟩
    · rw [if_neg (by rw [blocks]; exact starts)] at settled
      rw [settled] at worked
      obtain ⟨t, next, same, gives⟩ := exec_serves (c := .linePut) rfl serves worked (by rw [blocks])
      obtain ⟨x, rfl⟩ : ∃ x, t = { u with slips := x } := ⟨_, same⟩
      have shown : { u with slips := x } = { s with lines := u.lines, slips := x } :=
        congrArg (fun y : State => { y with slips := x }) blocks
      exact ⟨_, next, by rw [shown], by rw [shown], by rw [shown], by rw [shown], by rw [shown], by rw [shown], by rw [shown],
        others, congrArg Line.record own, fun _ => by rw [if_neg starts]; exact (congrArg Line.state own).trans stopped,
        fun _ on run => absurd ⟨on, run⟩ starts, fun running => absurd stopped running, fun running => absurd stopped running, gives⟩
  · rw [if_neg stopped] at settled
    by_cases on : enabled = true
    · rw [if_pos on] at settled
      rw [settled] at worked
      obtain ⟨t, next, same, gives⟩ := exec_serves (c := .linePut) rfl serves worked (by rw [blocks])
      obtain ⟨x, rfl⟩ : ∃ x, t = { u with slips := x } := ⟨_, same⟩
      have shown : { u with slips := x } = { s with lines := u.lines, slips := x } :=
        congrArg (fun y : State => { y with slips := x }) blocks
      exact ⟨_, next, by rw [shown], by rw [shown], by rw [shown], by rw [shown], by rw [shown], by rw [shown], by rw [shown],
        others, congrArg Line.record own, fun state => absurd state stopped, fun state => absurd state stopped,
        fun _ _ => ⟨(congrArg Line.state own : (u.line l).state = _), by rw [shown], by rw [shown]⟩, fun _ off => absurd (on.symm.trans off) (by decide), gives⟩
    · rw [if_neg on] at settled
      rw [settled] at worked
      obtain ⟨field, lines, reads, nodes⟩ := State.disableLine_spec l u
      obtain ⟨run, -, -, settings, slips, creds, clock, profiles, holidays, mode, -⟩ := field
      obtain ⟨t, next, same, gives⟩ := exec_serves (c := .linePut) rfl serves worked (slips.trans (by rw [blocks]))
      obtain ⟨x, rfl⟩ : ∃ x, t = { u.disableLine l with slips := x } := ⟨_, same⟩
      have line : (u.disableLine l).line l = (u.line l).stop := by
        rw [State.line, lines]; exact State.line_updLine_self l _ u
      have node (n : NodeId) : u.node n = s.node n := by rw [blocks]; rfl
      rw [own] at line
      have owners : u.SameOwners s := by rw [blocks]; exact .refl s
      refine ⟨_, next, settings.trans (by rw [blocks]), clock.trans (by rw [blocks]), creds.trans (by rw [blocks]),
        mode.trans (by rw [blocks]), profiles.trans (by rw [blocks]), holidays.trans (by rw [blocks]), run.trans (by rw [blocks]),
        fun m other => ?_, congrArg Line.record line, fun state => absurd state stopped, fun state => absurd state stopped,
        fun _ on' => absurd on' on, fun _ _ => ⟨congrArg Line.state line, fun r listed => ?_, fun a r low high stands => ?_⟩, gives⟩
      · refine Eq.trans ?_ (others m other)
        refine (congrArg (Table.read Line.blank m) lines).trans ?_
        exact State.line_updLine_ne other _ u
      · rw [← node]
        exact reads r listed
      · obtain ⟨r', found, kind, state, faults, lastBad, verdictA, verdictB, reset⟩ := nodes a r low high ((node _).trans stands)
        have same : s.SameOwners u := by rw [blocks]; exact .refl s
        exact ⟨r', found, kind, state, faults, lastBad, verdictA, verdictB, .congr same reset⟩

end Sys2Proof.Machine
end

section
/-! RUN and HALT (R164, R190): O17. -/

namespace Sys2Proof.Machine

/-! ## The run state in block 0 (R190) -/

/-- R190: the run state stands in byte 24, and no byte but those of the update count has changed with it. -/
theorem State.mirrorRun_shown (s : State) : s.mirrorRun.byteAt 24 = BitVec.ofNat 8 s.bus.run.code ∧
    ∀ a, a ≠ 4 → a ≠ 5 → a ≠ 24 → s.mirrorRun.byteAt a = s.byteAt a := by
  refine ⟨?_, fun a count count' shown => State.byteAt_mirror_outside (by omega) (by simp; omega) s⟩
  have shown := State.peek_mirror (a := 24) (by omega) (bytesOf 1 s.bus.run.code) s
  change [s.mirrorRun.byteAt (24 + 0)] = [BitVec.ofNat 8 s.bus.run.code] at shown
  exact (List.cons.inj shown).1

/-! ## RUN -/

theorem State.startLine_line_ne {l m : Nat} (other : m ≠ l) (s : State) : (s.startLine l).line m = s.line m := by
  unfold State.startLine
  split
  · exact State.line_updLine_ne other _ s
  · rfl

/-- R146, R164: a line that is configured, enabled and STOPPED starts. -/
theorem State.startLine_line (l : Nat) (s : State) : (s.startLine l).line l =
    if (s.line l).state = .stopped ∧ (∃ g, (s.line l).record = some g ∧ g.enabled = true) then
      { s.line l with state := .running, cycle := 0, check := .stopped, exchange := .idle, due := s.lineAddresses l }
    else s.line l := by
  have enabled : (s.line l).record.any (fun g => g.enabled) = true ↔ ∃ g, (s.line l).record = some g ∧ g.enabled = true := by
    simp [Option.any_eq_true]
  unfold State.startLine
  by_cases starts : (s.line l).state = .stopped ∧ (s.line l).record.any (fun g => g.enabled) = true
  · rw [if_pos starts, if_pos ⟨starts.1, enabled.1 starts.2⟩, ← State.dueNodes_zero]
    exact State.line_updLine_self l _ s
  · rw [if_neg starts, if_neg (fun h => starts ⟨h.1, enabled.2 h.2⟩)]

/-- R164: what RUN makes of each of the four lines. -/
theorem State.startLines_line {l : Nat} (small : l < 4) (s : State) : s.startLines.line l =
    if (s.line l).state = .stopped ∧ (∃ g, (s.line l).record = some g ∧ g.enabled = true) then
      { s.line l with state := .running, cycle := 0, check := .stopped, exchange := .idle, due := s.lineAddresses l }
    else s.line l := by
  refine State.forEach_once (x := l) (fun u => u.nodes = s.nodes ∧ u.line l = s.line l)
    (fun u => u.line l = _) (List.range 4)
    (fun m _ other u h => ⟨?_, (State.startLine_line_ne (Ne.symm other) u).trans h.2⟩) (fun u h => ?_)
    (fun m _ other u h => (State.startLine_line_ne (Ne.symm other) u).trans h) List.nodup_range (List.mem_range.2 small) s ⟨rfl, rfl⟩
  · rw [(State.startLine_frame m u).eq]
    exact h.1
  · obtain ⟨nodes, line⟩ := h
    have addresses : u.lineAddresses l = s.lineAddresses l := by simp only [State.lineAddresses, State.node, nodes]
    rw [State.startLine_line, line, addresses]

/-- R190: RUN written in HALT. -/
theorem exec_run {s : State} (halted : s.bus.run = .halt) :
    ∃ t, exec .run s = .next t ∧ t = { s with mem := t.mem, lines := t.lines, bus := { s.bus with run := .run } } ∧
      t.byteAt 24 = 1 ∧ (∀ a, a ≠ 4 → a ≠ 5 → a ≠ 24 → t.byteAt a = s.byteAt a) ∧
      ∀ l < 4, t.line l =
        (if (s.line l).state = .stopped ∧ (∃ g, (s.line l).record = some g ∧ g.enabled = true) then
          { s.line l with state := .running, cycle := 0, check := .stopped, exchange := .idle, due := s.lineAddresses l }
        else s.line l) := by
  have runs : s.startRun = (s.setRun .run).startLines.mirrorRun := if_neg (by rw [halted]; decide)
  obtain ⟨shown, kept⟩ := State.mirrorRun_shown (s.setRun .run).startLines
  have lines := fun l (small : l < 4) => State.startLines_line small (s.setRun .run)
  have frame := (State.startLines_frame (s.setRun .run)).eq
  generalize (s.setRun .run).startLines = u at runs shown kept lines frame
  have mirrored := (State.mirrorRun_frame u).eq
  refine ⟨_, congrArg Host.Outcome.next runs, ?_, ?_, fun a count count' byte => ?_, fun l small => ?_⟩
  · rw [mirrored, frame]
    rfl
  · rw [shown, frame]
    rfl
  · rw [kept a count count' byte, frame]
    rfl
  · rw [mirrored]
    exact lines l small

/-! ## HALT -/

theorem State.stopLine_line_self (l : Nat) (s : State) : (s.stopLine l).line l = (s.line l).stop := by
  obtain ⟨-, -, lines⟩ := State.stopLine_frame_lines l s
  rw [State.line, lines]
  exact State.line_updLine_self l _ s

theorem State.stopLine_line_ne {l m : Nat} (other : m ≠ l) (s : State) : (s.stopLine l).line m = s.line m := by
  obtain ⟨-, -, lines⟩ := State.stopLine_frame_lines l s
  rw [State.line, lines]
  exact State.line_updLine_ne other _ s

/-- R164: each of the four lines is stopped. -/
theorem State.stopLines_line {l : Nat} (small : l < 4) (s : State) : s.stopLines.line l = (s.line l).stop :=
  State.forEach_once (x := l) (fun u => u.line l = s.line l) (fun u => u.line l = (s.line l).stop) (List.range 4)
    (fun m _ other u h => (State.stopLine_line_ne (Ne.symm other) u).trans h) (fun u h => by rw [State.stopLine_line_self, h])
    (fun m _ other u h => (State.stopLine_line_ne (Ne.symm other) u).trans h) List.nodup_range (List.mem_range.2 small) s rfl

/-- R164: each node of the four lines enters UNKNOWN, its owners acting on it. -/
theorem State.stopLines_node {n : NodeId} {r : Node} {s : State} (line : n.line < 4) (low : 1 ≤ n.address) (high : n.address ≤ 30)
    (node : s.node n = some r) : s.ResetDone n r s.stopLines :=
  State.forEach_once (x := n.line) (s.ResetAwaits n r) (s.ResetDone n r) (List.range 4)
    (fun _ _ other _ awaits => awaits.stopLine high other) (fun _ awaits => awaits.stops low high)
    (fun _ _ other _ done => done.stopLine high other) List.nodup_range (List.mem_range.2 line) s (.start (.refl s) rfl node)

/-- R190, R164: HALT written in RUN. -/
theorem exec_halt {s : State} (running : s.bus.run = .run) :
    ∃ t, exec .halt s = .next t ∧
      t.bus.run = .halt ∧ t.bus.mask = s.bus.mask ∧ t.bus.lastRefusal = s.bus.lastRefusal ∧
      t.settings = s.settings ∧ t.slips = s.slips ∧ t.creds = s.creds ∧ t.clock = s.clock ∧
      t.profiles = s.profiles ∧ t.holidays = s.holidays ∧ t.mode = s.mode ∧ t.byteAt 24 = 0 ∧ t.reads = [] ∧
      (∀ l < 4, t.line l = { s.line l with state := .stopped, check := .stopped, exchange := .idle, due := [] }) ∧
      ∀ (n : NodeId) (r : Node), n.line < 4 → 1 ≤ n.address → n.address ≤ 30 → s.node n = some r →
        ∃ r', t.node n = some r' ∧ r'.kind = r.kind ∧ r'.state = .unknown ∧ r'.faults = 0 ∧ r'.restore = 0 ∧
          r'.tagA = none ∧ r'.tagB = none ∧ r'.tagCar = none ∧ r'.lastBad = r.lastBad ∧ r'.verdictA = .none ∧
          r'.verdictB = .none ∧ r'.tamper = r.tamper ∧ s.OwnersReset n r.kind t := by
  have runs : s.haltRun = (s.setRun .halt).stopLines.flushReads.mirrorRun := if_neg (by rw [running]; decide)
  obtain ⟨shown, -⟩ := State.mirrorRun_shown (s.setRun .halt).stopLines.flushReads
  have lines := fun l (small : l < 4) => State.stopLines_line small (s.setRun .halt)
  have nodes := fun n r line low high (node : s.node n = some r) =>
    State.stopLines_node (n := n) (r := r) (s := s.setRun .halt) line low high node
  obtain ⟨run, mask, refusal, settings, slips, creds, clock, profiles, holidays, mode, -⟩ := State.stopLines_frame (s.setRun .halt)
  generalize (s.setRun .halt).stopLines = u at runs shown lines nodes run mask refusal settings slips creds clock profiles holidays mode
  have mirrored := (State.mirrorRun_frame u.flushReads).eq
  generalize u.flushReads.mirrorRun = t at runs shown mirrored
  have stopped : u.flushReads.bus.run = .halt := run
  rw [stopped] at shown
  refine ⟨t, congrArg Host.Outcome.next runs, ?_⟩
  generalize t.mem = m at mirrored
  subst mirrored
  refine ⟨run, mask, refusal, settings, slips, creds, clock, profiles, holidays, mode, shown, rfl, lines,
    fun n r line low high node => ?_⟩
  obtain ⟨-, core, owners⟩ := nodes n r line low high node
  obtain ⟨x, found, same⟩ := Option.map_eq_some_iff.1 core
  obtain ⟨kind, state, faults, restore, tagA, tagB, tagCar, lastBad, -, -, tamper⟩ := Node.of_core same
  have silent : ({ u.flushReads with mem := m } : State).node n = some x.noVerdicts := by
    have mapped := Table.find_mapValues Node.noVerdicts n.code u.nodes
    rw [State.node] at found
    rw [found] at mapped
    exact mapped
  refine ⟨_, silent, kind, state, faults, restore, tagA, tagB, tagCar, lastBad, rfl, rfl, tamper, ?_⟩
  exact (State.OwnersReset.aside owners (v := { u.flushReads with mem := m }) (.refl u)).congr (.refl s)

/-- Settles O17: each command in either run state. -/
theorem runAndHalt : Obligations.RunAndHalt := by
  unfold Obligations.RunAndHalt
  exact fun s => ⟨fun running => congrArg Host.Outcome.next (if_pos running),
    fun halted => congrArg Host.Outcome.next (if_pos halted), fun halted => exec_run halted, fun running => exec_halt running⟩

end Sys2Proof.Machine
end

section
/-! What the application of a passage does in the register (R76 to R80). -/

namespace Sys2Proof.Machine

/-! ## Holds that a visit gains and moves (R77, R78, R91) -/

section
variable {tenant z y : Nat} {s t w : State} {grants : List Nat}

theorem State.holdGainEntries_idle (nowhere : ∀ u ∈ grants, ∀ x, s.unit u = some x → x.zone ≠ z) :
    s.holdGainEntries tenant z grants w = w := by
  unfold State.holdGainEntries
  refine (List.foldl_ext _ (fun w _ => w) w (fun w u listed => ?_)).trans (List.foldl_fixed' (fun _ => rfl) grants)
  cases stands : s.unit u with
  | none => rfl
  | some x => exact if_neg (fun h => nowhere u listed x stands h.1)

theorem State.holdLossEntries_idle (nowhere : ∀ u ∈ grants, ∀ x, s.unit u = some x → x.zone ≠ z) :
    s.holdLossEntries tenant z grants w = w := by
  unfold State.holdLossEntries
  refine (List.foldl_ext _ (fun w _ => w) w (fun w u listed => ?_)).trans (List.foldl_fixed' (fun _ => rfl) grants)
  cases stands : s.unit u with
  | none => rfl
  | some x => exact if_neg (fun h => nowhere u listed x stands h.1)

/-- R91: where the units' places agree, so do the changes of hold. -/
theorem State.MovesHolds.congr {o : State} {old new : Option Nat} (h : s.MovesHolds grants old new t)
    (unit : ∀ u, s.unit u = o.unit u) : o.MovesHolds grants old new t := fun u => by
  rw [h u, unit u]

theorem State.MovesHolds.none (s : State) (grants : List Nat) : s.MovesHolds grants none none s := fun u => by simp

/-- R91: one gain of hold for each unit of the list in the zone. -/
theorem State.gainHolds_spec (nodup : (s.grantsOf tenant).Nodup) (journal : State.SameJournal w s) :
    s.MovesHolds (s.grantsOf tenant) none (some z) (s.gainHolds tenant z) ∧
      State.SameJournal (s.holdGainEntries tenant z (s.grantsOf tenant) w) (s.gainHolds tenant z) := by
  unfold State.gainHolds
  obtain ⟨entries, units⟩ := State.gainHolds_list tenant z s (s.grantsOf tenant) nodup (fun _ _ => rfl) journal
  refine ⟨fun u => (units u).trans ?_, entries⟩
  cases stands : s.unit u with
  | none => simp
  | some x =>
    by_cases here : u ∈ s.grantsOf tenant ∧ x.zone = z
    · rw [if_pos ⟨here.1, by simp [here.2]⟩]
      have on : u ∈ s.grantsOf tenant ∧ some z = some x.zone := ⟨here.1, by rw [here.2]⟩
      simp only [Option.map_some, if_pos on, reduceCtorEq, and_false, if_false]
      rfl
    · rw [if_neg (fun h => here ⟨h.1, by simpa using h.2⟩)]
      have off : ¬ (u ∈ s.grantsOf tenant ∧ some z = some x.zone) := fun h => here ⟨h.1, (Option.some.inj h.2).symm⟩
      simp only [Option.map_some, if_neg off, reduceCtorEq, and_false, if_false]

/-- R91: one loss of hold for each unit of the list in one zone and one gain for each in another. -/
theorem State.shiftHolds_spec (nodup : (s.grantsOf tenant).Nodup) (journal : State.SameJournal w s) (apart : z ≠ y) :
    s.MovesHolds (s.grantsOf tenant) (some z) (some y) ((s.loseHolds tenant z).gainHolds tenant y) ∧
      ((∀ u ∈ s.grantsOf tenant, ∀ x, s.unit u = some x → x.zone ≠ z ∧ x.zone ≠ y) →
        State.SameJournal w ((s.loseHolds tenant z).gainHolds tenant y)) := by
  have losses := State.loseHolds_list tenant z s (s.grantsOf tenant) nodup (fun _ _ => rfl) journal
  have frame := (State.loseHolds_frame tenant z s).eq
  have lost : s.loseHolds tenant z = s.forEach (s.unitsIn z (s.grantsOf tenant)) (fun u s => s.loseHold u tenant) := rfl
  rw [← lost] at losses
  obtain ⟨entries, units⟩ := losses
  generalize s.loseHolds tenant z = m at entries units frame
  have grants : m.grantsOf tenant = s.grantsOf tenant := by rw [frame]; rfl
  obtain ⟨gains, told⟩ := State.gainHolds_spec (z := y) (by rw [grants]; exact nodup) entries
  rw [grants] at gains told
  refine ⟨fun u => (gains u).trans ?_, fun nowhere => ?_⟩
  · rw [units]
    cases stands : s.unit u with
    | none => simp
    | some x =>
      by_cases first : u ∈ s.grantsOf tenant ∧ x.zone = z
      · have on : u ∈ s.grantsOf tenant ∧ some z = some x.zone := ⟨first.1, by rw [first.2]⟩
        have off : ¬ (u ∈ s.grantsOf tenant ∧ some y = some x.unheld.zone) :=
          fun h => apart (first.2.symm.trans (Option.some.inj h.2).symm)
        rw [if_pos ⟨first.1, by simp [first.2]⟩]
        simp only [Option.map_some, if_pos on, if_neg off, reduceCtorEq, and_false, if_false]
        rfl
      · have off : ¬ (u ∈ s.grantsOf tenant ∧ some z = some x.zone) := fun h => first ⟨h.1, (Option.some.inj h.2).symm⟩
        rw [if_neg (fun h => first ⟨h.1, by simpa using h.2⟩)]
        simp only [Option.map_some, if_neg off, reduceCtorEq, and_false, if_false]
  · rw [State.holdLossEntries_idle (fun u listed x stands => (nowhere u listed x stands).1)] at told
    rwa [State.holdGainEntries_idle (s := m)] at told
    intro u listed x stands
    have same : m.unit u = s.unit u := by
      rw [units]
      refine if_neg (fun h => ?_)
      obtain ⟨r, unit, zone⟩ : ∃ r, s.unit u = some r ∧ r.zone = z := by simpa [Option.any_eq_true] using h.2
      exact (nowhere u listed r unit).1 zone
    rw [same] at stands
    exact (nowhere u listed x stands).2

end

/-! ## A visit that is formed (R77) -/

theorem State.freeSlot_iff {slot : Nat} {s : State} : s.freeSlot = some slot ↔ s.LowestFreeSlot slot := by
  simp only [State.freeSlot, List.find?_range_eq_some, List.mem_range, State.LowestFreeSlot, Config.visits, List.all_eq_true,
    bne_iff_ne, Bool.not_eq_true', List.all_eq_false, ne_eq, not_not, and_left_comm]

/-- R71: what the party of a passage adds to the count of zone `z`. -/
def enters (target party z : Nat) : Nat := if z = target ∧ 1 ≤ z ∧ z ≤ 15 then party else 0

theorem State.zone_enterZone (target party z : Nat) (s : State) :
    (s.enterZone target party).zone z = { s.zone z with count := (s.zone z).count + enters target party z } := by
  unfold State.enterZone enters
  rw [State.zone_updZone]
  by_cases own : z = target
  · subst own
    split <;> rfl
  · rw [if_neg (fun h => own h.1), if_neg (fun h => own h.1)]
    rfl

/-- R77: all that the application of a CREATE does. -/
structure State.CreatesVisit (g : Passage) (slot : Nat) (s w u : State) : Prop where
  register : u.register = { s.register with
    visits := s.register.visits ++ [s.newVisit g slot], zones := u.register.zones }
  zones : ∀ z, u.zone z = { s.zone z with count := (s.zone z).count + enters g.target g.party z }
  own : u.tenant g.tenant = (s.tenant g.tenant).map (fun r => { r with visit := some slot })
  tenants : ∀ j, j ≠ g.tenant → u.tenant j = s.tenant j
  shown : u.peek 32 2 = bytesOf 2 (s.register.visits.length + 1)
  holds : (s.grantsOf g.tenant).Nodup →
    s.MovesHolds (s.grantsOf g.tenant) none (if HoldsUnits g.standing then some g.target else none) u
  quiet : (s.grantsOf g.tenant).Nodup →
    s.NoUnitIn (s.grantsOf g.tenant) none (if HoldsUnits g.standing then some g.target else none) →
    u.bus = w.bus ∧ u.journal = w.journal
  frame : s.OnlyVisits u

/-- R77: the visit stands in the list, with its tenant and in its zone, before its holds are gained. -/
def State.enlisted (g : Passage) (slot : Nat) (s : State) : State :=
  (State.updTenant g.tenant (fun t => { t with visit := some slot })
    { s with register := { s.register with visits := s.register.visits ++ [s.newVisit g slot] } }).enterZone g.target g.party

theorem State.applyCreate_eq {g : Passage} {slot : Nat} {s : State} (free : s.freeSlot = some slot) : s.applyCreate g =
    (if g.standing.holds then (s.enlisted g slot).gainHolds g.tenant g.target else s.enlisted g slot).mirrorVisits := by
  unfold State.applyCreate
  rw [free]
  rfl

/-- R71, R77: the visit in the list, with its tenant and in its zone. -/
theorem State.enlisted_spec (g : Passage) (slot : Nat) (s : State) :
    let e := s.enlisted g slot
    e = { s with
        tenants := e.tenants
        register := { s.register with visits := s.register.visits ++ [s.newVisit g slot], zones := e.register.zones } } ∧
      e.tenant g.tenant = (s.tenant g.tenant).map (fun r => { r with visit := some slot }) ∧
      (∀ j, j ≠ g.tenant → e.tenant j = s.tenant j) ∧
      ∀ z, e.zone z = { s.zone z with count := (s.zone z).count + enters g.target g.party z } := by
  dsimp only
  unfold State.enlisted
  have own := State.tenant_updTenant_self g.tenant (fun t => { t with visit := some slot })
    { s with register := { s.register with visits := s.register.visits ++ [s.newVisit g slot] } }
  have others (j : Nat) (other : j ≠ g.tenant) := State.tenant_updTenant_ne other (fun t => { t with visit := some slot })
    { s with register := { s.register with visits := s.register.visits ++ [s.newVisit g slot] } }
  have first := (State.updTenant_frame g.tenant (fun t => { t with visit := some slot })
    { s with register := { s.register with visits := s.register.visits ++ [s.newVisit g slot] } }).eq
  generalize State.updTenant g.tenant (fun t => { t with visit := some slot }) _ = a at own others first
  have second := (State.enterZone_frame g.target g.party a).eq
  have register := State.register_updZone g.target (fun r => { r with count := r.count + g.party }) a
  have zones (z : Nat) := State.zone_enterZone g.target g.party z a
  unfold State.enterZone at second zones ⊢
  generalize State.updZone g.target (fun r => { r with count := r.count + g.party }) a = b at second register zones
  have tenant (j : Nat) : b.tenant j = a.tenant j := by rw [second]; rfl
  refine ⟨?_, (tenant _).trans own, fun j other => (tenant j).trans (others j other), fun z => (zones z).trans ?_⟩
  · rw [second, register, first]
  · rw [State.zone, first]
    rfl

theorem State.grantsOf_congr {s t : State} {j : Nat} (f : Tenant → Tenant) (keeps : ∀ r, (f r).grants = r.grants)
    (same : t.tenant j = (s.tenant j).map f) : t.grantsOf j = s.grantsOf j := by
  unfold State.grantsOf
  rw [same, Option.map_map]
  exact congrArg (fun o : Option (List Nat) => o.getD []) (congrFun (congrArg _ (funext keeps)) _)

theorem State.applyCreate_spec {g : Passage} {slot : Nat} {s w : State} (lowest : s.LowestFreeSlot slot)
    (journal : State.SameJournal w s) : s.CreatesVisit g slot w (s.applyCreate g) := by
  have frame : s.OnlyVisits (s.applyCreate g) := State.applyCreate_frame g s
  rw [State.applyCreate_eq (State.freeSlot_iff.2 lowest)] at frame ⊢
  obtain ⟨only, own, others, zones⟩ := State.enlisted_spec g slot s
  generalize s.enlisted g slot = e at frame only own others zones
  have grants : e.grantsOf g.tenant = s.grantsOf g.tenant := State.grantsOf_congr (fun r => { r with visit := some slot }) (fun _ => rfl) own
  have unit (u : Nat) : e.unit u = s.unit u := by rw [only]; rfl
  have told : State.SameJournal w e := journal.trans (by rw [only]; exact .refl s)
  have held : e.OnlyUnitMonitor (if g.standing.holds then e.gainHolds g.tenant g.target else e) := by
    split
    · exact State.gainHolds_frame _ _ _
    · simp [State.OnlyUnitMonitor]
  have holds (nodup : (s.grantsOf g.tenant).Nodup) :
      s.MovesHolds (s.grantsOf g.tenant) none (if HoldsUnits g.standing then some g.target else none)
        (if g.standing.holds then e.gainHolds g.tenant g.target else e) ∧
      (s.NoUnitIn (s.grantsOf g.tenant) none (if HoldsUnits g.standing then some g.target else none) →
        State.SameJournal w (if g.standing.holds then e.gainHolds g.tenant g.target else e)) := by
    by_cases holds : HoldsUnits g.standing
    · rw [if_pos holds, if_pos ((Standing.holds_iff _).2 holds)]
      obtain ⟨moves, entries⟩ := State.gainHolds_spec (z := g.target) (by rw [grants]; exact nodup) told
      rw [grants] at moves entries
      refine ⟨moves.congr unit, fun nowhere => ?_⟩
      rwa [State.holdGainEntries_idle (fun u listed x stands zone => (nowhere u listed x (by rw [← unit, stands])).2
        (by rw [zone]))] at entries
    · rw [if_neg holds, if_neg (fun h => holds ((Standing.holds_iff _).1 h))]
      exact ⟨(State.MovesHolds.none e _).congr unit, fun _ => told⟩
  generalize (if g.standing.holds then e.gainHolds g.tenant g.target else e) = h at frame held holds
  have heldEq := held.eq
  have mirrored := (State.mirrorVisits_frame h).eq
  have shown := State.peek_mirror (a := 32) (by decide) (bytesOf 2 h.register.visits.length) h
  rw [length_bytesOf, ← State.mirrorVisits_eq] at shown
  generalize h.mirrorVisits = u at frame mirrored shown
  have register : u.register = { s.register with
      visits := s.register.visits ++ [s.newVisit g slot], zones := e.register.zones } := by rw [mirrored, heldEq, only]
  have registerH : h.register = u.register := by rw [mirrored]
  have tenant (j : Nat) : u.tenant j = e.tenant j := by rw [mirrored, heldEq]; rfl
  have units : u.units = h.units := by rw [mirrored]
  refine ⟨by rw [register], fun z => ?_, (tenant _).trans own, fun j other => (tenant j).trans (others j other), ?_,
    fun nodup => ?_, fun nodup nowhere => ?_, frame⟩
  · rw [← zones z, State.zone, State.zone, register]
  · rw [shown, registerH, register, List.length_append]
    rfl
  · intro x
    rw [State.unit, units, ← State.unit]
    exact (holds nodup).1 x
  · obtain ⟨⟨-, bus, journal⟩, -⟩ := (holds nodup).2 nowhere
    rw [mirrored]
    exact ⟨bus, journal⟩

/-! ## A visit that moves (R78) -/

/-- R78: all that the application of a MOVE of the visit `v` does. -/
structure State.MovesVisit (g : Passage) (v : Visit) (s w u : State) : Prop where
  register : u.register = { s.register with
    visits := s.register.visits.map (fun x => if x.tenant = g.tenant then
      { x with zone := g.target, unconfirmed := if g.soft then x.unconfirmed else false } else x)
    zones := u.register.zones }
  zones : ∀ z, u.zone z = { s.zone z with count := (s.zone z).count - v.leaves z + enters g.target v.party z }
  tenants : u.tenants = s.tenants
  holds : (s.grantsOf g.tenant).Nodup →
    s.MovesHolds (s.grantsOf g.tenant) (if HoldsUnits v.standing ∧ v.zone ≠ g.target then some v.zone else none)
      (if HoldsUnits v.standing ∧ v.zone ≠ g.target then some g.target else none) u
  quiet : (s.grantsOf g.tenant).Nodup →
    s.NoUnitIn (s.grantsOf g.tenant) (if HoldsUnits v.standing ∧ v.zone ≠ g.target then some v.zone else none)
      (if HoldsUnits v.standing ∧ v.zone ≠ g.target then some g.target else none) → State.JournalOf w u
  frame : s.OnlyVisits u

/-- R78: the visit stands in its new zone, before its holds move. -/
def State.rezoned (g : Passage) (v : Visit) (s : State) : State :=
  ((s.leaveZone v.zone v.party).enterZone g.target v.party).updVisit g.tenant (fun v => { v with zone := g.target })

/-- R78: the holds of a visit that moves. -/
def State.moveVisitHolds (g : Passage) (v : Visit) (s : State) : State :=
  if v.standing.holds ∧ v.zone ≠ g.target then (s.loseHolds g.tenant v.zone).gainHolds g.tenant g.target else s

theorem State.applyMove_eq {g : Passage} {v : Visit} {s : State} (visit : s.visitOf g.tenant = some v) : s.applyMove g =
    if g.soft then (s.rezoned g v).moveVisitHolds g v
    else ((s.rezoned g v).moveVisitHolds g v).updVisit g.tenant (fun v => { v with unconfirmed := false }) := by
  unfold State.applyMove
  rw [visit]
  rfl

/-- R71, R78: the visit in its new zone. -/
theorem State.rezoned_spec (g : Passage) (v : Visit) (s : State) :
    let e := s.rezoned g v
    e = { s with register := { s.register with
        visits := s.register.visits.map (fun x => if x.tenant = g.tenant then { x with zone := g.target } else x)
        zones := e.register.zones } } ∧
      ∀ z, e.zone z = { s.zone z with count := (s.zone z).count - v.leaves z + enters g.target v.party z } := by
  dsimp only
  unfold State.rezoned
  have zones₁ (z : Nat) := State.zone_leaveZone v z s
  have zones₂ (z : Nat) := State.zone_enterZone g.target v.party z (s.leaveZone v.zone v.party)
  have register₁ := State.register_updZone v.zone (fun r => { r with count := r.count - v.party }) s
  have frame₁ := (State.updZone_frame v.zone (fun r => { r with count := r.count - v.party }) s).eq
  have register₂ := State.register_updZone g.target (fun r => { r with count := r.count + v.party }) (s.leaveZone v.zone v.party)
  have frame₂ := (State.updZone_frame g.target (fun r => { r with count := r.count + v.party }) (s.leaveZone v.zone v.party)).eq
  unfold State.leaveZone State.enterZone at *
  generalize State.updZone v.zone (fun r => { r with count := r.count - v.party }) s = a at *
  generalize State.updZone g.target (fun r => { r with count := r.count + v.party }) a = b at *
  refine ⟨?_, fun z => ?_⟩
  · unfold State.updVisit
    rw [frame₂, register₂, frame₁, register₁]
  · have same : (b.updVisit g.tenant (fun v => { v with zone := g.target })).zone z = b.zone z := rfl
    rw [same, zones₂, zones₁]

theorem State.applyMove_spec {g : Passage} {v : Visit} {s w : State} (visit : s.visitOf g.tenant = some v)
    (journal : State.SameJournal w s) : s.MovesVisit g v w (s.applyMove g) := by
  have frame : s.OnlyVisits (s.applyMove g) := State.applyMove_frame g s
  rw [State.applyMove_eq visit] at frame ⊢
  obtain ⟨only, zones⟩ := State.rezoned_spec g v s
  generalize s.rezoned g v = e at frame only zones
  have grants : e.grantsOf g.tenant = s.grantsOf g.tenant := by rw [only]; rfl
  have unit (u : Nat) : e.unit u = s.unit u := by rw [only]; rfl
  have told : State.SameJournal w e := journal.trans (by rw [only]; exact .refl s)
  have held : e.OnlyUnitMonitor (e.moveVisitHolds g v) := by
    unfold State.moveVisitHolds
    split
    · exact (State.loseHolds_frame _ _ _).trans (State.gainHolds_frame _ _ _)
    · simp [State.OnlyUnitMonitor]
  have holds (nodup : (s.grantsOf g.tenant).Nodup) :
      s.MovesHolds (s.grantsOf g.tenant) (if HoldsUnits v.standing ∧ v.zone ≠ g.target then some v.zone else none)
        (if HoldsUnits v.standing ∧ v.zone ≠ g.target then some g.target else none) (e.moveVisitHolds g v) ∧
      (s.NoUnitIn (s.grantsOf g.tenant) (if HoldsUnits v.standing ∧ v.zone ≠ g.target then some v.zone else none)
        (if HoldsUnits v.standing ∧ v.zone ≠ g.target then some g.target else none) →
        State.SameJournal w (e.moveVisitHolds g v)) := by
    unfold State.moveVisitHolds
    by_cases moves : HoldsUnits v.standing ∧ v.zone ≠ g.target
    · rw [if_pos moves, if_pos moves, if_pos ⟨(Standing.holds_iff _).2 moves.1, moves.2⟩]
      obtain ⟨shifts, entries⟩ := State.shiftHolds_spec (by rw [grants]; exact nodup) told moves.2
      rw [grants] at shifts entries
      refine ⟨shifts.congr unit, fun nowhere => entries (fun u listed x stands => ?_)⟩
      obtain ⟨old, new⟩ := nowhere u listed x (by rw [← unit, stands])
      exact ⟨fun zone => old (by rw [zone]), fun zone => new (by rw [zone])⟩
    · rw [if_neg moves, if_neg moves, if_neg (fun h => moves ⟨(Standing.holds_iff _).1 h.1, h.2⟩)]
      exact ⟨(State.MovesHolds.none e _).congr unit, fun _ => told⟩
  generalize e.moveVisitHolds g v = h at frame held holds
  have heldEq := held.eq
  obtain ⟨u, put⟩ : ∃ u, u = if g.soft then h else h.updVisit g.tenant (fun v => { v with unconfirmed := false }) := ⟨_, rfl⟩
  have final : u = { h with register := u.register } := by
    rw [put]
    split <;> rfl
  have register : u.register = { s.register with
      visits := s.register.visits.map (fun x => if x.tenant = g.tenant then
        { x with zone := g.target, unconfirmed := if g.soft then x.unconfirmed else false } else x)
      zones := e.register.zones } := by
    have registerH : h.register = e.register := by rw [heldEq]
    have registerE : e.register = { s.register with
        visits := s.register.visits.map (fun x => if x.tenant = g.tenant then { x with zone := g.target } else x)
        zones := e.register.zones } := by rw [only]
    rw [put]
    by_cases soft : g.soft = true
    · simp only [soft, if_true]
      rw [registerH, registerE]
    · simp only [soft, Bool.false_eq_true, if_false]
      unfold State.updVisit
      rw [registerH, registerE]
      simp only [List.map_map]
      refine congrArg (fun vs => ({ s.register with visits := vs, zones := e.register.zones } : Register)) ?_
      refine List.map_congr_left (fun x _ => ?_)
      by_cases own : x.tenant = g.tenant <;> simp [own]
  rw [← put] at frame ⊢
  have units : u.units = h.units := by rw [final]
  refine ⟨by rw [register], fun z => ?_, by rw [final, heldEq, only], fun nodup x => ?_, fun nodup nowhere => ?_, frame⟩
  · rw [← zones z, State.zone, State.zone, register]
  · rw [State.unit, units, ← State.unit]
    exact (holds nodup).1 x
  · obtain ⟨told, -⟩ := (holds nodup).2 nowhere
    rw [final]
    exact told

end Sys2Proof.Machine
end

section
/-! A passage that is applied, pending or at once (R76 to R80, R111, R112). -/

namespace Sys2Proof.Machine

/-- R77, R78: what stands before the application of a passage: a pending one has left its list, with its link cleared and its
reservation undone. -/
structure State.Prepares (pending : Bool) (g : Passage) (s a : State) : Prop where
  own : a.tenant g.tenant = (s.tenant g.tenant).map (fun r => { r with transit := if pending then none else r.transit })
  tenants : ∀ j, j ≠ g.tenant → a.tenant j = s.tenant j
  register : a.register = { s.register with
    zones := a.register.zones, creating := s.register.creating - if pending then creationsIn [g] else 0 }
  zones : ∀ z, a.zone z = { s.zone z with reserved := (s.zone z).reserved - if pending then reservedIn z [g] else 0 }
  only : a = { s with portals := a.portals, tenants := a.tenants, register := a.register }
  finish : g.kind = .finish → a.register = s.register

theorem State.Prepares.atOnce (g : Passage) (s : State) : s.Prepares false g s where
  own := by simp
  tenants _ _ := rfl
  register := rfl
  zones _ := rfl
  only := rfl
  finish _ := rfl

theorem State.Prepares.listed (p : Nat) (g : Passage) (s : State) : s.Prepares true g ((s.unlist p g).unreserve g) := by
  have unlinks := State.unlist_unlinks p g s
  have only₁ : s.unlist p g = { s with portals := (s.unlist p g).portals, tenants := (s.unlist p g).tenants } := by
    unfold State.unlist
    generalize moved : s.updPortal p (fun r => { r with passages := r.passages.filter (fun h => h.tenant != g.tenant) }) = m
    have first : m = { s with portals := m.portals } := by rw [← moved]; rfl
    have second := (State.updTenant_frame g.tenant (fun t => { t with transit := none }) m).eq
    rw [second]
    rw [first]
  generalize s.unlist p g = a at unlinks only₁
  obtain ⟨register, zones⟩ := State.unreserve_unreserves g a
  have only₂ := (State.unreserve_frame g a).eq
  have finish (kind : g.kind = .finish) : (a.unreserve g).register = s.register := by
    unfold State.unreserve
    rw [kind, only₁]
  generalize a.unreserve g = b at register zones only₂ finish
  have tenant (j : Nat) : b.tenant j = a.tenant j := by rw [only₂]; rfl
  refine ⟨?_, fun j other => ?_, ?_, fun z => ?_, ?_, finish⟩
  · rw [tenant, unlinks]
    simp
  · rw [tenant, unlinks]
    simp [other]
  · rw [register, only₁]
    simp
  · rw [zones, State.zone, only₁]
    rfl
  · rw [only₂, only₁]

/-- A passage of which no mark depends on the state but for the slot. -/
theorem State.logPassage_journal {p : Nat} {g : Passage} {pending : Bool} {w a : State} (journal : State.SameJournal w a) :
    State.SameJournal (w.passageEntry p pending g (a.slotFor g)) (a.logPassage p (!pending) g) := by
  unfold State.passageEntry State.logPassage
  have mark : (if (!pending) = true then 4 else 0) = if pending = true then 0 else 4 := by cases pending <;> rfl
  rw [mark]
  exact journal.log _ _ _ _

/-- R76: the application of a passage changes no other tenant. -/
theorem State.completePassage_tenant_ne {g : Passage} {j : Nat} (other : j ≠ g.tenant) (s : State) :
    (s.completePassage g).tenant j = s.tenant j := by
  unfold State.completePassage
  cases g.kind with
  | create =>
    cases free : s.freeSlot with
    | none =>
      unfold State.applyCreate
      rw [free]
    | some slot => exact (State.applyCreate_spec (State.freeSlot_iff.1 free) (.refl s)).tenants j other
  | move =>
    cases visit : s.visitOf g.tenant with
    | none =>
      unfold State.applyMove
      rw [visit]
    | some v =>
      have same := (State.applyMove_spec visit (.refl s)).tenants
      exact congrArg (Table.find j) same
  | finish =>
    cases visit : s.visitOf g.tenant with
    | none =>
      unfold State.endVisit
      rw [visit]
    | some v => exact (State.endVisit_spec .passage visit).1.tenants j other

section
variable {p : Nat} {g : Passage} {pending : Bool} {s a : State} {P : Table Portal} {N : Table Node} {R : List Read}

/-- R77: the visit that a CREATE forms. -/
theorem State.Prepares.newVisit (h : s.Prepares pending g a) {b : State}
    (logged : b = { a with mem := b.mem, bus := b.bus, journal := b.journal }) (slot : Nat) :
    let x := s.tenant g.tenant
    let deadline := s.deadlineFor ((x.map (fun r => r.staff)).getD false) ((x.map (fun r => r.profile)).getD 0)
    b.newVisit g slot =
      { slot := slot, tenant := g.tenant, credential := g.key, party := g.party, zone := g.target,
        entry := s.clock.minute, deadline := deadline, warning := s.warningFor deadline,
        standing := g.standing, state := .active, unconfirmed := g.soft } := by
  have own : b.tenant g.tenant = a.tenant g.tenant := by rw [logged]; rfl
  have only := h.only
  have deadline (staff : Bool) (profile : Nat) : b.deadlineFor staff profile = s.deadlineFor staff profile := by
    rw [logged, only]
    rfl
  have warning (d : Option Nat) : b.warningFor d = s.warningFor d := by
    rw [logged, only]
    rfl
  have clock : b.clock = s.clock := by rw [logged, only]
  dsimp only
  unfold State.newVisit
  rw [own, h.own]
  simp only [deadline, warning, clock]
  cases s.tenant g.tenant <;> rfl

theorem State.Prepares.visitOf (h : s.Prepares pending g a) {b : State}
    (logged : b = { a with mem := b.mem, bus := b.bus, journal := b.journal }) (j : Nat) : b.visitOf j = s.visitOf j := by
  have register : b.register = a.register := by rw [logged]
  rw [State.visitOf, register, h.register]
  rfl

/-- R76 to R80: a passage is applied; `P`, `N` and `R` stand for the portals, nodes and reads, which the application does not
read. -/
theorem State.Prepares.applies (h : s.Prepares pending g a) :
    State.AppliesPassage p pending g { s with portals := P, nodes := N, reads := R }
      { ((a.logPassage p (!pending) g).completePassage g) with portals := P, nodes := N, reads := R } := by
  have only := h.only
  have logged : a.logPassage p (!pending) g = { a with
      mem := (a.logPassage p (!pending) g).mem, bus := (a.logPassage p (!pending) g).bus
      journal := (a.logPassage p (!pending) g).journal } := (State.log_frame _ _ _ _ a).blocks
  have journal : State.SameJournal (State.passageEntry p pending g (a.slotFor g) { s with portals := P, nodes := N, reads := R })
      (a.logPassage p (!pending) g) := State.logPassage_journal (by rw [only]; exact ⟨⟨rfl, rfl, rfl⟩, rfl, rfl⟩)
  have quiet := State.log_frame .passage (some p) (some g.tenant) (bytesOf 1 g.kind.code ++ bytesOf 1 g.party ++
    bytesOf 1 g.target ++ bytesOf 1 (g.head.code + (if g.soft then 2 else 0) + (if (!pending) = true then 4 else 0)) ++
    bytesOfOption 2 (a.slotFor g)) a
  change State.OnlyJournal a (a.logPassage p (!pending) g) at quiet
  generalize a.logPassage p (!pending) g = b at logged journal quiet
  have tenant (j : Nat) : b.tenant j = a.tenant j := by rw [logged]; rfl
  have zone (z : Nat) : b.zone z = a.zone z := by rw [logged]; rfl
  have register : b.register = a.register := by rw [logged]
  have unit (u : Nat) : b.unit u = s.unit u := by rw [logged, only]; rfl
  have grants : b.grantsOf g.tenant = s.grantsOf g.tenant := by
    rw [State.grantsOf, tenant, h.own]
    unfold State.grantsOf
    cases s.tenant g.tenant <;> rfl
  have slots : a.slotFor g = b.slotFor g := by
    unfold State.slotFor State.freeSlot State.visitOf
    rw [register]
  have visit := h.visitOf logged g.tenant
  have frame := State.completePassage_frame g b
  have around : State.OnlyVisits { s with portals := P, nodes := N, reads := R }
      { (b.completePassage g) with portals := P, nodes := N, reads := R } := by
    obtain ⟨run, mask, refusal, settings, slips, creds, clock, profiles, holidays, -, -, cars, lines, -, mode, revision, pending⟩ :=
      frame
    obtain ⟨run', mask', refusal', -⟩ := quiet
    have busA : a.bus = s.bus := by rw [only]
    rw [busA] at run' mask' refusal'
    exact ⟨run.trans run', mask.trans mask', refusal.trans refusal', settings.trans (by rw [logged, only]),
      slips.trans (by rw [logged, only]), creds.trans (by rw [logged, only]), clock.trans (by rw [logged, only]),
      profiles.trans (by rw [logged, only]), holidays.trans (by rw [logged, only]), rfl, rfl, cars.trans (by rw [logged, only]),
      lines.trans (by rw [logged, only]), rfl, mode.trans (by rw [logged, only]), revision.trans (by rw [logged, only]),
      pending.trans (by rw [logged, only])⟩
  have others (j : Nat) (other : j ≠ g.tenant) : (b.completePassage g).tenant j = s.tenant j := by
    rw [State.completePassage_tenant_ne other, tenant, h.tenants j other]
  have visits : b.register.visits = s.register.visits := by rw [register, h.register]
  have zoneB (z : Nat) : b.zone z = { s.zone z with
      reserved := (s.zone z).reserved - if pending then reservedIn z [g] else 0 } := by rw [zone, h.zones]
  have nodupB (nodup : (s.grantsOf g.tenant).Nodup) : (b.grantsOf g.tenant).Nodup := by rwa [grants]
  have nowhereB (old new : Option Nat) (nowhere : s.NoUnitIn (s.grantsOf g.tenant) old new) :
      b.NoUnitIn (b.grantsOf g.tenant) old new := by
    rw [grants]
    exact fun x listed r stands => nowhere x listed r ((unit x).symm.trans stands)
  unfold State.AppliesPassage
  refine ⟨around, others, ?_⟩
  cases kind : g.kind with
  | create =>
    intro slot lowest
    have lowestB : b.LowestFreeSlot slot := by
      unfold State.LowestFreeSlot
      rw [visits]
      exact lowest
    have named : a.slotFor g = some slot := by
      rw [slots, State.slotFor, kind]
      exact State.freeSlot_iff.2 lowestB
    rw [named] at journal
    have runs : b.completePassage g = b.applyCreate g := by rw [State.completePassage, kind]
    have creates := State.applyCreate_spec (g := g) lowestB journal
    have new := h.newVisit logged slot
    rw [runs]
    generalize b.applyCreate g = u at creates
    obtain ⟨register', zones, own, -, shown, holds, quiet', -⟩ := creates
    have one : creationsIn [g] = 1 := by simp [creationsIn, kind]
    refine ⟨?_, fun z => ?_, ?_, ?_, fun nodup => ⟨?_, fun nowhere => quiet' (nodupB nodup) (nowhereB _ _ nowhere)⟩⟩
    · rw [new] at register'
      refine register'.trans ?_
      rw [register, h.register, one]
      cases pending <;> rfl
    · refine (zones z).trans ?_
      rw [zoneB]
      rfl
    · refine own.trans ?_
      rw [tenant, h.own, Option.map_map]
      rfl
    · refine shown.trans ?_
      rw [visits]
    · have moves := (holds (nodupB nodup)).congr unit
      rw [grants] at moves
      exact moves
  | move =>
    intro v found
    have foundB : b.visitOf g.tenant = some v := visit.trans found
    have named : a.slotFor g = some v.slot := by
      rw [slots, State.slotFor, kind]
      dsimp only
      rw [foundB]
      rfl
    rw [named] at journal
    have runs : b.completePassage g = b.applyMove g := by rw [State.completePassage, kind]
    have moves := State.applyMove_spec foundB journal
    rw [runs]
    generalize b.applyMove g = u at moves
    obtain ⟨register', zones, tenants, holds, quiet', -⟩ := moves
    have none_ : creationsIn [g] = 0 := by simp [creationsIn, kind]
    refine ⟨?_, fun z => ?_, ?_, fun nodup => ⟨?_, fun nowhere => quiet' (nodupB nodup) (nowhereB _ _ nowhere)⟩⟩
    · refine register'.trans ?_
      rw [register, h.register, none_]
      cases pending <;> rfl
    · refine (zones z).trans ?_
      have leaves : v.leaves z = if z = v.zone ∧ 1 ≤ z ∧ z ≤ 15 then v.party else 0 := by
        simp only [Visit.leaves, eq_comm]
      rw [zoneB, leaves]
      rfl
    · refine (congrArg (Table.find g.tenant) tenants).trans ?_
      exact (tenant g.tenant).trans h.own
    · have moves := (holds (nodupB nodup)).congr unit
      rw [grants] at moves
      exact moves
  | finish =>
    have runs : b.completePassage g = b.endVisit g.tenant .passage := by rw [State.completePassage, kind]
    have whole : b.register = s.register := register.trans (h.finish kind)
    have named : a.slotFor g = (s.visitOf g.tenant).map (fun v => v.slot) := by
      rw [slots, State.slotFor, kind]
      dsimp only
      rw [visit]
    have none_ (z : Nat) : reservedIn z [g] = 0 := by simp [reservedIn_one, kind]
    rw [runs]
    refine ⟨fun absent => ?_, fun v found => ?_⟩
    · have idle : b.endVisit g.tenant .passage = b := by
        unfold State.endVisit
        rw [visit, show s.visitOf g.tenant = none from absent]
      rw [named, show s.visitOf g.tenant = none from absent] at journal
      rw [idle]
      exact ⟨whole, by rw [logged, only], journal.1, (tenant g.tenant).trans h.own⟩
    · have foundB : b.visitOf g.tenant = some v := visit.trans found
      rw [named, show s.visitOf g.tenant = some v from found] at journal
      obtain ⟨ends, units, tells⟩ := State.endVisit_spec .passage foundB
      generalize b.endVisit g.tenant .passage = u at ends units tells
      obtain ⟨register', zones, own, -, shown, -⟩ := ends
      refine ⟨?_, fun z => ?_, ?_, shown, fun nodup => ?_⟩
      · refine register'.trans ?_
        rw [whole]
      · refine (zones z).trans ?_
        rw [zoneB, none_]
        have leaves : v.leaves z = if z = v.zone ∧ 1 ≤ z ∧ z ≤ 15 then v.party else 0 := by
          simp only [Visit.leaves, eq_comm]
        rw [leaves]
        cases pending <;> rfl
      · refine own.trans ?_
        rw [tenant, h.own, Option.map_map]
        rfl
      · obtain ⟨moves, entries⟩ := State.endHolds_spec v (nodupB nodup) journal
        refine ⟨fun x => ?_, fun nowhere => ?_⟩
        · have same : u.unit x = (b.endHolds g.tenant v).unit x := by rw [State.unit, units, State.unit]
          have moved := moves.congr unit x
          rw [grants] at moved
          exact same.trans moved
        · have idle : b.endedEntries g.tenant v (State.passageEntry p pending g (some v.slot)
              { s with portals := P, nodes := N, reads := R }) =
              State.passageEntry p pending g (some v.slot) { s with portals := P, nodes := N, reads := R } := by
            unfold State.endedEntries
            split
            · next holds =>
              exact State.holdLossEntries_idle (fun x listed r stands zone => (nowhereB _ _ nowhere x listed r stands).1
                (by rw [if_pos holds, zone]))
            · rfl
          have told := tells _ entries
          rw [Option.map_some, idle] at told
          obtain ⟨⟨-, bus, journal'⟩, -⟩ := told
          have clock : b.clock = s.clock := by rw [logged, only]
          have ended : State.visitEndEntry g.tenant EndReason.passage.code b.clock.minute v
              (State.passageEntry p pending g (some v.slot) { s with portals := P, nodes := N, reads := R }) =
              (State.passageEntry p pending g (some v.slot) { s with portals := P, nodes := N, reads := R }).log .visitEnd
                (some v.slot) (some g.tenant)
                (bytesOf 1 (16 * v.party) ++ bytesOf 1 (v.zone + 16 * v.state.code + (if v.unconfirmed then 64 else 0)) ++
                  bytesOf 2 (min 65535 (s.clock.minute - v.entry)) ++
                  bytesOf 2 (min 65535 (s.clock.minute - v.deadline.getD s.clock.minute))) := by
            unfold State.visitEndEntry
            rw [clock, show EndReason.passage.code = 0 from rfl, Nat.zero_add]
          rw [ended] at bus journal'
          have mirrored := State.mirror_frame 32 (bytesOf 2 (b.register.visits.filter (fun w => w.tenant != g.tenant)).length)
            (State.log .visitEnd (some v.slot) (some g.tenant)
              (bytesOf 1 (16 * v.party) ++ bytesOf 1 (v.zone + 16 * v.state.code + (if v.unconfirmed then 64 else 0)) ++
                bytesOf 2 (min 65535 (s.clock.minute - v.entry)) ++
                bytesOf 2 (min 65535 (s.clock.minute - v.deadline.getD s.clock.minute)))
              (State.passageEntry p pending g (some v.slot) { s with portals := P, nodes := N, reads := R }))
          rw [mirrored.eq] at bus journal'
          exact ⟨bus, journal'⟩

end

end Sys2Proof.Machine
end

section
/-! The placing of grants at portals (R74, R111). -/

namespace Sys2Proof.Machine

/-- R74: one passage is reserved for. -/
theorem State.reserve_reserves (g : Passage) (s : State) : s.Reserves g (s.reserve g) := by
  have zones (y : Nat) (h : g.kind ≠ .finish) :
      (s.updZone g.target (fun r => { r with reserved := r.reserved + g.party })).zone y =
        { s.zone y with reserved := (s.zone y).reserved + reservedIn y [g] } := by
    rw [State.zone_updZone, reservedIn_one]
    by_cases target : y = g.target ∧ 1 ≤ g.target ∧ g.target ≤ 15
    · rw [if_pos target, if_pos ⟨target.1, target.2.1, target.2.2, h⟩]
    · rw [if_neg target, if_neg (fun k => target ⟨k.1, k.2.1, k.2.2.1⟩)]
      rfl
  have register := State.register_updZone g.target (fun r => { r with reserved := r.reserved + g.party }) s
  unfold State.reserve State.Reserves
  cases kind : g.kind with
  | create =>
    refine ⟨?_, fun y => zones y (by simp [kind])⟩
    dsimp only
    generalize s.updZone g.target _ = t at register ⊢
    rw [register]
    simp [creationsIn, kind]
  | move =>
    refine ⟨?_, fun y => zones y (by simp [kind])⟩
    dsimp only
    generalize s.updZone g.target _ = t at register ⊢
    rw [register]
    simp [creationsIn, kind]
  | finish => exact ⟨by simp [creationsIn, kind], fun y => by simp [reservedIn_one, kind]⟩

/-- R74, R111: from `s` to `t` a passage has come to be pending at portal `p`, whose record is then `x`: the tenant is linked to
it and the register's reservation made; a portal that it releases hands its node the command. -/
structure State.Lists (p : Nat) (g : Passage) (x : Portal) (s t : State) : Prop where
  record : t.portal p = x
  others : ∀ q, q ≠ p → t.portal q = s.portal q
  reserves : s.Reserves g t
  own : t.tenant g.tenant = (s.tenant g.tenant).map (fun r => { r with transit := some p })
  tenants : ∀ j, j ≠ g.tenant → t.tenant j = s.tenant j
  only : t = { s with portals := t.portals, tenants := t.tenants, register := t.register, nodes := t.nodes }

/-- R111: a passage joins the list. -/
theorem State.appendPassage_spec {p : Nat} {c : PortalConfig} (g : Passage) {s : State} (config : (s.portal p).config = some c)
    (unlock : 1 ≤ c.unlock) :
    s.Lists p g { s.portal p with passages := (s.portal p).passages ++ [g], passageTimer := .running c.unlock }
      (s.appendPassage p g) ∧ (s.appendPassage p g).nodes = s.nodes := by
  have joined : (s.portal p).startPassage.passageTimer = .running c.unlock := by
    simp [Portal.startPassage, config, Timer.set_pos unlock]
  have record : (s.updPortal p (fun r => { r with passages := r.passages ++ [g] }.startPassage)).portal p =
      { s.portal p with passages := (s.portal p).passages ++ [g], passageTimer := .running c.unlock } := by
    rw [State.portal_updPortal_self, ← joined]
    rfl
  have others (q : Nat) (other : q ≠ p) :
      (s.updPortal p (fun r => { r with passages := r.passages ++ [g] }.startPassage)).portal q = s.portal q :=
    State.portal_updPortal_ne other _ s
  have only₁ : s.updPortal p (fun r => { r with passages := r.passages ++ [g] }.startPassage) = { s with
      portals := (s.updPortal p (fun r => { r with passages := r.passages ++ [g] }.startPassage)).portals } := rfl
  unfold State.appendPassage
  generalize s.updPortal p _ = a at record others only₁ ⊢
  have own := State.tenant_updTenant_self g.tenant (fun t => { t with transit := some p }) a
  have tenants (j : Nat) (other : j ≠ g.tenant) :=
    State.tenant_updTenant_ne other (fun t => { t with transit := some p }) a
  have only₂ := (State.updTenant_frame g.tenant (fun t => { t with transit := some p }) a).eq
  generalize a.updTenant g.tenant _ = b at own tenants only₂ ⊢
  obtain ⟨register, zones⟩ := State.reserve_reserves g b
  have only₃ := (State.reserve_frame g b).eq
  generalize b.reserve g = d at register zones only₃ ⊢
  have tenant (j : Nat) : d.tenant j = b.tenant j := by rw [only₃]; rfl
  have portals : d.portals = a.portals := by rw [only₃, only₂]
  have nodes : d.nodes = s.nodes := by rw [only₃, only₂, only₁]
  refine ⟨⟨?_, fun q other => ?_, ⟨?_, fun z => ?_⟩, ?_, fun j other => ?_, ?_⟩, nodes⟩
  · rw [State.portal, portals]
    exact record
  · rw [State.portal, portals]
    exact others q other
  · rw [register, only₂, only₁]
  · rw [zones, State.zone, only₂, only₁]
    rfl
  · rw [tenant, own, State.tenant, only₁]
    rfl
  · rw [tenant, tenants j other, State.tenant, only₁]
    rfl
  · rw [only₃, only₂, only₁]

/-- R111: where a passage waits for the door: in SECURE and RELEASED, and in HELD_UNLOCKED while the door is not open. -/
abbrev Portal.Waits (r : Portal) : Prop :=
  r.state = .secure ∨ r.state = .released ∨ (r.state = .heldUnlocked ∧ r.door ≠ .opened)

/-- R111: a first grant at a portal in SECURE, RELEASED or HELD_UNLOCKED with the door not open. -/
theorem State.placePassage_listed {p : Nat} {c : PortalConfig} (g : Passage) {s : State}
    (config : (s.portal p).config = some c) (unlock : 1 ≤ c.unlock) (waits : (s.portal p).Waits) :
    let listed : Portal := { s.portal p with
      passages := (s.portal p).passages ++ [g], passageTimer := .running c.unlock }
    s.Lists p g (if (s.portal p).state = .secure then
        s.withCommandOf c { listed with state := .released, holdTimer := .stopped } else listed) (s.placePassage p g) ∧
      ∀ m, (s.placePassage p g).node m = if (s.portal p).state = .secure ∧ m.code = c.node.code then
          (s.node m).map (fun n => { n with lock := ((s.placePassage p g).portal p).command, polarity := c.polarity })
        else s.node m := by
  dsimp only
  by_cases secure : (s.portal p).state = .secure
  · have placed : s.placePassage p g =
        ((s.updPortal p (fun r => r.enter .released)).appendPassage p g).handLock p := by
      unfold State.placePassage
      dsimp only
      rw [secure] <;> rfl
    have entered : (s.updPortal p (fun r => r.enter .released)).portal p =
        { s.portal p with state := .released, holdTimer := .stopped } := by
      rw [State.portal_updPortal_self]
      rfl
    obtain ⟨appends, nodes⟩ := State.appendPassage_spec g (p := p) (c := c)
      (s := s.updPortal p (fun r => r.enter .released)) (by rw [entered]; exact config) unlock
    rw [entered] at appends
    have others (q : Nat) (other : q ≠ p) : (s.updPortal p (fun r => r.enter .released)).portal q = s.portal q :=
      State.portal_updPortal_ne other _ s
    have only : s.updPortal p (fun r => r.enter .released) =
      { s with portals := (s.updPortal p (fun r => r.enter .released)).portals } := rfl
    rw [placed]
    generalize s.updPortal p _ = a at appends nodes others only ⊢
    generalize a.appendPassage p g = b at appends nodes ⊢
    have config' : (b.portal p).config = some c := by rw [appends.record]; exact config
    have hand := State.node_handLock config'
    have turns := (State.Turns.start p (State.SameJournal.refl b)).handLock config'
    have only' := State.handLock_only p b
    generalize b.handLock p = t at hand turns only' ⊢
    have mode : b.mode = s.mode := by rw [appends.only, only]
    refine ⟨⟨?_, fun q other => ?_, ⟨?_, fun z => ?_⟩, ?_, fun j other => ?_, ?_⟩, fun m => ?_⟩
    · rw [turns.record, appends.record, if_pos secure, State.withCommandOf_congr mode]
    · rw [turns.others q other, appends.others q other, others q other]
    · rw [only', appends.reserves.1, only]
    · rw [State.zone, only']
      refine (appends.reserves.2 z).trans ?_
      rw [State.zone, only]
      rfl
    · rw [State.tenant, only']
      refine appends.own.trans ?_
      rw [State.tenant, only]
      rfl
    · rw [State.tenant, only']
      refine (appends.tenants j other).trans ?_
      rw [State.tenant, only]
      rfl
    · rw [only', appends.only, only]
    · have node : b.node m = s.node m := by rw [State.node, nodes, only]; rfl
      rw [hand, node]
      by_cases here : m.code = c.node.code
      · rw [if_pos here, if_pos ⟨secure, here⟩]
      · rw [if_neg here, if_neg (fun h => here h.2)]
  · have placed : s.placePassage p g = s.appendPassage p g := by
      unfold State.placePassage
      rcases waits with h | h | ⟨h, closed⟩
      · exact absurd h secure
      · dsimp only
        rw [h] <;> rfl
      · dsimp only
        rw [h]
        exact if_neg closed
    obtain ⟨appends, nodes⟩ := State.appendPassage_spec g config unlock
    rw [placed, if_neg secure]
    refine ⟨appends, fun m => ?_⟩
    rw [if_neg (fun h => secure h.1), State.node, nodes]
    rfl

/-- R111: a first grant at another portal in service is applied at once, the hold timer of OPEN restarted. -/
theorem State.placePassage_atOnce {p : Nat} {c : PortalConfig} (g : Passage) {s : State}
    (config : (s.portal p).config = some c) (hold : 1 ≤ c.hold) (serves : (s.portal p).state.inService = true)
    (open_ : ¬ (s.portal p).Waits) :
    ∃ a : State, s.placePassage p g = a.applyAtOnce p g ∧ a = { s with portals := a.portals } ∧
      (∀ q, q ≠ p → a.portal q = s.portal q) ∧
      a.portal p = if (s.portal p).state = .opened then { s.portal p with holdTimer := .running c.hold } else s.portal p := by
  unfold State.placePassage
  unfold Portal.Waits at open_
  dsimp only
  cases state : (s.portal p).state
  case opened =>
    refine ⟨s.updPortal p (fun r => r.startHold), rfl, rfl, fun q other => State.portal_updPortal_ne other _ s, ?_⟩
    rw [State.portal_updPortal_self, if_pos rfl]
    simp [Portal.startHold, config, Timer.set_pos hold, state]
  case held => exact ⟨s, rfl, rfl, fun _ _ => rfl, by rw [if_neg (by decide)]⟩
  case forced => exact ⟨s, rfl, rfl, fun _ _ => rfl, by rw [if_neg (by decide)]⟩
  case heldUnlocked =>
    have opened : (s.portal p).door = .opened := by
      by_contra closed
      exact open_ (.inr (.inr ⟨state, closed⟩))
    exact ⟨s, if_pos opened, rfl, fun _ _ => rfl, by rw [if_neg (by decide)]⟩
  case secure => exact absurd (.inl state) open_
  case released => exact absurd (.inr (.inl state)) open_
  case unconfigured => rw [state] at serves; exact absurd serves (by decide)
  case waiting => rw [state] at serves; exact absurd serves (by decide)
  case cooldown => rw [state] at serves; exact absurd serves (by decide)
  case faultDriver => rw [state] at serves; exact absurd serves (by decide)
  case faultOffline => rw [state] at serves; exact absurd serves (by decide)

end Sys2Proof.Machine
end

section
/-! DECISION takes the oldest read (chapter 3): O55. -/

namespace Sys2Proof.Machine

/-! ## What a placed grant leaves alone (R49, R111, R138) -/

theorem State.applyAtOnce_keeps (p : Nat) (g : Passage) (s : State) :
    (s.applyAtOnce p g).portals = s.portals ∧ (s.applyAtOnce p g).nodes = s.nodes := by
  have frame : s.OnlyVisits (s.applyAtOnce p g) := by
    unfold State.applyAtOnce
    simp [State.OnlyVisits]
  obtain ⟨-, -, -, -, -, -, -, -, -, -, portals, -, -, nodes, -⟩ := frame
  exact ⟨portals, nodes⟩

theorem State.appendPassage_keeps (p : Nat) (g : Passage) (s : State) :
    (s.appendPassage p g).nodes = s.nodes ∧ (∀ q, q ≠ p → (s.appendPassage p g).portal q = s.portal q) ∧
      ((s.appendPassage p g).portal p).config = (s.portal p).config := by
  have others (q : Nat) (other : q ≠ p) :
      (s.updPortal p (fun r => { r with passages := r.passages ++ [g] }.startPassage)).portal q = s.portal q :=
    State.portal_updPortal_ne other _ s
  have config : ((s.updPortal p (fun r => { r with passages := r.passages ++ [g] }.startPassage)).portal p).config =
      (s.portal p).config := by
    rw [State.portal_updPortal_self]
    rfl
  have nodes : (s.updPortal p (fun r => { r with passages := r.passages ++ [g] }.startPassage)).nodes = s.nodes := rfl
  unfold State.appendPassage
  generalize s.updPortal p _ = a at others config nodes ⊢
  have only₂ := (State.updTenant_frame g.tenant (fun t => { t with transit := some p }) a).eq
  generalize a.updTenant g.tenant _ = b at only₂ ⊢
  have only₃ := (State.reserve_frame g b).eq
  generalize b.reserve g = d at only₃ ⊢
  have portals : d.portals = a.portals := by rw [only₃, only₂]
  refine ⟨by rw [only₃, only₂, ← nodes], fun q other => ?_, ?_⟩
  · rw [← others q other, State.portal, portals]
    rfl
  · rw [← config, State.portal, portals]
    rfl

/-- R111: a grant at portal `p` changes no other portal and no node but that of `p`. -/
theorem State.placePassage_keeps {p : Nat} {c : PortalConfig} (g : Passage) {s : State} (config : (s.portal p).config = some c) :
    (∀ q, q ≠ p → (s.placePassage p g).portal q = s.portal q) ∧
      ∀ m, m.code ≠ c.node.code → (s.placePassage p g).node m = s.node m := by
  have appended := State.appendPassage_keeps p g s
  have applied := State.applyAtOnce_keeps p g s
  have node {t : State} (same : t.nodes = s.nodes) (m : NodeId) : t.node m = s.node m := by
    rw [State.node, same]
    rfl
  have listed : (∀ q, q ≠ p → (s.appendPassage p g).portal q = s.portal q) ∧
      ∀ m, m.code ≠ c.node.code → (s.appendPassage p g).node m = s.node m :=
    ⟨appended.2.1, fun m _ => node appended.1 m⟩
  have atOnce : (∀ q, q ≠ p → (s.applyAtOnce p g).portal q = s.portal q) ∧
      ∀ m, m.code ≠ c.node.code → (s.applyAtOnce p g).node m = s.node m :=
    ⟨fun q _ => by rw [State.portal, applied.1]; rfl, fun m _ => node applied.2 m⟩
  unfold State.placePassage
  dsimp only
  cases (s.portal p).state
  case secure =>
    obtain ⟨nodes, others, configs⟩ := State.appendPassage_keeps p g (s.updPortal p (fun r => r.enter .released))
    have config' : (((s.updPortal p (fun r => r.enter .released)).appendPassage p g).portal p).config = some c := by
      rw [configs, State.portal_updPortal_self]
      exact config
    refine ⟨fun q other => ?_, fun m elsewhere => ?_⟩
    · exact (State.handLock_portal_ne other _).trans ((others q other).trans (State.portal_updPortal_ne other _ s))
    · refine (State.node_handLock config' m).trans ?_
      rw [if_neg elsewhere]
      exact node nodes m
  case released => exact listed
  case heldUnlocked =>
    dsimp only
    split
    · exact atOnce
    · exact listed
  case opened =>
    obtain ⟨portals, nodes⟩ := State.applyAtOnce_keeps p g (s.updPortal p (fun r => r.startHold))
    refine ⟨fun q other => ?_, fun m _ => node nodes m⟩
    refine Eq.trans ?_ (State.portal_updPortal_ne other (fun r => r.startHold) s)
    exact congrArg (fun l => (Table.find q l).getD Portal.blank) portals
  case held => exact atOnce
  case forced => exact atOnce
  all_goals exact ⟨fun _ _ => rfl, fun _ _ => rfl⟩

/-! ## The floors of a car grant (R138, R144) -/

/-- R138: the release list with the tenant's entry at the newest position. -/
def Release.placedIn (list : List Release) (new : Release) : List Release :=
  if list.any (fun e => e.tenant == new.tenant) = true then list.filter (fun e => e.tenant != new.tenant) ++ [new]
  else if 4 ≤ list.length then list.tail ++ [new]
  else list ++ [new]

/-- R144: the entry that a grant displaces. -/
def Release.displacedFrom (list : List Release) (new : Release) : List Release :=
  if list.any (fun e => e.tenant == new.tenant) = true then [] else if 4 ≤ list.length then list.head?.toList else []

theorem State.placeRelease_spec {i tenant : Nat} {g : CarConfig} (floors : Word) {s w : State} (journal : State.SameJournal w s)
    (config : (s.car i).config = some g) :
    let new : Release := { tenant := tenant, floors := floors, timer := Timer.set s.settings.window }
    let after := new.placedIn (s.car i).releases
    s.CarTurns i { s.car i with releases := after }
        (w.releaseEntries i 1 (new.displacedFrom (s.car i).releases)) (s.placeRelease i tenant floors) ∧
      ∀ m, (s.placeRelease i tenant floors).node m = if m.code = g.node.code
        then (s.node m).map (Node.sentFloors s.mode.mode g after) else s.node m := by
  intro new after
  have start := State.CarTurns.start i journal
  have handed {t w' : State} {list : List Release} (turns : s.CarTurns i { s.car i with releases := list } w' t)
      (nodes : ∀ m, t.node m = s.node m) : s.CarTurns i { s.car i with releases := list } w' (t.handFloors i) ∧
        ∀ m, (t.handFloors i).node m = if m.code = g.node.code
          then (s.node m).map (Node.sentFloors s.mode.mode g list) else s.node m := by
    refine ⟨turns.handFloors, fun m => ?_⟩
    rw [State.node_handFloors (g := g) (by rw [turns.record]; exact config), nodes, turns.mode, turns.record]
  unfold State.placeRelease
  dsimp only
  have same (list : List Release) (m : NodeId) : (s.updCar i (fun r => { r with releases := list })).node m = s.node m := rfl
  by_cases own : (s.car i).releases.any (fun e => e.tenant == tenant) = true
  · have list : after = (s.car i).releases.filter (fun e => e.tenant != tenant) ++ [new] := if_pos own
    have none_ : new.displacedFrom (s.car i).releases = [] := if_pos own
    rw [if_pos own, list, none_]
    exact handed (start.updCar (fun r => { r with releases := (s.car i).releases.filter (fun e => e.tenant != tenant) ++ [new] }))
      (same _)
  · rw [if_neg own]
    by_cases full : 4 ≤ (s.car i).releases.length
    · have list : after = (s.car i).releases.tail ++ [new] := (if_neg own).trans (if_pos full)
      have displaced : new.displacedFrom (s.car i).releases = (s.car i).releases.head?.toList := (if_neg own).trans (if_pos full)
      rw [if_pos full, list, displaced]
      cases oldest : (s.car i).releases.head? with
      | none => exact handed (start.updCar (fun r => { r with releases := (s.car i).releases.tail ++ [new] })) (same _)
      | some e =>
        exact handed ((start.updCar (fun r => { r with releases := (s.car i).releases.tail ++ [new] })).log _ _ _ _)
          (fun m => (State.log_node _ _ _ _ m _).trans (same _ m))
    · have list : after = (s.car i).releases ++ [new] := (if_neg own).trans (if_neg full)
      have none_ : new.displacedFrom (s.car i).releases = [] := (if_neg own).trans (if_neg full)
      rw [if_neg full, list, none_]
      exact handed (start.updCar (fun r => { r with releases := (s.car i).releases ++ [new] })) (same _)

/-! ## The decision (R48) -/

theorem Read.toldTo_eq (r : Read) (v : LastVerdict) (n : Node) :
    r.toldTo v n = if r.orphan = true then n else n.withVerdict r.head v := by
  unfold Read.toldTo Node.withVerdict
  cases r.orphan <;> cases n.kind <;> cases r.head <;> rfl

/-- R47, R48: the last verdict of the read's head alone is stored. -/
theorem State.node_storeVerdict (r : Read) (v : Verdict) (m : NodeId) (s : State) :
    (s.storeVerdict r v).node m = if m.code = r.node.code then
      (s.node m).map (r.toldTo (if s.reads.any (fun q => q.node == r.node && q.head == r.head && !q.orphan) then .pending
        else .given v)) else s.node m := by
  unfold State.storeVerdict
  by_cases orphan : r.orphan = true
  · have told : r.toldTo (if s.reads.any (fun q => q.node == r.node && q.head == r.head && !q.orphan) then .pending
        else .given v) = id := by
      funext n
      rw [Read.toldTo_eq, if_pos orphan]
      rfl
    rw [if_pos orphan, told, Option.map_id]
    split <;> rfl
  · rw [if_neg orphan, State.node_updNode]
    congr 2
    funext n
    rw [Read.toldTo_eq, if_neg orphan]

/-- R57: a first grant at a portal head finds the portal in service. -/
theorem State.inService_of_pass {p : Nat} {r : Read} {c : PortalConfig} {d : Verdict} {g : Passage} {s : State}
    (asks : s.asked r = .portal p c) (rules : s.ruling r = .pass d g) : (s.portal p).state.inService = true := by
  unfold State.ruling at rules
  rw [asks] at rules
  cases presents : s.presented r with
  | none => rw [presents] at rules; cases rules
  | some e =>
    rw [presents] at rules
    dsimp only at rules
    exact (Portal.denial_none.1 (firstDenial_none.1 (State.portalRuling_pass rules) _ (by simp))).1

/-- R46, R48: DECISION with a read waiting: the oldest leaves the queue, its entry is written, the grant is placed and the last
verdict stored. -/
theorem exec_decision {r : Read} {rest : List Read} {s : State} (reads : s.reads = r :: rest) :
    ∃ m t : State, m = { s with mem := m.mem, bus := m.bus, journal := m.journal, reads := rest } ∧
      State.SameJournal (s.logAccess r (s.ruling r)) m ∧ exec .decision s = .next t ∧
      t = ((m.placeGrant (s.asked r) ((s.presented r).map (fun e => e.1.tenant)) (s.ruling r)).storeVerdict r
        (s.ruling r).verdict) := by
  have next : exec .decision s = .next (State.decide r { s with reads := rest }) := by
    change Host.Outcome.next s.decideNext = _
    unfold State.decideNext
    rw [reads] <;> rfl
  have same : State.SameJournal s { s with reads := rest } := ⟨⟨rfl, rfl, rfl⟩, rfl, rfl⟩
  exact ⟨_, _, (State.log_frame _ _ _ _ ({ s with reads := rest } : State)).blocks, same.log _ _ _ _, next, rfl⟩

/-- R48: what placing a grant leaves alone. -/
structure State.PlacesAt (n : NodeId) (s t : State) : Prop where
  reads : t.reads = s.reads
  nodes : ∀ m : NodeId, m.code ≠ n.code → t.node m = s.node m

theorem State.placeGrant_placesAt {r : Read} {s m : State} (tenant : Option Nat) (ruling : Ruling)
    (portals : m.portals = s.portals) (cars : m.cars = s.cars) : m.PlacesAt r.node (m.placeGrant (s.asked r) tenant ruling) := by
  have same : m.PlacesAt r.node m := ⟨rfl, fun _ _ => rfl⟩
  cases asks : s.asked r with
  | nothing => cases ruling <;> exact same
  | portal p c =>
    obtain ⟨owner, config, -⟩ := (State.asked_portal_iff r p c s).1 asks
    obtain ⟨d, config', named⟩ := State.portalOf_config owner
    cases config.symm.trans config'
    have configM : (m.portal p).config = some c := by
      rw [State.portal, portals]
      exact config
    cases ruling with
    | pass v g =>
      obtain ⟨-, -, -, -, -, -, -, -, -, reads, -⟩ := State.placePassage_frame p g m
      obtain ⟨-, nodes⟩ := State.placePassage_keeps g configM
      rw [named] at nodes
      exact ⟨reads, nodes⟩
    | again => exact ⟨rfl, fun _ _ => rfl⟩
    | deny v => exact same
    | ride v floors => exact same
  | car i g =>
    obtain ⟨-, owner, config, -⟩ := (State.asked_car_iff r i g s).1 asks
    obtain ⟨d, config', named⟩ := State.carOf_config owner
    cases config.symm.trans config'
    cases ruling with
    | ride v floors =>
      cases tenant with
      | none => exact same
      | some x =>
        refine ⟨?_, fun n elsewhere => ?_⟩
        · obtain ⟨-, -, -, -, -, -, -, -, -, -, -, reads, -⟩ := State.placeRelease_frame i x floors m
          exact reads
        · have configM : (m.car i).config = some g := by
            rw [State.car, cars]
            exact config
          refine ((State.placeRelease_spec floors (.refl m) configM).2 n).trans (if_neg ?_)
          rw [named]
          exact elsewhere
    | again => exact same
    | deny v => exact same
    | pass v g => exact same

/-- R47, R48: what storing the verdict leaves of a state. -/
theorem State.storeVerdict_only (r : Read) (v : Verdict) (s : State) :
    s.storeVerdict r v = { s with nodes := (s.storeVerdict r v).nodes } := (State.storeVerdict_frame r v s).eq

/-- R111: the portal branch of DECISION, a first grant that waits for the door. -/
theorem State.decided_listed {r : Read} {p : Nat} {c : PortalConfig} {g : Passage} {v : Verdict} {s w m t : State}
    (portals : m.portals = s.portals) (same : m = { s with mem := m.mem, bus := m.bus, journal := m.journal, reads := m.reads })
    (journal : State.JournalOf w m) (config : (s.portal p).config = some c) (named : c.node = r.node) (unlock : 1 ≤ c.unlock)
    (waits : (s.portal p).Waits) (made : t = (m.placePassage p g).storeVerdict r v) :
    let verdict : LastVerdict :=
      if m.reads.any (fun q => q.node == r.node && q.head == r.head && !q.orphan) then .pending else .given v
    let listed : Portal := { s.portal p with
      passages := (s.portal p).passages ++ [g], passageTimer := .running c.unlock }
    t.node r.node = (s.node r.node).map (fun n => r.toldTo verdict (if (s.portal p).state = .secure then
        { n with lock := (t.portal p).command, polarity := c.polarity } else n)) ∧
      t.portal p = (if (s.portal p).state = .secure then
        s.withCommandOf c { listed with state := .released, holdTimer := .stopped } else listed) ∧
      s.Reserves g t ∧ t.units = s.units ∧ State.JournalOf w t ∧
      t.tenant g.tenant = (s.tenant g.tenant).map (fun x => { x with transit := some p }) ∧
      ∀ j, j ≠ g.tenant → t.tenant j = s.tenant j := by
  intro verdict listed
  have portal : m.portal p = s.portal p := by rw [State.portal, portals]; rfl
  have node (n : NodeId) : m.node n = s.node n := by rw [same]; rfl
  have mode : m.mode = s.mode := by rw [same]
  obtain ⟨lists, nodes⟩ := State.placePassage_listed g (by rw [portal]; exact config) unlock (by rw [portal]; exact waits)
  have only := State.storeVerdict_only r v (m.placePassage p g)
  have stored := State.node_storeVerdict r v r.node (m.placePassage p g)
  rw [← made] at only stored
  rw [portal, State.withCommandOf_congr mode] at lists
  rw [portal] at nodes
  generalize m.placePassage p g = u at lists nodes only stored
  have record : t.portal p = u.portal p := by rw [State.portal, only]; rfl
  have tenant (j : Nat) : t.tenant j = u.tenant j := by rw [State.tenant, only]; rfl
  have tenantM (j : Nat) : m.tenant j = s.tenant j := by rw [State.tenant, same]; rfl
  have reads : u.reads = m.reads := by rw [lists.only]
  refine ⟨?_, record.trans lists.record, ⟨?_, fun z => ?_⟩, ?_, ?_, ?_, fun j other => ?_⟩
  · rw [stored, if_pos rfl, nodes, node, record, reads, named]
    by_cases secure : (s.portal p).state = .secure
    · simp only [secure, if_true, and_self, Option.map_map]
      rfl
    · simp only [secure, false_and, if_false]
      rfl
  · rw [only]
    refine lists.reserves.1.trans ?_
    rw [same]
  · rw [State.zone, only]
    refine (lists.reserves.2 z).trans ?_
    rw [State.zone, same]
    rfl
  · rw [only, lists.only, same]
  · rw [only, lists.only]
    exact journal
  · rw [tenant, lists.own, tenantM]
  · rw [tenant, lists.tenants j other, tenantM]

/-- R111: the portal branch of DECISION, a first grant that is applied at once. -/
theorem State.decided_atOnce {r : Read} {p : Nat} {c : PortalConfig} {g : Passage} {v : Verdict} {s w m t : State}
    (same : m = { s with mem := m.mem, bus := m.bus, journal := m.journal, reads := m.reads })
    (told : w = { s with mem := w.mem, bus := w.bus, journal := w.journal })
    (journal : State.JournalOf w m) (config : (s.portal p).config = some c) (hold : 1 ≤ c.hold)
    (serves : (s.portal p).state.inService = true) (open_ : ¬ (s.portal p).Waits)
    (made : t = (m.placePassage p g).storeVerdict r v) :
    let verdict : LastVerdict :=
      if m.reads.any (fun q => q.node == r.node && q.head == r.head && !q.orphan) then .pending else .given v
    t.node r.node = (s.node r.node).map (r.toldTo verdict) ∧
      t.portal p = (if (s.portal p).state = .opened then { s.portal p with holdTimer := .running c.hold }
        else s.portal p) ∧
      ∃ u, w.AppliesPassage p false g u ∧ t.tenants = u.tenants ∧ t.register = u.register ∧ t.units = u.units ∧
        State.JournalOf u t := by
  intro verdict
  have portal : m.portal p = s.portal p := by rw [same]; rfl
  have node (n : NodeId) : m.node n = s.node n := by rw [same]; rfl
  obtain ⟨a, placed, around, -, record⟩ := State.placePassage_atOnce g (s := m) (by rw [portal]; exact config) hold
    (by rw [portal]; exact serves) (by rw [portal]; exact open_)
  rw [portal] at record
  have only := State.storeVerdict_only r v (m.placePassage p g)
  have stored := State.node_storeVerdict r v r.node (m.placePassage p g)
  rw [← made, placed] at only stored
  obtain ⟨portals, nodes⟩ := State.applyAtOnce_keeps p g a
  obtain ⟨-, -, -, -, -, -, -, -, -, reads, -⟩ := State.applyAtOnce_frame p g a
  have applies := (State.Prepares.atOnce g a).applies (p := p) (P := w.portals) (N := w.nodes) (R := w.reads)
  have whole : ({ a with portals := w.portals, nodes := w.nodes, reads := w.reads } : State) = w := by
    obtain ⟨mem, bus, journal⟩ := journal
    rw [around]
    dsimp only
    rw [told, same, mem, bus, journal]
  rw [whole] at applies
  change w.AppliesPassage p false g { a.applyAtOnce p g with portals := w.portals, nodes := w.nodes, reads := w.reads }
    at applies
  generalize a.applyAtOnce p g = x at only stored portals nodes reads applies
  have nodeX : x.node r.node = s.node r.node := by
    rw [← node, State.node, nodes, around]
    rfl
  have readsX : x.reads = m.reads := by rw [reads, around]
  refine ⟨?_, ?_, _, applies, ?_, ?_, ?_, ?_⟩
  · rw [stored, if_pos rfl, nodeX, readsX]
  · rw [← record, State.portal, only, portals]
    rfl
  · rw [only]
  · rw [only]
  · rw [only]
  · rw [only]
    exact ⟨rfl, rfl, rfl⟩

/-- R138: the car branch of DECISION. -/
theorem State.decided_ride {r : Read} {i x : Nat} {g : CarConfig} {floors : Word} {v : Verdict} {s w m t : State}
    (same : m = { s with mem := m.mem, bus := m.bus, journal := m.journal, reads := m.reads })
    (journal : State.SameJournal w m) (config : (s.car i).config = some g) (named : g.node = r.node) (kind : r.head = .car)
    (made : t = (m.placeRelease i x floors).storeVerdict r v) :
    let new : Release := { tenant := x, floors := floors, timer := Timer.set s.settings.window }
    (∀ q, q ≠ i → t.car q = s.car q) ∧ t.tenants = s.tenants ∧ t.portals = s.portals ∧ t.register = s.register ∧
      t.units = s.units ∧ t.car i = { s.car i with releases := new.placedIn (s.car i).releases } ∧
      State.JournalOf (w.releaseEntries i 1 (new.displacedFrom (s.car i).releases)) t ∧
      t.node r.node = (s.node r.node).map (Node.sentFloors s.mode.mode g (new.placedIn (s.car i).releases)) := by
  have car (j : Nat) : m.car j = s.car j := by rw [same]; rfl
  have node (n : NodeId) : m.node n = s.node n := by rw [same]; rfl
  have settings : m.settings = s.settings := by rw [same]
  have mode : m.mode = s.mode := by rw [same]
  obtain ⟨turns, nodes⟩ := State.placeRelease_spec (tenant := x) floors journal (by rw [car]; exact config)
  have only := State.storeVerdict_only r v (m.placeRelease i x floors)
  have stored := State.node_storeVerdict r v r.node (m.placeRelease i x floors)
  rw [← made] at only stored
  rw [car, settings] at turns
  simp only [car, settings, mode] at nodes
  generalize m.placeRelease i x floors = u at turns nodes only stored
  have frame := turns.frame.eq
  have told (l : LastVerdict) : r.toldTo l = id := by
    funext n
    rw [Read.toldTo_eq, kind]
    exact ite_self n
  refine ⟨fun q other => ?_, ?_, ?_, ?_, ?_, ?_, ?_, ?_⟩
  · rw [State.car, only]
    exact (turns.others q other).trans (car q)
  · rw [only, frame, same]
  · rw [only, frame, same]
  · rw [only, frame, same]
  · rw [only, frame, same]
  · rw [State.car, only]
    exact turns.record
  · rw [only]
    exact turns.journal.1
  · rw [stored, if_pos rfl, told, Option.map_id, id, nodes, if_pos (by rw [named]), node]

/-- R111: a grant at a portal head changes no other portal and no car. -/
theorem State.placeGrant_portal {p : Nat} {c : PortalConfig} (tenant : Option Nat) (ruling : Ruling) {m : State}
    (config : (m.portal p).config = some c) :
    (∀ q, q ≠ p → (m.placeGrant (.portal p c) tenant ruling).portal q = m.portal q) ∧
      (m.placeGrant (.portal p c) tenant ruling).cars = m.cars := by
  cases ruling with
  | pass v g =>
    obtain ⟨-, -, -, -, -, -, -, -, -, -, cars, -⟩ := State.placePassage_frame p g m
    exact ⟨(State.placePassage_keeps g config).1, cars⟩
  | again => exact ⟨fun q other => State.portal_updPortal_ne other _ m, rfl⟩
  | deny v => exact ⟨fun _ _ => rfl, rfl⟩
  | ride v floors => exact ⟨fun _ _ => rfl, rfl⟩

/-- Settles O55: the front read, by what its head asks for and its ruling. -/
theorem theOldestReadIsDecided : Obligations.TheOldestReadIsDecided := by
  refine ⟨fun s empty => ?_, ?_⟩
  · change Host.Outcome.next s.decideNext = _
    unfold State.decideNext
    rw [empty] <;> rfl
  · intro s r rest reads ruling logged verdict
    obtain ⟨m, t, only, journal, next, made⟩ := exec_decision reads
    change State.SameJournal logged m at journal
    have told : logged = { s with mem := logged.mem, bus := logged.bus, journal := logged.journal } :=
      (State.log_frame _ _ _ _ s).blocks
    have kept := onlyTheirCommandsChangeThem .decision s t next
    obtain ⟨-, -, others, lines⟩ := kept
    obtain ⟨settings, -, run, -, clock, profiles, holidays, creds, mode⟩ := others (by simp)
    have frame : s.OnlyField t := Host.Outcome.next.inj next ▸ State.decideNext_frame s
    obtain ⟨-, -, -, -, slips, -⟩ := frame
    have places := State.placeGrant_placesAt (r := r) ((s.presented r).map (fun e => e.1.tenant)) ruling
      (show m.portals = s.portals by rw [only]) (show m.cars = s.cars by rw [only])
    have stored := State.storeVerdict_only r ruling.verdict
      (m.placeGrant (s.asked r) ((s.presented r).map (fun e => e.1.tenant)) ruling)
    have nodes := fun n => State.node_storeVerdict r ruling.verdict n
      (m.placeGrant (s.asked r) ((s.presented r).map (fun e => e.1.tenant)) ruling)
    have readsM : m.reads = rest := by rw [only]
    have nodeM (n : NodeId) : m.node n = s.node n := by rw [only]; rfl
    rw [← made] at stored nodes
    rw [places.reads, readsM] at nodes
    refine ⟨t, next, ?_, settings (by simp), slips, creds (by simp) (by simp) (by simp) (by simp), clock (by simp) (by simp) (by simp),
      profiles (by simp), holidays (by simp), mode (by simp) (by simp) (by simp) (by simp) (by simp) (by simp) (by simp), lines,
      run (by simp) (by simp) (by simp), fun n elsewhere => ?_, fun d denies => ?_, fun p c asks => ?_, ?_⟩
    · rw [stored]
      exact places.reads.trans readsM
    · rw [nodes, if_neg elsewhere, places.nodes n elsewhere, nodeM]
    · have idle : m.placeGrant (s.asked r) ((s.presented r).map (fun e => e.1.tenant)) ruling = m := by
        rw [denies]
        rfl
      rw [idle] at stored nodes
      refine ⟨by rw [stored]; exact journal.1, by rw [stored, only], ?_⟩
      rw [nodes, if_pos rfl, nodeM]
    · obtain ⟨owner, config, -⟩ := (State.asked_portal_iff r p c s).1 asks
      obtain ⟨d, config', named⟩ := State.portalOf_config owner
      cases config.symm.trans config'
      have portalM (q : Nat) : m.portal q = s.portal q := by rw [only]; rfl
      have around : m = { s with mem := m.mem, bus := m.bus, journal := m.journal, reads := m.reads } := by rw [readsM]; exact only
      have placed (x : Ruling) (rules : ruling = x) :
          m.placeGrant (s.asked r) ((s.presented r).map (fun e => e.1.tenant)) ruling = m.placeGrant (.portal p c) none x := by
        rw [rules, asks]
        cases x <;> rfl
      have whole := State.placeGrant_portal none ruling (show (m.portal p).config = some c by rw [portalM]; exact config)
      rw [← placed ruling rfl] at whole
      refine ⟨fun q other => ?_, ?_, fun d g rules unlock hold => ?_, fun rules unlock => ?_⟩
      · rw [← portalM, State.portal, stored]
        exact whole.1 q other
      · rw [stored]
        exact whole.2.trans (by rw [only])
      · have serves := State.inService_of_pass asks rules
        change t = State.storeVerdict r ruling.verdict (m.placeGrant _ _ ruling) at made
        rw [placed _ rules] at made
        intro listed
        by_cases waits : (s.portal p).Waits
        · have result := State.decided_listed (w := logged) (show m.portals = s.portals by rw [only]) around journal.1 config named
            unlock waits made
          dsimp only at result
          rw [readsM] at result
          rw [if_pos waits]
          exact result
        · have result := State.decided_atOnce around told journal.1 config hold serves waits made
          dsimp only at result
          rw [readsM] at result
          rw [if_neg waits]
          have fresh : (s.portal p).state ≠ .secure := fun secure => waits (.inl secure)
          simp only [fresh, if_false]
          exact result
      · rw [placed _ rules] at stored nodes
        have repeated : m.placeGrant (.portal p c) none .again = m.repeatGrant p := rfl
        rw [repeated] at stored nodes
        have record : (m.repeatGrant p).portal p = { s.portal p with passageTimer := .running c.unlock } := by
          unfold State.repeatGrant
          rw [State.portal_updPortal_self, portalM]
          simp [Portal.startPassage, config, Timer.set_pos unlock]
        have tenants : m.tenants = s.tenants := by rw [only]
        have register : m.register = s.register := by rw [only]
        have units : m.units = s.units := by rw [only]
        refine ⟨by rw [stored]; exact journal.1, by rw [stored]; exact tenants, by rw [stored]; exact register,
          by rw [stored]; exact units, ?_, ?_⟩
        · rw [State.portal, stored]
          exact record
        · rw [nodes, if_pos rfl]
          exact congrArg _ (nodeM r.node)
    · intro i g d floors x asks rules presents window list new after
      obtain ⟨-, owner, config, isCar⟩ := (State.asked_car_iff r i g s).1 asks
      obtain ⟨d, config', named⟩ := State.carOf_config owner
      cases config.symm.trans config'
      have around : m = { s with mem := m.mem, bus := m.bus, journal := m.journal, reads := m.reads } := by rw [readsM]; exact only
      have placed : m.placeGrant (s.asked r) ((s.presented r).map (fun e => e.1.tenant)) ruling = m.placeRelease i x floors := by
        rw [rules, asks, presents]
        rfl
      change t = State.storeVerdict r ruling.verdict (m.placeGrant _ _ ruling) at made
      rw [placed] at made
      obtain ⟨others, tenants, portals, register, units, record, tells, node⟩ :=
        State.decided_ride around journal config named isCar made
      have timer : Timer.set s.settings.window = .running s.settings.window := Timer.set_pos (by omega)
      rw [timer] at record tells node
      refine ⟨others, tenants, portals, register, units, record, fun kept => ?_, fun oldest fresh full first => ?_, node⟩
      · have none_ : new.displacedFrom (s.car i).releases = [] := by
          unfold Release.displacedFrom
          rcases kept with own | room
          · rw [if_pos own]
          · rw [if_neg (show ¬ 4 ≤ (s.car i).releases.length from Nat.not_le.2 room)]
            exact ite_self _
        rw [none_] at tells
        exact tells
      · have displaced : new.displacedFrom (s.car i).releases = [oldest] := by
          unfold Release.displacedFrom
          rw [if_neg (by rw [fresh]; decide), if_pos full, first]
          rfl
        rw [displaced] at tells
        exact tells

end Sys2Proof.Machine
end

section
/-! What a good reply does to the node's record, the read queue and the line (R154, R157, R159, R161). -/

namespace Sys2Proof.Machine

/-- A node's record but for the outputs and the tamper state, which alone an owner changes as it acts on a reply. -/
def Node.bare (r : Node) : Node := { r.core with tamper := false }

theorem Node.of_bare {r r' : Node} (same : r'.bare = r.bare) :
    r'.kind = r.kind ∧ r'.state = r.state ∧ r'.faults = r.faults ∧ r'.restore = r.restore ∧ r'.tagA = r.tagA ∧
      r'.tagB = r.tagB ∧ r'.tagCar = r.tagCar ∧ r'.verdictA = r.verdictA ∧ r'.verdictB = r.verdictB := by
  obtain ⟨kind, state, faults, restore, tagA, tagB, tagCar, -, verdictA, verdictB, -⟩ :=
    Node.of_core (r := { r with tamper := false }) (r' := { r' with tamper := false }) same
  exact ⟨kind, state, faults, restore, tagA, tagB, tagCar, verdictA, verdictB⟩

/-- R97: the tamper state is all that a status block writes to a UNIT node. -/
theorem State.KeepsOfNodes.tamperReport {o s : State} (h : State.KeepsOfNodes Node.bare o s) (n : NodeId) (tamper : Bool)
    (how : ReplyStanding) : State.KeepsOfNodes Node.bare o (s.tamperReport n tamper how) := by
  unfold State.tamperReport
  cases node : s.node n with
  | none => exact h
  | some r =>
    have wrote : s.setNode n { r with tamper := tamper } = s.updNode n (fun r => { r with tamper := tamper }) := by
      rw [State.updNode, node]
    have kept := h.updNode n (f := fun r => { r with tamper := tamper }) (fun _ => rfl)
    dsimp only
    rw [wrote]
    split
    · exact h
    · split
      · exact kept.log _ _ _ _
      · exact kept.log _ _ _ _

/-- R160: the owner takes the status block and leaves of the nodes what is not its own. -/
theorem State.handStatus_keeps (n : NodeId) (kind : NodeKind) (how : ReplyStanding) (bytes : List Byte) (s : State) :
    State.KeepsOfNodes Node.bare s (s.handStatus n kind how bytes) := by
  have refl := State.KeepsOfNodes.refl Node.bare s
  unfold State.handStatus
  dsimp only
  cases kind with
  | portal =>
    dsimp only
    split
    · exact (State.KeepsOfNodes.portalWork (fun _ _ _ => rfl) s _).portalStatus (due := []) refl
    · exact refl
  | car =>
    dsimp only
    split
    · unfold State.carStatus
      dsimp only
      split
      · exact (refl.updCar _ _).log _ _ _ _
      · exact refl
    · exact refl
  | unit =>
    have frame := State.inputReports_frame n (field 2 4 bytes) how (List.range 32) s
    obtain ⟨-, -, -, -, -, -, -, -, -, -, -, -, -, -, -, nodes, -⟩ := frame
    exact (refl.of_nodes nodes).tamperReport n _ how

/-- R160: the owner of a node does not touch the lines and the read queue. -/
theorem State.handStatus_owners (n : NodeId) (kind : NodeKind) (how : ReplyStanding) (bytes : List Byte) (s : State) :
    s.OnlyOwners (s.handStatus n kind how bytes) := by
  unfold State.handStatus State.OnlyOwners
  dsimp only
  (repeat' split) <;> simp [State.OnlyField]

theorem State.restoreNode_owners (n : NodeId) (r : Node) (s : State) : s.OnlyOwners (s.restoreNode n r) := by
  unfold State.restoreNode State.OnlyOwners
  dsimp only
  (repeat' split) <;> simp [State.OnlyField]

/-! ## The record of the node (R157, R159) -/

/-- R157, R159: a node's record after a good reply that is handed on. -/
def Node.heard (r : Node) : Node :=
  match r.state with
  | .unknown => { r with faults := r.faults - 1, state := .online }
  | .online => { r with faults := r.faults - 1 }
  | .offline => { r.noTags.noVerdicts with state := .online, faults := 0, restore := 0 }

/-- From `s` to `t` the reply of node `n` has been counted: its record is `x` but for what its owner writes, and every other
node's record is kept but for that. -/
structure State.Hears (n : NodeId) (x : Node) (s t : State) : Prop where
  own : ∃ r', t.node n = some r' ∧ r'.bare = x.bare
  nodes : ∀ m : NodeId, m.code ≠ n.code → (t.node m).map Node.bare = (s.node m).map Node.bare

theorem State.Hears.of_setNode (n : NodeId) (x : Node) (s : State) : s.Hears n x (s.setNode n x) where
  own := ⟨x, State.node_setNode_self n x s, rfl⟩
  nodes m other := by rw [State.node_setNode_ne other]

theorem State.Hears.more {n : NodeId} {x : Node} {s t u : State} (h : s.Hears n x t) (kept : State.KeepsOfNodes Node.bare t u) :
    s.Hears n x u where
  own := by
    obtain ⟨r', own, same⟩ := h.own
    have k := kept n
    rw [own] at k
    obtain ⟨r'', own', same'⟩ := Option.map_eq_some_iff.1 k
    exact ⟨r'', own', same'.trans same⟩
  nodes m other := (kept m).trans (h.nodes m other)

theorem State.counted_hears (n : NodeId) (r : Node) (s : State) : s.Hears n r.heard (s.counted n r) := by
  unfold State.counted Node.heard
  cases r.state with
  | unknown => exact .of_setNode n _ s
  | online => exact .of_setNode n _ s
  | offline =>
    dsimp only
    have put := State.Hears.of_setNode n { r.noTags.noVerdicts with state := .online, faults := 0, restore := 0 } s
    unfold State.restoreNode
    have logged := put.more ((State.KeepsOfNodes.refl Node.bare _).log .nodeRestored (some n.subject) none [])
    dsimp only
    split
    · split
      · exact logged.more (((State.KeepsOfNodes.refl Node.bare _).updCar _ _).handFloors (fun _ _ _ => rfl) _)
      · exact logged
    · exact logged

theorem State.counted_owners (n : NodeId) (r : Node) (s : State) : s.OnlyOwners (s.counted n r) := by
  unfold State.counted
  cases r.state with
  | unknown => simp [State.OnlyOwners, State.OnlyField]
  | online => simp [State.OnlyOwners, State.OnlyField]
  | offline => exact State.restoreNode_owners n r s

/-! ## The read block (R161) -/

/-- R161: whether a read block joins the queue: it is no repeat, and the queue has room. -/
def State.joins (b : ReadBlock) (r : Node) (s : State) : Bool :=
  s.reads.length < 8 && !(r.hasHead (headOf b.head) && r.tag (headOf b.head) == some b.tag)

/-- R161: the record of a node of whose reply the read block has joined the queue. -/
def Node.took (b : ReadBlock) (r : Node) : Node :=
  if r.hasHead (headOf b.head) = true then (r.withTag (headOf b.head) b.tag).withVerdict (headOf b.head) .pending else r

theorem State.takeRead_spec {n : NodeId} {x : Node} {s : State} (b : ReadBlock) (node : s.node n = some x) :
    (s.takeRead n b).reads = (if s.joins b x = true then s.reads ++ [b.read n] else s.reads) ∧
      s.Hears n (if s.joins b x = true then x.took b else x) (s.takeRead n b) ∧ (s.takeRead n b).lines = s.lines := by
  have same : s.Hears n x s := ⟨⟨x, node, rfl⟩, fun _ _ => rfl⟩
  unfold State.takeRead State.joins
  rw [node]
  dsimp only
  by_cases again : (x.hasHead (headOf b.head) && x.tag (headOf b.head) == some b.tag) = true
  · rw [if_pos again, again]
    simp only [Bool.not_true, Bool.and_false, Bool.false_eq_true, if_false]
    exact ⟨trivial, same, trivial⟩
  · rw [if_neg again, Bool.not_eq_true _ |>.mp again]
    by_cases full : Config.reads ≤ s.reads.length
    · rw [if_pos full]
      have none_ : ¬ (Decidable.decide (s.reads.length < 8) && !false) = true := by
        simpa using (show 8 ≤ s.reads.length from full)
      rw [if_neg none_, if_neg none_]
      exact ⟨rfl, same, rfl⟩
    · rw [if_neg full]
      have room : (Decidable.decide (s.reads.length < 8) && !false) = true := by
        simpa using (show s.reads.length < 8 from Nat.not_le.1 full)
      rw [if_pos room, if_pos room]
      unfold Node.took
      by_cases head : x.hasHead (headOf b.head) = true
      · rw [if_pos head, if_pos head]
        exact ⟨rfl, ⟨⟨_, State.node_setNode_self n _ _, rfl⟩, fun m other => by rw [State.node_setNode_ne other]; rfl⟩, rfl⟩
      · rw [if_neg head, if_neg head]
        exact ⟨rfl, ⟨⟨x, node, rfl⟩, fun _ _ => rfl⟩, rfl⟩

/-- Reading and leaving out what an owner writes commute. -/
theorem Node.bare_took (b : ReadBlock) (r : Node) : (r.took b).bare = r.bare.took b := by
  unfold Node.took
  generalize headOf b.head = h
  rcases r with ⟨_ | _ | _⟩ <;> cases h <;> rfl

theorem Node.took_bare (b : ReadBlock) {r r' : Node} (same : r'.bare = r.bare) : (r'.took b).bare = (r.took b).bare := by
  rw [Node.bare_took, same, ← Node.bare_took]

theorem State.joins_bare {b : ReadBlock} {r r' : Node} {s t : State} (same : r'.bare = r.bare) (reads : t.reads = s.reads) :
    t.joins b r' = s.joins b r := by
  obtain ⟨kind, -, -, -, tagA, tagB, tagCar, -⟩ := Node.of_bare same
  have heads : r'.hasHead (headOf b.head) = r.hasHead (headOf b.head) := by simp only [Node.hasHead, kind]
  have tags : r'.tag (headOf b.head) = r.tag (headOf b.head) := by simp only [Node.tag, tagA, tagB, tagCar]
  rw [State.joins, heads, tags, reads, State.joins]

/-- R160, R161: a reply that is handed on: what it does to the node's record and to the read queue. -/
theorem State.handOn_spec {n : NodeId} {kind : NodeKind} {how : ReplyStanding} {bytes : List Byte} {x : Node} {o s : State}
    (hears : o.Hears n x s) (owners : o.OnlyOwners s) (short : kind = .unit → readBlockOf bytes = none) :
    let took : Node := match readBlockOf bytes with
      | some b => if o.joins b x = true then x.took b else x
      | none => x
    let reads : List Read := match readBlockOf bytes with
      | some b => if o.joins b x = true then o.reads ++ [b.read n] else o.reads
      | none => o.reads
    o.Hears n took (s.handOn n kind how bytes) ∧ (s.handOn n kind how bytes).reads = reads ∧
      (s.handOn n kind how bytes).lines = o.lines := by
  have told := hears.more (State.handStatus_keeps n kind how bytes s)
  have frame := owners.trans (State.handStatus_owners n kind how bytes s)
  unfold State.handOn
  dsimp only
  generalize s.handStatus n kind how bytes = u at told frame ⊢
  obtain ⟨-, reads, lines⟩ := frame
  cases block : readBlockOf bytes with
  | none => exact ⟨told, reads, lines⟩
  | some b =>
    have portalOrCar : kind ≠ .unit := fun unit => by rw [short unit] at block; cases block
    dsimp only
    rw [if_neg portalOrCar]
    obtain ⟨r', own, same⟩ := told.own
    obtain ⟨taken, heard, kept⟩ := State.takeRead_spec b own
    have joins : u.joins b r' = o.joins b x := State.joins_bare same reads
    rw [joins] at taken heard
    rw [taken, kept, reads]
    refine ⟨⟨?_, fun m other => (heard.nodes m other).trans (told.nodes m other)⟩, rfl, lines⟩
    obtain ⟨r'', own', same'⟩ := heard.own
    refine ⟨r'', own', same'.trans ?_⟩
    split
    · exact Node.took_bare b same
    · exact same

end Sys2Proof.Machine
end

section
/-! A good reply to the poll in progress, as the command (R154, R157, R159, R161). -/

namespace Sys2Proof.Machine

/-- R155: a good reply to the poll in progress. -/
theorem exec_reply_good {s : State} {l a : Nat} {frame : List LineChar} {r : Node} (polled : (s.line l).polledNode = some a)
    (node : s.node ⟨l, a⟩ = some r) (good : judge r.kind a frame = none) :
    exec (.reply l frame) s = .next ((s.goodReply ⟨l, a⟩ (frame.map (fun c => c.data))).endExchange l) := by
  refine congrArg Host.Outcome.next ?_
  unfold State.judgeReply
  rw [polled]
  dsimp only
  rw [node]
  dsimp only
  rw [good]

section
variable {l a : Nat} {r r' x : Node} {s u : State}

/-- What every other node of the line shows after the reply. -/
theorem State.Hears.others (h : s.Hears ⟨l, a⟩ x u) {b : Nat} (other : b ≠ a) :
    (u.node ⟨l, b⟩).map Node.bare = (s.node ⟨l, b⟩).map Node.bare := by
  refine h.nodes _ (fun same => other ?_)
  simp only [NodeId.code] at same
  omega

theorem State.Hears.lineAddresses (h : s.Hears ⟨l, a⟩ x u) (node : s.node ⟨l, a⟩ = some r) :
    u.lineAddresses l = s.lineAddresses l := by
  have stands (b : Nat) : (u.node ⟨l, b⟩).isSome = (s.node ⟨l, b⟩).isSome := by
    by_cases own : b = a
    · obtain ⟨r', own', -⟩ := h.own
      rw [own, node, own']
      rfl
    · have k := congrArg Option.isSome (h.others own)
      rwa [Option.isSome_map, Option.isSome_map] at k
  simp only [State.lineAddresses, stands]

/-- R154: the exchange ends, and after the last node due the next cycle starts with the states that the reply leaves. -/
theorem State.Hears.line (h : s.Hears ⟨l, a⟩ x u) (node : s.node ⟨l, a⟩ = some r) (own : u.node ⟨l, a⟩ = some r')
    (lines : u.lines = s.lines) :
    let cycle := ((s.line l).cycle + 1) % 8
    (u.endExchange l).line l = if (s.line l).due = [] then
        { s.line l with
          exchange := .idle, cycle := cycle
          due := (s.lineAddresses l).filter (fun b => cycle == 0 ||
            (if b = a then r'.state != .offline else (s.node ⟨l, b⟩).any (fun n => n.state != .offline))) }
      else { s.line l with exchange := .idle } := by
  intro cycle
  have line : u.line l = s.line l := by rw [State.line, lines]; rfl
  rw [State.line_endExchange_self, line]
  refine if_congr Iff.rfl ?_ rfl
  have due : (u.lineAddresses l).filter (fun b => (u.node ⟨l, b⟩).any (fun n => n.state != .offline || cycle == 0)) =
      (s.lineAddresses l).filter (fun b => cycle == 0 ||
        (if b = a then r'.state != .offline else (s.node ⟨l, b⟩).any (fun n => n.state != .offline))) := by
    rw [h.lineAddresses node]
    refine List.filter_congr fun b listed => ?_
    by_cases here : b = a
    · rw [here, own, if_pos rfl]
      simp [Bool.or_comm]
    · obtain ⟨-, -, stands⟩ := State.mem_lineAddresses.1 listed
      obtain ⟨n, found⟩ := Option.isSome_iff_exists.1 stands
      have kept := h.others here
      rw [found] at kept
      obtain ⟨n', found', same⟩ := Option.map_eq_some_iff.1 kept
      obtain ⟨-, state, -⟩ := Node.of_bare same
      rw [found, found', if_neg here]
      simp [state, Bool.or_comm]
  unfold State.cycled
  rw [due]

end

/-- R160, R161: a good reply of a node in contact, or the third since it went OFFLINE: its record, the read queue and the
lines. -/
theorem State.goodReply_spec {n : NodeId} {r : Node} {bytes : List Byte} {s : State} (node : s.node n = some r)
    (ready : r.state = .offline → 2 ≤ r.restore) (short : r.kind = .unit → readBlockOf bytes = none) :
    let took : Node := match readBlockOf bytes with
      | some b => if s.joins b r.heard = true then r.heard.took b else r.heard
      | none => r.heard
    let reads : List Read := match readBlockOf bytes with
      | some b => if s.joins b r.heard = true then s.reads ++ [b.read n] else s.reads
      | none => s.reads
    s.Hears n took (s.goodReply n bytes) ∧ (s.goodReply n bytes).reads = reads ∧ (s.goodReply n bytes).lines = s.lines := by
  rw [State.goodReply_handsOn node ready]
  exact State.handOn_spec (State.counted_hears n r s) (State.counted_owners n r s) short

theorem Node.took_keeps (b : ReadBlock) (r : Node) :
    (r.took b).kind = r.kind ∧ (r.took b).state = r.state ∧ (r.took b).faults = r.faults ∧ (r.took b).restore = r.restore := by
  unfold Node.took
  generalize headOf b.head = h
  rcases r with ⟨_ | _ | _⟩ <;> cases h <;> exact ⟨rfl, rfl, rfl, rfl⟩

/-- R210: a frame of a UNIT node that is judged good has no read block. -/
theorem readBlockOf_unit {kind : NodeKind} {a : Nat} {frame : List LineChar} (good : judge kind a frame = none)
    (unit : kind = .unit) : readBlockOf (frame.map (fun c => c.data)) = none := by
  obtain ⟨_, _, _, -, -, -, -, -, -, length, -⟩ := (judge_eq_none _ _ _).1 good
  rw [if_pos unit] at length
  refine if_neg ?_
  rw [List.length_map, length]
  decide

/-- R157, R159: the record of the node after a good reply that is handed on. -/
theorem State.goodReply_record {n : NodeId} {r : Node} {bytes : List Byte} {s : State} (node : s.node n = some r)
    (ready : r.state = .offline → 2 ≤ r.restore) (short : r.kind = .unit → readBlockOf bytes = none) :
    ∃ x, s.Hears n x (s.goodReply n bytes) ∧ x.kind = r.kind ∧ x.state = r.heard.state ∧ x.faults = r.heard.faults ∧
      x.restore = r.heard.restore := by
  obtain ⟨hears, -⟩ := State.goodReply_spec node ready short
  have kinds : r.heard.kind = r.kind := by
    unfold Node.heard
    cases r.state <;> rfl
  refine ⟨_, hears, ?_⟩
  split
  · next b _ =>
    split
    · obtain ⟨kind, state, faults, restore⟩ := r.heard.took_keeps b
      exact ⟨kind.trans kinds, state, faults, restore⟩
    · exact ⟨kinds, rfl, rfl, rfl⟩
  · exact ⟨kinds, rfl, rfl, rfl⟩

/-- R157, R159: every good reply to the poll in progress leaves a record of the node. -/
theorem State.goodReply_any {n : NodeId} {r : Node} {bytes : List Byte} {s : State} (node : s.node n = some r)
    (short : r.kind = .unit → readBlockOf bytes = none) :
    ∃ x, s.Hears n x (s.goodReply n bytes) ∧ (s.goodReply n bytes).lines = s.lines ∧ x.kind = r.kind ∧
      (r.state ≠ .offline → x.state = .online ∧ x.faults = r.faults - 1) ∧
      (r.state = .offline → r.restore + 1 < 3 → s.goodReply n bytes = s.setNode n
        { r with faults := r.faults - 1, restore := r.restore + 1 }) ∧
      (r.state = .offline → 3 ≤ r.restore + 1 → x.state = .online ∧ x.faults = 0 ∧ x.restore = 0) := by
  by_cases waits : r.state = .offline ∧ r.restore + 1 < 3
  · obtain ⟨offline, few⟩ := waits
    have runs : s.goodReply n bytes = s.setNode n { r with faults := r.faults - 1, restore := r.restore + 1 } := by
      unfold State.goodReply
      rw [node]
      dsimp only
      rw [offline]
      exact if_pos few
    refine ⟨{ r with faults := r.faults - 1, restore := r.restore + 1 }, by rw [runs]; exact .of_setNode n _ s, by rw [runs]; rfl, rfl, fun here => absurd offline here, fun _ _ => runs,
      fun _ many => absurd few (by omega)⟩
  · have ready (offline : r.state = .offline) : 2 ≤ r.restore := by
      by_contra few
      exact waits ⟨offline, by omega⟩
    obtain ⟨x, hears, kind, state, faults, restore⟩ := State.goodReply_record node ready short
    obtain ⟨-, -, lines⟩ := State.goodReply_spec node ready short
    refine ⟨x, hears, lines, kind, fun here => ?_, fun offline few => absurd ⟨offline, few⟩ waits, fun offline _ => ?_⟩
    · unfold Node.heard at state faults
      cases was : r.state with
      | unknown => rw [was] at state faults; exact ⟨state, faults⟩
      | online => rw [was] at state faults; exact ⟨state, faults⟩
      | offline => exact absurd was here
    · unfold Node.heard at state faults restore
      rw [offline] at state faults restore
      exact ⟨state, faults, restore⟩

theorem State.OnlyField.trans {s t u : State} (h : s.OnlyField t) (k : t.OnlyField u) : s.OnlyField u := by
  simp_all [State.OnlyField]

/-- R154, R157, R159: a good reply is counted, and the exchange ends. -/
theorem exec_reply_counts {s : State} {l a : Nat} {rate : LineRate} {sent frame : List LineChar} {r : Node}
    (running : (s.line l).state = .running) (exchange : (s.line l).exchange = .polled a rate sent)
    (node : s.node ⟨l, a⟩ = some r) (good : judge r.kind a frame = none) :
    ∃ t r', exec (.reply l frame) s = .next t ∧ t.node ⟨l, a⟩ = some r' ∧ r'.kind = r.kind ∧ s.OnlyField t ∧
      (∀ m, m ≠ l → t.line m = s.line m) ∧
      (let cycle := ((s.line l).cycle + 1) % 8
       t.line l = if (s.line l).due = [] then
           { s.line l with
             exchange := .idle, cycle := cycle
             due := (s.lineAddresses l).filter (fun x => cycle == 0 ||
               (if x = a then r'.state != .offline else (s.node ⟨l, x⟩).any (fun n => n.state != .offline))) }
         else { s.line l with exchange := .idle }) ∧
      (r.state ≠ .offline → r'.state = .online ∧ r'.faults = r.faults - 1) ∧
      (r.state = .offline → r.restore + 1 < 3 → t.nodes = (s.setNode ⟨l, a⟩
        { r with faults := r.faults - 1, restore := r.restore + 1 }).nodes ∧ t.reads = s.reads ∧
        t.portals = s.portals ∧ t.cars = s.cars ∧ t.units = s.units ∧ t.mem = s.mem) ∧
      (r.state = .offline → 3 ≤ r.restore + 1 → r'.state = .online ∧ r'.faults = 0 ∧ r'.restore = 0) := by
  have polled : (s.line l).polledNode = some a := by
    unfold Line.polledNode
    rw [running, exchange] <;> rfl
  have next := exec_reply_good polled node good
  obtain ⟨x, hears, lines, kind, online, waiting, restored⟩ :=
    State.goodReply_any (bytes := frame.map (fun c => c.data)) node (readBlockOf_unit good)
  have frame₁ := State.goodReply_frame ⟨l, a⟩ (frame.map (fun c => c.data)) s
  generalize s.goodReply ⟨l, a⟩ (frame.map (fun c => c.data)) = u at next hears lines waiting frame₁
  obtain ⟨r', own, same⟩ := hears.own
  obtain ⟨kind', state, faults, restore, -⟩ := Node.of_bare same
  have line := hears.line node own lines
  have elsewhere (m : Nat) (other : m ≠ l) : (u.endExchange l).line m = s.line m := by
    rw [State.line_endExchange_ne other, State.line, lines]
    rfl
  have only := (State.endExchange_frame l u).eq
  have frame₂ : u.OnlyField (u.endExchange l) := by simp [State.OnlyField]
  generalize u.endExchange l = t at next line elsewhere only frame₂
  refine ⟨t, r', next, ?_, kind'.trans kind, frame₁.trans frame₂, elsewhere, line, fun here => ?_, fun offline few => ?_,
    fun offline many => ?_⟩
  · rw [State.node, only]
    exact own
  · rw [state, faults]
    exact online here
  · have runs := waiting offline few
    rw [only, runs]
    exact ⟨rfl, rfl, rfl, rfl, rfl, rfl⟩
  · rw [state, faults, restore]
    exact restored offline many

/-! ## The read block of the reply (R46, R47, R161) -/

theorem field_one (i : Nat) (bytes : List Byte) : field i 1 bytes = (bytes.getD i 0).toNat := by
  unfold field
  rw [List.getD_eq_getElem?_getD, ← List.head?_drop]
  cases bytes.drop i with
  | nil => rfl
  | cons b bs => simp [numberOf]

theorem Node.hasHead_eq (h : Head) (r : Node) :
    r.hasHead h = ((r.kind == .portal && h != .car) || (r.kind == .car && h == .car)) := by
  unfold Node.hasHead
  cases r.kind <;> cases h <;> rfl

/-- R148: a restored node's record begins with no tag taken and no verdict. -/
def Node.base (r : Node) : Node :=
  if r.state = .offline then
    { r with tagA := none, tagB := none, tagCar := none, verdictA := .none, verdictB := .none }
  else r

theorem Node.heard_base (r : Node) :
    r.heard.kind = r.kind ∧ r.heard.tagA = r.base.tagA ∧ r.heard.tagB = r.base.tagB ∧ r.heard.tagCar = r.base.tagCar ∧
      r.heard.verdictA = r.base.verdictA ∧ r.heard.verdictB = r.base.verdictB := by
  unfold Node.heard Node.base
  cases r.state <;> exact ⟨rfl, rfl, rfl, rfl, rfl, rfl⟩

/-- R161: what a read block that joins the queue writes to the record. -/
theorem Node.took_eq (b : ReadBlock) (r : Node) :
    let own : Bool := (r.kind == .portal && headOf b.head != .car) || (r.kind == .car && headOf b.head == .car)
    (r.took b).tagA = (if (own && headOf b.head == .a) = true then some b.tag else r.tagA) ∧
      (r.took b).tagB = (if (own && headOf b.head == .b) = true then some b.tag else r.tagB) ∧
      (r.took b).tagCar = (if (own && headOf b.head == .car) = true then some b.tag else r.tagCar) ∧
      (r.took b).verdictA = (if (own && headOf b.head == .a) = true then .pending else r.verdictA) ∧
      (r.took b).verdictB = (if (own && headOf b.head == .b) = true then .pending else r.verdictB) := by
  unfold Node.took
  generalize headOf b.head = h
  rcases r with ⟨_ | _ | _⟩ <;> cases h <;> exact ⟨rfl, rfl, rfl, rfl, rfl⟩

/-- R46, R47, R161: the read block of a reply that is handed on. -/
theorem exec_reply_reads {s : State} {l a : Nat} {frame : List LineChar} {r : Node} (hands : s.HandsOn l a frame r) :
    let bytes := frame.map (fun c => c.data)
    let number (i : Nat) : Nat := (bytes.getD i 0).toNat
    let head : Head := if number 3 = 0 then .a else if number 3 = 1 then .b else .car
    let tag := number 11
    let read : Read :=
      { node := { line := l, address := a }, head := head, key := keyAt 4 bytes, companions := min 3 (number 10)
        clamped := decide (3 < number 10), tag := tag, orphan := false }
    let own : Bool := (r.kind == .portal && head != .car) || (r.kind == .car && head == .car)
    let taken : Option Nat := match head with
      | .a => r.base.tagA
      | .b => r.base.tagB
      | .car => r.base.tagCar
    let joins : Bool := bytes.length == 13 && s.reads.length < 8 && !(own && taken == some tag)
    ∃ t r', exec (.reply l frame) s = .next t ∧ t.node ⟨l, a⟩ = some r' ∧
      t.reads = (if joins = true then s.reads ++ [read] else s.reads) ∧
      r'.tagA = (if (joins && own && head == .a) = true then some tag else r.base.tagA) ∧
      r'.tagB = (if (joins && own && head == .b) = true then some tag else r.base.tagB) ∧
      r'.tagCar = (if (joins && own && head == .car) = true then some tag else r.base.tagCar) ∧
      r'.verdictA = (if (joins && own && head == .a) = true then .pending else r.base.verdictA) ∧
      r'.verdictB = (if (joins && own && head == .b) = true then .pending else r.base.verdictB) := by
  obtain ⟨-, polled, node, good, ready⟩ := hands
  intro bytes number head tag read own taken joins
  have next := exec_reply_good polled node good
  obtain ⟨hears, reads, -⟩ := State.goodReply_spec node ready (readBlockOf_unit good)
  have only := (State.endExchange_frame l (s.goodReply ⟨l, a⟩ bytes)).eq
  change exec (.reply l frame) s = .next ((s.goodReply ⟨l, a⟩ bytes).endExchange l) at next
  generalize s.goodReply ⟨l, a⟩ (frame.map (fun c => c.data)) = u at next hears reads only
  generalize u.endExchange l = t at next only
  obtain ⟨r', at_, same⟩ := hears.own
  obtain ⟨-, -, -, -, tagA, tagB, tagCar, verdictA, verdictB⟩ := Node.of_bare same
  obtain ⟨kind, baseA, baseB, baseCar, shownA, shownB⟩ := r.heard_base
  have at_t : t.node ⟨l, a⟩ = some r' := by
    rw [State.node, only]
    exact at_
  have reads_t : t.reads = u.reads := by rw [only]
  refine ⟨t, r', next, at_t, ?_⟩
  rw [reads_t, reads, tagA, tagB, tagCar, verdictA, verdictB]
  by_cases full : bytes.length = 13
  · have block : readBlockOf (frame.map (fun c => c.data)) =
        some { head := number 3, key := keyAt 4 bytes, companions := number 10, tag := tag } := by
      refine (if_pos full).trans ?_
      rw [field_one, field_one, field_one]
    rw [block]
    dsimp only
    have headIs : headOf (number 3) = head := rfl
    have joined : s.joins { head := number 3, key := keyAt 4 bytes, companions := number 10, tag := tag } r.heard = joins := by
      have tagIs : r.heard.tag head = taken := by
        change _ = match head with
          | .a => r.base.tagA
          | .b => r.base.tagB
          | .car => r.base.tagCar
        unfold Node.tag
        rw [baseA, baseB, baseCar] <;> rfl
      unfold State.joins
      dsimp only
      rw [headIs, tagIs, Node.hasHead_eq, kind]
      change _ = (bytes.length == 13 && _ && _)
      rw [full]
      rfl
    obtain ⟨tookA, tookB, tookCar, tellsA, tellsB⟩ := Node.took_eq
      { head := number 3, key := keyAt 4 bytes, companions := number 10, tag := tag } r.heard
    rw [joined]
    cases joins with
    | false => exact ⟨rfl, baseA, baseB, baseCar, shownA, shownB⟩
    | true =>
      rw [kind] at tookA tookB tookCar tellsA tellsB
      refine ⟨rfl, ?_, ?_, ?_, ?_, ?_⟩
      · rw [← baseA]; exact tookA
      · rw [← baseB]; exact tookB
      · rw [← baseCar]; exact tookCar
      · rw [← shownA]; exact tellsA
      · rw [← shownB]; exact tellsB
  · have block : readBlockOf (frame.map (fun c => c.data)) = none := if_neg full
    have stays : joins = false := by
      change (bytes.length == 13 && _ && _) = false
      rw [beq_false_of_ne full]
      rfl
    rw [block, stays]
    exact ⟨rfl, baseA, baseB, baseCar, shownA, shownB⟩

end Sys2Proof.Machine
end

section
/-! A door opening applies the pending passages (R112): O50. -/

namespace Sys2Proof.Machine

/-- R112: the pending passages are applied one after another; `P`, `N` and `R` stand for the portals, nodes and reads, which the
application does not read. -/
theorem State.applies_inOrder (p : Nat) (P : Table Portal) (N : Table Node) (R : List Read) (gs : List Passage) (z : State) :
    State.AppliesInOrder p gs { z with portals := P, nodes := N, reads := R }
      { (z.forEach gs (State.applyPending p)) with portals := P, nodes := N, reads := R } := by
  induction gs generalizing z with
  | nil => rfl
  | cons g gs ih =>
    have first := (State.Prepares.listed p g z).applies (p := p) (P := P) (N := N) (R := R)
    exact ⟨_, first, ih (z.applyPending p g)⟩

/-- R112: the application of one pending passage takes it from the list of its portal and leaves the portals and nodes otherwise. -/
theorem State.applyPending_keeps (p : Nat) (g : Passage) (z : State) :
    (z.applyPending p g).portal p = { z.portal p with
        passages := (z.portal p).passages.filter (fun h => h.tenant != g.tenant) } ∧
      (∀ q, q ≠ p → (z.applyPending p g).portal q = z.portal q) ∧ (z.applyPending p g).nodes = z.nodes := by
  have record : (z.updPortal p (fun r => { r with passages := r.passages.filter (fun h => h.tenant != g.tenant) })).portal p =
      { z.portal p with passages := (z.portal p).passages.filter (fun h => h.tenant != g.tenant) } :=
    State.portal_updPortal_self p _ z
  have others (q : Nat) (other : q ≠ p) :
      (z.updPortal p (fun r => { r with passages := r.passages.filter (fun h => h.tenant != g.tenant) })).portal q = z.portal q :=
    State.portal_updPortal_ne other _ z
  have nodes : (z.updPortal p (fun r => { r with passages := r.passages.filter (fun h => h.tenant != g.tenant) })).nodes =
      z.nodes := rfl
  unfold State.applyPending State.unlist
  generalize z.updPortal p _ = a at record others nodes ⊢
  have only₁ := (State.updTenant_frame g.tenant (fun t => { t with transit := none }) a).eq
  generalize a.updTenant g.tenant _ = b at only₁ ⊢
  have only₂ := (State.unreserve_frame g b).eq
  generalize b.unreserve g = d at only₂ ⊢
  have only₃ : d.OnlyVisits ((d.logPassage p false g).completePassage g) := by simp [State.OnlyVisits]
  generalize (d.logPassage p false g).completePassage g = e at only₃ ⊢
  obtain ⟨-, -, -, -, -, -, -, -, -, -, portals, -, -, nodes', -⟩ := only₃
  have same : e.portals = a.portals := by rw [portals, only₂, only₁]
  refine ⟨?_, fun q other => ?_, ?_⟩
  · rw [← record, State.portal, same]
    rfl
  · rw [← others q other, State.portal, same]
    rfl
  · rw [nodes', only₂, only₁, nodes]

/-- R112: once all its pending passages are applied, the list of the portal is empty. -/
theorem State.applyAll_keeps (p : Nat) (z : State) :
    (z.applyAll p).portal p = { z.portal p with passages := [] } ∧
      (∀ q, q ≠ p → (z.applyAll p).portal q = z.portal q) ∧ (z.applyAll p).nodes = z.nodes := by
  have every (gs : List Passage) (y : State) :
      (y.forEach gs (State.applyPending p)).portal p = { y.portal p with
          passages := (y.portal p).passages.filter (fun h => !gs.any (fun g => h.tenant == g.tenant)) } ∧
        (∀ q, q ≠ p → (y.forEach gs (State.applyPending p)).portal q = y.portal q) ∧
        (y.forEach gs (State.applyPending p)).nodes = y.nodes := by
    induction gs generalizing y with
    | nil =>
      refine ⟨?_, fun _ _ => rfl, rfl⟩
      change y.portal p = _
      simp
    | cons g gs ih =>
      obtain ⟨record, others, nodes⟩ := State.applyPending_keeps p g y
      obtain ⟨record', others', nodes'⟩ := ih (y.applyPending p g)
      refine ⟨record'.trans ?_, fun q other => (others' q other).trans (others q other), nodes'.trans nodes⟩
      rw [record]
      simp only [List.filter_filter, List.any_cons, Bool.not_or, bne, Bool.and_comm]
  obtain ⟨record, others, nodes⟩ := every (z.portal p).passages z
  refine ⟨record.trans ?_, others, nodes⟩
  have none_ : (z.portal p).passages.filter (fun h => !(z.portal p).passages.any (fun g => h.tenant == g.tenant)) = [] :=
    List.filter_eq_nil_iff.2 fun h listed => by simpa using ⟨h, listed, rfl⟩
  rw [none_]

/-- R112: the door of portal `p` opens in RELEASED or HELD_UNLOCKED: from `s`, with the journal told what it is told in `w`, the
passages `gs` are applied in order and the portal comes to the record `x`. -/
structure State.Applies (p : Nat) (x : Portal) (gs : List Passage) (s w t : State) : Prop where
  record : t.portal p = x
  others : ∀ q, q ≠ p → t.portal q = s.portal q
  frame : s.OnlyPortalUnit t
  order : State.AppliesInOrder p gs w { t with portals := w.portals, nodes := w.nodes, reads := w.reads }

theorem State.applyAll_applies {p : Nat} {w s y : State} (around : w = { y with
    portals := w.portals, nodes := w.nodes, reads := w.reads }) (others : ∀ q, q ≠ p → y.portal q = s.portal q)
    (frame : s.OnlyPortalUnit y) :
    s.Applies p { y.portal p with passages := [] } (y.portal p).passages w (y.applyAll p) := by
  obtain ⟨record, others', -⟩ := State.applyAll_keeps p y
  refine ⟨record, fun q other => (others' q other).trans (others q other),
    State.OnlyPortalUnit.trans frame (State.applyAll_frame p y), ?_⟩
  have order := State.applies_inOrder p w.portals w.nodes w.reads (y.portal p).passages y
  rw [← around] at order
  exact order

theorem State.Applies.handLock {p : Nat} {x : Portal} {c : PortalConfig} {gs : List Passage} {w s t : State}
    (h : s.Applies p x gs w t) (config : x.config = some c) : s.Applies p (s.withCommandOf c x) gs w (t.handLock p) where
  record := by
    obtain ⟨-, -, -, -, -, -, -, -, -, -, -, -, mode, -⟩ := h.frame
    rw [((State.Turns.start p (.refl t)).handLock (c := c) (by rw [h.record]; exact config)).record, h.record,
      State.withCommandOf_congr mode]
  others q other := (State.handLock_portal_ne other t).trans (h.others q other)
  frame := State.OnlyPortalUnit.trans h.frame (by simp [State.OnlyPortalUnit])
  order := by
    rw [State.handLock_only p t]
    exact h.order

/-- R112, R116: the door opens in RELEASED or HELD_UNLOCKED. -/
theorem State.doorOpens_applies {p : Nat} {r : Portal} {c : PortalConfig} {s w z : State} (turns : s.Turns p r w z)
    (around : w = { z with portals := w.portals, nodes := w.nodes, reads := w.reads }) (config : r.config = some c)
    (state : r.state = .released ∨ r.state = .heldUnlocked) :
    s.Applies p (if r.state = .released then s.withCommandOf c { r.timedFrom c with passages := [] }
      else { r with passages := [], passageTimer := .stopped }) r.passages w (z.doorOpens p) := by
  have portalUnit {y : State} (frame : s.OnlyDoors y) : s.OnlyPortalUnit y := by
    obtain ⟨run, mask, refusal, settings, slips, -, creds, -, clock, profiles, holidays, reads, -, cars, lines, mode, revision,
      pending⟩ := frame
    exact ⟨run, mask, refusal, settings, slips, creds, clock, profiles, holidays, reads, cars, lines, mode, revision, pending⟩
  rcases state with released | held
  · have timed : { r.openTimed with passageTimer := .stopped } = r.timedFrom c := by
      simp [Portal.openTimed, Portal.enter, Portal.startHold, Portal.startCount, Portal.timedFrom, config]
    have put := turns.updPortal (fun r => { r.openTimed with passageTimer := .stopped })
    rw [timed] at put
    have applied := State.applyAll_applies (w := w) (y := z.updPortal p (fun r => { r.openTimed with passageTimer := .stopped }))
      around put.others (portalUnit put.frame)
    rw [put.record] at applied
    have opens : z.doorOpens p =
        ((z.updPortal p (fun r => { r.openTimed with passageTimer := .stopped })).applyAll p).handLock p := by
      unfold State.doorOpens
      rw [turns.record]
      dsimp only
      rw [released] <;> rfl
    rw [if_pos released, opens]
    exact applied.handLock config
  · have put := turns.updPortal (fun r => { r with passageTimer := .stopped })
    have applied := State.applyAll_applies (w := w) (y := z.updPortal p (fun r => { r with passageTimer := .stopped }))
      around put.others (portalUnit put.frame)
    rw [put.record] at applied
    have opens : z.doorOpens p = (z.updPortal p (fun r => { r with passageTimer := .stopped })).applyAll p := by
      unfold State.doorOpens
      rw [turns.record]
      dsimp only
      rw [held] <;> rfl
    rw [if_neg (by rw [held]; decide), opens]
    exact applied

/-- Settles O50: the count of the reply, its read block, and the door opening with passages pending. -/
theorem goodRepliesBringNodesOnline : Obligations.GoodRepliesBringNodesOnline := by
  refine ⟨fun s l a rate sent frame r running exchange node good => ?_, fun s l a frame r hands => exec_reply_reads hands, ?_⟩
  · obtain ⟨t, r', next, own, kind, only, lines, line, online, waiting, restored⟩ :=
      exec_reply_counts running exchange node good
    obtain ⟨run, -, -, settings, slips, creds, clock, profiles, holidays, mode, -⟩ := only
    exact ⟨t, r', next, own, kind, settings, slips, creds, clock, profiles, holidays, mode, run, lines, line, online, waiting,
      restored⟩
  · intro s l a frame r p c hands hold state opens shut rex driver probe
    obtain ⟨m, t, next, before, only⟩ := exec_reply_portal hands
    obtain ⟨-, -, -, config, configured⟩ := hands
    have waiting : (s.portal p).state ≠ .waiting := by
      rcases state with h | h <;> rw [h] <;> decide
    have offline : (s.portal p).state ≠ .faultOffline := by
      rcases state with h | h <;> rw [h] <;> decide
    have up : (statusByte frame % 2 == 1) = true := by
      rw [reportedDoor_eq] at opens
      by_contra down
      rw [if_neg down] at opens
      cases opens
    rw [before.portalStatus_inContact configured waiting offline, driverOf_ok driver, before.driverReport_idle config probe, up]
      at only
    have heard := before.updPortal (fun r => { r with door := .opened })
    have reports : m.doorReport p true = (m.updPortal p (fun r => { r with door := .opened })).doorOpens p := by
      unfold State.doorReport
      rw [before.record]
      exact if_neg shut
    have told : s.beforeOwner ⟨l, a⟩ r = { m.updPortal p (fun r => { r with door := .opened }) with
        portals := (s.beforeOwner ⟨l, a⟩ r).portals, nodes := (s.beforeOwner ⟨l, a⟩ r).nodes
        reads := (s.beforeOwner ⟨l, a⟩ r).reads } := by
      have blocks : s.beforeOwner ⟨l, a⟩ r = { s with
          mem := (s.beforeOwner ⟨l, a⟩ r).mem, bus := (s.beforeOwner ⟨l, a⟩ r).bus
          journal := (s.beforeOwner ⟨l, a⟩ r).journal } := by
        unfold State.beforeOwner
        split
        · exact (State.log_frame _ _ _ _ s).blocks
        · rfl
      have doors := before.frame.eq
      obtain ⟨⟨mem, bus, journal⟩, -⟩ := before.journal
      generalize s.beforeOwner ⟨l, a⟩ r = w at blocks mem bus journal ⊢
      change w = { m with portals := w.portals, nodes := w.nodes, reads := w.reads }
      rw [doors]
      dsimp only
      rw [mem, bus, journal]
      rw [blocks]
    have applies := State.doorOpens_applies heard told (c := c) config state
    rw [← reports] at applies
    have rex' : ((m.doorReport p true).portal p).rex = some (statusByte frame / 16) := by
      rw [applies.record]
      split
      · exact rex
      · exact rex
    rw [(State.Turns.start p (.refl (m.doorReport p true))).rexReport_same rex'] at only
    generalize m.doorReport p true = z at applies only
    obtain ⟨record, others, frame', order⟩ := applies
    obtain ⟨-, -, -, settings, -, creds, clock, -, -, -, cars, -, mode, -⟩ := frame'
    have portal (q : Nat) : t.portal q = z.portal q := by rw [only]; rfl
    refine ⟨t, _, next, ⟨fun q other => (portal q).trans (others q other), ?_, ?_, ?_, ?_, ?_⟩, order, ?_, ?_, ?_, ?_, ?_⟩
    · rw [only, cars]
    · rw [only, mode]
    · rw [only, clock]
    · rw [only, settings]
    · rw [only, creds]
    · rw [only]
    · rw [only]
    · rw [only]
    · rw [only]
      exact ⟨rfl, rfl, rfl⟩
    · rw [portal, record]
      unfold Portal.timedFrom
      rw [Timer.set_pos hold]

end Sys2Proof.Machine
end

section
/-! What the journal's operations leave of the slip rack and of the causes, and the close and the RESTART entry of a soft reset
(R201). -/

namespace Sys2Proof.Machine

/-- From `s` to `t` the journal has written no byte between block 0 and the pages, has cleared no cause and has not raised
ANSWER. -/
structure State.Journals (s t : State) : Prop where
  rack : ∀ c, 39 ≤ c → c < 0x2400 → t.byteAt c = s.byteAt c
  causes : ∀ i, s.bus.cause.getLsbD i = true → t.bus.cause.getLsbD i = true
  answer : t.bus.cause.getLsbD 0 = s.bus.cause.getLsbD 0

namespace State.Journals

variable {s t u : State}

theorem refl (s : State) : s.Journals s := ⟨fun _ _ _ => rfl, fun _ h => h, rfl⟩

theorem trans (h : s.Journals t) (k : t.Journals u) : s.Journals u :=
  ⟨fun c lo hi => (k.rack c lo hi).trans (h.rack c lo hi), fun i held => k.causes i (h.causes i held), k.answer.trans h.answer⟩

/-- Nothing but other causes than ANSWER has been raised. -/
theorem of_raised {bits : BitVec 7} (mem : t.mem = s.mem) (cause : t.bus.cause = s.bus.cause ||| bits)
    (quiet : bits.getLsbD 0 = false) : s.Journals t where
  rack c _ _ := State.byteAt_congr mem c
  causes i held := by rw [cause, BitVec.getLsbD_or, held, Bool.true_or]
  answer := by rw [cause, BitVec.getLsbD_or, quiet, Bool.or_false]

theorem of_same (mem : t.mem = s.mem) (bus : t.bus = s.bus) : s.Journals t :=
  ⟨fun c _ _ => State.byteAt_congr mem c, fun _ held => by rw [bus]; exact held, by rw [bus]⟩

theorem mirrorJournal (s : State) : s.Journals s.mirrorJournal where
  rack c lo _ := State.byteAt_mirrorJournal lo s
  causes i held := by simpa using held
  answer := by simp

theorem placeEntry (e : Entry) (s : State) : s.Journals (s.placeEntry e) where
  rack c _ hi := by rw [State.byteAt_placeEntry, if_neg (by omega), if_neg (by omega), if_neg (by omega)]
  causes i held := by rw [State.placeEntry_bus]; exact held
  answer := by rw [State.placeEntry_bus]

theorem takePage (p : Nat) (s : State) : s.Journals (s.takePage p) where
  rack c _ hi := by rw [State.byteAt_takePage, if_neg (by omega), if_neg (by omega), if_neg (by omega)]
  causes i held := by simpa using held
  answer := by simp

theorem alarmOf (kind : EntryKind) (s : State) : s.Journals (s.alarmOf kind) := by
  unfold State.alarmOf
  split
  · exact of_raised (bits := 4#7) rfl rfl rfl
  · exact refl s

theorem closePage (r : CloseReason) (s : State) : s.Journals (s.closePage r) where
  rack c lo hi := by
    rw [State.byteAt_closePage r s lo]
    have marked : (s.markFull r).byteAt c = s.byteAt c := by
      rw [State.byteAt_markFull, if_neg (by omega), if_neg (by omega), if_neg (by omega)]
    split
    · rw [if_neg (by omega), if_neg (by omega), if_neg (by omega), marked]
    · exact marked
  causes i held := by
    rw [State.closePage_cause, BitVec.getLsbD_or, BitVec.getLsbD_or, held]
    rfl
  answer := by
    rw [State.closePage_cause, BitVec.getLsbD_or, BitVec.getLsbD_or]
    split <;> simp

theorem writeEntry (e : Entry) (s : State) : s.Journals (s.writeEntry e) := by
  have placed := (placeEntry e s).trans (alarmOf e.kind _)
  by_cases last : s.entryCount s.journal.page = 62
  · rw [State.writeEntry_last e last]
    exact placed.trans (closePage .full _)
  · rw [State.writeEntry_room e last]
    exact placed

theorem recover (s : State) : s.Journals s.recover := by
  have taken : s.Journals s.takenToRecover := (takePage s.journal.page s).trans (of_same rfl rfl)
  have written : s.Journals s.recovered := taken.trans
    (State.forEach_frame State.Journals refl (fun _ _ _ h k => h.trans k) _ (fun e t => writeEntry e t) _ _)
  rw [State.recover_eq]
  split
  · exact written
  · have told : (s.recovered.writeEntry s.recovered.gapEntry).Journals s.recovered.gapTold := by
      unfold State.gapTold
      generalize s.recovered.writeEntry s.recovered.gapEntry = u
      exact of_same rfl rfl
    exact (written.trans ((writeEntry _ _).trans told)).trans (mirrorJournal _)

theorem holdEntry (e : Entry) (s : State) : s.Journals (s.holdEntry e) where
  rack c lo _ := State.byteAt_holdEntry e s (.inr (.inr lo))
  causes i held := by
    rw [State.holdEntry_cause]
    split
    · rw [BitVec.getLsbD_or, held, Bool.true_or]
    · exact held
  answer := by
    rw [State.holdEntry_cause]
    split <;> simp

theorem log (kind : EntryKind) (subject tenant : Option Nat) (detail : List Byte) (s : State) :
    s.Journals (s.log kind subject tenant detail) := by
  unfold State.log State.submit
  split
  · exact writeEntry _ s
  · split
    · exact (recover s).trans (writeEntry _ _)
    · exact holdEntry _ s

theorem journalReset (s : State) : s.Journals s.journalReset := by
  unfold State.journalReset
  dsimp only
  split
  · exact (closePage .reset s).trans (log _ _ _ _ _)
  · exact log _ _ _ _ s

end State.Journals

end Sys2Proof.Machine
end

section
/-! The portals and the cars at a soft reset (R133, R145). -/

namespace Sys2Proof.Machine

/-! ## One portal (R133) -/

/-- R133: a configured portal after a soft reset, under its record `c`, the deferred one where it has one. -/
def State.resetTo (c : PortalConfig) (s : State) (r : Portal) : Portal :=
  s.lostPortal .waiting c { r with
    config := some c, deferred := none, faults := 0, hostHold := false
    window := if r.deferred = none then r.window else c.free.any (fun n => s.windowTest n) }

theorem State.resetTo_congr {s t : State} (same : s.SameAround t) (c : PortalConfig) (r : Portal) :
    t.resetTo c r = s.resetTo c r := by
  simp only [State.resetTo, State.lostPortal, State.windowTest_congr same, State.withCommandOf_congr same.1]

theorem State.resetTo_config (c : PortalConfig) (s : State) (r : Portal) :
    (s.resetTo c r).config = some c ∧ (s.resetTo c r).deferred = none := ⟨rfl, rfl⟩

/-- R106, R133: the records of a portal name this place of the node table. -/
abbrev Portal.Names (n : NodeId) (r : Portal) : Prop :=
  ∃ c, (r.config = some c ∨ r.deferred = some c) ∧ c.node.code = n.code

theorem State.resetPortal_spec {p : Nat} {old : PortalConfig} {s : State} (config : (s.portal p).config = some old) :
    let c := (s.portal p).deferred.getD old
    s.Turns p (s.resetTo c (s.portal p)) s (s.resetPortal p) ∧
      (∀ m : NodeId, m.code = c.node.code → (s.resetPortal p).node m = ((if c.node ≠ old.node then s.releaseLockNode old.node
        else s).node m).map (fun n => { n with lock := ((s.resetPortal p).portal p).command, polarity := c.polarity })) ∧
      ∀ m : NodeId, m.code ≠ c.node.code → m.code ≠ old.node.code → (s.resetPortal p).node m = s.node m := by
  intro c
  have released : s.Turns p (s.portal p) s (if c.node ≠ old.node then s.releaseLockNode old.node else s) := by
    split
    · exact (State.Turns.start p (.refl s)).releaseLockNode _
    · exact .start p (.refl s)
  have nodes (m : NodeId) (other : m.code ≠ old.node.code) :
      (if c.node ≠ old.node then s.releaseLockNode old.node else s).node m = s.node m := by
    split
    · rw [State.node_releaseLockNode, if_neg other]
    · rfl
  have work : s.resetPortal p = (State.updPortal p (fun r =>
      { r.lost .waiting with
        config := some c, deferred := none, passages := [], faults := 0, hostHold := false
        window := if r.deferred.isSome then
          (if c.node ≠ old.node then s.releaseLockNode old.node else s).windowOf c else r.window })
      (if c.node ≠ old.node then s.releaseLockNode old.node else s)).handLock p := by
    unfold State.resetPortal
    dsimp only
    rw [config] <;> rfl
  generalize (if c.node ≠ old.node then s.releaseLockNode old.node else s) = u at released nodes work
  have put := released.updPortal (fun r =>
      { r.lost .waiting with
        config := some c, deferred := none, passages := [], faults := 0, hostHold := false
        window := if r.deferred.isSome then u.windowOf c else r.window })
  have hand := State.node_handLock (p := p) (c := c) (s := u.updPortal p (fun r =>
      { r.lost .waiting with
        config := some c, deferred := none, passages := [], faults := 0, hostHold := false
        window := if r.deferred.isSome then u.windowOf c else r.window })) (by rw [put.record])
  rw [work]
  refine ⟨?_, fun m here => ?_, fun m other elsewhere => ?_⟩
  · have turns := put.handLock (c := c) rfl
    have window : (if (s.portal p).deferred.isSome = true then u.windowOf c else (s.portal p).window) =
        if (s.portal p).deferred = none then (s.portal p).window else c.free.any (fun n => s.windowTest n) := by
      rw [State.windowOf_eq]
      simp only [State.windowTest_congr released.sameAround]
      cases (s.portal p).deferred <;> rfl
    rw [window] at turns
    exact turns
  · rw [hand, if_pos here]
    rfl
  · rw [hand, if_neg other]
    exact nodes m elsewhere

theorem State.resetPortal_none {p : Nat} {s : State} (config : (s.portal p).config = none) : s.resetPortal p = s := by
  unfold State.resetPortal
  dsimp only
  rw [config]

/-- R133: what a portal that a reset leaves alone, and a node that its records do not name, keep. -/
theorem State.resetPortal_keeps (p : Nat) (s : State) :
    (∀ q, q ≠ p → (s.resetPortal p).portal q = s.portal q) ∧
      (∀ n, ¬ (s.portal p).Names n → (s.resetPortal p).node n = s.node n) ∧
      (∀ n, ((s.resetPortal p).portal p).Names n → (s.portal p).Names n) ∧ s.SameAround (s.resetPortal p) := by
  cases config : (s.portal p).config with
  | none =>
    rw [State.resetPortal_none config]
    exact ⟨fun _ _ => rfl, fun _ _ => rfl, fun _ names => names, ⟨rfl, rfl, rfl, rfl⟩⟩
  | some old =>
    obtain ⟨turns, -, elsewhere⟩ := State.resetPortal_spec config
    have named : (s.portal p).config = some ((s.portal p).deferred.getD old) ∨
        (s.portal p).deferred = some ((s.portal p).deferred.getD old) := by
      cases deferred : (s.portal p).deferred with
      | none => exact .inl config
      | some d => exact .inr rfl
    refine ⟨turns.others, fun n away => elsewhere n (fun same => away ⟨_, named, same.symm⟩)
      (fun same => away ⟨old, .inl config, same.symm⟩), fun n ⟨c, own, same⟩ => ?_, turns.sameAround⟩
    obtain ⟨now, later⟩ := State.resetTo_config ((s.portal p).deferred.getD old) s (s.portal p)
    rw [turns.record, now, later] at own
    obtain own | own := own
    · obtain rfl := Option.some.inj own
      exact ⟨_, named, same⟩
    · cases own

/-! ## The portals in turn (R133) -/

theorem State.resetPortals_keep (ps : List Nat) (s : State) :
    (∀ q, q ∉ ps → (s.forEach ps State.resetPortal).portal q = s.portal q) ∧
      (∀ n, (∀ p ∈ ps, ¬ (s.portal p).Names n) → (s.forEach ps State.resetPortal).node n = s.node n) ∧
      s.SameAround (s.forEach ps State.resetPortal) := by
  induction ps generalizing s with
  | nil => exact ⟨fun _ _ => rfl, fun _ _ => rfl, ⟨rfl, rfl, rfl, rfl⟩⟩
  | cons p ps ih =>
    obtain ⟨others, nodes, names, around⟩ := State.resetPortal_keeps p s
    obtain ⟨others', nodes', around'⟩ := ih (s.resetPortal p)
    rw [State.forEach_cons]
    refine ⟨fun q away => ?_, fun n away => ?_, around.trans around'⟩
    · have ⟨other, rest⟩ : q ≠ p ∧ q ∉ ps := by simpa using away
      exact (others' q rest).trans (others q other)
    · refine (nodes' n fun q listed => ?_).trans (nodes n (away p List.mem_cons_self))
      by_cases same : q = p
      · rw [same]
        exact fun h => away p List.mem_cons_self (names n h)
      · rw [others q same]
        exact away q (List.mem_cons_of_mem p listed)

/-- R133, R148: one portal of those reset in turn: its record, and what the node that it alone names is handed. -/
theorem State.resetPortals_spec {ps : List Nat} (nodup : ps.Nodup) {p : Nat} (listed : p ∈ ps) {old : PortalConfig} {s : State}
    (config : (s.portal p).config = some old) :
    let c := (s.portal p).deferred.getD old
    let t := s.forEach ps State.resetPortal
    t.portal p = s.resetTo c (s.portal p) ∧
      ∀ n : NodeId, c.node.code = n.code → (∀ q ∈ ps, q ≠ p → ¬ (s.portal q).Names n) → ∀ r', t.node n = some r' →
        r'.lock = (t.portal p).command ∧ r'.polarity = c.polarity := by
  intro c t
  obtain ⟨before, after, rfl⟩ := List.append_of_mem listed
  obtain ⟨-, nodup', apart⟩ := List.nodup_append.1 nodup
  have fresh : p ∉ before := fun early => apart p early p List.mem_cons_self rfl
  have once : p ∉ after := (List.nodup_cons.1 nodup').1
  have split_ : t = ((s.forEach before State.resetPortal).resetPortal p).forEach after State.resetPortal := by
    simp [t, State.forEach, List.foldl_append]
  obtain ⟨others₁, -, around₁⟩ := State.resetPortals_keep before s
  generalize s.forEach before State.resetPortal = u at others₁ around₁ split_
  have here := others₁ p fresh
  obtain ⟨turns, handed, -⟩ := State.resetPortal_spec (p := p) (old := old) (s := u) (by rw [here, config])
  rw [here, State.resetTo_congr around₁] at turns
  rw [here] at handed
  obtain ⟨others₂, nodes₂, -⟩ := State.resetPortals_keep after (u.resetPortal p)
  have record : t.portal p = (u.resetPortal p).portal p := by rw [split_, others₂ p once]
  refine ⟨record.trans turns.record, fun n code alone r' stands => ?_⟩
  have untouched (q : Nat) (later : q ∈ after) : ¬ ((u.resetPortal p).portal q).Names n := by
    have other : q ≠ p := fun same => once (same ▸ later)
    have late : q ∉ before := fun early => apart q early q (List.mem_cons_of_mem p later) rfl
    rw [turns.others q other, others₁ q late]
    exact alone q (by simp [later]) other
  rw [split_, nodes₂ n untouched, handed n code.symm] at stands
  obtain ⟨r, -, rfl⟩ := Option.map_eq_some_iff.1 stands
  rw [record]
  exact ⟨rfl, rfl⟩

end Sys2Proof.Machine
end

section
/-! The cars and the other blocks at a soft reset (R25, R67, R88, R102, R145, R165). -/

namespace Sys2Proof.Machine

/-! ## One car (R145) -/

/-- R145: a configured car after a soft reset, under its record `g`. -/
def State.carReset (g : CarConfig) (s : State) : Car :=
  { state := s.carStateByMode, config := some g, deferred := none, releases := [], recallDone := false }

/-- R136, R145: the records of a car name this place of the node table. -/
abbrev Car.Names (n : NodeId) (r : Car) : Prop :=
  ∃ g, (r.config = some g ∨ r.deferred = some g) ∧ g.node.code = n.code

/-- R136, R145: a configured car, step by step. -/
theorem State.resetCar_eq {i : Nat} {old : CarConfig} {s : State} (config : (s.car i).config = some old) :
    let g := (s.car i).deferred.getD old
    let u := if g.node ≠ old.node then s.releaseCarNode old.node else s
    s.resetCar i = (u.updCar i (fun _ => u.carReset g)).handFloors i := by
  unfold State.resetCar
  dsimp only
  rw [config] <;> rfl

theorem State.resetCar_spec {i : Nat} {old : CarConfig} {s : State} (config : (s.car i).config = some old) :
    let g := (s.car i).deferred.getD old
    s.CarTurns i (s.carReset g) s (s.resetCar i) ∧
      (∀ m : NodeId, m.code = g.node.code → (s.resetCar i).node m = ((if g.node ≠ old.node then s.releaseCarNode old.node
        else s).node m).map (Node.sentFloors s.mode.mode g [])) ∧
      ∀ m : NodeId, m.code ≠ g.node.code → m.code ≠ old.node.code → (s.resetCar i).node m = s.node m := by
  intro g
  have released : s.CarTurns i (s.car i) s (if g.node ≠ old.node then s.releaseCarNode old.node else s) := by
    split
    · exact (State.CarTurns.start i (.refl s)).releaseCarNode _
    · exact .start i (.refl s)
  have nodes (m : NodeId) (other : m.code ≠ old.node.code) :
      (if g.node ≠ old.node then s.releaseCarNode old.node else s).node m = s.node m := by
    split
    · rw [State.node_releaseCarNode, if_neg other]
    · rfl
  have work := State.resetCar_eq config
  dsimp only at work
  generalize (if g.node ≠ old.node then s.releaseCarNode old.node else s) = u at released nodes work
  have mode := released.mode
  have same : u.carReset g = s.carReset g := by simp only [State.carReset, State.carStateByMode, mode]
  rw [same] at work
  have put := released.updCar (fun _ => s.carReset g)
  have hand := State.node_handFloors (i := i) (g := g) (s := u.updCar i (fun _ => s.carReset g)) (by rw [put.record]; rfl)
  rw [put.record, put.mode] at hand
  rw [work]
  refine ⟨put.handFloors, fun m here => ?_, fun m other elsewhere => ?_⟩
  · rw [hand, if_pos here]
    rfl
  · rw [hand, if_neg other]
    exact nodes m elsewhere

theorem State.resetCar_none {i : Nat} {s : State} (config : (s.car i).config = none) : s.resetCar i = s := by
  unfold State.resetCar
  dsimp only
  rw [config]

/-- R145: what a car that a reset leaves alone, and a node that its records do not name, keep. -/
theorem State.resetCar_keeps (i : Nat) (s : State) :
    (∀ j, j ≠ i → (s.resetCar i).car j = s.car j) ∧
      (∀ n, ¬ (s.car i).Names n → (s.resetCar i).node n = s.node n) ∧
      (∀ n, ((s.resetCar i).car i).Names n → (s.car i).Names n) ∧ (s.resetCar i).mode = s.mode := by
  cases config : (s.car i).config with
  | none =>
    rw [State.resetCar_none config]
    exact ⟨fun _ _ => rfl, fun _ _ => rfl, fun _ names => names, rfl⟩
  | some old =>
    obtain ⟨turns, -, elsewhere⟩ := State.resetCar_spec config
    have named : (s.car i).config = some ((s.car i).deferred.getD old) ∨
        (s.car i).deferred = some ((s.car i).deferred.getD old) := by
      cases deferred : (s.car i).deferred with
      | none => exact .inl config
      | some d => exact .inr rfl
    refine ⟨turns.others, fun n away => elsewhere n (fun same => away ⟨_, named, same.symm⟩)
      (fun same => away ⟨old, .inl config, same.symm⟩), fun n ⟨g, own, same⟩ => ?_, turns.mode⟩
    rw [turns.record] at own
    obtain own | own := own
    · obtain rfl := Option.some.inj own
      exact ⟨_, named, same⟩
    · cases own

/-! ## The cars in turn (R145) -/

theorem State.resetCars_keep (is : List Nat) (s : State) :
    (∀ j, j ∉ is → (s.forEach is State.resetCar).car j = s.car j) ∧
      (∀ n, (∀ i ∈ is, ¬ (s.car i).Names n) → (s.forEach is State.resetCar).node n = s.node n) ∧
      (s.forEach is State.resetCar).mode = s.mode := by
  induction is generalizing s with
  | nil => exact ⟨fun _ _ => rfl, fun _ _ => rfl, rfl⟩
  | cons i is ih =>
    obtain ⟨others, nodes, names, mode⟩ := State.resetCar_keeps i s
    obtain ⟨others', nodes', mode'⟩ := ih (s.resetCar i)
    rw [State.forEach_cons]
    refine ⟨fun j away => ?_, fun n away => ?_, mode'.trans mode⟩
    · have ⟨other, rest⟩ : j ≠ i ∧ j ∉ is := by simpa using away
      exact (others' j rest).trans (others j other)
    · refine (nodes' n fun j listed => ?_).trans (nodes n (away i List.mem_cons_self))
      by_cases same : j = i
      · rw [same]
        exact fun h => away i List.mem_cons_self (names n h)
      · rw [others j same]
        exact away j (List.mem_cons_of_mem i listed)

/-- R145, R148: one car of those reset in turn: its record, and what the node that it alone names is handed. -/
theorem State.resetCars_spec {is : List Nat} (nodup : is.Nodup) {i : Nat} (listed : i ∈ is) {old : CarConfig} {s : State}
    (config : (s.car i).config = some old) :
    let g := (s.car i).deferred.getD old
    let t := s.forEach is State.resetCar
    t.car i = s.carReset g ∧
      ∀ n : NodeId, g.node.code = n.code → (∀ j ∈ is, j ≠ i → ¬ (s.car j).Names n) → ∀ r', t.node n = some r' →
        r'.recallOn = (s.mode.mode == .evacuate) ∧
          r'.floors = if s.mode.mode = .normal then g.pub &&& g.served else 0 := by
  intro g t
  obtain ⟨before, after, rfl⟩ := List.append_of_mem listed
  obtain ⟨-, nodup', apart⟩ := List.nodup_append.1 nodup
  have fresh : i ∉ before := fun early => apart i early i List.mem_cons_self rfl
  have once : i ∉ after := (List.nodup_cons.1 nodup').1
  have split_ : t = ((s.forEach before State.resetCar).resetCar i).forEach after State.resetCar := by
    simp [t, State.forEach, List.foldl_append]
  obtain ⟨others₁, -, mode₁⟩ := State.resetCars_keep before s
  generalize s.forEach before State.resetCar = u at others₁ mode₁ split_
  have here := others₁ i fresh
  have same : u.carReset g = s.carReset g := by simp only [State.carReset, State.carStateByMode, mode₁]
  obtain ⟨turns, handed, -⟩ := State.resetCar_spec (i := i) (old := old) (s := u) (by rw [here, config])
  rw [here, same] at turns
  rw [here, mode₁] at handed
  obtain ⟨others₂, nodes₂, -⟩ := State.resetCars_keep after (u.resetCar i)
  have record : t.car i = (u.resetCar i).car i := by rw [split_, others₂ i once]
  refine ⟨record.trans turns.record, fun n code alone r' stands => ?_⟩
  have untouched (j : Nat) (later : j ∈ after) : ¬ ((u.resetCar i).car j).Names n := by
    have other : j ≠ i := fun same => once (same ▸ later)
    have late : j ∉ before := fun early => apart j early j (List.mem_cons_of_mem i later) rfl
    rw [turns.others j other, others₁ j late]
    exact alone j (by simp [later]) other
  rw [split_, nodes₂ n untouched, handed n code.symm] at stands
  obtain ⟨r, -, rfl⟩ := Option.map_eq_some_iff.1 stands
  refine ⟨rfl, ?_⟩
  unfold Node.sentFloors
  cases s.mode.mode <;> simp [g]

/-! ## The outputs of other nodes (R148) -/

theorem State.KeepsOfNodes.resetCar {α : Type} {g : Node → α} {o s : State}
    (blind : ∀ (r : Node) (floors : Word) (on : Bool), g { r with floors := floors, recallOn := on } = g r)
    (h : State.KeepsOfNodes g o s) (i : Nat) : State.KeepsOfNodes g o (s.resetCar i) := by
  cases config : (s.car i).config with
  | none =>
    rw [State.resetCar_none config]
    exact h
  | some old =>
    have released : State.KeepsOfNodes g o (if ((s.car i).deferred.getD old).node ≠ old.node
        then s.releaseCarNode old.node else s) := by
      split
      · exact h.releaseCarNode blind old.node
      · exact h
    rw [State.resetCar_eq config]
    exact (released.updCar i _).handFloors blind i

theorem State.resetCars_blind {α : Type} {g : Node → α}
    (blind : ∀ (r : Node) (floors : Word) (on : Bool), g { r with floors := floors, recallOn := on } = g r) (is : List Nat)
    (s : State) : State.KeepsOfNodes g s (s.forEach is State.resetCar) :=
  State.forEach_invariant (fun t => State.KeepsOfNodes g s t) _ (fun i _ h => h.resetCar blind i) is s (.refl g s)

theorem State.resetPortals_blind {α : Type} {g : Node → α}
    (blind : ∀ (r : Node) (lock : LockCommand) (polarity : Polarity), g { r with lock := lock, polarity := polarity } = g r)
    (ps : List Nat) (s : State) : State.KeepsOfNodes g s (s.forEach ps State.resetPortal) := by
  have one (p : Nat) (t : State) (h : State.KeepsOfNodes g s t) : State.KeepsOfNodes g s (t.resetPortal p) := by
    have work := State.KeepsOfNodes.portalWork blind s p
    exact work.resetPortal (s := t) (due := []) h
  exact State.forEach_invariant (fun t => State.KeepsOfNodes g s t) _ one ps s (.refl g s)

end Sys2Proof.Machine
end

section
/-! The blocks at a soft reset (R25, R67, R88, R102, R133, R145, R165). -/

namespace Sys2Proof.Machine

/-! ## The blocks but for portals and cars -/

/-- R88: a zone table with every zone emptied and the blank zones left out. -/
def emptiedZones (zones : Table Zone) : Table Zone :=
  (Table.mapValues Zone.emptied zones).filter (fun e => e.2 != Zone.blank)

/-- R88: every zone keeps its record and counts nobody. -/
theorem read_emptiedZones {zones : Table Zone} (sorted : Table.Sorted zones) (z : Nat) :
    Table.read Zone.blank z (emptiedZones zones) = { Table.read Zone.blank z zones with count := 0, reserved := 0 } := by
  have mapped : Table.Sorted (Table.mapValues Zone.emptied zones) := by
    unfold Table.mapValues Table.Sorted
    exact List.pairwise_map.2 sorted
  have kept : Table.Sorted (emptiedZones zones) := List.Pairwise.filter _ mapped
  have value : (Table.find z (Table.mapValues Zone.emptied zones)).getD Zone.blank =
      { Table.read Zone.blank z zones with count := 0, reserved := 0 } := Table.read_mapValues Zone.emptied Zone.blank rfl z zones
  rw [← value, Table.read]
  cases found : Table.find z (Table.mapValues Zone.emptied zones) with
  | none =>
    have absent : Table.find z (emptiedZones zones) = none := by
      cases here : Table.find z (emptiedZones zones) with
      | none => rfl
      | some x =>
        have listed := (List.mem_filter.1 (Table.mem_of_find here)).1
        rw [Table.find_of_mem mapped listed] at found
        cases found
    rw [absent]
  | some x =>
    by_cases blank : x = Zone.blank
    · have absent : Table.find z (emptiedZones zones) = none := by
        cases here : Table.find z (emptiedZones zones) with
        | none => rfl
        | some y =>
          obtain ⟨listed, stays⟩ := List.mem_filter.1 (Table.mem_of_find here)
          rw [Table.find_of_mem mapped listed] at found
          obtain rfl := Option.some.inj found
          simp [blank] at stays
      rw [absent, blank]
      rfl
    · have listed : (z, x) ∈ emptiedZones zones :=
        List.mem_filter.2 ⟨Table.mem_of_find found, by simpa using blank⟩
      rw [Table.find_of_mem kept listed]

/-- R88: an empty register that keeps the limits, flags and floors of its zones. -/
abbrev Register.emptied (g : Register) : Register :=
  { visits := [], creating := 0, zones := emptiedZones g.zones, walk := none }

/-- R88: the register is emptied, and its length handed to the mirror. -/
theorem State.emptyRegister_eq (s : State) : s.emptyRegister = { s with
    mem := if s.register.visits = [] then s.mem else (s.mirror 32 (bytesOf 2 0)).mem, register := s.register.emptied } := by
  have told := State.mem_mirror_congr (s := s) (t := { s with register := s.register.emptied }) rfl 32 (bytesOf 2 0)
  unfold State.emptyRegister
  dsimp only
  split
  · rfl
  · refine (State.OnlyMem.eq (State.mirrorVisits_frame _)).trans ?_
    exact congrArg (fun m => { s with mem := m, register := s.register.emptied }) told

/-- R25, R67, R88, R102, R165: the blocks before the portals and cars are reset. -/
def State.emptiedBlocks (s : State) : State :=
  { s with
    mem := s.emptyRegister.mem
    register := { visits := [], creating := 0, zones := emptiedZones s.register.zones, walk := none }
    reads := [], tenants := Table.mapValues Tenant.leaveSite s.tenants
    units := Table.mapValues UnitRecord.softReset s.units, lines := Table.mapValues Line.softReset s.lines
    nodes := Table.mapValues Node.softReset (Table.mapValues Node.noVerdicts s.nodes) }

theorem State.resetBlocks_eq (s : State) : s.resetBlocks =
    (s.emptiedBlocks.forEach s.emptiedBlocks.portalNumbers State.resetPortal).forEach
      s.emptiedBlocks.carNumbers State.resetCar := by
  unfold State.resetBlocks
  dsimp only
  have emptied := State.emptyRegister_eq (State.flushReads { s with tenants := Table.mapValues Tenant.leaveSite s.tenants })
  have told := State.mem_mirror_congr (s := s)
    (t := State.flushReads { s with tenants := Table.mapValues Tenant.leaveSite s.tenants }) rfl 32 (bytesOf 2 0)
  rw [told] at emptied
  have mem : s.emptyRegister.mem = if s.register.visits = [] then s.mem else (s.mirror 32 (bytesOf 2 0)).mem := by
    rw [State.emptyRegister_eq]
  unfold State.emptiedBlocks
  rw [emptied, mem]
  rfl

theorem State.emptiedBlocks_node (n : NodeId) (s : State) :
    s.emptiedBlocks.node n = (s.node n).map Node.softReset := by
  refine (Table.find_mapValues Node.softReset n.code (Table.mapValues Node.noVerdicts s.nodes)).trans ?_
  rw [Table.find_mapValues, Option.map_map]
  rfl

/-- R25, R67, R88, R102, R165: the tenants, units, lines and reads after a soft reset. -/
theorem State.resetBlocks_tables (s : State) :
    s.resetBlocks.tenants = Table.mapValues Tenant.leaveSite s.tenants ∧
      s.resetBlocks.units = Table.mapValues UnitRecord.softReset s.units ∧
      s.resetBlocks.lines = Table.mapValues Line.softReset s.lines ∧ s.resetBlocks.reads = [] ∧
      s.resetBlocks.register = { visits := [], creating := 0, zones := emptiedZones s.register.zones, walk := none } := by
  rw [State.resetBlocks_eq, State.resetCars_only, State.resetPortals_only]
  exact ⟨rfl, rfl, rfl, rfl, rfl⟩

/-! ## The portals, the cars and their nodes -/

section
variable {s : State}

theorem State.resetBlocks_portals (s : State) :
    s.resetBlocks.portals = (s.emptiedBlocks.forEach s.emptiedBlocks.portalNumbers State.resetPortal).portals := by
  rw [State.resetBlocks_eq, State.resetCars_only]

theorem State.emptiedBlocks_around (s : State) : s.SameAround s.emptiedBlocks := ⟨rfl, rfl, rfl, rfl⟩

/-- R133: a configured portal. -/
theorem State.resetBlocks_portal {p : Nat} {old : PortalConfig} (small : p < 48) (config : (s.portal p).config = some old) :
    s.resetBlocks.portal p = s.resetTo ((s.portal p).deferred.getD old) (s.portal p) := by
  have listed : p ∈ s.emptiedBlocks.portalNumbers := State.mem_portalNumbers.2 ⟨small, by
    change ((s.portal p).config).isSome = true
    rw [config]
    rfl⟩
  obtain ⟨record, -⟩ := State.resetPortals_spec (State.nodup_portalNumbers _) listed (s := s.emptiedBlocks) config
  rw [State.resetTo_congr s.emptiedBlocks_around] at record
  rw [State.portal, State.resetBlocks_portals]
  exact record

theorem State.resetBlocks_portal_none {p : Nat} (config : (s.portal p).config = none) :
    s.resetBlocks.portal p = s.portal p := by
  have away : p ∉ s.emptiedBlocks.portalNumbers := fun listed => by
    have some_ : ((s.portal p).config).isSome = true := (State.mem_portalNumbers.1 listed).2
    rw [config] at some_
    cases some_
  rw [State.portal, State.resetBlocks_portals]
  exact (State.resetPortals_keep _ _).1 p away

/-- The cars as the reset reaches them. -/
theorem State.resetPortals_car (ps : List Nat) (i : Nat) (t : State) : (t.forEach ps State.resetPortal).car i = t.car i := by
  rw [State.car, State.resetPortals_only]
  rfl

/-- R145: a configured car. -/
theorem State.resetBlocks_car {i : Nat} {old : CarConfig} (small : i < 4) (config : (s.car i).config = some old) :
    s.resetBlocks.car i = s.carReset ((s.car i).deferred.getD old) := by
  have listed : i ∈ s.emptiedBlocks.carNumbers := State.mem_carNumbers.2 ⟨small, by
    change ((s.car i).config).isSome = true
    rw [config]
    rfl⟩
  have same := State.resetPortals_car s.emptiedBlocks.portalNumbers i s.emptiedBlocks
  have around := (State.resetPortals_keep s.emptiedBlocks.portalNumbers s.emptiedBlocks).2.2
  rw [State.resetBlocks_eq]
  generalize s.emptiedBlocks.forEach s.emptiedBlocks.portalNumbers State.resetPortal = u at same around
  have same : u.car i = s.car i := same
  obtain ⟨record, -⟩ := State.resetCars_spec (State.nodup_carNumbers _) listed (s := u) (by rw [same]; exact config)
  rw [same] at record
  have mode : u.mode = s.mode := around.1
  simp only [State.carReset, State.carStateByMode, mode] at record
  exact record

theorem State.resetBlocks_car_none {i : Nat} (config : (s.car i).config = none) : s.resetBlocks.car i = s.car i := by
  have away : i ∉ s.emptiedBlocks.carNumbers := fun listed => by
    have some_ : ((s.car i).config).isSome = true := (State.mem_carNumbers.1 listed).2
    rw [config] at some_
    cases some_
  rw [State.resetBlocks_eq]
  exact ((State.resetCars_keep _ _).1 i away).trans (State.resetPortals_car _ i _)

/-- R165: a node's record after a soft reset, but for the outputs. -/
theorem State.resetBlocks_core (s : State) : State.KeepsOfNodes Node.core s.emptiedBlocks s.resetBlocks := by
  rw [State.resetBlocks_eq]
  intro n
  rw [State.resetCars_blind (g := Node.core) (fun _ _ _ => rfl) s.emptiedBlocks.carNumbers _ n]
  exact State.resetPortals_blind (g := Node.core) (fun _ _ _ => rfl) s.emptiedBlocks.portalNumbers _ n

/-- R148: the lock command and polarity of a node are those of the portals' phase, its floors and recall those of the cars'. -/
theorem State.resetBlocks_outputs (s : State) :
    State.KeepsOfNodes (fun r => (r.lock, r.polarity))
      (s.emptiedBlocks.forEach s.emptiedBlocks.portalNumbers State.resetPortal) s.resetBlocks ∧
      State.KeepsOfNodes (fun r => (r.floors, r.recallOn)) s.emptiedBlocks
        (s.emptiedBlocks.forEach s.emptiedBlocks.portalNumbers State.resetPortal) := by
  rw [State.resetBlocks_eq]
  exact ⟨State.resetCars_blind (g := fun r : Node => (r.lock, r.polarity)) (fun _ _ _ => rfl) _ _,
    State.resetPortals_blind (g := fun r : Node => (r.floors, r.recallOn)) (fun _ _ _ => rfl) _ _⟩

theorem State.not_names {n : NodeId} {besides : Option Nat} (alone : s.NoPortalNames n besides) {q : Nat}
    (other : some q ≠ besides) : ¬ (s.portal q).Names n := fun ⟨c, own, same⟩ => alone q other c own same

theorem State.not_carNames {n : NodeId} {besides : Option Nat} (alone : s.NoCarNames n besides) {j : Nat}
    (other : some j ≠ besides) : ¬ (s.car j).Names n := fun ⟨g, own, same⟩ => alone j other g own same

/-- R148, R165: a node's record after a soft reset. -/
theorem State.resetBlocks_node {n : NodeId} {r : Node} (stands : s.node n = some r) :
    let t := s.resetBlocks
    ∃ r', t.node n = some r' ∧
      r' = { r with
        state := .unknown, faults := 0, restore := 0, tagA := none, tagB := none, tagCar := none, lastBad := none
        verdictA := .none, verdictB := .none, tamper := false
        lock := r'.lock, polarity := r'.polarity, floors := r'.floors, recallOn := r'.recallOn } ∧
      (s.NoPortalNames n none → r'.lock = r.lock ∧ r'.polarity = r.polarity) ∧
      (s.NoCarNames n none → r'.floors = r.floors ∧ r'.recallOn = r.recallOn) ∧
      (∀ p < 48, ∀ c, (t.portal p).config = some c → c.node.code = n.code → s.NoPortalNames n (some p) →
        r'.lock = (t.portal p).command ∧ r'.polarity = c.polarity) ∧
      ∀ i < 4, ∀ g, (t.car i).config = some g → g.node.code = n.code → s.NoCarNames n (some i) →
        r'.recallOn = (s.mode.mode == .evacuate) ∧
          r'.floors = if s.mode.mode = .normal then g.pub &&& g.served else 0 := by
  intro t
  have core := State.resetBlocks_core s n
  obtain ⟨locks, floors⟩ := State.resetBlocks_outputs s
  have locks := locks n
  have floors := floors n
  have start := State.emptiedBlocks_node n s
  rw [stands, Option.map_some] at start
  rw [start, Option.map_some] at core floors
  obtain ⟨r', own, same⟩ := Option.map_eq_some_iff.1 core
  obtain ⟨x, between, handed⟩ := Option.map_eq_some_iff.1 floors
  rw [own, between, Option.map_some, Option.map_some, Option.some.injEq, Prod.mk.injEq] at locks
  obtain ⟨lock, polarity⟩ := locks
  rw [Prod.mk.injEq] at handed
  obtain ⟨floors, recalls⟩ := handed
  obtain ⟨-, untouched, around⟩ := State.resetPortals_keep s.emptiedBlocks.portalNumbers s.emptiedBlocks
  have carP (i : Nat) := State.resetPortals_car s.emptiedBlocks.portalNumbers i s.emptiedBlocks
  have byCars := (State.resetCars_keep s.emptiedBlocks.carNumbers
    (s.emptiedBlocks.forEach s.emptiedBlocks.portalNumbers State.resetPortal)).2.1 n
  refine ⟨r', own, ?_, fun alone => ?_, fun alone => ?_, fun p small c config code alone => ?_,
    fun i small g config code alone => ?_⟩
  · obtain ⟨kind, state, faults, restore, tagA, tagB, tagCar, lastBad, verdictA, verdictB, tamper⟩ := Node.of_core same
    cases r'
    simp_all [Node.softReset, Node.noTags, Node.noVerdicts]
  · have kept := untouched n fun p _ => State.not_names alone (by simp)
    rw [between, start] at kept
    rw [lock, polarity, Option.some.inj kept]
    exact ⟨rfl, rfl⟩
  · have kept := byCars fun i _ => by
      rw [carP]
      exact State.not_carNames alone (by simp)
    rw [← State.resetBlocks_eq, own, between] at kept
    rw [Option.some.inj kept, floors, recalls]
    exact ⟨rfl, rfl⟩
  · cases was : (s.portal p).config with
    | none =>
      rw [State.resetBlocks_portal_none was, was] at config
      cases config
    | some old =>
      have listed : p ∈ s.emptiedBlocks.portalNumbers := State.mem_portalNumbers.2 ⟨small, by
        change ((s.portal p).config).isSome = true
        rw [was]
        rfl⟩
      obtain ⟨-, hands⟩ := State.resetPortals_spec (State.nodup_portalNumbers _) listed (s := s.emptiedBlocks) was
      have record : t.portal p = (s.emptiedBlocks.forEach s.emptiedBlocks.portalNumbers State.resetPortal).portal p := by
        rw [State.portal, State.resetBlocks_portals]
        rfl
      rw [State.resetBlocks_portal small was] at config
      obtain rfl := Option.some.inj config
      have told := hands n code (fun q _ other => State.not_names alone (by simpa using other)) x between
      rw [lock, polarity, record]
      exact told
  · cases was : (s.car i).config with
    | none =>
      rw [State.resetBlocks_car_none was, was] at config
      cases config
    | some old =>
      have listed : i ∈ s.emptiedBlocks.carNumbers := State.mem_carNumbers.2 ⟨small, by
        change ((s.car i).config).isSome = true
        rw [was]
        rfl⟩
      rw [State.resetBlocks_car small was] at config
      obtain rfl := Option.some.inj config
      have own' : (State.forEach s.emptiedBlocks.carNumbers State.resetCar
          (s.emptiedBlocks.forEach s.emptiedBlocks.portalNumbers State.resetPortal)).node n = some r' := by
        rw [← State.resetBlocks_eq]
        exact own
      have mode : (s.emptiedBlocks.forEach s.emptiedBlocks.portalNumbers State.resetPortal).mode = s.mode := around.1
      generalize s.emptiedBlocks.forEach s.emptiedBlocks.portalNumbers State.resetPortal = u at carP own' mode
      have here : u.car i = s.car i := carP i
      obtain ⟨-, hands⟩ := State.resetCars_spec (State.nodup_carNumbers _) listed (s := u) (by rw [here]; exact was)
      rw [here, mode] at hands
      exact hands n code (fun j _ other => by
        rw [carP]
        exact State.not_carNames alone (by simpa using other)) r' own'

end

end Sys2Proof.Machine
end

section
/-! The slips that a soft reset aborts (R191). -/

namespace Sys2Proof.Machine

/-- R191: from `s` to `t` slip `n` has been answered ABORTED with a tag and the work done as detail; every other byte of it is
kept. -/
def State.Aborts (n tag : Nat) (work : List Byte) (s t : State) : Prop :=
  let base := 0x400 + 128 * n
  t.wordAt base = 3 ∧ t.wordAt (base + 6) = 14 ∧ t.wordAt (base + 8) = 0 ∧ t.wordAt (base + 10) = tag ∧
    t.peek (base + 16) 16 = padTo 16 0 work ∧
    ∀ k < 128, (2 ≤ k ∧ k < 6 ∨ 12 ≤ k ∧ k < 16 ∨ 32 ≤ k) → t.byteAt (base + k) = s.byteAt (base + k)

/-- From `s` to `t` no byte of slip `n` has changed. -/
def State.KeepsSlip (n : Nat) (s t : State) : Prop :=
  ∀ k < 128, t.byteAt (0x400 + 128 * n + k) = s.byteAt (0x400 + 128 * n + k)

theorem State.KeepsSlip.trans {n : Nat} {s t u : State} (h : s.KeepsSlip n t) (k : t.KeepsSlip n u) : s.KeepsSlip n u :=
  fun i small => (k i small).trans (h i small)

theorem State.KeepsSlip.wordAt {n k : Nat} {s t : State} (h : s.KeepsSlip n t) (small : k + 1 < 128) :
    t.wordAt (0x400 + 128 * n + k) = s.wordAt (0x400 + 128 * n + k) :=
  State.wordAt_congr (h k (by omega)) (h (k + 1) small)

/-- An abort of a slip that nothing touched before or touches after. -/
theorem State.Aborts.around {n tag : Nat} {work : List Byte} {s t u v : State} (before : s.KeepsSlip n t)
    (h : t.Aborts n tag work u) (after : u.KeepsSlip n v) : s.Aborts n tag work v := by
  obtain ⟨state, result, flags, tags, detail, others⟩ := h
  refine ⟨(after.wordAt (k := 0) (by omega)).trans state, (after.wordAt (by omega)).trans result,
    (after.wordAt (by omega)).trans flags, (after.wordAt (by omega)).trans tags, ?_, fun k small other => ?_⟩
  · rw [← detail]
    exact State.peek_congr fun i hi => by
      rw [Nat.add_assoc]
      exact after (16 + i) (by omega)
  · rw [after k small, others k small other, before k small]

theorem State.writeAnswer_aborts (n tag : Nat) (work : List Byte) (s : State) :
    s.Aborts n (tag % 65536) work (s.writeAnswer n tag (.refusal .aborted work)) := by
  obtain ⟨state, result, flags, tags, detail, others⟩ := State.writeAnswer_bytes n tag (.refusal .aborted work) s
  exact ⟨state, result, flags, tags, detail, fun k small other => others _ (by omega) (by omega) (by omega)⟩

theorem State.writeAnswer_outside (n tag : Nat) (a : Answer) (s : State) {c : Nat} (outside : c < 0x400 + 128 * n ∨
    0x400 + 128 * n + 32 ≤ c) : (s.writeAnswer n tag a).byteAt c = s.byteAt c := by
  obtain ⟨-, -, -, -, -, others⟩ := State.writeAnswer_bytes n tag a s
  exact others c (by omega) (by omega) (by omega)

theorem State.writeAnswer_keepsSlip {n m : Nat} (other : m ≠ n) (tag : Nat) (a : Answer) (s : State) :
    s.KeepsSlip m (s.writeAnswer n tag a) := fun k small => State.writeAnswer_outside n tag a s (by omega)

theorem State.writeAnswer_cause (n tag : Nat) (a : Answer) (s : State) :
    (s.writeAnswer n tag a).bus.cause = s.bus.cause ||| 1#7 := by
  unfold State.writeAnswer State.raise
  rw [State.OnlyMem.eq (State.pass_frame (answerAccesses n tag a) s)]
  rfl

/-! ## The queued slips -/

theorem State.abortQueued_keepsSlip {m : Nat} (ns : List Nat) (other : m ∉ ns) (s : State) :
    s.KeepsSlip m (s.forEach ns State.abortQueued) := by
  induction ns generalizing s with
  | nil => exact fun _ _ => rfl
  | cons n ns ih =>
    have ⟨here, rest⟩ : m ≠ n ∧ m ∉ ns := by simpa using other
    rw [State.forEach_cons]
    exact (State.writeAnswer_keepsSlip here _ _ s).trans (ih rest _)

theorem State.abortQueued_outside {c : Nat} (ns : List Nat) (outside : ∀ n ∈ ns, c < 0x400 + 128 * n ∨ 0x400 + 128 * n + 32 ≤ c)
    (s : State) : (s.forEach ns State.abortQueued).byteAt c = s.byteAt c := by
  induction ns generalizing s with
  | nil => rfl
  | cons n ns ih =>
    rw [State.forEach_cons, ih (fun k listed => outside k (List.mem_cons_of_mem n listed))]
    exact State.writeAnswer_outside n _ _ s (outside n List.mem_cons_self)

theorem State.abortQueued_aborts {ns : List Nat} (nodup : ns.Nodup) {n : Nat} (listed : n ∈ ns) (s : State) :
    s.Aborts n (s.wordAt (0x400 + 128 * n + 4)) [0] (s.forEach ns State.abortQueued) := by
  obtain ⟨before, after, rfl⟩ := List.append_of_mem listed
  obtain ⟨-, nodup', apart⟩ := List.nodup_append.1 nodup
  have fresh : n ∉ before := fun early => apart n early n List.mem_cons_self rfl
  have once : n ∉ after := (List.nodup_cons.1 nodup').1
  have split_ : s.forEach (before ++ n :: after) State.abortQueued =
      ((s.forEach before State.abortQueued).abortQueued n).forEach after State.abortQueued := by
    simp [State.forEach, List.foldl_append]
  have kept := State.abortQueued_keepsSlip before fresh s
  have wrote := State.writeAnswer_aborts n ((s.forEach before State.abortQueued).wordAt (0x400 + 128 * n + 4)) [0]
    (s.forEach before State.abortQueued)
  rw [kept.wordAt (k := 4) (by omega), Nat.mod_eq_of_lt (State.wordAt_lt _ s)] at wrote
  rw [split_]
  refine wrote.around kept ?_
  rw [← kept.wordAt (k := 4) (by omega)]
  exact State.abortQueued_keepsSlip after once _

theorem State.abortQueued_causes (ns : List Nat) (s : State) :
    (∀ i, s.bus.cause.getLsbD i = true → (s.forEach ns State.abortQueued).bus.cause.getLsbD i = true) ∧
      (ns ≠ [] → (s.forEach ns State.abortQueued).bus.cause.getLsbD 0 = true) := by
  induction ns generalizing s with
  | nil => exact ⟨fun _ held => held, fun some => absurd rfl some⟩
  | cons n ns ih =>
    obtain ⟨kept, -⟩ := ih (s.abortQueued n)
    have raised : (s.abortQueued n).bus.cause = s.bus.cause ||| 1#7 := State.writeAnswer_cause n _ _ s
    rw [State.forEach_cons]
    refine ⟨fun i held => kept i ?_, fun _ => kept 0 ?_⟩
    · rw [raised, BitVec.getLsbD_or, held, Bool.true_or]
    · rw [raised, BitVec.getLsbD_or]
      simp

/-! ## The slip in service and the queue -/

/-- R191: the slip in service is answered first. -/
theorem State.abortServing_some {v : Service} {s : State} (serving : s.slips.serving = some v) : s.abortServing =
    State.writeAnswer v.slip v.tag (.refusal .aborted v.workDone)
      { s with slips := { s.slips with serving := none } } := by
  unfold State.abortServing
  rw [serving]

theorem State.abortServing_none {s : State} (idle : s.slips.serving = none) : s.abortServing = s := by
  unfold State.abortServing
  rw [idle]

theorem State.abortServing_queue (s : State) : s.abortServing.slips.queue = s.slips.queue := by
  cases serving : s.slips.serving with
  | none => rw [State.abortServing_none serving]
  | some v => rw [State.abortServing_some serving, State.writeAnswer_slips]

theorem State.aborts_eq (s : State) : s.abortServing.abortQueue =
    ({ s.abortServing with slips := { s.abortServing.slips with queue := [] } } : State).forEach s.slips.queue
      State.abortQueued := by
  rw [State.abortQueue, State.abortServing_queue]

/-- R191: a slip neither queued nor in service is kept. -/
theorem State.aborts_keepsSlip {m : Nat} {s : State} (free : m ∉ s.slips.queue)
    (idle : ∀ v, s.slips.serving = some v → v.slip ≠ m) : s.KeepsSlip m s.abortServing.abortQueue := by
  have first : s.KeepsSlip m s.abortServing := by
    cases serving : s.slips.serving with
    | none =>
      rw [State.abortServing_none serving]
      exact fun _ _ => rfl
    | some v =>
      rw [State.abortServing_some serving]
      exact State.writeAnswer_keepsSlip (idle v serving).symm _ _ { s with slips := { s.slips with serving := none } }
  rw [State.aborts_eq]
  exact first.trans (State.abortQueued_keepsSlip s.slips.queue free
    { s.abortServing with slips := { s.abortServing.slips with queue := [] } })

/-- R191: under the law of the post queue the slip in service and the queued slips are aborted, and no byte from the pages on
is touched. -/
theorem State.aborts_answers {s : State} (law : s.PostQueueLaw) :
    (∀ n ∈ s.slips.queue, s.Aborts n (s.wordAt (0x400 + 128 * n + 4)) [0] s.abortServing.abortQueue) ∧
      (∀ v, s.slips.serving = some v → s.Aborts v.slip v.tag v.workDone s.abortServing.abortQueue) ∧
      ∀ c, 0x2400 ≤ c → s.abortServing.abortQueue.byteAt c = s.byteAt c := by
  obtain ⟨nodup, queued, taken⟩ := law
  rw [State.aborts_eq]
  have outside (c : Nat) (high : 0x2400 ≤ c) := State.abortQueued_outside (c := c) s.slips.queue
    (fun n listed => by have := (queued n listed).1; omega)
    { s.abortServing with slips := { s.abortServing.slips with queue := [] } }
  have aborts (n : Nat) (listed : n ∈ s.slips.queue) := State.abortQueued_aborts nodup listed
    { s.abortServing with slips := { s.abortServing.slips with queue := [] } }
  have keeps (m : Nat) (free : m ∉ s.slips.queue) := State.abortQueued_keepsSlip s.slips.queue free
    { s.abortServing with slips := { s.abortServing.slips with queue := [] } }
  cases serving : s.slips.serving with
  | none =>
    rw [State.abortServing_none serving] at outside aborts ⊢
    exact ⟨aborts, fun v stands => (nomatch stands), outside⟩
  | some v =>
    obtain ⟨small, mark, -⟩ := taken v serving
    have away (n : Nat) (listed : n ∈ s.slips.queue) : n ≠ v.slip := fun same => by
      have posted := (queued n listed).2
      rw [same, mark] at posted
      cases posted
    have wrote := State.writeAnswer_aborts v.slip v.tag v.workDone { s with slips := { s.slips with serving := none } }
    have kept (n : Nat) (listed : n ∈ s.slips.queue) := State.writeAnswer_keepsSlip (away n listed) v.tag
      (.refusal .aborted v.workDone) { s with slips := { s.slips with serving := none } }
    have beyond (c : Nat) (high : 0x2400 ≤ c) := State.writeAnswer_outside v.slip v.tag (.refusal .aborted v.workDone)
      { s with slips := { s.slips with serving := none } } (c := c) (by omega)
    have tag : v.tag < 65536 := field_lt 4 2 v.copy
    rw [Nat.mod_eq_of_lt tag] at wrote
    rw [← State.abortServing_some serving] at wrote kept beyond
    refine ⟨fun n listed => ?_, fun v' same => ?_, fun c high => (outside c high).trans (beyond c high)⟩
    · have before : s.KeepsSlip n { s.abortServing with slips := { s.abortServing.slips with queue := [] } } := kept n listed
      have tag := before.wordAt (k := 4) (by omega)
      have result := aborts n listed
      rw [tag] at result
      exact result.around before (fun _ _ => rfl)
    · obtain rfl := Option.some.inj same
      exact State.Aborts.around (fun _ _ => rfl) wrote (keeps v.slip fun listed => away v.slip listed rfl)

/-- R191: ANSWER is raised where a slip is aborted, and only there. -/
theorem State.aborts_causes (s : State) :
    (∀ i, s.bus.cause.getLsbD i = true → s.abortServing.abortQueue.bus.cause.getLsbD i = true) ∧
      ((s.slips.queue ≠ [] ∨ s.slips.serving ≠ none) → s.abortServing.abortQueue.bus.cause.getLsbD 0 = true) ∧
      (s.slips.queue = [] → s.slips.serving = none →
        s.abortServing.abortQueue.bus.cause.getLsbD 0 = s.bus.cause.getLsbD 0) := by
  obtain ⟨kept, raised⟩ := State.abortQueued_causes s.slips.queue
    { s.abortServing with slips := { s.abortServing.slips with queue := [] } }
  rw [State.aborts_eq]
  cases serving : s.slips.serving with
  | none =>
    rw [State.abortServing_none serving] at kept raised ⊢
    refine ⟨kept, fun busy => raised (busy.resolve_right (fun h => h rfl)), fun empty _ => ?_⟩
    rw [empty]
    rfl
  | some v =>
    have cause := State.writeAnswer_cause v.slip v.tag (.refusal .aborted v.workDone)
      { s with slips := { s.slips with serving := none } }
    rw [← State.abortServing_some serving] at cause
    have first (i : Nat) (held : (s.bus.cause ||| 1#7).getLsbD i = true) : s.abortServing.bus.cause.getLsbD i = true := by
      rw [cause]
      exact held
    refine ⟨fun i held => kept i (first i ?_), fun _ => kept 0 (first 0 ?_), fun _ none_ => nomatch none_⟩
    · rw [BitVec.getLsbD_or, held, Bool.true_or]
    · rw [BitVec.getLsbD_or]
      simp

end Sys2Proof.Machine
end

section
/-! The journal at a soft reset (R201). -/

namespace Sys2Proof.Machine

/-! ## Two states with the same pages -/

/-- The journal, the pages and all else that an entry depends on agree. -/
structure State.SamePages (s t : State) : Prop where
  journal : t.journal = s.journal
  settings : t.settings = s.settings
  clock : t.clock = s.clock
  pages : ∀ c, 0x2400 ≤ c → t.byteAt c = s.byteAt c

namespace State.SamePages

variable {s t : State}

theorem count (h : s.SamePages t) (p : Nat) : t.entryCount p = s.entryCount p := by
  rw [State.entryCount_eq, State.entryCount_eq, h.pages _ (by omega)]

theorem word (h : s.SamePages t) {a : Nat} (high : 0x2400 ≤ a) : t.wordAt a = s.wordAt a :=
  State.wordAt_congr (h.pages a high) (h.pages (a + 1) (by omega))

theorem entry (h : s.SamePages t) (kind : EntryKind) (subject tenant : Option Nat) (detail : List Byte) :
    t.entry kind subject tenant detail = s.entry kind subject tenant detail := by
  simp only [State.entry, h.clock]

theorem placeEntry (h : s.SamePages t) (e : Entry) : (s.placeEntry e).SamePages (t.placeEntry e) where
  journal := by rw [State.placeEntry_journal, State.placeEntry_journal, h.journal, h.settings, h.count]
  settings := by simp only [State.placeEntry_eq, h.settings]
  clock := by simp only [State.placeEntry_eq, h.clock]
  pages c high := by rw [State.byteAt_placeEntry, State.byteAt_placeEntry, h.journal, h.count, h.pages c high]

theorem alarmOf (h : s.SamePages t) (kind : EntryKind) : (s.alarmOf kind).SamePages (t.alarmOf kind) := by
  have same (u : State) : (u.alarmOf kind).settings = u.settings ∧ (u.alarmOf kind).clock = u.clock := by
    unfold State.alarmOf
    split <;> exact ⟨rfl, rfl⟩
  obtain ⟨settings₁, clock₁⟩ := same s
  obtain ⟨settings₂, clock₂⟩ := same t
  refine ⟨by rw [State.alarmOf_journal, State.alarmOf_journal, h.journal], by rw [settings₁, settings₂, h.settings],
    by rw [clock₁, clock₂, h.clock], fun c high => ?_⟩
  rw [State.byteAt_congr (State.alarmOf_mem kind t), State.byteAt_congr (State.alarmOf_mem kind s), h.pages c high]

theorem closePage (h : s.SamePages t) (r : CloseReason) : (s.closePage r).SamePages (t.closePage r) := by
  have marked (c : Nat) (high : 0x2400 ≤ c) : (t.markFull r).byteAt c = (s.markFull r).byteAt c := by
    rw [State.byteAt_markFull, State.byteAt_markFull, h.journal, h.pages c high]
  have next : t.nextState r = s.nextState r := by
    unfold State.nextState
    rw [h.journal]
    exact State.wordAt_congr (marked _ (by omega)) (marked _ (by omega))
  refine ⟨by rw [State.closePage_journal, State.closePage_journal, h.journal, next], by simp [h.settings], by simp [h.clock],
    fun c high => ?_⟩
  rw [State.byteAt_closePage r t (by omega), State.byteAt_closePage r s (by omega), h.journal, next, marked c high]

theorem writeEntry (h : s.SamePages t) (e : Entry) : (s.writeEntry e).SamePages (t.writeEntry e) := by
  have placed := (h.placeEntry e).alarmOf e.kind
  have count : t.entryCount t.journal.page = s.entryCount s.journal.page := by rw [h.journal, h.count]
  by_cases last : s.entryCount s.journal.page = 62
  · rw [State.writeEntry_last e last, State.writeEntry_last e (count.trans last)]
    exact placed.closePage .full
  · rw [State.writeEntry_room e last, State.writeEntry_room e (by rw [count]; exact last)]
    exact placed

theorem writeEntries (h : s.SamePages t) (es : List Entry) :
    (s.forEach es State.writeEntry).SamePages (t.forEach es State.writeEntry) := by
  induction es generalizing s t with
  | nil => exact h
  | cons e es ih => exact ih (h.writeEntry e)

theorem mirrorJournal (h : s.SamePages t) : s.mirrorJournal.SamePages t.mirrorJournal where
  journal := by simp [h.journal]
  settings := by simp [h.settings]
  clock := by simp [h.clock]
  pages c high := by
    rw [State.byteAt_mirrorJournal (by omega), State.byteAt_mirrorJournal (by omega), h.pages c high]

theorem recover (h : s.SamePages t) : s.recover.SamePages t.recover := by
  have taken : s.takenToRecover.SamePages t.takenToRecover := by
    refine ⟨by rw [State.takenToRecover_journal, State.takenToRecover_journal, h.journal],
      by simp only [State.takenToRecover_eq, h.settings], by simp only [State.takenToRecover_eq, h.clock], fun c high => ?_⟩
    rw [State.byteAt_congr t.takenToRecover_mem, State.byteAt_congr s.takenToRecover_mem, State.byteAt_takePage,
      State.byteAt_takePage, h.journal, h.pages c high]
  have written : s.recovered.SamePages t.recovered := by
    unfold State.recovered
    rw [h.journal]
    exact taken.writeEntries s.journal.holdover
  have dropped : t.recovered.NoneDropped ↔ s.recovered.NoneDropped := by rw [State.NoneDropped, written.journal]
  rw [State.recover_eq, State.recover_eq]
  by_cases none : s.recovered.NoneDropped
  · rw [if_pos none, if_pos (dropped.2 none)]
    exact written
  · rw [if_neg none, if_neg (mt dropped.1 none)]
    have gap : t.recovered.gapEntry = s.recovered.gapEntry := by
      rw [State.gapEntry, written.entry, written.journal]
      rfl
    have told := written.writeEntry s.recovered.gapEntry
    refine SamePages.mirrorJournal ?_
    unfold State.gapTold
    rw [gap]
    exact ⟨by rw [told.journal], told.settings, told.clock, told.pages⟩

end State.SamePages

/-! ## The close and the RESTART entry (R201) -/

/-- R201: the RESTART entry of this moment. -/
abbrev State.restart (s : State) : Entry :=
  { minute := s.clock.minute, second := s.clock.second, kind := .restart, subject := none, tenant := none, detail := [] }

/-- R197: the journal that waits for a page holds the RESTART entry, or drops and counts it. -/
abbrev State.heldRestart (s : State) (j : Journal) : Journal :=
  if j.holdover.length < 8 then { j with holdover := j.holdover ++ [s.restart] }
  else { j with alarmDropped := if j.alarmDropped < 65535 then j.alarmDropped + 1 else j.alarmDropped }

theorem State.journalReset_stays {s : State} (stays : ¬ (s.journal.stalled = false ∧ s.entryCount s.journal.page ≠ 0)) :
    s.journalReset = s.log .restart none none [] := by
  unfold State.journalReset
  dsimp only
  rw [if_neg stays]

/-- R201: a page with no entries stays, and RESTART is its first. -/
theorem State.journalReset_empty {s : State} (open_ : s.journal.stalled = false) (empty : s.entryCount s.journal.page = 0) :
    let base := 0x2400 + 1024 * s.journal.page
    let t := s.journalReset
    t.journal = { s.journal with sequence := s.journal.sequence + 1, flush := Timer.set s.settings.flush } ∧
      (t.entryCount s.journal.page = 1 ∧ t.peek (base + 2) 4 = bytesOf 4 s.journal.sequence.toNat ∧
        t.peek (base + 16) 16 = s.restart.bytes) ∧
      ∀ a, (a < base + 2 ∨ base + 7 ≤ a) → (a < base + 16 ∨ base + 32 ≤ a) → t.byteAt a = s.byteAt a := by
  obtain ⟨-, journal, count, entry, first, bytes, -⟩ :=
    State.log_room .restart none none [] open_ (s := s) (by rw [empty]; decide)
  rw [State.journalReset_stays (fun h => h.2 empty)]
  simp only [empty] at journal count entry first bytes
  exact ⟨journal, ⟨count, first trivial, entry⟩,
    fun a header place => bytes a (by omega) (by omega) (fun _ => by omega)⟩

/-- R197, R201: the RESTART entry of a journal that waits for a page that is not returned. -/
theorem State.log_restart_waits {s : State} (stalled : s.journal.stalled = true)
    (waits : s.wordAt (0x2400 + 1024 * s.journal.page) ≠ 0) :
    (s.log .restart none none []).journal = s.heldRestart s.journal ∧
      ∀ a, 39 ≤ a → (s.log .restart none none []).byteAt a = s.byteAt a := by
  rw [State.log_waits _ _ _ _ stalled waits]
  refine ⟨?_, fun a high => State.byteAt_holdEntry _ s (.inr (.inr high))⟩
  exact (State.holdEntry_journal _ s).trans (if_neg (show ¬ EntryKind.restart.alarm = false by decide))

/-- R196, R201: a page that holds entries is closed with reason RESET, and the next is taken or waited for. -/
theorem State.journalReset_closes {s : State} (open_ : s.journal.stalled = false)
    (holds : s.entryCount s.journal.page ≠ 0) (page : s.journal.page < 32) :
    let p := s.journal.page
    let base (p : Nat) := 0x2400 + 1024 * p
    let q := (p + 1) % 32
    let t := s.journalReset
    t.wordAt (base p) = 2 ∧ t.byteAt (base p + 7) = 2 ∧ t.bus.cause.getLsbD 1 = true ∧
      (∀ a, 0x2400 ≤ a → (a < base p ∨ base p + 8 ≤ a ∨ base p + 2 ≤ a ∧ a < base p + 7) →
        (a < base q ∨ base q + 8 ≤ a) → (a < base q + 16 ∨ base q + 32 ≤ a) → t.byteAt a = s.byteAt a) ∧
      if s.wordAt (base q) = 0 then
        t.journal = { s.journal with
          page := q, sequence := s.journal.sequence + 1, flush := Timer.set s.settings.flush, reexamine := false } ∧
          t.wordAt (base q) = 1 ∧ t.entryCount q = 1 ∧ t.peek (base q + 2) 4 = bytesOf 4 s.journal.sequence.toNat ∧
          t.peek (base q + 16) 16 = s.restart.bytes
      else
        t.journal = s.heldRestart { s.journal with page := q, stalled := true, reexamine := false, flush := .stopped } ∧
          t.bus.cause.getLsbD 3 = true ∧ ∀ a, base q ≤ a → a < base q + 1024 → t.byteAt a = s.byteAt a := by
  dsimp only
  obtain ⟨record, cause, bytes, next⟩ := State.closePage_bytes .reset page
  have closed : s.journalReset = (s.closePage .reset).log .restart none none [] := by
    unfold State.journalReset
    dsimp only
    rw [if_pos ⟨open_, holds⟩]
  have settings : (s.closePage .reset).settings = s.settings := by simp
  have clock : (s.closePage .reset).clock = s.clock := by simp
  have kept := State.Journals.log .restart none none [] (s.closePage .reset)
  have marked (a : Nat) (high : 0x2400 ≤ a) (away : a < 0x2400 + 1024 * ((s.journal.page + 1) % 32) ∨
      0x2400 + 1024 * ((s.journal.page + 1) % 32) + 8 ≤ a) : (s.closePage .reset).byteAt a =
        if a = 0x2400 + 1024 * s.journal.page then 2 else if a = 0x2400 + 1024 * s.journal.page + 1 then 0
        else if a = 0x2400 + 1024 * s.journal.page + 7 then 2 else s.byteAt a := by
    rw [bytes a high away, ← State.byteAt_congr (State.markFull_mem .reset s), State.byteAt_markFull]
    rfl
  rw [closed]
  generalize s.closePage .reset = v at record cause next settings clock kept marked
  have raised : (v.log .restart none none []).bus.cause.getLsbD 1 = true := kept.causes 1 (by
    rw [cause, BitVec.getLsbD_or, BitVec.getLsbD_or]
    simp)
  by_cases taken : s.wordAt (0x2400 + 1024 * ((s.journal.page + 1) % 32)) = 0
  · rw [if_pos taken] at next ⊢
    obtain ⟨filling, header⟩ := next
    have at_ : v.journal.page = (s.journal.page + 1) % 32 := by rw [record]
    have openV : v.journal.stalled = false := by rw [record, taken]; rfl
    have emptyV : v.entryCount v.journal.page = 0 := by
      have sixth := congrArg (fun l : List Byte => l.getD 4 0) header
      have count : v.byteAt (0x2400 + 1024 * ((s.journal.page + 1) % 32) + 6) = 0 := sixth
      rw [at_, State.entryCount_eq, count]
      rfl
    have fresh := State.journalReset_empty openV emptyV
    rw [State.journalReset_stays (fun h => h.2 emptyV), at_] at fresh
    obtain ⟨journal, ⟨count, first, entry⟩, others⟩ := fresh
    have same : v.restart = s.restart := by simp only [State.restart, clock]
    refine ⟨?_, ?_, raised, fun a high own nextHeader nextEntry => ?_, ?_, ?_, count, ?_, ?_⟩
    · rw [State.wordAt_eq, others _ (by omega) (by omega), others _ (by omega) (by omega), marked _ (by omega) (by omega),
        marked _ (by omega) (by omega)]
      simp
    · rw [others _ (by omega) (by omega), marked _ (by omega) (by omega)]
      simp
    · rw [others a (by omega) (by omega), marked a high nextHeader, if_neg (by omega), if_neg (by omega), if_neg (by omega)]
    · rw [journal, record, settings, taken]
      simp [open_]
    · refine Eq.trans ?_ filling
      exact State.wordAt_congr (others _ (by omega) (by omega)) (others _ (by omega) (by omega))
    · rw [first, record]
    · rw [entry, same]
  · rw [if_neg taken] at next cause ⊢
    have at_ : v.journal.page = (s.journal.page + 1) % 32 := by rw [record]
    have stalledV : v.journal.stalled = true := by rw [record]; simpa using taken
    have header (i : Nat) (small : i < 8) : v.byteAt (0x2400 + 1024 * ((s.journal.page + 1) % 32) + i) =
        s.byteAt (0x2400 + 1024 * ((s.journal.page + 1) % 32) + i) := by
      have ith := congrArg (fun l : List Byte => l[i]?) next
      simpa [State.peek, small] using ith
    have waits : v.wordAt (0x2400 + 1024 * v.journal.page) ≠ 0 := by
      have same := State.wordAt_congr (header 0 (by omega)) (header 1 (by omega))
      rw [at_]
      exact fun free => taken (same.symm.trans free)
    obtain ⟨journal, others⟩ := State.log_restart_waits stalledV waits
    have page' (a : Nat) (lo : 0x2400 + 1024 * ((s.journal.page + 1) % 32) ≤ a)
        (hi : a < 0x2400 + 1024 * ((s.journal.page + 1) % 32) + 1024) : v.byteAt a = s.byteAt a := by
      by_cases early : a < 0x2400 + 1024 * ((s.journal.page + 1) % 32) + 8
      · obtain ⟨i, rfl⟩ := Nat.exists_eq_add_of_le lo
        exact header i (by omega)
      · rw [marked a (by omega) (by omega), if_neg (by omega), if_neg (by omega), if_neg (by omega)]
    refine ⟨?_, ?_, raised, fun a high own nextHeader nextEntry => ?_, ?_, kept.causes 3 ?_, fun a lo hi => ?_⟩
    · rw [State.wordAt_eq, others _ (by omega), others _ (by omega), marked _ (by omega) (by omega),
        marked _ (by omega) (by omega)]
      simp
    · rw [others _ (by omega), marked _ (by omega) (by omega)]
      simp
    · rw [others a (by omega), marked a high nextHeader, if_neg (by omega), if_neg (by omega), if_neg (by omega)]
    · have same : v.restart = s.restart := by simp only [State.restart, clock]
      have stalls : v.journal = { s.journal with
          page := (s.journal.page + 1) % 32, stalled := true, reexamine := false, flush := .stopped } := by
        rw [record]
        simpa using taken
      rw [journal, stalls]
      simp only [State.heldRestart, same]
    · rw [cause, BitVec.getLsbD_or]
      simp
    · rw [others a (by omega), page' a lo hi]

end Sys2Proof.Machine
end

section
/-! The soft reset as a whole (R191, O18). -/

namespace Sys2Proof.Machine

/-! ## The steps before the journal's -/

/-- R191: only the run state, HALT, and the mirror change. -/
theorem State.resetRun_eq (s : State) :
    s.resetRun = { s with mem := s.resetRun.mem, bus := { s.bus with run := .halt } } := by
  unfold State.resetRun
  split
  next halted => rw [← halted]
  next => rw [State.OnlyMem.eq (State.mirrorRun_frame _)]; rfl

theorem State.byteAt_resetRun {c : Nat} (high : 39 ≤ c) (s : State) : s.resetRun.byteAt c = s.byteAt c := by
  unfold State.resetRun
  split
  · rfl
  · exact State.byteAt_mirror_outside (.inr (by omega)) (.inr (by simp; omega)) _

theorem State.byteAt_emptyRegister {c : Nat} (high : 39 ≤ c) (s : State) : s.emptyRegister.byteAt c = s.byteAt c := by
  unfold State.emptyRegister
  dsimp only
  split
  · rfl
  · exact State.byteAt_mirror_outside (.inr (by omega)) (.inr (by simp; omega)) _

theorem State.byteAt_resetBlocks {c : Nat} (high : 39 ≤ c) (s : State) : s.resetBlocks.byteAt c = s.byteAt c := by
  rw [← State.byteAt_emptyRegister high s]
  exact State.byteAt_congr (by rw [State.resetBlocks_only]) c

/-- R191: the slips are aborted, HALT is set and RESTART raised. -/
def State.beforeBlocks (s : State) : State :=
  s.abortServing.abortQueue.resetRun.raise .restart

theorem State.softReset_eq (s : State) : s.softReset = s.beforeBlocks.resetBlocks.journalReset := rfl

theorem State.beforeBlocks_eq (s : State) : s.beforeBlocks = { s with
    mem := s.beforeBlocks.mem, slips := s.beforeBlocks.slips
    bus := { s.bus with run := .halt, cause := s.abortServing.abortQueue.bus.cause ||| 64#7 } } := by
  have aborts := s.aborts_onlyAnswers
  unfold State.beforeBlocks State.raise
  generalize s.abortServing.abortQueue = u at aborts
  rw [State.resetRun_eq]
  generalize u.resetRun.mem = m
  rw [aborts]
  rfl

theorem State.beforeBlocks_byteAt {c : Nat} (high : 39 ≤ c) (s : State) :
    s.beforeBlocks.byteAt c = s.abortServing.abortQueue.byteAt c :=
  State.byteAt_resetRun high _

/-- R191: after the aborts no byte of the rack changes, no cause is cleared and ANSWER is not raised. -/
theorem State.softReset_journals (s : State) : s.abortServing.abortQueue.Journals s.softReset := by
  have cause : s.beforeBlocks.resetBlocks.bus.cause = s.abortServing.abortQueue.bus.cause ||| 64#7 := by
    rw [State.resetBlocks_only, State.beforeBlocks_eq]
  have before : s.abortServing.abortQueue.Journals s.beforeBlocks.resetBlocks := by
    refine ⟨fun c lo _ => ?_, fun i held => ?_, ?_⟩
    · rw [State.byteAt_resetBlocks lo, State.beforeBlocks_byteAt lo]
    · rw [cause, BitVec.getLsbD_or, held, Bool.true_or]
    · rw [cause, BitVec.getLsbD_or]
      simp
  exact before.trans (State.Journals.journalReset _)

/-! ## The causes and the slips -/

theorem State.softReset_raises (s : State) :
    s.softReset.bus.cause.getLsbD 6 = true ∧ s.softReset.bus.cause.getLsbD 2 = true := by
  rw [State.softReset_eq]
  refine ⟨(State.Journals.journalReset _).causes 6 ?_, ?_⟩
  · rw [State.resetBlocks_only, State.beforeBlocks_eq]
    simp
  · unfold State.journalReset
    dsimp only
    split <;> exact State.log_raises rfl _ _ _ _

theorem State.softReset_keepsSlip (n : Nat) (small : n < 64) (s : State) :
    s.abortServing.abortQueue.KeepsSlip n s.softReset :=
  fun k inside => s.softReset_journals.rack _ (by omega) (by omega)

/-- R191: the queued slips and the slip in service are answered ABORTED. -/
theorem State.softReset_aborts {s : State} (law : s.PostQueueLaw) :
    (∀ n ∈ s.slips.queue, s.Aborts n (s.wordAt (0x400 + 128 * n + 4)) [0] s.softReset) ∧
      ∀ v, s.slips.serving = some v → s.Aborts v.slip v.tag v.workDone s.softReset := by
  obtain ⟨queued, serving, -⟩ := State.aborts_answers law
  obtain ⟨-, inRack, served⟩ := law
  exact ⟨fun n listed => .around (fun _ _ => rfl) (queued n listed) (s.softReset_keepsSlip n (inRack n listed).1),
    fun v stands => .around (fun _ _ => rfl) (serving v stands) (s.softReset_keepsSlip v.slip (served v stands).1)⟩

/-- The blocks and the pages that the journal's step of a soft reset begins from are those before the reset. -/
theorem State.beforeBlocks_samePages {s : State} (law : s.PostQueueLaw) : s.SamePages s.beforeBlocks.resetBlocks := by
  obtain ⟨-, -, kept⟩ := State.aborts_answers law
  refine ⟨?_, ?_, ?_, fun c high => ?_⟩
  · rw [State.resetBlocks_only, State.beforeBlocks_eq]
  · rw [State.resetBlocks_only, State.beforeBlocks_eq]
  · rw [State.resetBlocks_only, State.beforeBlocks_eq]
  · rw [State.byteAt_resetBlocks (by omega), State.beforeBlocks_byteAt (by omega), kept c high]

theorem State.SamePages.pageInPlace {s t : State} (h : s.SamePages t) (place : s.PageInPlace) : t.PageInPlace := by
  obtain ⟨page, count, held⟩ := place
  refine ⟨h.journal ▸ page, fun open_ => ?_, h.journal ▸ held⟩
  rw [h.journal, h.count]
  exact count (h.journal ▸ open_)

/-- R191: the bulk area is kept. -/
theorem State.softReset_bulk {s : State} (law : s.PostQueueLaw) (place : s.PageInPlace) {a : Nat} (high : 0xA400 ≤ a) :
    s.softReset.byteAt a = s.byteAt a := by
  have same := State.beforeBlocks_samePages law
  obtain ⟨-, keeps⟩ := ((State.Orderly.refl s.beforeBlocks.resetBlocks).journalReset).page (same.pageInPlace place)
  rw [State.softReset_eq, keeps a (by omega), same.pages a (by omega)]

/-! ## The blocks -/

/-- R191: the blocks of a soft reset are those of `resetBlocks` at the state before it, whose memory, slip unit and bus port
alone the earlier steps change. -/
theorem State.softReset_blocks (s : State) : ∃ m q b, ∃ t : State, t = State.resetBlocks { s with mem := m, slips := q, bus := b } ∧
    s.softReset.tenants = t.tenants ∧ s.softReset.units = t.units ∧ s.softReset.register = t.register ∧
    s.softReset.portals = t.portals ∧ s.softReset.cars = t.cars ∧ s.softReset.lines = t.lines ∧
    s.softReset.nodes = t.nodes ∧ s.softReset.reads = t.reads := by
  refine ⟨_, _, _, s.beforeBlocks.resetBlocks, congrArg State.resetBlocks s.beforeBlocks_eq, ?_⟩
  rw [State.softReset_eq, State.OnlyJournal.eq (State.journalReset_frame s.beforeBlocks.resetBlocks)]
  exact ⟨rfl, rfl, rfl, rfl, rfl, rfl, rfl, rfl⟩

/-! ## The journal -/

theorem State.SamePages.restart {s t : State} (h : s.SamePages t) : t.restart = s.restart := by
  simp only [State.restart, h.clock]

/-- R197, R201: what a soft reset does to a journal that waits for a page. -/
theorem State.softReset_journalWaits {s : State} (law : s.PostQueueLaw) (stalled : s.journal.stalled = true)
    (waits : s.wordAt (0x2400 + 1024 * s.journal.page) ≠ 0) :
    s.softReset.journal = s.heldRestart s.journal ∧ ∀ a, 0x2400 ≤ a → s.softReset.byteAt a = s.byteAt a := by
  have same := State.beforeBlocks_samePages law
  rw [State.softReset_eq]
  generalize s.beforeBlocks.resetBlocks = d at same
  rw [State.journalReset_stays (by rw [same.journal, stalled]; simp)]
  obtain ⟨journal, kept⟩ := State.log_restart_waits (s := d) (by rw [same.journal]; exact stalled)
    (by rw [same.journal, same.word (by omega)]; exact waits)
  refine ⟨?_, fun a high => (kept a (by omega)).trans (same.pages a high)⟩
  rw [journal, same.journal]
  simp only [State.heldRestart, same.restart]

/-- R198, R201: what a soft reset does to a stalled journal whose page is returned. -/
theorem State.softReset_journalReturned {s : State} (law : s.PostQueueLaw) (stalled : s.journal.stalled = true)
    (empty : s.wordAt (0x2400 + 1024 * s.journal.page) = 0) (held : s.journal.holdover.length ≤ 8)
    (page : s.journal.page < 32) :
    ∃ u, exec .journalRecovery { s with journal := { s.journal with reexamine := true } } = .next u ∧
      u.journal.stalled = false ∧ s.softReset.journal = (u.log .restart none none []).journal ∧
      ∀ a, 0x2400 ≤ a → s.softReset.byteAt a = (u.log .restart none none []).byteAt a := by
  have same := State.beforeBlocks_samePages law
  obtain ⟨writes, -, -⟩ := State.recover_writes page held
  refine ⟨s.recover, ?_, writes.open_, ?_⟩
  · rw [← State.recover_congr true rfl]
    exact exec_journalRecovery_returned stalled rfl empty
  · rw [State.softReset_eq]
    generalize s.beforeBlocks.resetBlocks = d at same
    rw [State.journalReset_stays (by rw [same.journal, stalled]; simp)]
    have returned : d.log .restart none none [] = d.recover.writeEntry (d.entry .restart none none []) :=
      State.submit_returned _ (by rw [same.journal]; exact stalled) (by rw [same.journal, same.word (by omega)]; exact empty)
    have written : s.recover.log .restart none none [] = s.recover.writeEntry (d.entry .restart none none []) := by
      have clock : s.recover.clock = s.clock := by simp
      refine (State.submit_open _ writes.open_).trans ?_
      simp only [State.entry, clock, same.clock]
    have pages := same.recover.writeEntry (d.entry .restart none none [])
    rw [returned, written]
    exact ⟨pages.journal, pages.pages⟩

/-- R201: what a soft reset does to a page with no entries. -/
theorem State.softReset_journalEmpty {s : State} (law : s.PostQueueLaw) (open_ : s.journal.stalled = false)
    (empty : s.entryCount s.journal.page = 0) :
    let base := 0x2400 + 1024 * s.journal.page
    let t := s.softReset
    t.journal = { s.journal with sequence := s.journal.sequence + 1, flush := Timer.set s.settings.flush } ∧
      (t.entryCount s.journal.page = 1 ∧ t.peek (base + 2) 4 = bytesOf 4 s.journal.sequence.toNat ∧
        t.peek (base + 16) 16 = s.restart.bytes) ∧
      ∀ a, 0x2400 ≤ a → (a < base + 2 ∨ base + 7 ≤ a) → (a < base + 16 ∨ base + 32 ≤ a) → t.byteAt a = s.byteAt a := by
  have same := State.beforeBlocks_samePages law
  rw [State.softReset_eq]
  generalize s.beforeBlocks.resetBlocks = d at same
  have first := State.journalReset_empty (s := d) (by rw [same.journal]; exact open_)
    (by rw [same.journal, same.count]; exact empty)
  simp only [same.journal, same.settings, same.restart] at first
  obtain ⟨journal, begun, others⟩ := first
  exact ⟨journal, begun, fun a high header place => (others a header place).trans (same.pages a high)⟩

/-- R196, R201: what a soft reset does to a page that holds entries. -/
theorem State.softReset_journalCloses {s : State} (law : s.PostQueueLaw) (open_ : s.journal.stalled = false)
    (holds : s.entryCount s.journal.page ≠ 0) (page : s.journal.page < 32) :
    let p := s.journal.page
    let base (p : Nat) := 0x2400 + 1024 * p
    let q := (p + 1) % 32
    let t := s.softReset
    t.wordAt (base p) = 2 ∧ t.byteAt (base p + 7) = 2 ∧ t.bus.cause.getLsbD 1 = true ∧
      (∀ a, 0x2400 ≤ a → (a < base p ∨ base p + 8 ≤ a ∨ base p + 2 ≤ a ∧ a < base p + 7) →
        (a < base q ∨ base q + 8 ≤ a) → (a < base q + 16 ∨ base q + 32 ≤ a) → t.byteAt a = s.byteAt a) ∧
      if s.wordAt (base q) = 0 then
        t.journal = { s.journal with
          page := q, sequence := s.journal.sequence + 1, flush := Timer.set s.settings.flush, reexamine := false } ∧
          t.wordAt (base q) = 1 ∧ t.entryCount q = 1 ∧ t.peek (base q + 2) 4 = bytesOf 4 s.journal.sequence.toNat ∧
          t.peek (base q + 16) 16 = s.restart.bytes
      else
        t.journal = s.heldRestart { s.journal with page := q, stalled := true, reexamine := false, flush := .stopped } ∧
          t.bus.cause.getLsbD 3 = true ∧ ∀ a, base q ≤ a → a < base q + 1024 → t.byteAt a = s.byteAt a := by
  have same := State.beforeBlocks_samePages law
  rw [State.softReset_eq]
  generalize s.beforeBlocks.resetBlocks = d at same
  have closes := State.journalReset_closes (s := d) (by rw [same.journal]; exact open_)
    (by rw [same.journal, same.count]; exact holds) (by rw [same.journal]; exact page)
  have next := same.word (a := 0x2400 + 1024 * ((s.journal.page + 1) % 32)) (by omega)
  simp only [same.journal, same.settings, same.restart, State.heldRestart, next] at closes
  obtain ⟨full, reason, raised, others, next⟩ := closes
  refine ⟨full, reason, raised, fun a high own header entry => (others a high own header entry).trans (same.pages a high), ?_⟩
  by_cases taken : s.wordAt (0x2400 + 1024 * ((s.journal.page + 1) % 32)) = 0
  · rw [if_pos taken] at next ⊢
    exact next
  · rw [if_neg taken] at next ⊢
    obtain ⟨journal, stall, kept⟩ := next
    exact ⟨journal, stall, fun a lo hi => (kept a lo hi).trans (same.pages a (Nat.le_trans (Nat.le_add_right 0x2400 _) lo))⟩

/-! ## O18 -/

/-- Settles O18: the aborts, the blocks and the journal's step of a soft reset are taken one by one. -/
theorem resetReturnsTheBlocks : Obligations.ResetReturnsTheBlocks := by
  unfold Obligations.ResetReturnsTheBlocks
  intro s
  obtain ⟨-, -, settings, mask, refusal, profiles, holidays, ⟨clock, mode⟩, creds⟩ := s.softReset_frame
  obtain ⟨causes, raised, quiet⟩ := s.aborts_causes
  have journals := s.softReset_journals
  obtain ⟨restart, alarm⟩ := s.softReset_raises
  obtain ⟨m, q, b, d, reset, tenants, units, register, portals, cars, lines, nodes, reads⟩ := s.softReset_blocks
  obtain ⟨tenants', units', lines', reads', register'⟩ := State.resetBlocks_tables { s with mem := m, slips := q, bus := b }
  rw [← reset] at tenants' units' lines' reads' register'
  have portal (p : Nat) : s.softReset.portal p = d.portal p := by rw [State.portal, portals]; rfl
  have car (i : Nat) : s.softReset.car i = d.car i := by rw [State.car, cars]; rfl
  have node (n : NodeId) : s.softReset.node n = d.node n := by rw [State.node, nodes]; rfl
  have configured (p : Nat) (small : p < 48) (old : PortalConfig) (config : (s.portal p).config = some old) :
      d.portal p = s.resetTo ((s.portal p).deferred.getD old) (s.portal p) := by
    rw [reset]
    refine (State.resetBlocks_portal (s := { s with mem := m, slips := q, bus := b }) small config).trans ?_
    exact State.resetTo_congr (s := s) (t := { s with mem := m, slips := q, bus := b }) ⟨rfl, rfl, rfl, rfl⟩ _ _
  have recalled (i : Nat) (small : i < 4) (old : CarConfig) (config : (s.car i).config = some old) :
      d.car i = s.carReset ((s.car i).deferred.getD old) := by
    rw [reset]
    exact State.resetBlocks_car (s := { s with mem := m, slips := q, bus := b }) small config
  refine ⟨s.softReset, rfl, ?_, mask, refusal, restart, settings, clock, creds, profiles, holidays, mode, s.softReset_slips,
    reads.trans reads', by rw [register, register'], by rw [register, register'], fun law => ?_, fun n small free idle => ?_,
    fun busy => journals.causes 0 (raised busy), fun empty idle => journals.answer.trans (quiet empty idle),
    fun i held => journals.causes i (causes i held), fun i => ?_, fun u => ?_, fun sorted z => ?_,
    fun p small old config => (portal p).trans (configured p small old config),
    fun i small old config => (car i).trans (recalled i small old config), fun l => ?_, fun n absent => ?_,
    fun n r stands => ?_, alarm, fun law => ?_⟩
  · rw [State.softReset_eq, State.OnlyJournal.eq (State.journalReset_frame s.beforeBlocks.resetBlocks), State.resetBlocks_only,
      State.beforeBlocks_eq]
  · obtain ⟨queued, serving⟩ := State.softReset_aborts law
    exact ⟨queued, serving, fun place a high => State.softReset_bulk law place high⟩
  · exact (State.aborts_keepsSlip free idle).trans (s.softReset_keepsSlip n small)
  · rw [State.tenant, tenants, tenants']
    exact Table.find_mapValues Tenant.leaveSite i s.tenants
  · rw [State.unit, units, units']
    exact Table.find_mapValues UnitRecord.softReset u s.units
  · rw [State.zone, register, register']
    exact read_emptiedZones sorted z
  · rw [State.line, lines, lines']
    exact Table.read_mapValues Line.softReset Line.blank rfl l s.lines
  · rw [node, reset]
    have core := State.resetBlocks_core { s with mem := m, slips := q, bus := b } n
    rw [State.emptiedBlocks_node, show State.node n { s with mem := m, slips := q, bus := b } = none from absent] at core
    exact Option.map_eq_none_iff.1 core
  · have record := State.resetBlocks_node (s := { s with mem := m, slips := q, bus := b }) stands
    rw [← reset] at record
    simp only [node, portal, car]
    exact record
  · exact ⟨State.softReset_journalEmpty law, State.softReset_journalCloses law, State.softReset_journalWaits law,
      State.softReset_journalReturned law⟩

end Sys2Proof.Machine
end
